-- ==== Sys2Proof/Word.lean ====
section
/-! DEFINITION. The word types of the part and their plainest arithmetic: bytes, Time Base readings, tables of a
fixed number of like things, and a value held once per link. -/

namespace Sys2Proof

/-- One byte of a frame (R201). -/
abbrev Byte := BitVec 8

/-- A reading of the Time Base: microseconds in 32 bits, wrapping (00_scope, Conventions, Time). -/
abbrev Time := BitVec 32

/-- The entry of a fixed table at a number that is in range by its type. -/
def vget {α : Type} {n : Nat} (v : Vector α n) (i : Fin n) : α := v[i.val]'i.isLt

/-- A fixed table with one entry replaced. -/
def vput {α : Type} {n : Nat} (v : Vector α n) (i : Fin n) (x : α) : Vector α n := v.set i.val x i.isLt

@[simp] theorem vget_vput_self {α : Type} {n : Nat} (v : Vector α n) (i : Fin n) (x : α) :
    vget (vput v i x) i = x := by simp [vget, vput]

theorem vget_vput_ne {α : Type} {n : Nat} (v : Vector α n) {i j : Fin n} (x : α) (h : j ≠ i) :
    vget (vput v i x) j = vget v j := by
  have h' : i.val ≠ j.val := fun e => h (Fin.ext e.symm)
  simp [vget, vput, h']

/-- A fixed table with every entry replaced by a function of its number and of what it held. -/
def vmap {α β : Type} {n : Nat} (f : Fin n → α → β) (v : Vector α n) : Vector β n :=
  ⟨⟨(List.finRange n).map fun i => f i (vget v i)⟩, by simp⟩

@[simp] theorem vget_vmap {α β : Type} {n : Nat} (f : Fin n → α → β) (v : Vector α n) (i : Fin n) :
    vget (vmap f v) i = f i (vget v i) := by simp [vget, vmap]

@[simp] theorem vget_replicate {α : Type} {n : Nat} (x : α) (i : Fin n) : vget (Vector.replicate n x) i = x := by
  simp [vget]

/-- A counter that stops at its ceiling (R225: 65,535; R197, R220: 255). -/
def satInc (ceiling n : Nat) : Nat := min (n + 1) ceiling

/-- Division rounded up. -/
def ceilDiv (n d : Nat) : Nat := (n + d - 1) / d

end Sys2Proof
end

