-- ==== Sys2Proof/Syntax.lean ====
section
/-! DEFINITION. The names of things and the commands of the part: one constructor of `Instr` for each row of
spec/opcode_table.json. -/

namespace Sys2Proof

/-- Blocks are numbered 0..31 (00_scope, Numbering of things). -/
abbrev BlockId := Fin 32
/-- Boats are named by their roster slot 0..23. -/
abbrev BoatId := Fin 24
/-- Input points 0..95. -/
abbrev PointId := Fin 96
/-- Drive channels 0..31. -/
abbrev ChannelId := Fin 32
/-- Tag-reader ports 0..3. -/
abbrev PortId := Fin 4
/-- Weigh channels 0..7. -/
abbrev CellId := Fin 8
/-- Merge slots 0 and 1 (R1). -/
abbrev MergeId := Fin 2

/-- The three serial links (10, opening): A and B are ride-control links, S the station link. -/
inductive Link where
  | a | b | s
  deriving DecidableEq, Repr

/-- The two contacts of the stop line (R191). -/
inductive StopContact where
  | first | second
  deriving DecidableEq, Repr

/-- The requests of the catalogue (section 10.7). -/
inductive Req where
  | writeBlock | writeMerge | writeSettings | writeWindow | writePoint | readLayout
  | enterStandby | enterRun | enterManual | enterConfigure | resume | restart | hold | halt
  | verifyClear | placeBoat | removeBoat | restoreBlock | setService
  | enroll | retire | setRoute | setExpedite | clearCheck
  | unloaded | loaded | dispatch | cancel | consentDispatch | denyDispatch | step
  | clearFault | clearZoneCondition
  | readStatus | readBlock | readBoat | readQueue | readReports | readCounters | clearCounters
  | setAttention
  deriving DecidableEq, Repr

/-- A command to the part. A request carries the link it is on, its tag and its argument bytes (R202, R218); the
other rows carry what the event names. -/
inductive Instr where
  | powerOnReset (ratePins : BitVec 2) (contact1Open contact2Open : Bool) (rawOn : List PointId)
  | writeBlock (link : Link) (tag : Byte) (args : List Byte)
  | writeMerge (link : Link) (tag : Byte) (args : List Byte)
  | writeSettings (link : Link) (tag : Byte) (args : List Byte)
  | writeWindow (link : Link) (tag : Byte) (args : List Byte)
  | writePoint (link : Link) (tag : Byte) (args : List Byte)
  | readLayout (link : Link) (tag : Byte) (args : List Byte)
  | enterStandby (link : Link) (tag : Byte) (args : List Byte)
  | enterRun (link : Link) (tag : Byte) (args : List Byte)
  | enterManual (link : Link) (tag : Byte) (args : List Byte)
  | enterConfigure (link : Link) (tag : Byte) (args : List Byte)
  | resume (link : Link) (tag : Byte) (args : List Byte)
  | restart (link : Link) (tag : Byte) (args : List Byte)
  | hold (link : Link) (tag : Byte) (args : List Byte)
  | halt (link : Link) (tag : Byte) (args : List Byte)
  | verifyClear (link : Link) (tag : Byte) (args : List Byte)
  | placeBoat (link : Link) (tag : Byte) (args : List Byte)
  | removeBoat (link : Link) (tag : Byte) (args : List Byte)
  | restoreBlock (link : Link) (tag : Byte) (args : List Byte)
  | setService (link : Link) (tag : Byte) (args : List Byte)
  | enroll (link : Link) (tag : Byte) (args : List Byte)
  | retire (link : Link) (tag : Byte) (args : List Byte)
  | setRoute (link : Link) (tag : Byte) (args : List Byte)
  | setExpedite (link : Link) (tag : Byte) (args : List Byte)
  | clearCheck (link : Link) (tag : Byte) (args : List Byte)
  | unloaded (link : Link) (tag : Byte) (args : List Byte)
  | loaded (link : Link) (tag : Byte) (args : List Byte)
  | dispatch (link : Link) (tag : Byte) (args : List Byte)
  | cancel (link : Link) (tag : Byte) (args : List Byte)
  | consentDispatch (link : Link) (tag : Byte) (args : List Byte)
  | denyDispatch (link : Link) (tag : Byte) (args : List Byte)
  | stepBoat (link : Link) (tag : Byte) (args : List Byte)
  | clearFault (link : Link) (tag : Byte) (args : List Byte)
  | clearZoneCondition (link : Link) (tag : Byte) (args : List Byte)
  | readStatus (link : Link) (tag : Byte) (args : List Byte)
  | readBlock (link : Link) (tag : Byte) (args : List Byte)
  | readBoat (link : Link) (tag : Byte) (args : List Byte)
  | readQueue (link : Link) (tag : Byte) (args : List Byte)
  | readReports (link : Link) (tag : Byte) (args : List Byte)
  | readCounters (link : Link) (tag : Byte) (args : List Byte)
  | clearCounters (link : Link) (tag : Byte) (args : List Byte)
  | setAttention (link : Link) (tag : Byte) (args : List Byte)
  | unknownRequest (link : Link) (code : Byte) (tag : Byte) (args : List Byte)
  | characterReceived (link : Link) (byte : Byte) (marker : Bool)
  | responseSent (link : Link)
  | lineBreak (link : Link)
  | supervisionDeadline (link : Link)
  | rawChange (point : PointId) (on : Bool)
  | inputAcceptance (point : PointId)
  | stopLineOpens (contact : StopContact)
  | stopLineCloses (contact : StopContact)
  | tagRead (port : PortId) (code : Nat)
  | weighSample (front rear : CellId) (frontKg rearKg : Nat)
  | weighWindowDeadline (bay : BlockId)
  | holdableTransitDeadline (block : BlockId)
  | lostBoat (block : BlockId)
  | stuckAtBoundary (block : BlockId)
  | consentDeadline (seq : Byte)
  | slotDeadline
  | headwayDeadline (block : BlockId)
  | switchTravel (block : BlockId)
  | trapDeadline (block : BlockId)
  | stopDelayDeadline (block : BlockId)
  | pulseDeadline (channel : ChannelId)
  | checkDeadline (channel : ChannelId)
  | positionDeadline (channel : ChannelId)
  | holdOffDeadline (link : Link)
  | lineReturnsToMark (link : Link)
  deriving DecidableEq, Repr

end Sys2Proof
end

