-- ==== Sys2Proof/Decode.lean ====
section
/-! DEFINITION. The request codes of the catalogue (section 10.7), and the host's decoder: no row of the opcode table
gives bits, so no word spells a command. -/

namespace Sys2Proof

/-- The request code of a request (section 10.7). -/
def Req.code : Req → Nat
  | .writeBlock => 1 | .writeMerge => 2 | .writeSettings => 3 | .writeWindow => 4 | .writePoint => 5
  | .readLayout => 6
  | .enterStandby => 16 | .enterRun => 17 | .enterManual => 18 | .enterConfigure => 19 | .resume => 20
  | .restart => 21 | .hold => 22 | .halt => 23
  | .verifyClear => 32 | .placeBoat => 33 | .removeBoat => 34 | .restoreBlock => 35 | .setService => 36
  | .enroll => 40 | .retire => 41 | .setRoute => 42 | .setExpedite => 43 | .clearCheck => 44
  | .unloaded => 48 | .loaded => 49 | .dispatch => 50 | .cancel => 51
  | .consentDispatch => 56 | .denyDispatch => 57 | .step => 60
  | .clearFault => 64 | .clearZoneCondition => 65
  | .readStatus => 72 | .readBlock => 73 | .readBoat => 74 | .readQueue => 75 | .readReports => 76
  | .readCounters => 77 | .clearCounters => 78 | .setAttention => 88

/-- Every request of the catalogue, in the order of its codes. -/
def allReqs : List Req :=
  [.writeBlock, .writeMerge, .writeSettings, .writeWindow, .writePoint, .readLayout,
   .enterStandby, .enterRun, .enterManual, .enterConfigure, .resume, .restart, .hold, .halt,
   .verifyClear, .placeBoat, .removeBoat, .restoreBlock, .setService,
   .enroll, .retire, .setRoute, .setExpedite, .clearCheck,
   .unloaded, .loaded, .dispatch, .cancel, .consentDispatch, .denyDispatch, .step,
   .clearFault, .clearZoneCondition,
   .readStatus, .readBlock, .readBoat, .readQueue, .readReports, .readCounters, .clearCounters,
   .setAttention]

/-- The request a code names, if the catalogue has it (R212, check 1). -/
def Req.ofCode (code : Nat) : Option Req := allReqs.find? fun r => r.code == code

/-- The command that a word spells by the table's bits: no row of the table gives bits (log entry 8). -/
def decodeTableWord (_nbits _w : Nat) : Option Instr := none

end Sys2Proof
end

