-- ==== Sys2Proof/Config.lean ====
section
/-! DEFINITION. The capacities and defaults the part number fixes. The spec leaves no result value undefined, so no
free value stands here. -/

namespace Sys2Proof.Config

/-- Capacity of the report ring (R219). -/
def ringCapacity : Nat := 64
/-- Capacity of a link's receive FIFO (R203). -/
def fifoCapacity : Nat := 4
/-- Capacity of a link's request queue (R203). -/
def requestQueueCapacity : Nat := 2
/-- Places of the dispatch list (R103). -/
def dispatchCapacity : Nat := 8
/-- Most argument or data bytes of a frame (R202). -/
def maxFrameData : Nat := 48
/-- Longest path in blocks (R30). -/
def maxPath : Nat := 8
/-- Ceiling of the counters of R225. -/
def counterCeiling : Nat := 65535
/-- Ceiling of skipped counts (R220) and of further-faults (R197). -/
def byteCeiling : Nat := 255
/-- Largest detail value of a report (R219). -/
def detailCeiling : Nat := 16777215

end Sys2Proof.Config
end

