-- ==== Sys2Proof/Machine/State.lean ====
section
/-! DEFINITION. The state of the part: one group of fields for each unit of the block diagram, as plain data, and the
state right after power-on reset. -/

namespace Sys2Proof.Machine

open Sys2Proof

/-- One value for each of the three links. -/
structure PerLink (α : Type) where
  a : α
  b : α
  s : α
  deriving DecidableEq, Repr

def PerLink.get {α : Type} (p : PerLink α) : Link → α
  | .a => p.a
  | .b => p.b
  | .s => p.s

def PerLink.put {α : Type} (p : PerLink α) (l : Link) (x : α) : PerLink α :=
  match l with
  | .a => { p with a := x }
  | .b => { p with b := x }
  | .s => { p with s := x }

/-! ### Layout Store (chapter 1) -/

/-- The eight kinds of block (section 1.2). -/
inductive Kind where
  | bay | queue | launch | lift | run | trim | runout | switch
  deriving DecidableEq, Repr

/-- Which part of the station cycle a bay runs (R10). -/
inductive BayRole where
  | unload | load | both
  deriving DecidableEq, Repr

/-- How the zone condition is updated (R158). -/
inductive ZoneMode where
  | perPassage | accumulate
  deriving DecidableEq, Repr

/-- The two exits of a SWITCH block. -/
inductive Leg where
  | main | spur
  deriving DecidableEq, Repr

/-- The drive section of a record (R7); limits in ms. -/
structure DriveSection where
  channel : ChannelId
  feedback : Option PointId
  checkTime : Nat
  deriving DecidableEq, Repr

/-- The BAY fields of a record (R10). -/
structure BaySection where
  role : BayRole
  frontCell : CellId
  rearCell : CellId
  maxLoad : Nat
  deriving DecidableEq, Repr

/-- The LAUNCH fields of a record (R8): headway in s, pulse in ms. -/
structure LaunchSection where
  headway : Nat
  kickRetries : Nat
  kickPulse : Nat
  deriving DecidableEq, Repr

/-- The SWITCH fields of a record (R4, R9). -/
structure SwitchSection where
  spurSuccessor : BlockId
  spurEye : PointId
  mainPosition : PointId
  spurPosition : PointId
  travelLimit : Nat
  deriving DecidableEq, Repr

/-- The brake fields that TRIM and RUNOUT share (R10). -/
structure BrakeSection where
  eye1 : PointId
  eye2 : PointId
  trapLength : Nat
  targetSpeed : Nat
  brakeLength : Nat
  forceStep : Nat
  idleLevel : Nat
  minimumLevel : Nat
  trapTimeout : Nat
  zoneMode : ZoneMode
  deriving DecidableEq, Repr

/-- What a record holds beyond the fields of every kind: exactly the fields R5 marks for the kind. -/
inductive KindFields where
  | bay (drive : DriveSection) (bay : BaySection)
  | queue (drive : DriveSection) (park : Bool)
  | launch (drive : DriveSection) (launch : LaunchSection)
  | lift (drive : DriveSection)
  | run
  | trim (drive : DriveSection) (brake : BrakeSection)
  | runout (drive : DriveSection) (brake : BrakeSection) (stopDelay : Nat)
  | switch (drive : DriveSection) (sw : SwitchSection)
  deriving DecidableEq, Repr

/-- A block record (R5); limits in ms. -/
structure BlockRecord where
  inService : Bool
  mainSuccessor : BlockId
  mainEye : PointId
  tagPort : Option PortId
  transitLimit : Nat
  clearanceLimit : Nat
  fields : KindFields
  deriving DecidableEq, Repr

/-- The two inputs of a merge block. -/
inductive MergeInput where
  | in0 | in1
  deriving DecidableEq, Repr

/-- A merge record (R12). -/
structure MergeRecord where
  mergeBlock : BlockId
  input0 : BlockId
  input1 : BlockId
  feeder0 : List BlockId
  feeder1 : List BlockId
  tLow : Nat
  tHigh : Nat
  burst : Nat
  preferred : MergeInput
  deriving DecidableEq, Repr

/-- The ride settings record (R13): times in ms, masses in kg. -/
structure Settings where
  consentWindow : Nat
  linkTimeout : Nat
  unweighedAllowance : Nat
  tareTolerance : Nat
  spreadTolerance : Nat
  settleTime : Nat
  minimumGuestLoad : Nat
  deriving DecidableEq, Repr

/-- The defaults of R13. -/
def Settings.default : Settings :=
  { consentWindow := 5000, linkTimeout := 250, unweighedAllowance := 600, tareTolerance := 25,
    spreadTolerance := 8, settleTime := 1500, minimumGuestLoad := 20 }

/-- The Layout Store (R1). -/
structure LayoutStore where
  blocks : Vector (Option BlockRecord) 32
  merges : Vector (Option MergeRecord) 2
  settings : Settings
  generation : Nat
  deriving DecidableEq, Repr

/-! ### Block Interlock (chapter 2) -/

/-- The states of a block table entry (R25). -/
inductive BlockState where
  | unverified | clear | reserved | occupied | releasing | faulted | outOfService
  deriving DecidableEq, Repr

/-- A release record (R26). -/
structure Release where
  path : List BlockId
  retries : Nat
  frozen : Bool
  deriving DecidableEq, Repr

/-- A block table entry with its attributes (R25, R26). -/
structure Entry where
  state : BlockState
  occupant : Option BoatId
  holder : Option BoatId
  nose : Bool
  transit : Option Time
  clearance : Option Time
  release : Option Release
  deriving DecidableEq, Repr

/-- An entry in a state with every attribute discarded (R28). -/
def Entry.bare (st : BlockState) : Entry :=
  { state := st, occupant := none, holder := none, nose := false, transit := none, clearance := none,
    release := none }

/-! ### Boat Roster (chapter 3) -/

/-- Where a boat is sent at the transfer switch. -/
inductive Route where
  | station | storage
  deriving DecidableEq, Repr

/-- The fields a slot has while a boat is enrolled in it (R59). -/
structure Boat where
  tagCode : Nat
  tare : Nat
  load : Option Nat
  guests : Bool
  route : Route
  check : Bool
  expedite : Bool
  laps : BitVec 16
  lastSpeed : Option Nat
  deriving DecidableEq, Repr

/-- A roster slot (R59). -/
inductive Slot where
  | unused
  | absent (boat : Boat)
  | onTrack (boat : Boat) (position : BlockId) (path : List BlockId)
  deriving DecidableEq, Repr

/-- A tag window (R71); its boundary is the main exit of `block`. -/
structure TagWindow where
  boat : BoatId
  block : BlockId
  expected : Nat
  resolved : Bool
  deriving DecidableEq, Repr

/-! ### Station Sequencer and Weigh Unit (chapter 4) -/

/-- The phases of a bay (R80). -/
inductive Phase where
  | vacant | berthed | unloading | tareWeigh | loading | loadWeigh | ready | dispatchQueued | cleared | released
  deriving DecidableEq, Repr

/-- The kinds of a weigh (R95). -/
inductive WeighKind where
  | tare | load
  deriving DecidableEq, Repr

/-- The outcomes a weigh status records (R101). -/
inductive WeighOutcome where
  | ok | deviation | overweight | unbalanced | weighFailed
  deriving DecidableEq, Repr

/-- The quantities of a weigh with a result: mean total, front share, computed load or deviation (R101). -/
structure WeighResult where
  mean : Nat
  share : Nat
  loadOrDeviation : Nat
  deriving DecidableEq, Repr

/-- A bay's weigh status (R101). -/
structure WeighStatus where
  kind : WeighKind
  outcome : WeighOutcome
  result : Option WeighResult
  attempts : Nat
  deriving DecidableEq, Repr

/-- A weigh in progress (R95, R96). -/
structure Weigh where
  kind : WeighKind
  boat : BoatId
  attempt : Nat
  deadline : Time
  spreadTolerance : Nat
  tareTolerance : Nat
  minimumGuestLoad : Nat
  settleTime : Nat
  count : Nat
  sumTotals : Nat
  sumFronts : Nat
  least : Option Nat
  greatest : Option Nat
  deriving DecidableEq, Repr

/-- A bay of the Station Sequencer (R80) with its weigh in progress. -/
structure Bay where
  phase : Phase
  entryEye : Option PointId
  returnPhase : Option Phase
  status : Option WeighStatus
  weigh : Option Weigh
  weighs : Nat
  failures : Nat
  deriving DecidableEq, Repr

/-- A bay as it is set up, with its counters (R80). -/
def Bay.vacant (weighs failures : Nat) : Bay :=
  { phase := .vacant, entryEye := none, returnPhase := none, status := none, weigh := none,
    weighs := weighs, failures := failures }

/-! ### Dispatch Queue (chapter 5) -/

/-- The consent timer of an entry: a deadline while it runs, a remaining time in µs while it is suspended, neither
while it is stopped (R104). -/
inductive ConsentTimer where
  | running (deadline : Time)
  | suspended (remaining : Nat)
  | stopped
  deriving DecidableEq, Repr

/-- A dispatch entry (R104). -/
structure DispatchEntry where
  seq : Byte
  bay : BlockId
  boat : BoatId
  afterPrevious : Bool
  consentA : Bool
  consentB : Bool
  timerStart : Time
  timer : ConsentTimer
  deriving DecidableEq, Repr

/-! ### Advance Scheduler and Merge Arbiter (chapter 6) -/

/-- A launch record (R123): the headway state is RUNNING while it has a deadline, else ELAPSED. -/
structure LaunchRecord where
  lastLaunch : Option Time
  headway : Option Time
  deriving DecidableEq, Repr

/-- What the two position points of a switch say (R130). -/
inductive Reading where
  | main | spur | none
  deriving DecidableEq, Repr

/-- A switch record (R130, R172). -/
structure SwitchRecord where
  reading : Reading
  move : Option (Leg × Time)
  held : Option Leg
  deriving DecidableEq, Repr

/-- An arbiter record (R134). -/
structure Arbiter where
  holder : Option MergeInput
  burstRemaining : Nat
  backlog0 : Nat
  backlog1 : Nat
  high0 : Bool
  high1 : Bool
  deriving DecidableEq, Repr

/-- An arbiter record as it is set up (R134). -/
def Arbiter.initial : Arbiter :=
  { holder := none, burstRemaining := 0, backlog0 := 0, backlog1 := 0, high0 := false, high1 := false }

/-! ### Trap and Brake Unit (chapter 7) -/

/-- The phases of a passage (R144). -/
inductive PassagePhase where
  | armed | timing | done
  deriving DecidableEq, Repr

/-- A passage (R144). -/
structure Passage where
  boat : BoatId
  phase : PassagePhase
  eye1 : Option Time
  deadline : Option Time
  deriving DecidableEq, Repr

/-- The zone condition: a set of three flags (R158). -/
structure Zone where
  trapFault : Bool
  clamped : Bool
  margin : Bool
  deriving DecidableEq, Repr

/-- The empty zone condition. -/
def Zone.empty : Zone := { trapFault := false, clamped := false, margin := false }

/-- A brake record (R142). -/
structure Brake where
  passage : Option Passage
  demand : Nat
  hold : Bool
  stopDelay : Option Time
  lastSpeed : Option Nat
  lastDecel : Option Nat
  lastLevel : Option Nat
  zone : Zone
  deriving DecidableEq, Repr

/-! ### Input Conditioner and Drive Supervisor (chapter 8) -/

/-- An input point (R161) with the raw level of its pin. -/
structure Point where
  raw : Bool
  invert : Bool
  filter : Nat
  level : Bool
  pending : Option Time
  glitches : Nat
  deriving DecidableEq, Repr

/-- The commands of the actuators (R166). -/
inductive DriveCmd where
  | opened | closed | run | stop | fire | idle | level (n : Nat) | hold | driveMain | driveSpur | deEnergised
  deriving DecidableEq, Repr

/-- A drive channel (R167, R175). -/
structure Channel where
  owner : Option BlockId
  command : DriveCmd
  pulse : Option Time
  expectation : Option Bool
  check : Option Time
  position : Option Time
  deriving DecidableEq, Repr

/-- A channel with no owner (R167). -/
def Channel.unowned : Channel :=
  { owner := none, command := .deEnergised, pulse := none, expectation := none, check := none, position := none }

/-! ### Mode Controller (chapter 9) -/

/-- The ride modes. -/
inductive Mode where
  | configure | standby | run | manual | holding | held | halted
  deriving DecidableEq, Repr

/-- The run mode: what RESUME returns to from HELD (R178). -/
inductive RunMode where
  | run | manual
  deriving DecidableEq, Repr

/-- The six mode requests (section 9.2). -/
inductive ModeReq where
  | enterStandby | enterRun | enterManual | enterConfigure | resume | restart
  deriving DecidableEq, Repr

/-- The links that may open the pending slot. -/
inductive ControlLink where
  | a | b
  deriving DecidableEq, Repr

/-- The pending slot when it is not empty (R182). -/
structure PendingSlot where
  request : ModeReq
  generation : Option Nat
  link : ControlLink
  deadline : Time
  deriving DecidableEq, Repr

/-- The fault kinds of the part (section 9.8), in the order of their codes (R222). -/
inductive FaultKind where
  | unexpectedArrival | unreleasedDeparture | boundaryOverlap | lostBoat | stuckAtBoundary | actuatorMismatch
  | switchTravel | stopLine | stalled | strayClearance | trapFault | brakeMargin | tagMismatch | linkLost
  | speedClamp | tagMissing | weighFailed | tareDeviation
  deriving DecidableEq, Repr

/-- The fault classes (R196). -/
inductive FaultClass where
  | halt | hold | note
  deriving DecidableEq, Repr

/-- The fault record when it is not empty (R197). -/
structure FaultRecord where
  kind : FaultKind
  cls : FaultClass
  block : Option BlockId
  boat : Option BoatId
  time : Time
  deriving DecidableEq, Repr

/-- The state of the Mode Controller (R178), with the two contacts of the stop line (R191). -/
structure ModeController where
  mode : Mode
  runMode : RunMode
  slot : Option PendingSlot
  fault : Option FaultRecord
  further : Nat
  contact1Open : Bool
  contact2Open : Bool
  stopActive : Bool
  permit : Bool
  deriving DecidableEq, Repr

/-! ### Link Ports and Request Checker (chapter 10) -/

/-- The status codes of R211. -/
inductive Status where
  | ok | pending | unknownRequest | badArgument | notPermitted | mode | window | state | busy | queueFull
  | duplicate | stale | mismatch
  deriving DecidableEq, Repr

/-- A response frame before its length and check bytes are added (R202). -/
structure Response where
  code : Byte
  tag : Byte
  status : Status
  data : List Byte
  deriving DecidableEq, Repr

/-- A complete good request frame (R203). -/
structure Frame where
  code : Byte
  tag : Byte
  args : List Byte
  deriving DecidableEq, Repr

/-- A received character with its loss mark (R203, R205). -/
structure Character where
  byte : Byte
  marker : Bool
  lost : Bool
  deriving DecidableEq, Repr

/-- A frame under assembly (R203): the bytes taken so far, first first, and the overrun mark. -/
structure Assembly where
  bytes : List Byte
  overrun : Bool
  deriving DecidableEq, Repr

/-- The supervision of an UP link: its deadline and the link timeout it was set with (R209, R210). -/
structure Supervision where
  deadline : Time
  timeout : Nat
  deriving DecidableEq, Repr

/-- A Link Port (R203 to R209); the link is UP exactly while it has a supervision deadline. -/
structure LinkPort where
  sending : Option Response
  queue : List Frame
  fifo : List Character
  assembly : Option Assembly
  shift : List Bool
  ignoring : Bool
  supervision : Option Supervision
  goodFrames : Nat
  checkErrors : Nat
  overruns : Nat
  truncated : Nat
  breaks : Nat
  deriving DecidableEq, Repr

/-- A Link Port at power-on reset (R203, R207 to R209). That the shift register is then empty and the line not ignored is
the model's choice, since no rule gives either (log entry 39). -/
def LinkPort.initial : LinkPort :=
  { sending := none, queue := [], fifo := [], assembly := none, shift := [], ignoring := false,
    supervision := none, goodFrames := 0, checkErrors := 0, overruns := 0, truncated := 0, breaks := 0 }

/-- A command window (R214). -/
structure Window where
  base : BlockId
  size : Nat
  deriving DecidableEq, Repr

/-- The two command windows of a link. -/
structure Windows where
  w0 : Window
  w1 : Window
  deriving DecidableEq, Repr

/-- A window that is off (R214). -/
def Window.off : Window := { base := 0, size := 0 }

/-- A window over every block (R214). -/
def Window.all : Window := { base := 0, size := 32 }

/-! ### Report Queue (chapter 11) -/

/-- The report kinds, in the order of their codes (R222). -/
inductive ReportKind where
  | passage | brake | weigh | dispatch | mode | fault | link | bay
  deriving DecidableEq, Repr

/-- The four detail values of a report (R219). -/
structure Details where
  d1 : Nat
  d2 : Nat
  d3 : Nat
  d4 : Nat
  deriving DecidableEq, Repr

/-- A report entry (R219). -/
structure Report where
  seq : BitVec 16
  kind : ReportKind
  fault : Option (FaultKind × FaultClass)
  time : Time
  block : Option BlockId
  boat : Option BoatId
  details : Details
  deriving DecidableEq, Repr

/-- What the Report Queue holds for a link (R220, R223). The cursor is the place, counted from the oldest entry held,
of the oldest entry the link has not read. -/
structure Reader where
  cursor : Nat
  skipped : Nat
  attention : Byte
  interval : Nat
  line : Bool
  holdOff : Option Time
  deriving DecidableEq, Repr

/-- A reader at power-on reset (R220, R223). -/
def Reader.initial : Reader :=
  { cursor := 0, skipped := 0, attention := 0, interval := 0, line := false, holdOff := none }

/-- The Report Queue (R219). -/
structure ReportQueue where
  ring : List Report
  nextSeq : BitVec 16
  readers : PerLink Reader
  deriving DecidableEq, Repr

/-! ### The whole state -/

structure State where
  /-- The commands that wait, first in first out (the model's own queue). -/
  pending : List Instr
  /-- The Time Base. -/
  timeBase : Time
  /-- The rate pins as sampled at power-on (R201). -/
  rate : BitVec 2
  ports : PerLink LinkPort
  windows : PerLink Windows
  layout : LayoutStore
  table : Vector Entry 32
  /-- The passages counts (R225). -/
  passages : Vector Nat 32
  roster : Vector Slot 24
  tagWindows : Vector (Option TagWindow) 4
  tagDiscards : Nat
  /-- The bays of the Station Sequencer, by block number. -/
  bays : Vector (Option Bay) 32
  dispatch : List DispatchEntry
  nextDispatch : Byte
  /-- The launch records, by block number. -/
  launches : Vector (Option LaunchRecord) 32
  /-- The arbiter records, by merge slot. -/
  arbiters : Vector (Option Arbiter) 2
  /-- The switch records, by block number. -/
  switches : Vector (Option SwitchRecord) 32
  /-- The brake records, by block number. -/
  brakes : Vector (Option Brake) 32
  trapStrays : Nat
  points : Vector Point 96
  channels : Vector Channel 32
  mc : ModeController
  reports : ReportQueue
  deriving DecidableEq, Repr

/-- The part right after power-on reset (R1, R28, R59, R80, R103, R123, R134, R142, R161, R167, R178, R203, R209,
R214, R219, R223). The levels at the pins are a DESIGN CHOICE (log entry 7). -/
def State.reset : State :=
  { pending := []
    timeBase := 0
    rate := 0
    ports := { a := .initial, b := .initial, s := .initial }
    windows := { a := { w0 := .all, w1 := .off }, b := { w0 := .all, w1 := .off },
                 s := { w0 := .off, w1 := .off } }
    layout := { blocks := Vector.replicate 32 none, merges := Vector.replicate 2 none,
                settings := .default, generation := 0 }
    table := Vector.replicate 32 (.bare .outOfService)
    passages := Vector.replicate 32 0
    roster := Vector.replicate 24 .unused
    tagWindows := Vector.replicate 4 none
    tagDiscards := 0
    bays := Vector.replicate 32 none
    dispatch := []
    nextDispatch := 0
    launches := Vector.replicate 32 none
    arbiters := Vector.replicate 2 none
    switches := Vector.replicate 32 none
    brakes := Vector.replicate 32 none
    trapStrays := 0
    points := Vector.replicate 96
      { raw := false, invert := false, filter := 5, level := false, pending := none, glitches := 0 }
    channels := Vector.replicate 32 .unowned
    mc := { mode := .configure, runMode := .run, slot := none, fault := none, further := 0,
            contact1Open := false, contact2Open := false, stopActive := false, permit := false }
    reports := { ring := [], nextSeq := 0,
                 readers := { a := .initial, b := .initial, s := .initial } } }

/-- Why a step stops with a fault of the model. The spec describes every fault of the part as an event inside the
machine (R196), so nothing raises one here. -/
inductive Fault where
  deriving DecidableEq, Repr

/-- Why a step is refused. `notModelled` is raised by an arm of `exec` whose command has no meaning yet (safe); no
arm does. -/
inductive Refusal where
  | notModelled (mnemonic : String)
  deriving DecidableEq, Repr

end Sys2Proof.Machine
end

