-- ==== Sys2Proof/Machine/Operands.lean ====
section
/-! DEFINITION. The operand forms of the requests: numbers in argument bytes (R202, R218), the block record's bytes
(R5, R15), the other layout records (R17, R215), and the widths and codes of response data (R218, R222). -/

namespace Sys2Proof.Machine

open Sys2Proof

/-! ### Time (00_scope, Conventions; R48) -/

/-- Milliseconds as a span of the Time Base. -/
def msSpan (ms : Nat) : Time := BitVec.ofNat 32 (ms * 1000)

/-- A deadline passes when the Time Base reaches it: it is at most half the counter behind (log entry 2). -/
def reached (now deadline : Time) : Bool := (now - deadline).toNat < 2147483648

/-- An optional deadline that is present and reached. -/
def due (now : Time) : Option Time → Bool
  | some d => reached now d
  | none => false

/-- The µs left to a deadline, 0 once it is reached. -/
def remainingUs (now deadline : Time) : Nat :=
  if reached now deadline then 0 else (deadline - now).toNat

/-- Microseconds in ms rounded up (R58). -/
def msUp (us : Nat) : Nat := ceilDiv us 1000

/-- The time remaining to a deadline in ms rounded up (R58, R102, R141). -/
def remainingMs (now deadline : Time) : Nat := msUp (remainingUs now deadline)

/-! ### Response data (R202, R218) -/

/-- One byte. -/
def b1 (n : Nat) : List Byte := [BitVec.ofNat 8 n]

/-- Two bytes, high byte first. -/
def b2 (n : Nat) : List Byte := [BitVec.ofNat 8 (n / 256), BitVec.ofNat 8 n]

/-- Three bytes, high byte first. -/
def b3 (n : Nat) : List Byte := [BitVec.ofNat 8 (n / 65536), BitVec.ofNat 8 (n / 256), BitVec.ofNat 8 n]

/-- Four bytes, high byte first. -/
def b4 (n : Nat) : List Byte :=
  [BitVec.ofNat 8 (n / 16777216), BitVec.ofNat 8 (n / 65536), BitVec.ofNat 8 (n / 256), BitVec.ofNat 8 n]

/-- An item of one byte that may be absent: 255 (R218). -/
def o1 (n : Option Nat) : List Byte := b1 (n.getD 255)

/-- An item of two bytes that may be absent: 65,535 (R218). -/
def o2 (n : Option Nat) : List Byte := b2 (n.getD 65535)

/-- An item of three bytes that may be absent: 16,777,215 (R218). -/
def o3 (n : Option Nat) : List Byte := b3 (n.getD 16777215)

/-- A yes or a set flag is 1, a no or a clear flag 0 (R218). -/
def flagByte (b : Bool) : List Byte := b1 b.toNat

/-- An optional record or optional Time Base value: 1 and its items, or 0 (R218). -/
def optRecord : Option (List Byte) → List Byte
  | some items => b1 1 ++ items
  | none => b1 0

/-- A Time Base value (R218). -/
def timeBytes (t : Time) : List Byte := b4 t.toNat

/-- A list is its count and its items (R218). -/
def blockListBytes (bs : List BlockId) : List Byte := b1 bs.length ++ bs.flatMap fun b => b1 b.val

/-! ### Codes (R15, R222) -/

def Kind.code : Kind → Nat
  | .bay => 0 | .queue => 1 | .launch => 2 | .lift => 3 | .run => 4 | .trim => 5 | .runout => 6 | .switch => 7

def Kind.ofCode : Nat → Option Kind
  | 0 => some .bay | 1 => some .queue | 2 => some .launch | 3 => some .lift | 4 => some .run
  | 5 => some .trim | 6 => some .runout | 7 => some .switch | _ => none

def BayRole.code : BayRole → Nat
  | .unload => 0 | .load => 1 | .both => 2

def BayRole.ofCode : Nat → BayRole
  | 0 => .unload | 1 => .load | _ => .both

def ZoneMode.code : ZoneMode → Nat
  | .perPassage => 0 | .accumulate => 1

def ZoneMode.ofCode : Nat → ZoneMode
  | 0 => .perPassage | _ => .accumulate

def ReportKind.code : ReportKind → Nat
  | .passage => 0 | .brake => 1 | .weigh => 2 | .dispatch => 3 | .mode => 4 | .fault => 5 | .link => 6 | .bay => 7

def FaultKind.code : FaultKind → Nat
  | .unexpectedArrival => 0 | .unreleasedDeparture => 1 | .boundaryOverlap => 2 | .lostBoat => 3
  | .stuckAtBoundary => 4 | .actuatorMismatch => 5 | .switchTravel => 6 | .stopLine => 7 | .stalled => 8
  | .strayClearance => 9 | .trapFault => 10 | .brakeMargin => 11 | .tagMismatch => 12 | .linkLost => 13
  | .speedClamp => 14 | .tagMissing => 15 | .weighFailed => 16 | .tareDeviation => 17

def FaultClass.code : FaultClass → Nat
  | .halt => 0 | .hold => 1 | .note => 2

def Mode.code : Mode → Nat
  | .configure => 0 | .standby => 1 | .run => 2 | .manual => 3 | .holding => 4 | .held => 5 | .halted => 6

/-- The run mode as a ride mode. -/
def RunMode.toMode : RunMode → Mode
  | .run => .run | .manual => .manual

/-- A mode request's code is its request code (R222). -/
def ModeReq.code : ModeReq → Nat
  | .enterStandby => 16 | .enterRun => 17 | .enterManual => 18 | .enterConfigure => 19 | .resume => 20
  | .restart => 21

def linkCode : Link → Nat
  | .a => 0 | .b => 1 | .s => 2

def linkOfCode : Nat → Link
  | 0 => .a | 1 => .b | _ => .s

def ControlLink.code : ControlLink → Nat
  | .a => 0 | .b => 1

def Phase.code : Phase → Nat
  | .vacant => 0 | .berthed => 1 | .unloading => 2 | .tareWeigh => 3 | .loading => 4 | .loadWeigh => 5
  | .ready => 6 | .dispatchQueued => 7 | .cleared => 8 | .released => 9

def WeighKind.code : WeighKind → Nat
  | .tare => 0 | .load => 1

/-- The WEIGH outcome of a report (R100, R222). -/
def weighReportCode : WeighKind → WeighOutcome → Nat
  | .tare, .ok => 0 | .tare, .deviation => 1 | .load, .ok => 2 | .load, .deviation => 1
  | _, .overweight => 3 | _, .unbalanced => 4 | _, .weighFailed => 5

/-- The outcome of a weigh status (R222). -/
def WeighOutcome.code : WeighOutcome → Nat
  | .ok => 0 | .deviation => 1 | .overweight => 2 | .unbalanced => 3 | .weighFailed => 4

/-- Consents: 0 none, 1 A, 2 B, 3 both (R222). -/
def consentsCode (a b : Bool) : Nat := a.toNat + 2 * b.toNat

def Leg.code : Leg → Nat
  | .main => 0 | .spur => 1

def Reading.code : Reading → Nat
  | .main => 0 | .spur => 1 | .none => 2

/-- The drive command codes (R222). -/
def DriveCmd.code : DriveCmd → Nat
  | .level n => n
  | .closed | .stop | .idle | .hold => 16
  | .opened => 17 | .run => 18 | .fire => 19 | .driveMain => 20 | .driveSpur => 21 | .deEnergised => 22

def BlockState.code : BlockState → Nat
  | .unverified => 0 | .clear => 1 | .reserved => 2 | .occupied => 3 | .releasing => 4 | .faulted => 5
  | .outOfService => 6

def Route.code : Route → Nat
  | .station => 0 | .storage => 1

def PassagePhase.code : PassagePhase → Nat
  | .armed => 0 | .timing => 1 | .done => 2

/-- Zone condition: bit 0 TRAP_FAULT, bit 1 CLAMPED, bit 2 MARGIN (R222). -/
def Zone.code (z : Zone) : Nat := z.trapFault.toNat + 2 * z.clamped.toNat + 4 * z.margin.toNat

def MergeInput.code : MergeInput → Nat
  | .in0 => 0 | .in1 => 1

def Status.code : Status → Nat
  | .ok => 0 | .pending => 1 | .unknownRequest => 2 | .badArgument => 3 | .notPermitted => 4 | .mode => 5
  | .window => 6 | .state => 7 | .busy => 8 | .queueFull => 9 | .duplicate => 10 | .stale => 11 | .mismatch => 12

/-- The bytes of a response frame, check byte included (R202). -/
def Response.bytes (r : Response) : List Byte :=
  let body := [r.code, r.tag, BitVec.ofNat 8 r.status.code, BitVec.ofNat 8 r.data.length] ++ r.data
  body ++ [0 - body.foldl (· + ·) 0]

/-- The characters of a response frame in the order they are sent, each a byte and its marker bit: set on the first
character and clear on every other (R201, R202). -/
def Response.characters (r : Response) : List (Byte × Bool) :=
  match r.bytes with
  | [] => []
  | first :: others => (first, true) :: others.map fun c => (c, false)

/-! ### Argument bytes (R211, R218) -/

/-- The byte at an offset. -/
def arg1 (args : List Byte) (i : Nat) : Nat := (args.getD i 0).toNat

/-- Two bytes at an offset, high byte first. -/
def arg2 (args : List Byte) (i : Nat) : Nat := arg1 args i * 256 + arg1 args (i + 1)

/-- Three bytes at an offset, high byte first. -/
def arg3 (args : List Byte) (i : Nat) : Nat := arg1 args i * 65536 + arg1 args (i + 1) * 256 + arg1 args (i + 2)

/-- The outcome of reading arguments: a refusal carries the offset of the first byte out of range, and none when the
length is wrong (R211). -/
abbrev ArgResult (α : Type) := Except (Option Nat) α

/-- The arguments have the length of the request. -/
def argLength (args : List Byte) (n : Nat) : ArgResult Unit :=
  if args.length = n then .ok () else .error none

/-- A number of a fixed set at an offset. -/
def argFin (n : Nat) (args : List Byte) (i : Nat) : ArgResult (Fin n) :=
  if h : arg1 args i < n then .ok ⟨arg1 args i, h⟩ else .error (some i)

/-- A yes (1) or no (0) at an offset (R202). -/
def argBool (args : List Byte) (i : Nat) : ArgResult Bool :=
  if arg1 args i = 0 then .ok false else if arg1 args i = 1 then .ok true else .error (some i)

/-- A value, read at an offset, that must lie in a range. -/
def argIn (v lo hi i : Nat) : ArgResult Nat :=
  if lo ≤ v ∧ v ≤ hi then .ok v else .error (some i)

/-! ### The block record (R5, R15) -/

/-- One row of R15's layout with its range in R5 and the kinds it applies to. -/
structure FieldRange where
  offset : Nat
  wide : Bool
  lo : Nat
  hi : Nat
  optional : Bool
  applies : Kind → Bool

/-- The kinds with a drive section: all but RUN (R5). -/
def hasDrive (k : Kind) : Bool := k != .run

/-- The kinds with a brake: TRIM and RUNOUT (R5). -/
def isBrakeKind (k : Kind) : Bool := k == .trim || k == .runout

/-- A required field. -/
def required (offset : Nat) (wide : Bool) (lo hi : Nat) (applies : Kind → Bool) : FieldRange :=
  { offset, wide, lo, hi, optional := false, applies }

/-- An optional field of one byte. -/
def optionalByte (offset hi : Nat) (applies : Kind → Bool) : FieldRange :=
  { offset, wide := false, lo := 0, hi, optional := true, applies }

/-- The fields after block number and kind, in offset order (R5, R15). -/
def blockFields : List FieldRange :=
  [ required 2 false 0 1 fun _ => true,
    required 3 false 0 31 fun _ => true,
    required 4 false 0 31 (· == .switch),
    required 5 false 0 95 fun _ => true,
    required 6 false 0 95 (· == .switch),
    optionalByte 7 3 fun _ => true,
    required 8 false 0 31 hasDrive,
    optionalByte 9 95 hasDrive,
    required 10 false 0 95 (· == .switch),
    required 11 false 0 95 (· == .switch),
    required 12 true 500 60000 fun _ => true,
    required 14 true 200 10000 fun _ => true,
    required 16 true 50 5000 hasDrive,
    required 18 false 0 1 (· == .queue),
    required 19 false 5 120 (· == .launch),
    required 20 false 0 3 (· == .launch),
    required 21 true 100 2000 (· == .launch),
    required 23 true 500 10000 (· == .switch),
    required 25 false 0 95 isBrakeKind,
    required 26 false 0 95 isBrakeKind,
    required 27 true 100 2000 isBrakeKind,
    required 29 true 0 5000 isBrakeKind,
    required 31 true 1000 30000 isBrakeKind,
    required 33 true 10 2000 isBrakeKind,
    required 35 false 0 15 isBrakeKind,
    required 36 false 0 15 isBrakeKind,
    required 37 true 100 5000 isBrakeKind,
    required 39 true 0 5000 (· == .runout),
    required 41 false 0 1 isBrakeKind,
    required 42 false 0 2 (· == .bay),
    required 43 false 0 7 (· == .bay),
    required 44 false 0 7 (· == .bay),
    required 45 true 100 1500 (· == .bay) ]

/-- The value a field's bytes carry. -/
def FieldRange.value (f : FieldRange) (args : List Byte) : Nat :=
  if f.wide then arg2 args f.offset else arg1 args f.offset

/-- A field's bytes are in range, or mark an optional field absent (R15). -/
def FieldRange.accepts (f : FieldRange) (args : List Byte) : Bool :=
  (f.optional && f.value args == 255) || (f.lo ≤ f.value args && f.value args ≤ f.hi)

/-- The offset of the first field that applies to the kind and is out of range (R16). -/
def firstBadField (k : Kind) (args : List Byte) : Option Nat :=
  (blockFields.find? fun f => f.applies k && !f.accepts args).map (·.offset)

/-- An optional number of one byte: 255 is absent (R15). -/
def optFin (n : Nat) [NeZero n] (args : List Byte) (i : Nat) : Option (Fin n) :=
  if arg1 args i = 255 then none else some (Fin.ofNat n (arg1 args i))

/-- The drive section in a record's bytes. -/
def driveOf (args : List Byte) : DriveSection :=
  { channel := Fin.ofNat 32 (arg1 args 8), feedback := optFin 96 args 9, checkTime := arg2 args 16 }

/-- The brake fields in a record's bytes. -/
def brakeOf (args : List Byte) : BrakeSection :=
  { eye1 := Fin.ofNat 96 (arg1 args 25), eye2 := Fin.ofNat 96 (arg1 args 26), trapLength := arg2 args 27,
    targetSpeed := arg2 args 29, brakeLength := arg2 args 31, forceStep := arg2 args 33,
    idleLevel := arg1 args 35, minimumLevel := arg1 args 36, trapTimeout := arg2 args 37,
    zoneMode := .ofCode (arg1 args 41) }

/-- What a record of a kind holds beyond the common fields, from its bytes (R15). -/
def kindFieldsOf (k : Kind) (args : List Byte) : KindFields :=
  match k with
  | .bay => .bay (driveOf args)
      { role := .ofCode (arg1 args 42), frontCell := Fin.ofNat 8 (arg1 args 43),
        rearCell := Fin.ofNat 8 (arg1 args 44), maxLoad := arg2 args 45 }
  | .queue => .queue (driveOf args) (arg1 args 18 == 1)
  | .launch => .launch (driveOf args)
      { headway := arg1 args 19, kickRetries := arg1 args 20, kickPulse := arg2 args 21 }
  | .lift => .lift (driveOf args)
  | .run => .run
  | .trim => .trim (driveOf args) (brakeOf args)
  | .runout => .runout (driveOf args) (brakeOf args) (arg2 args 39)
  | .switch => .switch (driveOf args)
      { spurSuccessor := Fin.ofNat 32 (arg1 args 4), spurEye := Fin.ofNat 96 (arg1 args 6),
        mainPosition := Fin.ofNat 96 (arg1 args 10), spurPosition := Fin.ofNat 96 (arg1 args 11),
        travelLimit := arg2 args 23 }

/-- A record of a kind from its 47 bytes (R15). -/
def recordOf (k : Kind) (args : List Byte) : BlockRecord :=
  { inService := arg1 args 2 == 1, mainSuccessor := Fin.ofNat 32 (arg1 args 3),
    mainEye := Fin.ofNat 96 (arg1 args 5), tagPort := optFin 4 args 7,
    transitLimit := arg2 args 12, clearanceLimit := arg2 args 14, fields := kindFieldsOf k args }

/-- The argument of WRITE BLOCK: 47 bytes write a record, the block number alone removes one (R16). -/
def readWriteBlock (args : List Byte) : ArgResult (BlockId × Option BlockRecord) :=
  if args.length = 1 then do
    let b ← argFin 32 args 0
    return (b, none)
  else if args.length = 47 then do
    let b ← argFin 32 args 0
    match Kind.ofCode (arg1 args 1) with
    | none => .error (some 1)
    | some k =>
      match firstBadField k args with
      | some offset => .error (some offset)
      | none => return (b, some (recordOf k args))
  else .error none

/-- The kind of a record. -/
def BlockRecord.kind (r : BlockRecord) : Kind :=
  match r.fields with
  | .bay _ _ => .bay | .queue _ _ => .queue | .launch _ _ => .launch | .lift _ => .lift | .run => .run
  | .trim _ _ => .trim | .runout _ _ _ => .runout | .switch _ _ => .switch

/-- The drive section of a record, absent for RUN (R7). -/
def BlockRecord.drive (r : BlockRecord) : Option DriveSection :=
  match r.fields with
  | .bay d _ | .queue d _ | .launch d _ | .lift d | .trim d _ | .runout d _ _ | .switch d _ => some d
  | .run => none

/-- The brake fields of a TRIM or RUNOUT record. -/
def BlockRecord.brake (r : BlockRecord) : Option BrakeSection :=
  match r.fields with
  | .trim _ k | .runout _ k _ => some k
  | _ => none

/-- The stop delay of a RUNOUT record. -/
def BlockRecord.stopDelay (r : BlockRecord) : Option Nat :=
  match r.fields with
  | .runout _ _ d => some d
  | _ => none

/-- The bay fields of a BAY record. -/
def BlockRecord.bay (r : BlockRecord) : Option BaySection :=
  match r.fields with
  | .bay _ y => some y
  | _ => none

/-- The launch fields of a LAUNCH record. -/
def BlockRecord.launch (r : BlockRecord) : Option LaunchSection :=
  match r.fields with
  | .launch _ y => some y
  | _ => none

/-- The switch fields of a SWITCH record. -/
def BlockRecord.switch (r : BlockRecord) : Option SwitchSection :=
  match r.fields with
  | .switch _ y => some y
  | _ => none

/-- The park field of a QUEUE record; no for every other kind. -/
def BlockRecord.park (r : BlockRecord) : Bool :=
  match r.fields with
  | .queue _ p => p
  | _ => false

/-- The byte of a field that may not apply to the kind: 0 where it does not (R15). -/
def n1 {α : Type} (o : Option α) (f : α → Nat) : List Byte := b1 ((o.map f).getD 0)

/-- Two bytes of a field that may not apply to the kind: 0 where it does not (R15). -/
def n2 {α : Type} (o : Option α) (f : α → Nat) : List Byte := b2 ((o.map f).getD 0)

/-- The 47 bytes of a record (R15). -/
def recordBytes (b : BlockId) (r : BlockRecord) : List Byte :=
  b1 b.val ++ b1 r.kind.code ++ b1 r.inService.toNat ++ b1 r.mainSuccessor.val ++
  n1 r.switch (·.spurSuccessor.val) ++ b1 r.mainEye.val ++ n1 r.switch (·.spurEye.val) ++
  o1 (r.tagPort.map (·.val)) ++ n1 r.drive (·.channel.val) ++
  n1 r.drive (fun d => (d.feedback.map (·.val)).getD 255) ++
  n1 r.switch (·.mainPosition.val) ++ n1 r.switch (·.spurPosition.val) ++
  b2 r.transitLimit ++ b2 r.clearanceLimit ++ n2 r.drive (·.checkTime) ++
  b1 r.park.toNat ++ n1 r.launch (·.headway) ++ n1 r.launch (·.kickRetries) ++ n2 r.launch (·.kickPulse) ++
  n2 r.switch (·.travelLimit) ++
  n1 r.brake (·.eye1.val) ++ n1 r.brake (·.eye2.val) ++ n2 r.brake (·.trapLength) ++
  n2 r.brake (·.targetSpeed) ++ n2 r.brake (·.brakeLength) ++ n2 r.brake (·.forceStep) ++
  n1 r.brake (·.idleLevel) ++ n1 r.brake (·.minimumLevel) ++ n2 r.brake (·.trapTimeout) ++
  b2 (r.stopDelay.getD 0) ++ n1 r.brake (·.zoneMode.code) ++
  n1 r.bay (·.role.code) ++ n1 r.bay (·.frontCell.val) ++ n1 r.bay (·.rearCell.val) ++ n2 r.bay (·.maxLoad)

/-! ### Merge record, settings, windows (R12, R17, R215) -/

/-- A feeder list of a given count at an offset: blocks 0..31, none twice (R12). -/
def readFeeder (args : List Byte) : (count offset : Nat) → (sofar : List BlockId) → ArgResult (List BlockId)
  | 0, _, sofar => .ok sofar
  | count + 1, offset, sofar => do
    let b ← argFin 32 args offset
    if sofar.contains b then .error (some offset)
    else readFeeder args count (offset + 1) (sofar ++ [b])

/-- The fields of a merge record after the slot number, its two counts being `c0` and `c1` (R12, R17). -/
def readMergeFields (args : List Byte) (c0 c1 : Nat) : ArgResult MergeRecord := do
  let m ← argFin 32 args 1
  let i0 ← argFin 32 args 2
  let i1 ← argFin 32 args 3
  if i1 = i0 then .error (some 3) else
  let _ ← argIn c0 1 4 4
  let f0 ← readFeeder args c0 5 []
  let _ ← argIn c1 1 4 (5 + c0)
  let f1 ← readFeeder args c1 (6 + c0) []
  let at4 := 6 + c0 + c1
  let tLow ← argIn (arg1 args at4) 1 4 at4
  let tHigh ← argIn (arg1 args (at4 + 1)) tLow 4 (at4 + 1)
  let burst ← argIn (arg1 args (at4 + 2)) 1 4 (at4 + 2)
  let pref ← argBool args (at4 + 3)
  return { mergeBlock := m, input0 := i0, input1 := i1, feeder0 := f0, feeder1 := f1, tLow, tHigh, burst,
           preferred := if pref then .in1 else .in0 }

/-- The argument of WRITE MERGE: the slot alone empties it (R17). The length is right when it is 10 and the two counts,
whether or not the counts are in 1..4 (log entry 13). -/
def readWriteMerge (args : List Byte) : ArgResult (MergeId × Option MergeRecord) :=
  if args.length = 1 then do
    let slot ← argFin 2 args 0
    return (slot, none)
  else
    let c0 := arg1 args 4
    let c1 := arg1 args (5 + c0)
    if args.length = 10 + c0 + c1 then do
      let slot ← argFin 2 args 0
      let r ← readMergeFields args c0 c1
      return (slot, some r)
    else .error none

/-- The bytes of a merge slot's record (R17, R19). -/
def mergeBytes (slot : MergeId) (m : MergeRecord) : List Byte :=
  b1 slot.val ++ b1 m.mergeBlock.val ++ b1 m.input0.val ++ b1 m.input1.val ++
  blockListBytes m.feeder0 ++ blockListBytes m.feeder1 ++
  b1 m.tLow ++ b1 m.tHigh ++ b1 m.burst ++ b1 m.preferred.code

/-- The argument of WRITE SETTINGS: seven values of two bytes (R13, R17); a setting out of range is named by its first
byte (log entry 13). -/
def readWriteSettings (args : List Byte) : ArgResult Settings := do
  argLength args 14
  let consentWindow ← argIn (arg2 args 0) 500 10000 0
  let linkTimeout ← argIn (arg2 args 2) 50 2000 2
  let unweighedAllowance ← argIn (arg2 args 4) 0 1200 4
  let tareTolerance ← argIn (arg2 args 6) 5 100 6
  let spreadTolerance ← argIn (arg2 args 8) 2 50 8
  let settleTime ← argIn (arg2 args 10) 500 5000 10
  let minimumGuestLoad ← argIn (arg2 args 12) 0 100 12
  return { consentWindow, linkTimeout, unweighedAllowance, tareTolerance, spreadTolerance, settleTime,
           minimumGuestLoad }

/-- The bytes of the settings record (R17, R19). -/
def settingsBytes (t : Settings) : List Byte :=
  b2 t.consentWindow ++ b2 t.linkTimeout ++ b2 t.unweighedAllowance ++ b2 t.tareTolerance ++
  b2 t.spreadTolerance ++ b2 t.settleTime ++ b2 t.minimumGuestLoad

/-- The sizes a window may have (R214). -/
def windowSizes : List Nat := [0, 1, 2, 4, 8, 16, 32]

/-- The argument of WRITE WINDOW: link, window number, base, size; the base is named where base and size are both at
fault (R215). -/
def readWriteWindow (args : List Byte) : ArgResult (Link × Bool × Window) := do
  argLength args 4
  let link ← argFin 3 args 0
  let second ← argBool args 1
  let base ← argFin 32 args 2
  let size := arg1 args 3
  if size = 0 ∧ base.val ≠ 0 then .error (some 2)
  else if size ≠ 0 ∧ base.val % size ≠ 0 then .error (some 2)
  else if !windowSizes.contains size then .error (some 3)
  else return (linkOfCode link.val, second, { base, size })

/-- The bytes of a link's two windows (R19, selector 4). -/
def windowsBytes (w : Windows) : List Byte :=
  b1 w.w0.base.val ++ b1 w.w0.size ++ b1 w.w1.base.val ++ b1 w.w1.size

/-- The argument of WRITE POINT: point, invert, filter time (R164). -/
def readWritePoint (args : List Byte) : ArgResult (PointId × Bool × Nat) := do
  argLength args 3
  let p ← argFin 96 args 0
  let invert ← argBool args 1
  let filter ← argIn (arg1 args 2) 0 50 2
  return (p, invert, filter)

/-! ### All requests -/

/-- What READ LAYOUT returns (R19). -/
inductive LayoutPart where
  | outcome
  | block (b : BlockId)
  | merge (m : MergeId)
  | settings
  | windows
  deriving DecidableEq, Repr

/-- What READ COUNTERS returns (R225). -/
inductive CounterPart where
  | links
  | passages (start : Nat)
  | glitches (start : Nat)
  | bays
  | whole
  | commands
  deriving DecidableEq, Repr

/-- The part of READ BLOCK's data (R218). -/
inductive BlockPart where
  | entry | units | drive
  deriving DecidableEq, Repr

/-- A request with its arguments read. -/
inductive Call where
  | writeBlock (b : BlockId) (r : Option BlockRecord)
  | writeMerge (m : MergeId) (r : Option MergeRecord)
  | writeSettings (t : Settings)
  | writeWindow (link : Link) (second : Bool) (w : Window)
  | writePoint (p : PointId) (invert : Bool) (filter : Nat)
  | readLayout (part : LayoutPart)
  | modeRequest (m : ModeReq) (generation : Option Nat)
  | hold
  | halt
  | verifyClear (b : BlockId)
  | placeBoat (x : BoatId) (b : BlockId) (guests : Bool)
  | removeBoat (x : BoatId)
  | restoreBlock (b : BlockId)
  | setService (b : BlockId) (into : Bool)
  | enroll (x : BoatId) (code tare : Nat)
  | retire (x : BoatId)
  | setRoute (x : BoatId) (r : Route)
  | setExpedite (x : BoatId) (v : Bool)
  | clearCheck (x : BoatId)
  | unloaded (b : BlockId)
  | loaded (b : BlockId)
  | dispatch (b : BlockId) (afterPrevious : Bool)
  | cancel (seq : Byte)
  | consent (seq : Byte)
  | deny (seq : Byte)
  | step (b : BlockId)
  | clearFault
  | clearZone (b : BlockId)
  | readStatus
  | readBlock (b : BlockId) (part : BlockPart)
  | readBoat (x : BoatId)
  | readQueue
  | readReports (most : Nat)
  | readCounters (part : CounterPart)
  | clearCounters
  | setAttention (kinds : Byte) (interval : Nat)
  deriving DecidableEq, Repr

/-- The selector and number of READ LAYOUT (R19). -/
def readLayoutPart (args : List Byte) : ArgResult LayoutPart :=
  match args.length, arg1 args 0 with
  | 1, 0 => .ok .outcome
  | 2, 1 => (argFin 32 args 1).map .block
  | 2, 2 => (argFin 2 args 1).map .merge
  | 1, 3 => .ok .settings
  | 1, 4 => .ok .windows
  | n, sel => if sel ≤ 4 ∨ (n ≠ 1 ∧ n ≠ 2) then .error none else .error (some 0)

/-- The selector and start of READ COUNTERS (R225). -/
def readCounterPart (args : List Byte) : ArgResult CounterPart := do
  argLength args 2
  let start := arg1 args 1
  match arg1 args 0 with
  | 0 => if start = 0 then .ok .links else .error (some 1)
  | 1 => if start = 0 ∨ start = 16 then .ok (.passages start) else .error (some 1)
  | 2 => if start % 16 = 0 ∧ start ≤ 80 then .ok (.glitches start) else .error (some 1)
  | 3 => if start = 0 then .ok .bays else .error (some 1)
  | 4 => if start = 0 then .ok .whole else .error (some 1)
  | 5 => if start = 0 then .ok .commands else .error (some 1)
  | _ => .error (some 0)

/-- A request whose argument is one block. -/
def readOneBlock (args : List Byte) : ArgResult BlockId := do
  argLength args 1
  argFin 32 args 0

/-- A request whose argument is one roster slot. -/
def readOneSlot (args : List Byte) : ArgResult BoatId := do
  argLength args 1
  argFin 24 args 0

/-- A request whose argument is one sequence number (R108). -/
def readOneSeq (args : List Byte) : ArgResult Byte := do
  argLength args 1
  return args.getD 0 0

/-- A request that takes no argument. -/
def readNothing (c : Call) (args : List Byte) : ArgResult Call := do
  argLength args 0
  return c

/-- The arguments of a request (R218, R211): check 3 of R212. -/
def readArgs (r : Req) (args : List Byte) : ArgResult Call :=
  match r with
  | .writeBlock => do
    let (b, rec?) ← readWriteBlock args
    return .writeBlock b rec?
  | .writeMerge => do
    let (m, rec?) ← readWriteMerge args
    return .writeMerge m rec?
  | .writeSettings => return .writeSettings (← readWriteSettings args)
  | .writeWindow => do
    let (l, second, w) ← readWriteWindow args
    return .writeWindow l second w
  | .writePoint => do
    let (p, invert, filter) ← readWritePoint args
    return .writePoint p invert filter
  | .readLayout => return .readLayout (← readLayoutPart args)
  | .enterStandby => do
    argLength args 2
    return .modeRequest .enterStandby (some (arg2 args 0))
  | .enterRun => readNothing (.modeRequest .enterRun none) args
  | .enterManual => readNothing (.modeRequest .enterManual none) args
  | .enterConfigure => readNothing (.modeRequest .enterConfigure none) args
  | .resume => readNothing (.modeRequest .resume none) args
  | .restart => readNothing (.modeRequest .restart none) args
  | .hold => readNothing .hold args
  | .halt => readNothing .halt args
  | .verifyClear => return .verifyClear (← readOneBlock args)
  | .placeBoat => do
    argLength args 3
    let x ← argFin 24 args 0
    let b ← argFin 32 args 1
    let g ← argBool args 2
    return .placeBoat x b g
  | .removeBoat => return .removeBoat (← readOneSlot args)
  | .restoreBlock => return .restoreBlock (← readOneBlock args)
  | .setService => do
    argLength args 2
    let b ← argFin 32 args 0
    let v ← argBool args 1
    return .setService b v
  | .enroll => do
    argLength args 6
    let x ← argFin 24 args 0
    let code ← argIn (arg3 args 1) 1 16777215 1
    let tare ← argIn (arg2 args 4) 100 800 4
    return .enroll x code tare
  | .retire => return .retire (← readOneSlot args)
  | .setRoute => do
    argLength args 2
    let x ← argFin 24 args 0
    let v ← argBool args 1
    return .setRoute x (if v then .storage else .station)
  | .setExpedite => do
    argLength args 2
    let x ← argFin 24 args 0
    let v ← argBool args 1
    return .setExpedite x v
  | .clearCheck => return .clearCheck (← readOneSlot args)
  | .unloaded => return .unloaded (← readOneBlock args)
  | .loaded => return .loaded (← readOneBlock args)
  | .dispatch => do
    argLength args 2
    let b ← argFin 32 args 0
    let v ← argBool args 1
    return .dispatch b v
  | .cancel => return .cancel (← readOneSeq args)
  | .consentDispatch => return .consent (← readOneSeq args)
  | .denyDispatch => return .deny (← readOneSeq args)
  | .step => return .step (← readOneBlock args)
  | .clearFault => readNothing .clearFault args
  | .clearZoneCondition => return .clearZone (← readOneBlock args)
  | .readStatus => readNothing .readStatus args
  | .readBlock => do
    argLength args 2
    let b ← argFin 32 args 0
    match arg1 args 1 with
    | 0 => return .readBlock b .entry
    | 1 => return .readBlock b .units
    | 2 => return .readBlock b .drive
    | _ => .error (some 1)
  | .readBoat => return .readBoat (← readOneSlot args)
  | .readQueue => readNothing .readQueue args
  | .readReports => do
    argLength args 1
    let most ← argIn (arg1 args 0) 1 8 0
    return .readReports most
  | .readCounters => return .readCounters (← readCounterPart args)
  | .clearCounters => readNothing .clearCounters args
  | .setAttention => do
    argLength args 2
    return .setAttention (args.getD 0 0) (arg1 args 1)

end Sys2Proof.Machine
end

