-- ==== Sys2Proof/Machine/Flags.lean ====
section
/-! DEFINITION. The flag and level computations: permit, high flag, zone condition, switch reading, safe commands and
feedback expectations, the brake level and the weigh arithmetic. -/

namespace Sys2Proof.Machine

open Sys2Proof

/-- The permit output is asserted exactly in RUN, MANUAL, HOLDING and HELD (R179). -/
def permitOf : Mode → Bool
  | .run | .manual | .holding | .held => true
  | .configure | .standby | .halted => false

/-- The modes in which consent timers run and switches are moved (R112, R131). -/
def isRunMode : Mode → Bool
  | .run | .manual => true
  | _ => false

/-- The class of each fault (section 9.8). -/
def FaultKind.cls : FaultKind → FaultClass
  | .unexpectedArrival | .unreleasedDeparture | .boundaryOverlap | .lostBoat | .stuckAtBoundary
  | .actuatorMismatch | .switchTravel | .stopLine => .halt
  | .stalled | .strayClearance | .trapFault | .brakeMargin | .tagMismatch | .linkLost => .hold
  | .speedClamp | .tagMissing | .weighFailed | .tareDeviation => .note

/-- Holdable kinds (R3). -/
def holdableKind : Kind → Bool
  | .run | .trim => false
  | _ => true

/-- The high flag after a recount (R135). -/
def highAfter (tLow tHigh backlog : Nat) (old : Bool) : Bool :=
  if tHigh ≤ backlog then true else if backlog < tLow then false else old

/-- The zone condition after a passage's flags (R158). -/
def zoneAfter (mode : ZoneMode) (old flags : Zone) : Zone :=
  match mode with
  | .perPassage => flags
  | .accumulate =>
    { trapFault := old.trapFault || flags.trapFault, clamped := old.clamped || flags.clamped,
      margin := old.margin || flags.margin }

/-- The reading of a switch from its two position points (R130). -/
def readingOf (mainOn spurOn : Bool) : Reading :=
  match mainOn, spurOn with
  | true, false => .main
  | false, true => .spur
  | _, _ => .none

/-- The reading that names a leg (R130). -/
def Leg.reading : Leg → Reading
  | .main => .main
  | .spur => .spur

/-- The leg a reading names, or none (R172). -/
def Reading.leg : Reading → Option Leg
  | .main => some .main
  | .spur => some .spur
  | .none => Option.none

/-- The leg a route calls for (R129). -/
def Route.leg : Route → Leg
  | .station => .main
  | .storage => .spur

/-- The command that drives a switch toward a leg (R172). -/
def Leg.drive : Leg → DriveCmd
  | .main => .driveMain
  | .spur => .driveSpur

/-- The safe command of the actuator of a kind (R166). -/
def safeCommand : Kind → DriveCmd
  | .bay | .queue => .closed
  | .lift => .stop
  | .launch => .idle
  | .trim | .runout => .level 15
  | .switch => .hold
  | .run => .deEnergised

/-- The feedback a command calls for, none where it is not checked (R173). -/
def expectedFeedback : DriveCmd → Option Bool
  | .closed => some true
  | .opened => some false
  | .run => some true
  | .stop => some false
  | .level n => some (n != 0)
  | .idle => some true
  | .fire => none
  | .hold => some false
  | .driveMain | .driveSpur => none
  | .deEnergised => none

/-- The brake fields and the mass give the brake level (R150 to R153). -/
structure BrakeResult where
  speed : Nat
  decel : Nat
  force : Nat
  raw : Nat
  applied : Nat
  speedClamped : Bool
  clamped : Bool
  margin : Bool
  deriving DecidableEq, Repr

/-- The unclamped speed in mm/s of a trap interval in µs (R150). -/
def trapSpeed (trapLength interval : Nat) : Nat := trapLength * 1000000 / interval

/-- The speed is clamped when the interval is 0 or the speed passes 20,000 mm/s (R150). -/
def speedClamps (trapLength interval : Nat) : Bool :=
  interval == 0 || decide (20000 < trapSpeed trapLength interval)

/-- The speed v (R150). -/
def brakeSpeed (trapLength interval : Nat) : Nat :=
  if speedClamps trapLength interval then 20000 else trapSpeed trapLength interval

/-- The unclamped deceleration in mm/s² (R151). -/
def rawDecel (v target brakeLength : Nat) : Nat :=
  if v ≤ target then 0 else ceilDiv (v * v - target * target) (2 * brakeLength)

/-- The deceleration a (R151). -/
def brakeDecel (v target brakeLength : Nat) : Nat := min (rawDecel v target brakeLength) 30000

/-- The force F in N (R152). -/
def brakeForce (mass decel : Nat) : Nat := ceilDiv (mass * decel) 1000

/-- The raw level n (R153). -/
def rawLevel (force forceStep : Nat) : Nat := ceilDiv force forceStep

/-- The applied level (R153). -/
def appliedLevel (n minimumLevel : Nat) : Nat := max (min n 15) minimumLevel

/-- The brake level computation (R150 to R153). -/
def brakeCompute (k : BrakeSection) (interval mass : Nat) : BrakeResult :=
  let v := brakeSpeed k.trapLength interval
  let a := brakeDecel v k.targetSpeed k.brakeLength
  let f := brakeForce mass a
  let n := rawLevel f k.forceStep
  { speed := v, decel := a, force := f, raw := n, applied := appliedLevel n k.minimumLevel,
    speedClamped := speedClamps k.trapLength interval,
    clamped := speedClamps k.trapLength interval || decide (30000 < rawDecel v k.targetSpeed k.brakeLength),
    margin := decide (15 < n) }

/-- The brake flags of a report: 1 CLAMPED, 2 MARGIN (R222). -/
def brakeFlagsCode (r : BrakeResult) : Nat := r.clamped.toNat + 2 * r.margin.toNat

/-- The mass for braking: tare plus load, or plus the allowance when the load is absent (R66). -/
def brakingMass (x : Boat) (allowance : Nat) : Nat := x.tare + x.load.getD allowance

/-- The first test of R97 that an attempt fails: 1 count, 2 spread, 3 sum of totals. -/
def attemptFails (w : Weigh) : Option Nat :=
  if w.count < 4 then some 1
  else if w.spreadTolerance < w.greatest.getD 0 - w.least.getD 0 then some 2
  else if w.sumTotals = 0 then some 3
  else none

/-- The mean total, to the nearest kg with a half rounded up (R98). -/
def meanTotal (w : Weigh) : Nat := (2 * w.sumTotals + w.count) / (2 * w.count)

/-- The front share in percent (R98). -/
def frontShare (w : Weigh) : Nat := 100 * w.sumFronts / w.sumTotals

/-- The computed load of a LOAD weigh (R98). -/
def computedLoad (mean tare : Nat) : Nat := mean - tare

/-- The deviation of a TARE weigh (R99). -/
def tareDeviation (mean tare : Nat) : Nat := if tare ≤ mean then mean - tare else tare - mean

/-- The outcome of a LOAD weigh: OVERWEIGHT before UNBALANCED (R87, R98). -/
def loadOutcome (load share maxLoad : Nat) : WeighOutcome :=
  if min maxLoad 1200 < load then .overweight
  else if share < 35 ∨ 65 < share then .unbalanced
  else .ok

/-- Whether a load weigh finds guests aboard (R98). -/
def guestsAboard (load minimumGuestLoad : Nat) : Bool := minimumGuestLoad ≤ load

/-- The phase a weigh was made from (R88, R93, R95). -/
def WeighKind.fromPhase : WeighKind → Phase
  | .tare => .unloading
  | .load => .loading

/-- The phase of a bay while a weigh of the kind runs. -/
def WeighKind.phase : WeighKind → Phase
  | .tare => .tareWeigh
  | .load => .loadWeigh

/-- The phase BERTHED ends in (R83). -/
def berthedEndPhase (role : BayRole) (guests : Bool) : Phase :=
  match role, guests with
  | .load, _ => .loading
  | _, true => .unloading
  | _, false => .tareWeigh

/-- The return phase of a STEP or other grant from a bay (R90). -/
def returnPhaseOf : Phase → Phase
  | .berthed => .berthed
  | .unloading | .tareWeigh => .unloading
  | .loading | .loadWeigh => .loading
  | .ready | .dispatchQueued => .ready
  | .cleared => .cleared
  | .vacant => .vacant
  | .released => .released

/-- Both consents given: the entry is CONSENTED (R104). -/
def DispatchEntry.consented (e : DispatchEntry) : Bool := e.consentA && e.consentB

/-- The ready line: asserted while the request queue holds fewer than 2 frames (R207). -/
def LinkPort.ready (p : LinkPort) : Bool := p.queue.length < Config.requestQueueCapacity

/-- The link is UP (R209). -/
def LinkPort.up (p : LinkPort) : Bool := p.supervision.isSome

/-- The seen level of a point: the raw level through invert (R162). -/
def Point.seen (p : Point) : Bool := p.raw != p.invert

/-- A block is held by a window (R214). -/
def Window.holds (w : Window) (b : BlockId) : Bool := w.base.val ≤ b.val && b.val < w.base.val + w.size

/-- A block is in a link's windows (R214). -/
def Windows.holds (w : Windows) (b : BlockId) : Bool := w.w0.holds b || w.w1.holds b

end Sys2Proof.Machine
end

