-- ==== Sys2Proof/Machine/Layout.lean ====
section
/-! DEFINITION. The layout as the other units read it: records, successors, boundaries, paths (R4, R30), merge records
and sources (R12), and the validation V1 to V6 (R20 to R23). -/

namespace Sys2Proof.Machine

open Sys2Proof

/-- Every block, in ascending number. -/
def allBlocks : List BlockId := List.finRange 32

/-- Every boat, in ascending number. -/
def allBoats : List BoatId := List.finRange 24

/-- Both merge slots, in order. -/
def allMerges : List MergeId := [0, 1]

def LayoutStore.record (L : LayoutStore) (b : BlockId) : Option BlockRecord := vget L.blocks b

def LayoutStore.merge (L : LayoutStore) (m : MergeId) : Option MergeRecord := vget L.merges m

/-- The block is defined (R1). -/
def LayoutStore.defined (L : LayoutStore) (b : BlockId) : Bool := (L.record b).isSome

/-- The kind of a defined block. -/
def LayoutStore.kind (L : LayoutStore) (b : BlockId) : Option Kind := (L.record b).map (·.kind)

/-- The block is defined and holdable (R3). -/
def LayoutStore.holdable (L : LayoutStore) (b : BlockId) : Bool :=
  match L.kind b with
  | some k => holdableKind k
  | none => false

/-- The exits of a record: its main exit, and the spur exit of a SWITCH (R4). -/
def BlockRecord.legs (r : BlockRecord) : List Leg :=
  match r.switch with
  | some _ => [.main, .spur]
  | none => [.main]

/-- The successor on an exit (R4). -/
def BlockRecord.successor (r : BlockRecord) : Leg → Option BlockId
  | .main => some r.mainSuccessor
  | .spur => r.switch.map (·.spurSuccessor)

/-- The eye at an exit (R4). -/
def BlockRecord.exitEye (r : BlockRecord) : Leg → Option PointId
  | .main => some r.mainEye
  | .spur => r.switch.map (·.spurEye)

/-- The successor of a block on an exit. -/
def LayoutStore.successor (L : LayoutStore) (b : BlockId) (leg : Leg) : Option BlockId :=
  (L.record b).bind (·.successor leg)

/-- The record names the block as main or spur successor (R21). -/
def BlockRecord.leadsTo (r : BlockRecord) (b : BlockId) : Bool :=
  r.mainSuccessor == b || r.successor .spur == some b

/-- The predecessors of a block (R21), in ascending number. -/
def LayoutStore.predecessors (L : LayoutStore) (b : BlockId) : List BlockId :=
  allBlocks.filter fun p =>
    match L.record p with
    | some r => r.leadsTo b
    | none => false

/-- The blocks from `b` along main successors to the first holdable block, within a number of blocks (R30). -/
def LayoutStore.walk (L : LayoutStore) : (blocks : Nat) → BlockId → Option (List BlockId)
  | 0, _ => none
  | n + 1, b =>
    match L.record b with
    | none => none
    | some r => if holdableKind r.kind then some [b] else (L.walk n r.mainSuccessor).map (b :: ·)

/-- The path from a block along one of its exits: 1 to 8 blocks (R30). -/
def LayoutStore.path (L : LayoutStore) (b : BlockId) (leg : Leg) : Option (List BlockId) :=
  (L.successor b leg).bind (L.walk Config.maxPath)

/-- The merge slot and record that name a block as merge block (R12). -/
def LayoutStore.mergeAt (L : LayoutStore) (b : BlockId) : Option (MergeId × MergeRecord) :=
  allMerges.findSome? fun m =>
    match L.merge m with
    | some r => if r.mergeBlock = b then some (m, r) else none
    | none => none

/-- The predecessor block of an input (R12). -/
def MergeRecord.input (r : MergeRecord) : MergeInput → BlockId
  | .in0 => r.input0
  | .in1 => r.input1

/-- The feeder list of an input (R12). -/
def MergeRecord.feeder (r : MergeRecord) : MergeInput → List BlockId
  | .in0 => r.feeder0
  | .in1 => r.feeder1

/-- The other input. -/
def MergeInput.other : MergeInput → MergeInput
  | .in0 => .in1
  | .in1 => .in0

/-- The source block of an input whose predecessor block is `b`: the first holdable block going upstream (R12). A
block that must be passed and has not exactly one predecessor gives no source (log entry 14). -/
def LayoutStore.sourceOf (L : LayoutStore) : (fuel : Nat) → BlockId → Option BlockId
  | 0, _ => none
  | n + 1, b =>
    if L.holdable b then some b
    else
      match L.predecessors b with
      | [p] => L.sourceOf n p
      | _ => none

/-! ### Validation (section 1.7) -/

/-- V1 fails at a defined block whose successor is undefined, or at a SWITCH with one successor twice (R21). -/
def LayoutStore.failsV1 (L : LayoutStore) (b : BlockId) : Bool :=
  match L.record b with
  | none => false
  | some r =>
    !L.defined r.mainSuccessor ||
    (match r.switch with
     | some w => !L.defined w.spurSuccessor || w.spurSuccessor == r.mainSuccessor
     | none => false)

/-- A merge record disagrees with the block records (R22). -/
def LayoutStore.mergeInconsistent (L : LayoutStore) (r : MergeRecord) : Bool :=
  let preds := L.predecessors r.mergeBlock
  !(preds == [r.input0, r.input1] || preds == [r.input1, r.input0]) ||
  !((r.feeder0 ++ r.feeder1).all L.holdable) ||
  r.feeder0.head? != L.sourceOf 32 r.input0 || r.feeder1.head? != L.sourceOf 32 r.input1

/-- The filled merge records that name a block. -/
def LayoutStore.mergesNaming (L : LayoutStore) (b : BlockId) : List MergeRecord :=
  allMerges.filterMap fun m => (L.merge m).filter (·.mergeBlock = b)

/-- V2 (R22), for every block number. -/
def LayoutStore.failsV2 (L : LayoutStore) (b : BlockId) : Bool :=
  let preds := (L.predecessors b).length
  let naming := L.mergesNaming b
  decide (2 < preds) ||
  (preds == 2 && !L.holdable b) ||
  (preds == 2 && naming.length != 1) ||
  (decide (0 < naming.length) && decide (preds < 2)) ||
  naming.any L.mergeInconsistent

/-- V3 fails at a defined non-holdable block whose predecessors are other than 1 (R21). -/
def LayoutStore.failsV3 (L : LayoutStore) (b : BlockId) : Bool :=
  L.defined b && !L.holdable b && (L.predecessors b).length != 1

/-- V4 fails at a holdable block with a leg that reaches itself, or no holdable block within 8 (R23). -/
def LayoutStore.failsV4 (L : LayoutStore) (b : BlockId) : Bool :=
  match L.record b with
  | none => false
  | some r =>
    holdableKind r.kind &&
    r.legs.any fun leg =>
      match L.path b leg with
      | none => true
      | some p => p.getLast? == some b

/-- The input points a record names, in field order (R23). -/
def BlockRecord.pointsNamed (r : BlockRecord) : List Nat :=
  [r.mainEye.val] ++ (r.switch.map (·.spurEye.val)).toList ++
  ((r.drive.bind (·.feedback)).map (·.val)).toList ++
  (match r.switch with
   | some w => [w.mainPosition.val, w.spurPosition.val]
   | none => []) ++
  (match r.brake with
   | some k => [k.eye1.val, k.eye2.val]
   | none => [])

/-- The weigh channels a record names (R23). -/
def BlockRecord.cellsNamed (r : BlockRecord) : List Nat :=
  match r.bay with
  | some y => [y.frontCell.val, y.rearCell.val]
  | none => []

/-- The drive channels a record names (R23). -/
def BlockRecord.channelsNamed (r : BlockRecord) : List Nat := (r.drive.map (·.channel.val)).toList

/-- The tag-reader ports a record names (R23). -/
def BlockRecord.portsNamed (r : BlockRecord) : List Nat := (r.tagPort.map (·.val)).toList

/-- A list of numbers that names none twice. -/
def distinct : List Nat → Bool
  | [] => true
  | n :: ns => !ns.contains n && distinct ns

/-- A block's names of one sort clash with its own earlier ones or with those of lower blocks. -/
def LayoutStore.clash (L : LayoutStore) (names : BlockRecord → List Nat) (b : BlockId) : Bool :=
  match L.record b with
  | none => false
  | some r =>
    let lower := (allBlocks.filter (· < b)).flatMap fun p => ((L.record p).map names).getD []
    !distinct (names r) || (names r).any lower.contains

/-- V5 (R23). -/
def LayoutStore.failsV5 (L : LayoutStore) (b : BlockId) : Bool :=
  L.clash (·.pointsNamed) b || L.clash (·.channelsNamed) b || L.clash (·.cellsNamed) b ||
  L.clash (·.portsNamed) b

/-- The number of defined blocks up to `b` whose kind meets a test. -/
def LayoutStore.countKinds (L : LayoutStore) (test : Kind → Bool) (b : BlockId) : Nat :=
  (allBlocks.filter fun p => decide (p ≤ b) && ((L.kind p).map test).getD false).length

/-- V6 at a block: its inclusion exceeds a limit of kinds (R23). -/
def LayoutStore.failsV6 (L : LayoutStore) (b : BlockId) : Bool :=
  L.defined b &&
  (decide (4 < L.countKinds (· == .bay) b) || decide (8 < L.countKinds isBrakeKind b) ||
   decide (2 < L.countKinds (· == .switch) b) || decide (2 < L.countKinds (· == .launch) b))

/-- The failing check and the first offending block, 255 where it names none; nothing when the layout passes (R20). -/
def LayoutStore.validate (L : LayoutStore) : Option (Nat × Nat) :=
  let at? (n : Nat) (fails : BlockId → Bool) : Option (Nat × Nat) :=
    (allBlocks.find? fails).map fun b => (n, b.val)
  at? 1 L.failsV1 <|> at? 2 L.failsV2 <|> at? 3 L.failsV3 <|> at? 4 L.failsV4 <|> at? 5 L.failsV5 <|>
  at? 6 L.failsV6 <|> (if allBlocks.any L.defined then none else some (6, 255))

/-- The generation after an accepted layout write (R18). -/
def nextGeneration (g : Nat) : Nat := if g = 65535 then 1 else g + 1

/-! ### What a field input is wired to (R24, R163) -/

/-- The consumer of an input point. -/
inductive PointUse where
  | exitEye (block : BlockId) (leg : Leg)
  | trapEye1 (block : BlockId)
  | trapEye2 (block : BlockId)
  | feedback (block : BlockId)
  | position (block : BlockId)
  deriving DecidableEq, Repr

/-- How a record uses a point. -/
def BlockRecord.useOf (r : BlockRecord) (b : BlockId) (p : PointId) : Option PointUse :=
  if r.mainEye = p then some (.exitEye b .main)
  else if r.exitEye .spur = some p then some (.exitEye b .spur)
  else if r.brake.map (·.eye1) = some p then some (.trapEye1 b)
  else if r.brake.map (·.eye2) = some p then some (.trapEye2 b)
  else if r.drive.bind (·.feedback) = some p then some (.feedback b)
  else if r.switch.map (·.mainPosition) = some p ∨ r.switch.map (·.spurPosition) = some p then some (.position b)
  else none

/-- The consumer the layout assigns a point to, if any (R24). -/
def LayoutStore.pointUse (L : LayoutStore) (p : PointId) : Option PointUse :=
  allBlocks.findSome? fun b => (L.record b).bind fun r => r.useOf b p

/-- A port is named by some record (R24). -/
def LayoutStore.portAssigned (L : LayoutStore) (p : PortId) : Bool :=
  allBlocks.any fun b => (L.record b).bind (·.tagPort) == some p

/-- The bay whose record names a pair of weigh channels as front and rear cell (R10, R24). -/
def LayoutStore.bayOfCells (L : LayoutStore) (front rear : CellId) : Option BlockId :=
  allBlocks.find? fun b =>
    match (L.record b).bind (·.bay) with
    | some y => y.frontCell == front && y.rearCell == rear
    | none => false

/-- The entry state R11 gives a block when the table is set up. -/
def LayoutStore.setupState (L : LayoutStore) (b : BlockId) : BlockState :=
  match L.record b with
  | some r => if r.inService then .unverified else .outOfService
  | none => .outOfService

end Sys2Proof.Machine
end

