-- ==== Sys2Proof/Machine/Ops.lean ====
section
/-! DEFINITION. The operations that several units share: reads and writes of the tables, reports and attention
(chapter 11), faults and mode changes (chapter 9), and the dispatch list's part in them (R112, R115). -/

namespace Sys2Proof.Machine

open Sys2Proof

/-! ### Reads -/

/-- The reading of the Time Base plus a limit in ms. -/
def State.after (s : State) (ms : Nat) : Time := s.timeBase + msSpan ms

def State.record (s : State) (b : BlockId) : Option BlockRecord := s.layout.record b
def State.entry (s : State) (b : BlockId) : Entry := vget s.table b
def State.slot (s : State) (x : BoatId) : Slot := vget s.roster x
def State.bay (s : State) (b : BlockId) : Option Bay := vget s.bays b
def State.brake (s : State) (b : BlockId) : Option Brake := vget s.brakes b
def State.switchRec (s : State) (b : BlockId) : Option SwitchRecord := vget s.switches b
def State.launchRec (s : State) (b : BlockId) : Option LaunchRecord := vget s.launches b
def State.arbiter (s : State) (m : MergeId) : Option Arbiter := vget s.arbiters m
def State.channel (s : State) (c : ChannelId) : Channel := vget s.channels c
def State.point (s : State) (p : PointId) : Point := vget s.points p
def State.port (s : State) (l : Link) : LinkPort := s.ports.get l
def State.reader (s : State) (l : Link) : Reader := s.reports.readers.get l
def State.up (s : State) (l : Link) : Bool := (s.port l).up
def State.mode (s : State) : Mode := s.mc.mode

/-- The boat data of an enrolled slot. -/
def Slot.boat : Slot → Option Boat
  | .unused => none
  | .absent x => some x
  | .onTrack x _ _ => some x

/-- The position of an ON_TRACK boat (R59). -/
def Slot.position : Slot → Option BlockId
  | .onTrack _ b _ => some b
  | _ => none

/-- The path list: empty unless ON_TRACK (R59). -/
def Slot.path : Slot → List BlockId
  | .onTrack _ _ p => p
  | _ => []

/-- A slot with its boat data changed. -/
def Slot.mapBoat (f : Boat → Boat) : Slot → Slot
  | .unused => .unused
  | .absent x => .absent (f x)
  | .onTrack x b p => .onTrack (f x) b p

/-- A slot with its path list replaced, where it is ON_TRACK. -/
def Slot.withPath (p : List BlockId) : Slot → Slot
  | .onTrack x b _ => .onTrack x b p
  | t => t

def State.boat (s : State) (x : BoatId) : Option Boat := (s.slot x).boat
def State.pathOf (s : State) (x : BoatId) : List BlockId := (s.slot x).path

/-- The leg chosen for the occupant of a block: by route at a SWITCH, else main (R30, R129). -/
def State.chosenLeg (s : State) (b : BlockId) : Leg :=
  match s.layout.kind b, (s.entry b).occupant.bind s.boat with
  | some .switch, some x => x.route.leg
  | _, _ => .main

/-- The path of the boat held in a block (R30). -/
def State.pathFrom (s : State) (b : BlockId) : Option (List BlockId) := s.layout.path b (s.chosenLeg b)

/-! ### Writes -/

def State.setSlot (s : State) (x : BoatId) (t : Slot) : State := { s with roster := vput s.roster x t }
def State.modBoat (s : State) (x : BoatId) (f : Boat → Boat) : State := s.setSlot x ((s.slot x).mapBoat f)
def State.setPath (s : State) (x : BoatId) (p : List BlockId) : State := s.setSlot x ((s.slot x).withPath p)
def State.setBay (s : State) (b : BlockId) (y : Bay) : State := { s with bays := vput s.bays b (some y) }
def State.modBrake (s : State) (b : BlockId) (f : Brake → Brake) : State :=
  { s with brakes := vput s.brakes b ((s.brake b).map f) }
def State.modSwitch (s : State) (b : BlockId) (f : SwitchRecord → SwitchRecord) : State :=
  { s with switches := vput s.switches b ((s.switchRec b).map f) }
def State.setChannel (s : State) (c : ChannelId) (x : Channel) : State := { s with channels := vput s.channels c x }
def State.setPoint (s : State) (p : PointId) (x : Point) : State := { s with points := vput s.points p x }
def State.setPort (s : State) (l : Link) (p : LinkPort) : State := { s with ports := s.ports.put l p }
def State.setReader (s : State) (l : Link) (r : Reader) : State :=
  { s with reports := { s.reports with readers := s.reports.readers.put l r } }
def State.setMc (s : State) (c : ModeController) : State := { s with mc := c }

/-- The backlog of a feeder list: its blocks that are OCCUPIED (R135). -/
def backlogOf (table : Vector Entry 32) (feeder : List BlockId) : Nat :=
  (feeder.filter fun b => (vget table b).state == .occupied).length

/-- An arbiter record after a block of the layout became or stopped being OCCUPIED (R135). -/
def Arbiter.recount (a : Arbiter) (r : MergeRecord) (table : Vector Entry 32) (b : BlockId) : Arbiter :=
  let n0 := backlogOf table r.feeder0
  let n1 := backlogOf table r.feeder1
  let a := if r.feeder0.contains b then
      { a with backlog0 := n0, high0 := highAfter r.tLow r.tHigh n0 a.high0 } else a
  if r.feeder1.contains b then
      { a with backlog1 := n1, high1 := highAfter r.tLow r.tHigh n1 a.high1 } else a

/-- Every arbiter record after a block became or stopped being OCCUPIED (R29, R135). -/
def recountAll (L : LayoutStore) (table : Vector Entry 32) (b : BlockId) (arbs : Vector (Option Arbiter) 2) :
    Vector (Option Arbiter) 2 :=
  vmap (fun m a =>
    match a, L.merge m with
    | some a, some r => some (a.recount r table b)
    | a, _ => a) arbs

/-- Write a block table entry; the Merge Arbiter recounts when the block becomes or stops being OCCUPIED (R29). -/
def State.setEntry (s : State) (b : BlockId) (e : Entry) : State :=
  let table := vput s.table b e
  { s with
    table := table
    arbiters := if ((s.entry b).state == .occupied) == (e.state == .occupied) then s.arbiters
                else recountAll s.layout table b s.arbiters }

def State.modEntry (s : State) (b : BlockId) (f : Entry → Entry) : State := s.setEntry b (f (s.entry b))

/-! ### Reports and attention (chapter 11) -/

/-- A report kind is in an attention set: bit k for the kind with code k (R224). -/
def inAttention (kinds : Byte) (k : ReportKind) : Bool := kinds.getLsbD k.code

/-- The attention line is due: an UP link with an unread entry of a kind in its set (R223). -/
def Reader.due (r : Reader) (up : Bool) (ring : List Report) : Bool :=
  up && (ring.drop r.cursor).any fun e => inAttention r.attention e.kind

/-- The evaluation of an attention line (R223). -/
def Reader.evaluate (r : Reader) (now : Time) (up : Bool) (ring : List Report) : Reader :=
  if r.line then
    if r.due up ring then r
    else { r with line := false, holdOff := if r.interval = 0 then none else some (now + msSpan r.interval) }
  else if r.due up ring && r.holdOff.isNone then { r with line := true }
  else r

/-- The Report Queue with every reader changed. -/
def State.mapReaders (s : State) (f : Link → Reader → Reader) : State :=
  let p := s.reports.readers
  { s with reports := { s.reports with readers := { a := f .a p.a, b := f .b p.b, s := f .s p.s } } }

/-- Every attention line evaluated afresh (R223). -/
def State.evaluateAll (s : State) : State :=
  s.mapReaders fun l r => r.evaluate s.timeBase (s.up l) s.reports.ring

/-- No link is UP. -/
def State.noneUp (s : State) : Bool := !(s.up .a || s.up .b || s.up .s)

/-- The number of oldest entries that every UP link has read; all of them when no link is UP (R220). -/
def State.freeCount (s : State) : Nat :=
  let at? (l : Link) : Nat := if s.up l then (s.reader l).cursor else s.reports.ring.length
  min s.reports.ring.length (min (at? .a) (min (at? .b) (at? .s)))

/-- Free the entries that every UP link has read, from the oldest end (R220). -/
def State.freeEntries (s : State) : State :=
  let k := s.freeCount
  let s' := s.mapReaders fun l r => { r with cursor := if s.up l then r.cursor - k else 0 }
  { s' with reports := { s'.reports with ring := s'.reports.ring.drop k } }

/-- Drop the oldest entry from a full ring (R221), evaluating the lines of the links whose cursor it moves (R223). -/
def State.dropOldest (s : State) : State :=
  let ring := s.reports.ring.tail
  let s' := s.mapReaders fun l r =>
    if s.up l then
      if r.cursor = 0 then
        Reader.evaluate { r with skipped := satInc Config.byteCeiling r.skipped } s.timeBase true ring
      else { r with cursor := r.cursor - 1 }
    else { r with cursor := 0 }
  { s' with reports := { s'.reports with ring := ring } }

/-- Detail values lie in 0..16,777,215 (R219; log entry 16). -/
def detail (d1 : Nat := 0) (d2 : Nat := 0) (d3 : Nat := 0) (d4 : Nat := 0) : Details :=
  { d1 := min d1 Config.detailCeiling, d2 := min d2 Config.detailCeiling, d3 := min d3 Config.detailCeiling,
    d4 := min d4 Config.detailCeiling }

/-- Put an entry at the newest end of the ring (R219). -/
def State.pushReport (s : State) (kind : ReportKind) (fault : Option (FaultKind × FaultClass))
    (block : Option BlockId) (boat : Option BoatId) (d : Details) : State :=
  let e : Report := { seq := s.reports.nextSeq, kind, fault, time := s.timeBase, block, boat, details := d }
  { s with reports := { s.reports with ring := s.reports.ring ++ [e], nextSeq := s.reports.nextSeq + 1 } }

/-- Append a report (R219 to R221, R223). -/
def State.append (s : State) (kind : ReportKind) (fault : Option (FaultKind × FaultClass))
    (block : Option BlockId) (boat : Option BoatId) (d : Details) : State :=
  let s := if s.reports.ring.length < Config.ringCapacity then s else s.dropOldest
  let s := s.pushReport kind fault block boat d
  let s := if s.noneUp then s.freeEntries else s
  s.evaluateAll

/-! ### The dispatch list in mode changes and reports (R112, R115, R121) -/

/-- The DISPATCH events (R121, R222). -/
inductive DispatchEvent where
  | queued | consented | granted | denied | expired | canceled | voided
  deriving DecidableEq, Repr

def DispatchEvent.code : DispatchEvent → Nat
  | .queued => 0 | .consented => 1 | .granted => 2 | .denied => 3 | .expired => 4 | .canceled => 5 | .voided => 6

/-- A DISPATCH report of an entry (R121). -/
def State.dispatchReport (s : State) (e : DispatchEntry) (ev : DispatchEvent) (d3 d4 : Nat) : State :=
  s.append .dispatch none (some e.bay) (some e.boat) (detail ev.code e.seq.toNat d3 d4)

/-- A full consent window from now, as the mode calls for: a deadline in RUN or MANUAL, else a remaining time (R107,
R116). -/
def State.freshTimer (s : State) : ConsentTimer :=
  if isRunMode s.mode then .running (s.after s.layout.settings.consentWindow)
  else .suspended (s.layout.settings.consentWindow * 1000)

/-- An entry's timer at a change of mode (R112). -/
def DispatchEntry.retime (e : DispatchEntry) (now : Time) (old new : Mode) : DispatchEntry :=
  match e.timer with
  | .running d => if isRunMode old && !isRunMode new then { e with timer := .suspended (remainingUs now d) } else e
  | .suspended r =>
    if !isRunMode old && isRunMode new then { e with timer := .running (now + BitVec.ofNat 32 r) } else e
  | .stopped => e

/-- An entry after a voiding (R115). -/
def DispatchEntry.voided (e : DispatchEntry) (now : Time) (windowMs : Nat) : DispatchEntry :=
  { e with consentA := false, consentB := false, timerStart := now, timer := .suspended (windowMs * 1000) }

/-- The causes of a VOIDED report (R222). -/
inductive VoidCause where
  | hold | halt | linkA | linkB
  deriving DecidableEq, Repr

def VoidCause.code : VoidCause → Nat
  | .hold => 0 | .halt => 1 | .linkA => 2 | .linkB => 3

/-- The VOIDED report of an entry as it was before the voiding (R115, R121). -/
def State.voidReport (s : State) (cause : VoidCause) (e : DispatchEntry) : State :=
  s.dispatchReport e .voided cause.code (consentsCode e.consentA e.consentB)

/-- Void every entry, in list order (R115). -/
def State.voidAll (s : State) (cause : VoidCause) : State :=
  let s' := { s with dispatch := s.dispatch.map fun e => e.voided s.timeBase s.layout.settings.consentWindow }
  s.dispatch.foldl (fun t e => t.voidReport cause e) s'

/-! ### Mode changes (R178, R179, R184, R185) -/

/-- The MODE events (R199, R222). -/
inductive ModeEvent where
  | opened | changed | expired | mismatch | discarded
  deriving DecidableEq, Repr

def ModeEvent.code : ModeEvent → Nat
  | .opened => 0 | .changed => 1 | .expired => 2 | .mismatch => 3 | .discarded => 4

/-- The causes of a CHANGED report (R199, R222). -/
inductive ChangeCause where
  | request | holdRequest | haltRequest | fault | settled
  deriving DecidableEq, Repr

def ChangeCause.code : ChangeCause → Nat
  | .request => 0 | .holdRequest => 1 | .haltRequest => 2 | .fault => 3 | .settled => 4

/-- A MODE report: it names no block and no boat (R199). -/
def State.modeReport (s : State) (ev : ModeEvent) (d2 d3 d4 : Nat) : State :=
  s.append .mode none none none (detail ev.code d2 d3 d4)

/-- The run mode after a change to a mode (R178). -/
def runModeAfter (new : Mode) (old : RunMode) : RunMode :=
  match new with
  | .run => .run
  | .manual => .manual
  | _ => old

/-- Discard the pending slot, if it holds a request, with a DISCARDED report; cause 0 MODE, 1 LINK (R184). -/
def State.discardSlot (s : State) (cause : Nat) : State :=
  match s.mc.slot with
  | none => s
  | some p =>
    (s.setMc { s.mc with slot := none }).modeReport .discarded p.request.code p.link.code cause

/-- Change the ride mode: mode, run mode, permit, the CHANGED report, a slot left open discarded, the consent timers
(R178, R179, R184, R185, R112). -/
def State.changeMode (s : State) (new : Mode) (cause : ChangeCause) : State :=
  let old := s.mode
  let s := s.setMc { s.mc with mode := new, runMode := runModeAfter new s.mc.runMode, permit := permitOf new }
  let s := s.modeReport .changed old.code new.code cause.code
  let s := s.discardSlot 0
  { s with dispatch := s.dispatch.map fun e => e.retime s.timeBase old new }

/-- A release not yet crossed is frozen, its transit deadline suspended (R55). -/
def Entry.freeze (e : Entry) : Entry :=
  match e.release with
  | some r =>
    if e.state = .releasing ∧ e.nose = false then { e with release := some { r with frozen := true }, transit := none }
    else e
  | none => e

/-- A move under way is discarded; the held leg becomes the reading's leg (R172). -/
def SwitchRecord.dropMove (w : SwitchRecord) : SwitchRecord :=
  match w.move with
  | some _ => { w with move := none, held := w.reading.leg }
  | none => w

/-- Enter HOLDING from RUN or MANUAL (R188). -/
def State.enterHolding (s : State) (cause : ChangeCause) : State :=
  (s.changeMode .holding cause).voidAll .hold

/-- Enter HALTED: freeze the releases not yet crossed, void the dispatch entries, discard switch moves (R190, R55,
R115, R133). The safe commands follow at the event's end (R169). -/
def State.enterHalted (s : State) (cause : ChangeCause) : State :=
  let s := s.changeMode .halted cause
  let s := { s with table := vmap (fun _ (e : Entry) => e.freeze) s.table,
                    switches := vmap (fun _ (w : Option SwitchRecord) => w.map SwitchRecord.dropMove) s.switches }
  s.voidAll .halt

/-! ### Faults (R196, R197) -/

/-- Enter a fault in the fault record, or count it (R197). -/
def ModeController.recordFault (c : ModeController) (k : FaultKind) (block : Option BlockId) (boat : Option BoatId)
    (now : Time) : ModeController :=
  match c.fault with
  | none => { c with fault := some { kind := k, cls := k.cls, block, boat, time := now } }
  | some _ => { c with further := satInc Config.byteCeiling c.further }

/-- Apply a fault's class in the mode at that moment (R196). -/
def State.applyClass (s : State) (cls : FaultClass) : State :=
  match cls, s.mode with
  | .halt, .run | .halt, .manual | .halt, .holding | .halt, .held => s.enterHalted .fault
  | .hold, .run | .hold, .manual => s.enterHolding .fault
  | _, _ => s

/-- A fault passed to the Mode Controller: recorded, reported, its class applied (R196). -/
def State.raise (s : State) (k : FaultKind) (block : Option BlockId) (boat : Option BoatId) (d : Details) : State :=
  let s := s.setMc (s.mc.recordFault k block boat s.timeBase)
  let s := s.append .fault (some (k, k.cls)) block boat d
  s.applyClass k.cls

/-! ### Paths that lose blocks (R36) -/

/-- The part of a path list before a block. -/
def beforeBlock (b : BlockId) : List BlockId → List BlockId
  | [] => []
  | p :: ps => if p = b then [] else p :: beforeBlock b ps

/-- The part of a path list after a block. -/
def afterBlock (b : BlockId) : List BlockId → List BlockId
  | [] => []
  | p :: ps => if p = b then ps else afterBlock b ps

/-- Reserved blocks return to CLEAR (R36, R50). -/
def State.clearReserved (s : State) (bs : List BlockId) : State :=
  bs.foldl (fun t b => if (t.entry b).state = .reserved then t.setEntry b (.bare .clear) else t) s

/-- A boat's path list is cut at a block that becomes FAULTED (R36). -/
def State.cutPath (s : State) (y : BoatId) (f : BlockId) : State :=
  let p := s.pathOf y
  (s.setPath y (beforeBlock f p)).clearReserved (afterBlock f p)

/-! ### A block becomes FAULTED (R26, R36, R149, R156, R172) -/

/-- The entry of a block made FAULTED: occupant and nose-at-exit kept, the rest discarded (R26). -/
def Entry.toFaulted (e : Entry) : Entry :=
  { e with state := .faulted, holder := none, transit := none, clearance := none, release := none }

/-- A passage ended with no computation and no fault (R149). -/
def Passage.finish (p : Passage) : Passage := { p with phase := .done, deadline := none }

/-- A brake record when its block becomes FAULTED or its boat is granted: passage DONE, hold and stop delay gone
(R149, R156). -/
def Brake.letGo (k : Brake) : Brake :=
  { k with passage := k.passage.map (·.finish), hold := false, stopDelay := none }

/-- Make a block FAULTED in the block table, the path lists, the brake record and the switch record. -/
def State.faultBlock (s : State) (b : BlockId) : State :=
  let e := s.entry b
  let s := s.setEntry b e.toFaulted
  let s := match e.state, e.holder with
    | .reserved, some y => s.cutPath y b
    | _, _ => s
  (s.modBrake b (·.letGo)).modSwitch b (·.dropMove)

end Sys2Proof.Machine
end

