-- ==== Sys2Proof/Machine/Drives.lean ====
section
/-! DEFINITION. The Drive Supervisor and the demand of the Trap and Brake Unit (R143, R166 to R176, R129 to R133): what
each brake block, switch and channel calls for, derived afresh from the state at the end of an event. -/

namespace Sys2Proof.Machine

open Sys2Proof

/-! ### Brake demand (R143) -/

/-- The demand of a brake block (R143). -/
def State.demandOf (s : State) (b : BlockId) (k : Brake) : Nat :=
  match (s.record b).bind (·.brake) with
  | none => k.demand
  | some r =>
    let e := s.entry b
    let passing : Nat :=
      match k.passage with
      | none => r.idleLevel
      | some p => if p.phase = .done then k.lastLevel.getD 15 else r.idleLevel
    match e.state with
    | .unverified | .clear | .reserved | .outOfService => r.idleLevel
    | .faulted => 15
    | .occupied => if k.hold then 15 else passing
    | .releasing => if s.layout.kind b = some .runout then 0 else passing

/-- Every brake record's demand updated (R143). -/
def State.refreshBrakes (s : State) : State :=
  { s with brakes := vmap (fun b k => k.map fun k => { k with demand := s.demandOf b k }) s.brakes }

/-! ### Switch moves (R131) -/

/-- Command a move toward the chosen leg where R131 calls for one. -/
def State.positionSwitch (s : State) (b : BlockId) (w : SwitchRecord) : SwitchRecord :=
  match (s.record b).bind (·.switch) with
  | none => w
  | some r =>
    let leg := s.chosenLeg b
    if isRunMode s.mode && (s.entry b).state == .occupied && w.reading != leg.reading &&
        w.move.map (·.1) != some leg then
      { w with move := some (leg, s.after r.travelLimit) }
    else w

/-- Every switch positioned for its held boat (R131). -/
def State.refreshSwitches (s : State) : State :=
  { s with switches := vmap (fun b w => w.map (s.positionSwitch b)) s.switches }

/-! ### Commands and feedback (R168 to R176) -/

/-- The command a block's state calls for outside HALTED and FAULTED (R168, R170 to R172); the switch of an
OUT_OF_SERVICE block holds (R169). -/
def State.plainCommand (s : State) (b : BlockId) (k : Kind) (pulsing : Bool) : DriveCmd :=
  let st := (s.entry b).state
  match k with
  | .bay | .queue => if st = .releasing then .opened else .closed
  | .lift => if st = .releasing ∨ st = .reserved then .run else .stop
  | .launch => if pulsing then .fire else .idle
  | .trim | .runout => .level (((s.brake b).map (·.demand)).getD 15)
  | .switch =>
    match (s.switchRec b).bind (·.move) with
    | some (leg, _) => if st = .outOfService then .hold else leg.drive
    | none => .hold
  | .run => .deEnergised

/-- The overrides of R169: HALTED and FAULTED take the safe command. -/
def State.commandOf (s : State) (b : BlockId) (k : Kind) (pulsing : Bool) : DriveCmd :=
  if s.mode = .halted ∨ (s.entry b).state = .faulted then safeCommand k else s.plainCommand b k pulsing

/-- No check is made on a FAULTED or OUT_OF_SERVICE block (R176). -/
def unchecked : BlockState → Bool
  | .faulted | .outOfService => true
  | _ => false

/-- The check deadline after the comparison of R174; `fresh` when the expectation has changed. -/
def checkAfter (fresh : Bool) (level : Bool) (expectation : Option Bool) (old : Option Time) (new : Time) :
    Option Time :=
  match expectation with
  | none => none
  | some v => if level = v then none else if fresh then some new else some (old.getD new)

/-- The position deadline of a switch at rest after the comparison of R175. -/
def positionAfter (cmdChanged : Bool) (command : DriveCmd) (w : Option SwitchRecord) (old : Option Time)
    (new : Time) : Option Time :=
  match w with
  | none => none
  | some w =>
    match command, w.held with
    | .hold, some leg =>
      if w.reading = leg.reading then none else if cmdChanged then some new else some (old.getD new)
    | _, _ => none

/-- The channel of a block with its command, expectation and deadlines derived afresh (R168 to R176). The comparisons of
R174 and R175 are made once, between the channel before an event and at its end: a command and an expectation that change
and return within one event keep a check deadline that runs, which is the model's choice (log entry 38). -/
def State.refreshChannel (s : State) (c : Channel) : Channel :=
  match c.owner with
  | none => c
  | some b =>
    match s.record b with
    | none => c
    | some r =>
      match r.drive with
      | none => c
      | some d =>
        let st := (s.entry b).state
        let pulse := if st = .releasing ∧ s.mode ≠ .halted then c.pulse else none
        let command := s.commandOf b r.kind pulse.isSome
        let expectation :=
          if st = .faulted then none else d.feedback.bind fun _ => expectedFeedback command
        let level := ((d.feedback.map fun p => (s.point p).level)).getD false
        let new := s.after d.checkTime
        { c with
          command := command
          pulse := pulse
          expectation := expectation
          check := if unchecked st then none
                   else checkAfter (expectation != c.expectation) level expectation c.check new
          position := if unchecked st then none
                      else positionAfter (command != c.command) command (s.switchRec b) c.position new }

/-- Every channel derived afresh. -/
def State.refreshChannels (s : State) : State :=
  { s with channels := vmap (fun _ c => s.refreshChannel c) s.channels }

/-- Fire a kicker: its pulse deadline is set from now (R170). -/
def State.firePulse (s : State) (b : BlockId) : State :=
  match s.record b with
  | none => s
  | some r =>
    match r.fields with
    | .launch d l =>
      s.setChannel d.channel { s.channel d.channel with pulse := some (s.after l.kickPulse) }
    | _ => s

end Sys2Proof.Machine
end

