-- ==== Sys2Proof/Machine/Station.lean ====
section
/-! DEFINITION. The Station Sequencer and the Weigh Unit (chapter 4), and the dispatch entries that a bay's changes
remove (R92, R119, R120). -/

namespace Sys2Proof.Machine

open Sys2Proof

/-! ### Dispatch entries -/

/-- The entry that holds a sequence number (R105). -/
def State.entryOfSeq (s : State) (seq : Byte) : Option DispatchEntry := s.dispatch.find? fun e => e.seq == seq

/-- The entry of a bay (R104: at most one). -/
def State.entryOfBay (s : State) (b : BlockId) : Option DispatchEntry := s.dispatch.find? fun e => e.bay == b

/-- Take an entry out of the list; the entries behind it keep their order (R103). -/
def State.removeEntry (s : State) (e : DispatchEntry) : State :=
  { s with dispatch := s.dispatch.filter fun d => d.seq != e.seq }

/-- The causes of a CANCELED report (R222). -/
inductive CancelCause where
  | request | link | step | remove
  deriving DecidableEq, Repr

def CancelCause.code : CancelCause → Nat
  | .request => 0 | .link => 1 | .step => 2 | .remove => 3

/-- Remove an entry and report it CANCELED (R111, R117, R120, R121). -/
def State.cancelEntry (s : State) (e : DispatchEntry) (cause : CancelCause) (link : Nat) : State :=
  (s.removeEntry e).dispatchReport e .canceled cause.code link

/-- Cancel the entry of a bay, where there is one. -/
def State.cancelOfBay (s : State) (b : BlockId) (cause : CancelCause) : State :=
  match s.entryOfBay b with
  | some e => s.cancelEntry e cause 0
  | none => s

/-! ### Phases -/

/-- Move a bay to a phase with its BAY report; no report when the phase is kept (R101). The report names the boat in
the bay's block as it then stands (log entry 17). R101 gives it two detail values; that the third and the fourth of R219
are 0 is the model's choice (log entry 37). -/
def State.setPhase (s : State) (b : BlockId) (p : Phase) : State :=
  match s.bay b with
  | none => s
  | some y =>
    if y.phase = p then s
    else (s.setBay b { y with phase := p }).append .bay none (some b) (s.entry b).occupant
      (detail y.phase.code p.code)

/-- Change a bay's record without its phase. -/
def State.modBay (s : State) (b : BlockId) (f : Bay → Bay) : State :=
  match s.bay b with
  | none => s
  | some y => s.setBay b (f y)

/-- A weigh at the opening of an attempt's window, with the settings read now (R95, R96). -/
def State.openAttempt (s : State) (kind : WeighKind) (boat : BoatId) (attempt : Nat) : Weigh :=
  let t := s.layout.settings
  { kind, boat, attempt, deadline := s.after t.settleTime, spreadTolerance := t.spreadTolerance,
    tareTolerance := t.tareTolerance, minimumGuestLoad := t.minimumGuestLoad, settleTime := t.settleTime,
    count := 0, sumTotals := 0, sumFronts := 0, least := none, greatest := none }

/-- Start a weigh of the bay's boat and move the bay to its phase (R84, R85, R95). -/
def State.startWeigh (s : State) (b : BlockId) (kind : WeighKind) : State :=
  match (s.entry b).occupant with
  | none => s
  | some x => (s.modBay b fun y => { y with weigh := some (s.openAttempt kind x 1) }).setPhase b kind.phase

/-- The role of a bay. -/
def State.bayRole (s : State) (b : BlockId) : Option BayRole := ((s.record b).bind (·.bay)).map (·.role)

/-- The guests aboard field of the boat in a block. -/
def State.guestsIn (s : State) (b : BlockId) : Bool :=
  match (s.entry b).occupant.bind s.boat with
  | some x => x.guests
  | none => false

/-- BERTHED ends: the entry boundary is dropped and the bay moves by role and guests (R83). -/
def State.endBerthed (s : State) (b : BlockId) : State :=
  let s := s.modBay b fun y => { y with entryEye := none }
  match s.bayRole b with
  | none => s
  | some role =>
    match berthedEndPhase role (s.guestsIn b) with
    | .tareWeigh => s.startWeigh b .tare
    | p => s.setPhase b p

/-- A bay is berthed by an arrival across an eye, or by PLACE BOAT (R82, R83). -/
def State.berth (s : State) (b : BlockId) (eye : Option PointId) : State :=
  match s.bay b with
  | none => s
  | some _ =>
    let s := (s.modBay b fun y => { y with entryEye := eye }).setPhase b .berthed
    match eye with
    | some _ => s
    | none => s.endBerthed b

/-- A bay becomes VACANT: its entry, weigh, entry boundary, return phase and weigh status go (R92, R101). -/
def State.vacateBay (s : State) (b : BlockId) : State :=
  match s.bay b with
  | none => s
  | some _ =>
    let s := s.cancelOfBay b .remove
    let s := s.modBay b fun y => { y with entryEye := none, returnPhase := none, status := none, weigh := none }
    s.setPhase b .vacant

/-- A bay's block became FAULTED with its boat: a weigh in progress is abandoned (R93). -/
def State.bayFaulted (s : State) (b : BlockId) : State :=
  match (s.bay b).bind (·.weigh) with
  | none => s
  | some w => (s.modBay b fun y => { y with weigh := none }).setPhase b w.kind.fromPhase

/-- A release from a bay was taken back: the bay takes its return phase (R91). -/
def State.bayReturn (s : State) (b : BlockId) : State :=
  match s.bay b with
  | none => s
  | some y =>
    match y.phase, y.returnPhase with
    | .released, some p =>
      let s := (s.modBay b fun y => { y with returnPhase := none }).setPhase b p
      if p = .berthed ∧ y.entryEye = none then s.endBerthed b else s
    | _, _ => s

/-- A grant from a bay moves it to RELEASED with its return phase, abandoning a weigh (R90). -/
def State.bayGranted (s : State) (b : BlockId) : State :=
  match s.bay b with
  | none => s
  | some y =>
    (s.setBay b { y with returnPhase := some (returnPhaseOf y.phase), weigh := none }).setPhase b .released

/-- A tail clearance at an eye reaches the bay that recorded it as entry boundary (R83, R90). -/
def State.entryCleared (s : State) (eye : PointId) : State :=
  match allBlocks.find? fun b => (s.bay b).bind (·.entryEye) == some eye with
  | none => s
  | some b =>
    match (s.bay b).map (·.phase) with
    | some Phase.berthed => s.endBerthed b
    | _ => s.modBay b fun y => { y with entryEye := none }

/-! ### Weighing (sections 4.6 to 4.9) -/

/-- A sample taken into a window (R96); a cell bearing 2,000 kg or more reads 2,000 (R94). -/
def Weigh.takeSample (w : Weigh) (frontKg rearKg : Nat) : Weigh :=
  let front := min frontKg 2000
  let total := front + min rearKg 2000
  { w with
    count := w.count + 1
    sumTotals := w.sumTotals + total
    sumFronts := w.sumFronts + front
    least := some (match w.least with | none => total | some n => min n total)
    greatest := some (match w.greatest with | none => total | some n => max n total) }

/-- A weigh ends: the weigh status, the counter and the WEIGH report (R100, R101). -/
def State.endWeigh (s : State) (b : BlockId) (w : Weigh) (outcome : WeighOutcome) (result : Option WeighResult)
    (d2 d3 d4 : Nat) : State :=
  let s := s.modBay b fun y =>
    { y with weigh := none, weighs := satInc Config.counterCeiling y.weighs,
             status := some { kind := w.kind, outcome, result, attempts := w.attempt } }
  s.append .weigh none (some b) (some w.boat) (detail (weighReportCode w.kind outcome) d2 d3 d4)

/-- The enrolled tare of a boat. -/
def State.tareOf (s : State) (x : BoatId) : Nat := ((s.boat x).map (·.tare)).getD 0

/-- A tare weigh with a result (R86, R99). -/
def State.tareResult (s : State) (b : BlockId) (w : Weigh) : State :=
  let mean := meanTotal w
  let share := frontShare w
  let dev := tareDeviation mean (s.tareOf w.boat)
  let deviates := decide (w.tareTolerance < dev)
  let s := s.modBoat w.boat fun x =>
    { x with load := some 0, guests := false, check := deviates, route := if deviates then .storage else x.route }
  let s := s.endWeigh b w (if deviates then .deviation else .ok)
    (some { mean, share, loadOrDeviation := dev }) mean share dev
  let s := if deviates then s.raise .tareDeviation (some b) (some w.boat) (detail) else s
  s.setPhase b (if deviates || s.bayRole b == some .unload then .cleared else .loading)

/-- A load weigh with a result (R87, R98). -/
def State.loadResult (s : State) (b : BlockId) (w : Weigh) : State :=
  let mean := meanTotal w
  let share := frontShare w
  let load := computedLoad mean (s.tareOf w.boat)
  let maxLoad := (((s.record b).bind (·.bay)).map (·.maxLoad)).getD 0
  let outcome := loadOutcome load share maxLoad
  let s := if outcome = .ok then
      s.modBoat w.boat fun x =>
        { x with load := some load, guests := guestsAboard load w.minimumGuestLoad, laps := x.laps + 1 }
    else s
  let s := s.endWeigh b w outcome (some { mean, share, loadOrDeviation := load }) mean share load
  s.setPhase b (if outcome = .ok then .ready else .loading)

/-- The third failed attempt ends the weigh (R88). -/
def State.weighFails (s : State) (b : BlockId) (w : Weigh) (test : Nat) : State :=
  let s := s.endWeigh b w .weighFailed none w.kind.code test w.count
  (s.raise .weighFailed (some b) (some w.boat) (detail)).setPhase b w.kind.fromPhase

/-- A window closes and its attempt is evaluated (R97). -/
def State.closeWindow (s : State) (b : BlockId) (w : Weigh) : State :=
  match attemptFails w with
  | some test =>
    let s := s.modBay b fun y => { y with failures := satInc Config.counterCeiling y.failures }
    if w.attempt < 3 then
      s.modBay b fun y => { y with weigh := some (s.openAttempt w.kind w.boat (w.attempt + 1)) }
    else s.weighFails b w test
  | none =>
    match w.kind with
    | .tare => s.tareResult b w
    | .load => s.loadResult b w

end Sys2Proof.Machine
end

