-- ==== Sys2Proof/Machine/Advance.lean ====
section
/-! DEFINITION. The grant (R30 to R34), the Advance Scheduler (R123 to R128), the Dispatch Queue's candidates (R118),
the Merge Arbiter (R134 to R140), stalls (R50), and the end of an event: switches positioned, grants asked for, brakes
and channels derived, HOLDING settled (log entries 9 and 10). -/

namespace Sys2Proof.Machine

open Sys2Proof

/-! ### Eligibility and candidates -/

/-- The condition of R124 for the kind of a holdable block. -/
def State.kindEligible (s : State) (b : BlockId) (r : BlockRecord) : Bool :=
  match r.kind with
  | .bay => (s.bay b).map (·.phase) == some .cleared
  | .queue =>
    !(r.park && ((s.entry b).occupant.bind s.boat).map (·.route) == some .storage)
  | .launch => ((s.launchRec b).bind (·.headway)).isNone
  | .lift => true
  | .runout => ((s.brake b).map (·.hold)).getD false
  | .switch =>
    match s.switchRec b with
    | some w => w.reading == (s.chosenLeg b).reading && w.move.isNone
    | none => false
  | .run | .trim => false

/-- The boat held in a block is eligible to advance (R124). -/
def State.eligible (s : State) (b : BlockId) : Bool :=
  s.mode == .run && (s.entry b).state == .occupied && (s.entry b).release.isNone &&
  (match s.record b with
   | some r => s.kindEligible b r
   | none => false)

/-- The entry is CONSENTED and its ordering condition holds (R118). -/
def orderedEntry : List DispatchEntry → DispatchEntry → Bool
  | [], _ => false
  | d :: _, e => e.consented && (!e.afterPrevious || d.seq == e.seq)

/-- An entry is a grant candidate (R118). -/
def State.isCandidate (s : State) (e : DispatchEntry) : Bool := s.mode == .run && orderedEntry s.dispatch e

/-- A path block is CLEAR, and so in service (R25, R31). -/
def State.isClear (s : State) (b : BlockId) : Bool := (s.entry b).state == .clear

/-- The conditions of R31 on a block and its path, but for the award of a merge terminal; the path when they hold. -/
def State.readyPath (s : State) (b : BlockId) : Option (List BlockId) :=
  let e := s.entry b
  let confirmed : Bool :=
    match s.layout.kind b with
    | some .switch => (s.switchRec b).map (·.reading) == some (s.chosenLeg b).reading
    | _ => true
  if isRunMode s.mode && e.state == .occupied && e.occupant.isSome && e.release.isNone && confirmed then
    (s.pathFrom b).filter fun p => p.all s.isClear
  else none

/-- Who asks for a grant (R31). -/
inductive Requester where
  | scheduler
  | dispatch (e : DispatchEntry)
  | step
  deriving DecidableEq, Repr

/-- The request in RUN for the boat held in a block, if there is one (R137). -/
def State.requesterOf (s : State) (b : BlockId) : Option Requester :=
  if s.eligible b then some .scheduler
  else (s.dispatch.find? fun e => e.bay == b && s.isCandidate e).map .dispatch

/-! ### The Merge Arbiter -/

/-- The last block of a path. -/
def terminalOf (p : List BlockId) : Option BlockId := p.getLast?

/-- The predecessor across which a path from `b` enters its terminal. -/
def lastBefore (b : BlockId) (p : List BlockId) : BlockId := (b :: p.dropLast).getLast (by simp)

/-- The input of a merge record that a path from `b` comes in by (R12, R137). -/
def MergeRecord.inputOf (r : MergeRecord) (b : BlockId) (p : List BlockId) : Option MergeInput :=
  let q := lastBefore b p
  if r.input0 = q then some .in0 else if r.input1 = q then some .in1 else none

/-- A boat occupies a block of a feeder list and has EXPEDITE set: the table of R136, by which the level falls with the
tail clearance and not with the nose (log entry 33). -/
def State.expeditedIn (s : State) (feeder : List BlockId) : Bool :=
  feeder.any fun b =>
    match (s.entry b).occupant.bind s.boat with
    | some x => x.expedite
    | none => false

/-- The backlog and high flag of an input. -/
def Arbiter.backlog (a : Arbiter) : MergeInput → Nat
  | .in0 => a.backlog0
  | .in1 => a.backlog1

def Arbiter.high (a : Arbiter) : MergeInput → Bool
  | .in0 => a.high0
  | .in1 => a.high1

/-- The level of an input (R136). -/
def State.level (s : State) (r : MergeRecord) (a : Arbiter) (i : MergeInput) : Nat :=
  if s.expeditedIn (r.feeder i) then 3
  else if a.high i then 2
  else if 1 ≤ a.backlog i then 1
  else 0

/-- The ready candidate of an input: its source block, requester and path (R137). -/
def State.candidateAt (s : State) (r : MergeRecord) (i : MergeInput) : Option (BlockId × Requester × List BlockId) :=
  match (r.feeder i).head? with
  | none => none
  | some h =>
    match s.requesterOf h, s.readyPath h with
    | some q, some p =>
      if terminalOf p = some r.mergeBlock ∧ r.inputOf h p = some i then some (h, q, p) else none
    | _, _ => none

/-- The winner of a contest between two ready candidates (R138). -/
def contestWinner (a : Arbiter) (preferred : MergeInput) (level : MergeInput → Nat) : MergeInput :=
  let byLevel :=
    if level .in1 < level .in0 then .in0 else if level .in0 < level .in1 then .in1 else preferred
  match a.holder with
  | some h =>
    if 0 < a.burstRemaining then
      if level h.other = 3 ∧ level h < 3 then h.other else h
    else byLevel
  | none => byLevel

/-- The candidate the arbiter names at a referral: the contest's winner or the lone candidate (R137, R138). -/
def State.arbitrate (s : State) (m : MergeId) (r : MergeRecord) : Option (BlockId × Requester × List BlockId) :=
  match s.candidateAt r .in0, s.candidateAt r .in1 with
  | some c0, some c1 =>
    let a := (s.arbiter m).getD .initial
    match contestWinner a r.preferred (s.level r a) with
    | .in0 => some c0
    | .in1 => some c1
  | some c0, none => some c0
  | none, some c1 => some c1
  | none, none => none

/-- The arbiter record after a grant into its merge block by an input (R139). -/
def Arbiter.afterGrant (a : Arbiter) (burst : Nat) (i : MergeInput) : Arbiter :=
  if a.holder = some i ∧ 0 < a.burstRemaining then { a with burstRemaining := a.burstRemaining - 1 }
  else { a with holder := some i, burstRemaining := burst - 1 }

/-- The bookkeeping of a grant of a path (R139). -/
def State.bookGrant (s : State) (b : BlockId) (p : List BlockId) : State :=
  match (terminalOf p).bind s.layout.mergeAt with
  | none => s
  | some (m, r) =>
    match r.inputOf b p with
    | none => s
    | some i => { s with arbiters := vput s.arbiters m ((s.arbiter m).map (·.afterGrant r.burst i)) }

/-! ### The grant (R33, R34, R90, R119, R120, R127) -/

/-- Reserve the blocks of a path for a boat (R33). -/
def State.reserve (s : State) (x : BoatId) (p : List BlockId) : State :=
  p.foldl (fun t b => t.setEntry b { Entry.bare .reserved with holder := some x }) s

/-- The retries a new release record holds (R33). -/
def kickRetriesOf : Option BlockRecord → Nat
  | some r => ((r.launch).map (·.kickRetries)).getD 0
  | none => 0

/-- A block's transit limit. -/
def State.transitLimit (s : State) (b : BlockId) : Nat := ((s.record b).map (·.transitLimit)).getD 0

/-- A LAUNCH block's launch record at a grant (R127). -/
def State.writeLaunch (s : State) (b : BlockId) : State :=
  match (s.record b).bind (·.launch) with
  | none => s
  | some l =>
    { s with launches := vput s.launches b ((s.launchRec b).map fun _ =>
        { lastLaunch := some s.timeBase, headway := some (s.after (l.headway * 1000)) }) }

/-- What the requester's unit does at the grant, before the bay moves (R119, R120). -/
def State.tellRequester (s : State) (b : BlockId) (q : Requester) (p : List BlockId) : State :=
  match q with
  | .scheduler => s
  | .dispatch e =>
    (s.removeEntry e).dispatchReport e .granted (((terminalOf p).map (·.val)).getD 255) 0
  | .step => s.cancelOfBay b .step

/-- Grant a path from a block to the boat held there (R33). -/
def State.grant (s : State) (b : BlockId) (q : Requester) (p : List BlockId) : State :=
  let e := s.entry b
  match e.occupant with
  | none => s
  | some x =>
    let s := (s.reserve x p).setPath x p
    let s := s.setEntry b
      { e with
        state := .releasing
        transit := some (s.after (s.transitLimit b))
        release := some { path := p, retries := kickRetriesOf (s.record b), frozen := false } }
    let s := (s.firePulse b).modBrake b (·.letGo)
    let s := (s.writeLaunch b).bookGrant b p
    (s.tellRequester b q p).bayGranted b

/-! ### Asking for grants at the end of an event (R118, R125) -/

/-- The blocks whose boats are asked for in RUN: the Advance Scheduler's in ascending number, then the dispatch
candidates' in list order (log entry 10). -/
def State.askers (s : State) : List BlockId :=
  (allBlocks.filter s.eligible) ++ (s.dispatch.filter s.isCandidate).map (·.bay)

/-- The grant that asking for the boat in a block brings, if any (R31, R32). -/
def State.askFor (s : State) (b : BlockId) : Option State :=
  match s.readyPath b, s.requesterOf b with
  | some p, some q =>
    match (terminalOf p).bind s.layout.mergeAt with
    | none => some (s.grant b q p)
    | some (m, r) => (s.arbitrate m r).map fun (h, q', p') => s.grant h q' p'
  | _, _ => none

/-- Ask for every boat until no grant is made; an event grants each block's boat at most once. -/
def grantLoop : (fuel : Nat) → State → State
  | 0, s => s
  | n + 1, s =>
    match s.askers.findSome? s.askFor with
    | some s' => grantLoop n s'
    | none => s

/-- The grants that follow an event in RUN (R118, R125). -/
def State.askAll (s : State) : State := if s.mode = .run then grantLoop 32 s else s

/-! ### Stalls (R50, R56) -/

/-- A release is taken back: the source OCCUPIED, the rest of its path CLEAR, a RUNOUT hold engaged, STALLED raised,
the bay told (R50, R91, R144, R156). -/
def State.stall (s : State) (b : BlockId) : State :=
  let e := s.entry b
  match e.occupant with
  | none => s
  | some x =>
    let p := s.pathOf x
    let s := s.setEntry b { e with state := .occupied, release := none, transit := none }
    let s := (s.clearReserved p).setPath x []
    let s := s.modBrake b fun k =>
      if s.layout.kind b = some .runout then { k with hold := true } else k
    (s.raise .stalled (some b) (some x) (detail)).bayReturn b

/-- RESUME takes a frozen release: commanded again, or taken back as a stall (R56). -/
def State.resumeRelease (s : State) (b : BlockId) : State :=
  let e := s.entry b
  match e.release, e.occupant with
  | some r, some x =>
    if r.frozen then
      if (s.pathOf x).isEmpty then s.stall b
      else
        (s.setEntry b
          { e with
            transit := some (s.after (s.transitLimit b))
            release := some { r with frozen := false, retries := kickRetriesOf (s.record b) } }).firePulse b
    else s
  | _, _ => s

/-- Every frozen release in turn, by rising block number (R56, R192; log entry 31). -/
def State.resumeFrozen (s : State) : State := allBlocks.foldl State.resumeRelease s

/-! ### The end of an event -/

/-- Some entry is RESERVED or RELEASING (R189). -/
def State.moving (s : State) : Bool :=
  allBlocks.any fun b => (s.entry b).state == .reserved || (s.entry b).state == .releasing

/-- HOLDING becomes HELD when no entry is RESERVED or RELEASING (R189). -/
def State.settle (s : State) : State :=
  if s.mode = .holding ∧ s.moving = false then s.changeMode .held .settled else s

/-- The end of every event outside CONFIGURE (R29; log entry 9): switches are positioned, grants asked for, brake
demands and channels derived, HOLDING settled. -/
def State.finish (s : State) : State :=
  if s.mode = .configure then s
  else s.refreshSwitches.askAll.refreshBrakes.refreshChannels.settle

end Sys2Proof.Machine
end

