-- ==== Sys2Proof/Machine/Interlock.lean ====
section
/-! DEFINITION. The Block Interlock's events (sections 2.4 to 2.7), the Boat Roster's tag windows (section 3.6) and the
Trap and Brake Unit's events (chapter 7). Each operation here makes the changes of its event; the meaning that calls it
ends the event with `State.finish`. -/

namespace Sys2Proof.Machine

open Sys2Proof

/-! ### Trap and brake (chapter 7) -/

/-- A stray trap edge is counted (R147). -/
def State.strayTrap (s : State) : State := { s with trapStrays := satInc Config.counterCeiling s.trapStrays }

/-- The zone condition mode and the other brake fields of a block. -/
def State.brakeRec (s : State) (b : BlockId) : Option BrakeSection := (s.record b).bind (·.brake)

/-- An eye 1 edge going to blocked (R145). -/
def State.trapEye1 (s : State) (b : BlockId) : State :=
  match s.brakeRec b, (s.brake b).bind (·.passage) with
  | some r, some p =>
    if p.phase = .armed then
      s.modBrake b fun k =>
        { k with passage := some { p with phase := .timing, eye1 := some s.timeBase,
                                          deadline := some (s.after r.trapTimeout) } }
    else s.strayTrap
  | _, _ => s.strayTrap

/-- Raise the speed clamp fault of a computation (R150, R154). -/
def State.raiseSpeedClamp (s : State) (b : BlockId) (x : BoatId) (r : BrakeResult) (interval : Nat) : State :=
  if r.speedClamped then s.raise .speedClamp (some b) (some x) (detail interval) else s

/-- Raise the margin fault of a computation (R153, R154). -/
def State.raiseMargin (s : State) (b : BlockId) (x : BoatId) (r : BrakeResult) : State :=
  if r.margin then s.raise .brakeMargin (some b) (some x) (detail r.raw r.force) else s

/-- The brake record after a computation (R154, R156, R158); `stopDelay` in ms is absent for a TRIM. -/
def Brake.computed (k : Brake) (r : BrakeSection) (p : Passage) (c : BrakeResult) (stopDelay : Option Nat)
    (now : Time) : Brake :=
  { k with
    passage := some { p with phase := .done, deadline := none }
    lastSpeed := some c.speed
    lastDecel := some c.decel
    lastLevel := some c.applied
    hold := (stopDelay == some 0) || k.hold
    stopDelay := match stopDelay with
      | some (n + 1) => some (now + msSpan (n + 1))
      | _ => none
    zone := zoneAfter r.zoneMode k.zone { trapFault := false, clamped := c.clamped, margin := c.margin } }

/-- The mass for braking of a boat (R66). -/
def State.massOf (s : State) (x : BoatId) : Nat :=
  match s.boat x with
  | some t => brakingMass t s.layout.settings.unweighedAllowance
  | none => 0

/-- The brake level computation in the event of the eye 2 edge (R154). -/
def State.brakeEvent (s : State) (b : BlockId) (r : BrakeSection) (p : Passage) (eye1 : Time) : State :=
  let interval := (s.timeBase - eye1).toNat
  let c := brakeCompute r interval (s.massOf p.boat)
  let s := s.modBrake b fun k => k.computed r p c ((s.record b).bind (·.stopDelay)) s.timeBase
  let s := s.modBoat p.boat fun x => { x with lastSpeed := some c.speed }
  let s := s.append .brake none (some b) (some p.boat) (detail c.speed c.decel c.applied (brakeFlagsCode c))
  (s.raiseSpeedClamp b p.boat c interval).raiseMargin b p.boat c

/-- An eye 2 edge going to blocked (R146). -/
def State.trapEye2 (s : State) (b : BlockId) : State :=
  match s.brakeRec b, (s.brake b).bind (·.passage) with
  | some r, some p =>
    match p.phase, p.eye1 with
    | .timing, some t => s.brakeEvent b r p t
    | _, _ => s.strayTrap
  | _, _ => s.strayTrap

/-- The eye a passage misses: 1 in ARMED, 2 in TIMING (R148). -/
def Passage.missingEye (p : Passage) : Nat := if p.phase = .armed then 1 else 2

/-- A passage ends in TRAP_FAULT (R148, R149); the hold engages where `engage` says so. -/
def State.trapFails (s : State) (b : BlockId) (r : BrakeSection) (p : Passage) (engage : Bool) : State :=
  let s := s.modBrake b fun k =>
    { k with
      passage := some p.finish
      hold := engage || k.hold
      lastLevel := some 15
      zone := zoneAfter r.zoneMode k.zone { trapFault := true, clamped := false, margin := false } }
  s.raise .trapFault (some b) (some p.boat) (detail p.missingEye 15)

/-- A boat leaves a brake block's trap unmeasured (R149). -/
def State.trapUnmeasured (s : State) (b : BlockId) : State :=
  match s.brakeRec b, (s.brake b).bind (·.passage) with
  | some r, some p => if p.phase = .done then s else s.trapFails b r p false
  | _, _ => s

/-- A passage opens at a normal arrival into a brake block (R144). -/
def State.openPassage (s : State) (b : BlockId) (x : BoatId) : State :=
  match s.brakeRec b with
  | none => s
  | some r =>
    s.modBrake b fun k =>
      { k with passage := some { boat := x, phase := .armed, eye1 := none, deadline := some (s.after r.trapTimeout) } }

/-- A PLACE BOAT into a RUNOUT block opens a passage DONE and engages the hold (R144, R156). -/
def State.placePassage (s : State) (b : BlockId) (x : BoatId) : State :=
  s.modBrake b fun k =>
    { k with passage := some { boat := x, phase := .done, eye1 := none, deadline := none }, hold := true,
             stopDelay := none }

/-! ### Tag windows (section 3.6) -/

def State.setTagWindow (s : State) (p : PortId) (w : Option TagWindow) : State :=
  { s with tagWindows := vput s.tagWindows p w }

/-- A window opens at a normal arrival across a read main exit (R72). -/
def State.openTagWindow (s : State) (p : BlockId) (leg : Leg) (x : BoatId) : State :=
  match leg, (s.record p).bind (·.tagPort), s.boat x with
  | .main, some port, some t =>
    s.setTagWindow port (some { boat := x, block := p, expected := t.tagCode, resolved := false })
  | _, _, _ => s

/-- The port whose window is on a block's main exit. -/
def State.windowPort (s : State) (p : BlockId) : Option PortId :=
  (List.finRange 4).find? fun q => (vget s.tagWindows q).map (·.block) == some p

/-- A tail clearance ends the window of its boundary; one still AWAITING raises TAG_MISSING (R74). -/
def State.endTagWindow (s : State) (p : BlockId) (leg : Leg) : State :=
  match leg, s.windowPort p with
  | .main, some port =>
    match vget s.tagWindows port with
    | none => s
    | some w =>
      let s := s.setTagWindow port none
      if w.resolved then s
      else s.raise .tagMissing (some p) (some w.boat) (detail w.expected port.val)
  | _, _ => s

/-- The slot enrolled with a tag code. -/
def State.slotOfCode (s : State) (code : Nat) : Option BoatId :=
  allBoats.find? fun x => (s.boat x).map (·.tagCode) == some code

/-- A tag read that is discarded and counted (R73). -/
def State.discardTag (s : State) : State := { s with tagDiscards := satInc Config.counterCeiling s.tagDiscards }

/-- A tag read taken against its port's window (R73); reads in CONFIGURE and on unassigned ports are not taken
(R165). -/
def State.takeTag (s : State) (port : PortId) (code : Nat) : State :=
  if s.mode = .configure ∨ s.layout.portAssigned port = false then s
  else
    match vget s.tagWindows port with
    | none => s.discardTag
    | some w =>
      if w.resolved then s.discardTag
      else
        let s := s.setTagWindow port (some { w with resolved := true })
        if code = w.expected then s
        else s.raise .tagMismatch (some w.block) (some w.boat)
          (detail w.expected code (((s.slotOfCode code).map (·.val)).getD 255) port.val)

/-! ### Nose arrivals (section 2.4) -/

/-- A fault of the Block Interlock or Drive Supervisor that makes a block FAULTED: the block, then the fault, then the
bay's phase (R54, R93, R196; log entry 11). -/
def State.faultAt (s : State) (k : FaultKind) (b : BlockId) (boat : Option BoatId) (d : Details) : State :=
  (((s.faultBlock b)).raise k (some b) boat d).bayFaulted b

/-- A PASSAGE report (R219): outcome, boundary event, upstream block, passages count. -/
def State.passageReport (s : State) (block : BlockId) (boat : Option BoatId) (outcome event : Nat) (p : BlockId)
    (count : Nat) : State :=
  s.append .passage none (some block) boat (detail outcome event p.val count)

/-- A RELEASING predecessor of `p` with nose-at-exit whose occupant is `x` (R41, case 5 of R37). -/
def State.overlapped (s : State) (p : BlockId) (x : BoatId) : Bool :=
  (s.layout.predecessors p).any fun u =>
    (s.entry u).occupant == some x && (s.entry u).state == .releasing

/-- The record of a boat in a FAULTED block it has left ends (R43). -/
def State.endFaultedRecord (s : State) (u : BlockId) : State :=
  (s.modEntry u fun e => { e with occupant := none, nose := false }).vacateBay u

/-- The FAULTED blocks other than `p` that record a boat (R43). -/
def State.faultedRecords (s : State) (p : BlockId) (x : BoatId) : List BlockId :=
  allBlocks.filter fun u => u != p && (s.entry u).state == .faulted && (s.entry u).occupant == some x

/-- The entry of P after a normal arrival out of it (R42, R44). -/
def Entry.leftBy (e : Entry) (clearance : Time) : Entry :=
  { e with
    nose := true
    transit := none
    clearance := if e.state = .releasing then some clearance else none
    release := e.release.map fun r => { r with frozen := false } }

/-- The entry of S after a normal arrival into it (R42). -/
def enteredEntry (x : BoatId) (holdable atTerminal : Bool) (transit : Time) : Entry :=
  { Entry.bare (if holdable && atTerminal then .occupied else .releasing) with
    occupant := some x
    transit := if holdable then none else some transit }

/-- The block is the merge block of a filled merge slot (R70). -/
def State.isMergeBlock (s : State) (b : BlockId) : Bool := (s.layout.mergeAt b).isSome

/-- A boat's path list and position after its nose enters a block (R42). -/
def Slot.advance (b : BlockId) : Slot → Slot
  | .onTrack x _ p => .onTrack x b p.tail
  | t => t

/-- A block's clearance limit. -/
def State.clearanceLimit (s : State) (b : BlockId) : Nat := ((s.record b).map (·.clearanceLimit)).getD 0

/-- The block table and the roster at a normal nose arrival (R42, R44). -/
def State.moveNose (s : State) (p n : BlockId) (x : BoatId) : State :=
  let holdable := s.layout.holdable n
  let terminal := (s.pathOf x).getLast? == some n
  let s := s.setEntry n (enteredEntry x holdable terminal (s.after (s.transitLimit n)))
  let s := s.setSlot x ((s.slot x).advance n)
  s.modEntry p fun e => e.leftBy (s.after (s.clearanceLimit p))

/-- A normal nose arrival at P→S (R42 to R44, R70, R72, R82, R144). The bays whose FAULTED record of the boat ends (R43)
become VACANT, by rising block number, before the bay entered is berthed (log entry 35). -/
def State.normalArrival (s : State) (p n : BlockId) (leg : Leg) (eye : PointId) (x : BoatId) : State :=
  let s := s.moveNose p n x
  let count := satInc Config.counterCeiling (vget s.passages n)
  let s := { s with passages := vput s.passages n count }
  let s := s.passageReport n (some x) 0 0 p count
  let s := (s.faultedRecords p x).foldl State.endFaultedRecord s
  let s := if s.isMergeBlock n then s.modBoat x fun t => { t with expedite := false } else s
  let s := (s.openTagWindow p leg x).openPassage n x
  if (s.entry n).state = BlockState.occupied then s.berth n (some eye) else s

/-- Case 7 of R37 waits for the boat: S is RESERVED for X and at the front of X's path list, and P is X's position (R27,
R30; log entry 34). -/
def State.expects (s : State) (p n : BlockId) (x : BoatId) : Bool :=
  (s.entry n).state == .reserved && (s.entry n).holder == some x && (s.slot x).position == some p &&
  (s.pathOf x).head? == some n

/-- A nose arrival at the exit `leg` of P (R37 to R42). -/
def State.noseArrival (s : State) (p : BlockId) (leg : Leg) (eye : PointId) : State :=
  match s.layout.successor p leg with
  | none => s
  | some n =>
    let ep := s.entry p
    let en := s.entry n
    if en.state = .faulted then s.passageReport n ep.occupant 1 0 p 0
    else if en.state = .outOfService then s.raise .unexpectedArrival (some n) ep.occupant (detail)
    else if ep.state = .occupied then s.faultAt .unreleasedDeparture p ep.occupant (detail)
    else
      match ep.occupant with
      | none => s.faultAt .unexpectedArrival n none (detail)
      | some x =>
        if s.overlapped p x then s.faultAt .boundaryOverlap p (some x) (detail)
        else if s.expects p n x then s.normalArrival p n leg eye x
        else s.faultAt .unexpectedArrival n (some x) (detail)

/-! ### Tail clearances (section 2.5) -/

/-- The clearance ends a crossing (R46). -/
def State.endsCrossing (s : State) (p n : BlockId) : Bool :=
  let e := s.entry p
  e.state == .releasing && e.nose && (e.occupant.bind fun x => (s.slot x).position) == some n

/-- A tail clearance at the exit `leg` of P (R45 to R47, R74, R83, R92, R149). Of the faults of one clearance
STRAY_CLEARANCE is taken before TAG_MISSING and TAG_MISSING before TRAP_FAULT (R196; log entry 32). The bay left becomes
VACANT before the bay entered ends BERTHED (log entry 35). -/
def State.tailClearance (s : State) (p : BlockId) (leg : Leg) (eye : PointId) : State :=
  match s.layout.successor p leg with
  | none => s
  | some n =>
    let e := s.entry p
    if e.state = .faulted then
      ((s.passageReport p e.occupant 1 1 p 0).endTagWindow p leg).entryCleared eye
    else if s.endsCrossing p n then
      ((((s.setEntry p (.bare .clear)).endTagWindow p leg).trapUnmeasured p).vacateBay p).entryCleared eye
    else
      ((s.raise .strayClearance (some p) e.occupant (detail)).endTagWindow p leg).entryCleared eye

/-! ### Deadlines of the block table (section 2.6) -/

/-- The transit deadline of a releasing holdable block (R48). -/
def State.transitEvent (s : State) (b : BlockId) (deadline : Time) : State :=
  let e := s.entry b
  match e.release with
  | some r =>
    if s.layout.kind b = some .launch ∧ 0 < r.retries then
      (s.setEntry b
        { e with transit := some (deadline + msSpan (s.transitLimit b)),
                 release := some { r with retries := r.retries - 1 } }).firePulse b
    else s.stall b
  | none => s.stall b

/-! ### Field inputs (section 8.1) -/

/-- The switch reading follows its position points; a move whose target it names ends there (R130, R132). -/
def State.positionEdge (s : State) (b : BlockId) : State :=
  match (s.record b).bind (·.switch) with
  | none => s
  | some r =>
    let reading := readingOf (s.point r.mainPosition).level (s.point r.spurPosition).level
    s.modSwitch b fun w =>
      match w.move with
      | some (leg, _) =>
        if reading = leg.reading then { w with reading, move := none, held := some leg } else { w with reading }
      | none => { w with reading }

/-- An accepted edge is delivered to the unit its point is assigned to; none in CONFIGURE (R163). A feedback edge is
compared where the channels are derived (R174). -/
def State.deliverEdge (s : State) (p : PointId) (on : Bool) : State :=
  if s.mode = .configure then s
  else
    match s.layout.pointUse p with
    | none => s
    | some (.exitEye b leg) => if on then s.noseArrival b leg p else s.tailClearance b leg p
    | some (.trapEye1 b) => if on then s.trapEye1 b else s
    | some (.trapEye2 b) => if on then s.trapEye2 b else s
    | some (.feedback _) => s
    | some (.position b) => s.positionEdge b

/-- A change is accepted: the conditioned level takes the seen level, the edge is delivered, the event ends (R162,
R163). -/
def State.acceptLevel (s : State) (p : PointId) : State :=
  let q := s.point p
  ((s.setPoint p { q with level := q.seen, pending := none }).deliverEdge p q.seen).finish

/-- A raw level changes at a sample (R162). -/
def State.rawSample (s : State) (p : PointId) (on : Bool) : State :=
  let q := s.point p
  if q.raw = on then s
  else
    let q := { q with raw := on }
    let s := s.setPoint p q
    if q.seen = q.level then
      match q.pending with
      | some _ => s.setPoint p { q with pending := none, glitches := satInc Config.counterCeiling q.glitches }
      | none => s
    else
      match q.pending with
      | some _ => s
      | none => if q.filter = 0 then s.acceptLevel p else s.setPoint p { q with pending := some (s.after q.filter) }

end Sys2Proof.Machine
end

