-- ==== Sys2Proof/Machine/Reading.lean ====
section
/-! DEFINITION. The data of the READ requests (R19, R58, R79, R102, R122, R141, R160, R177, R200, R217, R222, R225), laid
out by R218. Reading changes no state; only READ REPORTS moves its link's cursor. -/

namespace Sys2Proof.Machine

open Sys2Proof

/-! ### READ STATUS (R217) -/

/-- The pending slot in READ STATUS. -/
def slotBytes (now : Time) : Option PendingSlot → List Byte
  | none => b1 255 ++ b2 65535 ++ b1 255 ++ b2 0
  | some p => b1 p.request.code ++ o2 p.generation ++ b1 p.link.code ++ b2 (remainingMs now p.deadline)

/-- The fault record in READ STATUS. -/
def faultBytes : Option FaultRecord → List Byte
  | none => b1 255 ++ b1 255 ++ b1 255 ++ b1 255 ++ b4 0
  | some f =>
    b1 f.kind.code ++ b1 f.cls.code ++ o1 (f.block.map (·.val)) ++ o1 (f.boat.map (·.val)) ++ timeBytes f.time

/-- A link in READ STATUS. -/
def portBytes (now : Time) (p : LinkPort) : List Byte :=
  flagByte p.up ++ b1 p.queue.length ++
  b2 (match p.supervision with | some v => remainingMs now v.deadline | none => 0)

def State.statusData (s : State) : List Byte :=
  b1 s.mode.code ++ b1 s.mc.runMode.toMode.code ++ flagByte s.mc.permit ++ flagByte s.mc.stopActive ++
  slotBytes s.timeBase s.mc.slot ++ faultBytes s.mc.fault ++ b1 s.mc.further ++ b2 s.layout.generation ++
  b1 s.rate.toNat ++
  portBytes s.timeBase s.ports.a ++ portBytes s.timeBase s.ports.b ++ portBytes s.timeBase s.ports.s

/-! ### READ LAYOUT (R19) -/

def State.layoutData (s : State) : LayoutPart → List Byte
  | .outcome =>
    let (check, block) := s.layout.validate.getD (0, 255)
    b2 s.layout.generation ++ b1 check ++ b1 block
  | .block b =>
    match s.record b with
    | some r => recordBytes b r
    | none => b1 b.val
  | .merge m =>
    match s.layout.merge m with
    | some r => mergeBytes m r
    | none => b1 m.val
  | .settings => settingsBytes s.layout.settings
  | .windows => windowsBytes s.windows.a ++ windowsBytes s.windows.b ++ windowsBytes s.windows.s

/-! ### READ BLOCK (R58, R102, R141, R160, R177, R218) -/

/-- The time remaining of an optional deadline in two bytes. -/
def rem2 (now : Time) (d : Option Time) : List Byte := o2 (d.map (remainingMs now))

/-- The time remaining of an optional deadline in three bytes. -/
def rem3 (now : Time) (d : Option Time) : List Byte := o3 (d.map (remainingMs now))

def releaseBytes (r : Release) : List Byte := blockListBytes r.path ++ b1 r.retries ++ flagByte r.frozen

/-- Part 0: the block table entry and the passages count (R58). -/
def State.entryData (s : State) (b : BlockId) : List Byte :=
  let e := s.entry b
  b1 b.val ++ o1 ((s.layout.kind b).map (·.code)) ++ b1 e.state.code ++ o1 (e.occupant.map (·.val)) ++
  o1 (e.holder.map (·.val)) ++ flagByte e.nose ++ rem2 s.timeBase e.transit ++ rem2 s.timeBase e.clearance ++
  optRecord (e.release.map releaseBytes) ++ b3 (vget s.passages b)

def weighStatusBytes (w : WeighStatus) : List Byte :=
  b1 w.kind.code ++ b1 w.outcome.code ++ o2 (w.result.map (·.mean)) ++ o1 (w.result.map (·.share)) ++
  o2 (w.result.map (·.loadOrDeviation)) ++ b1 w.attempts

/-- A weigh in READ BLOCK; the sample count has no stated range and is shown in two bytes (log entry 16). -/
def weighBytes (now : Time) (w : Weigh) : List Byte :=
  b1 w.kind.code ++ b1 w.attempt ++ b2 (remainingMs now w.deadline) ++ b2 (min w.count 65534)

/-- The items R102 adds for a BAY; in CONFIGURE those of a bay that is VACANT. -/
def State.bayData (s : State) (b : BlockId) : List Byte :=
  let held := (s.bay b).getD (Bay.vacant 0 0)
  let y := if s.mode = .configure then Bay.vacant held.weighs held.failures else held
  b1 y.phase.code ++ o1 (y.entryEye.map (·.val)) ++ o1 (y.returnPhase.map (·.code)) ++
  optRecord (y.status.map weighStatusBytes) ++ optRecord (y.weigh.map (weighBytes s.timeBase)) ++
  b3 y.weighs ++ b3 y.failures

/-- The boat of a RESERVED merge terminal comes in by another predecessor than `q` (R141). -/
def State.reservedByOther (s : State) (m q : BlockId) : Bool :=
  match (s.entry m).holder with
  | none => false
  | some y =>
    let way := ((s.slot y).position).toList ++ s.pathOf y
    (way.zip way.tail).any fun (a, c) => c == m && a != q

/-- Every condition of R31 holds but the merge terminal, RESERVED for a boat of the other input (R141). -/
def State.waitsForMerge (s : State) (b : BlockId) (p : List BlockId) : Bool :=
  match terminalOf p with
  | none => false
  | some m =>
    s.isMergeBlock m && p.dropLast.all s.isClear && (s.entry m).state == .reserved &&
    s.reservedByOther m (lastBefore b p)

/-- The advance status: 0 NOT_RUN, 1 NOT_HELD, 2 INELIGIBLE, 3 WAITING_MERGE, 4 WAITING_PATH, 5 ELIGIBLE (R141). -/
def State.advanceStatus (s : State) (b : BlockId) : Nat :=
  if s.mode ≠ .run then 0
  else if (s.entry b).state ≠ .occupied then 1
  else if s.eligible b = false then 2
  else
    match s.pathFrom b with
    | none => 4
    | some p => if s.waitsForMerge b p then 3 else if (s.readyPath b).isNone then 4 else 5

/-- The launch items of R141. -/
def State.launchData (s : State) (b : BlockId) : List Byte :=
  let r := (s.launchRec b).getD { lastLaunch := none, headway := none }
  optRecord (r.lastLaunch.map timeBytes) ++ b1 (if r.headway.isSome then 0 else 1) ++ rem3 s.timeBase r.headway

/-- A switch is locked while its block is RESERVED or RELEASING (R133). -/
def State.locked (s : State) (b : BlockId) : Bool :=
  (s.entry b).state == .reserved || (s.entry b).state == .releasing

/-- The switch items of R141; a SWITCH with no switch record shows the reading NONE and no move (log entry 25). The leg
chosen for no occupant is carried as 255, the none of R218, where R222 also gives a leg the code 2 NONE (log entry 15). -/
def State.switchData (s : State) (b : BlockId) : List Byte :=
  let w := (s.switchRec b).getD { reading := .none, move := none, held := none }
  b1 w.reading.code ++ o1 ((s.entry b).occupant.map fun _ => (s.chosenLeg b).code) ++ flagByte (s.locked b) ++
  optRecord (w.move.map fun (leg, d) => b1 leg.code ++ b2 (remainingMs s.timeBase d))

/-- The items of one input of a merge block (R141). -/
def State.inputData (s : State) (r : MergeRecord) (a : Arbiter) (i : MergeInput) : List Byte :=
  b1 (a.backlog i) ++ flagByte (a.high i) ++ b1 (s.level r a i) ++ flagByte (s.candidateAt r i).isSome

/-- The merge items of R141. -/
def State.mergeData (s : State) (b : BlockId) : List Byte :=
  match s.layout.mergeAt b with
  | none => []
  | some (m, r) =>
    let a := (s.arbiter m).getD .initial
    o1 (a.holder.map (·.code)) ++ b1 a.burstRemaining ++ s.inputData r a .in0 ++ s.inputData r a .in1

def passageBytes (now : Time) (p : Passage) : List Byte :=
  b1 p.boat.val ++ b1 p.phase.code ++ optRecord (p.eye1.map timeBytes) ++ rem2 now p.deadline

/-- The brake record READ BLOCK shows: in CONFIGURE a passage, hold and stop delay are none and the demand is the stored
idle level (R160). -/
def State.shownBrake (s : State) (b : BlockId) (r : BrakeSection) : Brake :=
  let fresh : Brake :=
    { passage := none, demand := r.idleLevel, hold := false, stopDelay := none, lastSpeed := none,
      lastDecel := none, lastLevel := none, zone := .empty }
  match s.brake b with
  | none => fresh
  | some k =>
    if s.mode = .configure then
      { k with passage := none, demand := r.idleLevel, hold := false, stopDelay := none }
    else k

/-- The brake items of R160. -/
def State.brakeData (s : State) (b : BlockId) (r : BrakeSection) (isRunout : Bool) : List Byte :=
  let k := s.shownBrake b r
  b1 k.demand ++ (if isRunout then flagByte k.hold ++ rem2 s.timeBase k.stopDelay else []) ++
  optRecord (k.passage.map (passageBytes s.timeBase)) ++
  o2 k.lastSpeed ++ o2 k.lastDecel ++ o1 k.lastLevel ++ b1 r.zoneMode.code ++ b1 k.zone.code

/-- Part 1: the items R102, R141 and R160 add, in that order (R218). -/
def State.unitsData (s : State) (b : BlockId) : List Byte :=
  b1 b.val ++
  match s.record b with
  | none => []
  | some r =>
    (if r.kind = .bay then s.bayData b else []) ++
    (if holdableKind r.kind then b1 (s.advanceStatus b) else []) ++
    (if r.kind = .launch then s.launchData b else []) ++
    (if r.kind = .switch then s.switchData b else []) ++
    s.mergeData b ++
    (match r.brake with
     | some k => s.brakeData b k (r.kind = .runout)
     | none => [])

/-- The conditioned level of a point in a byte. -/
def State.levelByte (s : State) (p : PointId) : List Byte := flagByte (s.point p).level

/-- The drive items of R177 for a block with a drive channel. -/
def State.channelData (s : State) (b : BlockId) (r : BlockRecord) (d : DriveSection) : List Byte :=
  let c := s.channel d.channel
  b1 d.channel.val ++ b1 c.command.code ++
  (if r.kind = .launch then rem2 s.timeBase c.pulse else []) ++
  o1 (d.feedback.map fun p => (s.point p).level.toNat) ++ o1 (c.expectation.map Bool.toNat) ++
  rem2 s.timeBase c.check ++
  (if r.kind = .switch then
     rem2 s.timeBase c.position ++ o1 (((s.switchRec b).bind (·.held)).map (·.code))
   else [])

/-- Part 2: the items R177 adds (R218). -/
def State.driveData (s : State) (b : BlockId) : List Byte :=
  b1 b.val ++
  match s.record b with
  | none => []
  | some r =>
    (match r.drive with
     | some d => s.channelData b r d
     | none => []) ++
    s.levelByte r.mainEye ++
    (match r.switch with
     | some w => s.levelByte w.spurEye
     | none => []) ++
    (match r.brake with
     | some k => s.levelByte k.eye1 ++ s.levelByte k.eye2
     | none => [])

def State.blockData (s : State) (b : BlockId) : BlockPart → List Byte
  | .entry => s.entryData b
  | .units => s.unitsData b
  | .drive => s.driveData b

/-! ### READ BOAT (R79) -/

/-- The fields READ BOAT gives of an enrolled boat. -/
def State.enrolledBytes (s : State) (t : Boat) (position : Option BlockId) (path : List BlockId) : List Byte :=
  b3 t.tagCode ++ b2 t.tare ++ o2 t.load ++ flagByte t.guests ++ o1 (position.map (·.val)) ++
  blockListBytes path ++ b1 t.route.code ++ flagByte t.check ++ flagByte t.expedite ++ b3 t.laps.toNat ++
  o2 t.lastSpeed ++ b2 (brakingMass t s.layout.settings.unweighedAllowance)

def State.boatData (s : State) (x : BoatId) : List Byte :=
  b1 x.val ++
  match s.slot x with
  | .unused => b1 0
  | .absent t => b1 1 ++ s.enrolledBytes t none []
  | .onTrack t p path => b1 2 ++ s.enrolledBytes t (some p) path

/-! ### READ QUEUE (R122) -/

/-- The timer mark: 0 RUNNING, 1 SUSPENDED, 2 STOPPED (R122). -/
def ConsentTimer.mark : ConsentTimer → Nat
  | .running _ => 0
  | .suspended _ => 1
  | .stopped => 2

/-- The time remaining of a consent timer in ms rounded up (R122). -/
def ConsentTimer.remaining (now : Time) : ConsentTimer → Nat
  | .running d => remainingMs now d
  | .suspended r => msUp r
  | .stopped => 0

/-- The state byte of an entry (R122). -/
def DispatchEntry.stateByte (e : DispatchEntry) : Nat :=
  e.afterPrevious.toNat + 2 * consentsCode e.consentA e.consentB + 8 * e.consented.toNat + 16 * e.timer.mark

def DispatchEntry.bytes (e : DispatchEntry) (now : Time) : List Byte :=
  [e.seq] ++ b1 e.bay.val ++ b1 e.boat.val ++ b1 e.stateByte ++ timeBytes e.timerStart ++ b2 (e.timer.remaining now)

def State.queueData (s : State) : List Byte :=
  b1 s.dispatch.length ++ [s.nextDispatch] ++ s.dispatch.flatMap fun e => e.bytes s.timeBase

/-! ### READ COUNTERS (R225) -/

def LinkPort.counterBytes (p : LinkPort) : List Byte :=
  b2 p.goodFrames ++ b2 p.checkErrors ++ b2 p.overruns ++ b2 p.truncated ++ b2 p.breaks

def State.counterData (s : State) : CounterPart → List Byte
  | .links => s.ports.a.counterBytes ++ s.ports.b.counterBytes ++ s.ports.s.counterBytes
  | .passages start => (List.range 16).flatMap fun i => b2 (vget s.passages (Fin.ofNat 32 (start + i)))
  | .glitches start => (List.range 16).flatMap fun i => b2 (s.point (Fin.ofNat 96 (start + i))).glitches
  | .bays => allBlocks.flatMap fun b =>
      match s.bay b with
      | some y => b1 b.val ++ b2 y.weighs ++ b2 y.failures
      | none => []
  | .whole => b2 s.tagDiscards ++ b2 s.trapStrays ++ b1 (s.reader .a).skipped ++ b1 (s.reader .b).skipped ++
      b1 (s.reader .s).skipped
  | .commands => (List.finRange 32).flatMap fun c => b1 (s.channel c).command.code

/-! ### READ REPORTS (R222) -/

/-- A report entry in 23 bytes (R222). -/
def Report.bytes (e : Report) : List Byte :=
  b2 e.seq.toNat ++ b1 e.kind.code ++ o1 (e.fault.map (·.1.code)) ++ o1 (e.fault.map (·.2.code)) ++
  timeBytes e.time ++ o1 (e.block.map (·.val)) ++ o1 (e.boat.map (·.val)) ++
  b3 e.details.d1 ++ b3 e.details.d2 ++ b3 e.details.d3 ++ b3 e.details.d4

/-- The entries a READ REPORTS returns: the oldest unread, at most `most` and at most 2; none on a DOWN link. -/
def State.unreadFor (s : State) (l : Link) (most : Nat) : List Report :=
  if s.up l then (s.reports.ring.drop (s.reader l).cursor).take (min most 2) else []

def State.reportsData (s : State) (l : Link) (most : Nat) : List Byte :=
  let es := s.unreadFor l most
  b1 es.length ++ b1 (s.reader l).skipped ++ es.flatMap Report.bytes

/-- READ REPORTS moves the cursor past the entries returned, clears the skipped count, frees what every UP link has
read and evaluates the link's line (R220, R222, R223). -/
def State.advanceCursor (s : State) (l : Link) (most : Nat) : State :=
  let r := s.reader l
  let s := s.setReader l { r with cursor := r.cursor + (s.unreadFor l most).length, skipped := 0 }
  if s.up l then
    let s := s.freeEntries
    s.setReader l ((s.reader l).evaluate s.timeBase true s.reports.ring)
  else s

end Sys2Proof.Machine
end

