-- ==== Sys2Proof/Machine/ModeControl.lean ====
section
/-! DEFINITION. The Mode Controller's requests (sections 9.2 to 9.5): preconditions, the pending slot, carrying a change
out, the set-up of every unit at ENTER STANDBY, RESTART and ENTER CONFIGURE, HOLD and HALT. -/

namespace Sys2Proof.Machine

open Sys2Proof

/-- What a request is answered with (R211). -/
structure Reply where
  status : Status
  data : List Byte
  deriving DecidableEq, Repr

/-- A refusal with no data. -/
def Reply.bare (st : Status) : Reply := { status := st, data := [] }

/-- OK with data. -/
def Reply.okWith (data : List Byte) : Reply := { status := .ok, data }

/-- OK with no data. -/
def Reply.ok : Reply := .okWith []

/-- STATE with a reason and a block, 255 where the rule names none (R218). -/
def Reply.reason (code : Nat) (block : Option BlockId) : Reply :=
  { status := .state, data := b1 code ++ o1 (block.map (·.val)) }

/-! ### Set-up (R11, R28, R61, R80, R103, R123, R130, R134, R142, R167, R172) -/

/-- The block table as it is set up (R11, R28). -/
def State.setupTable (s : State) : State :=
  { s with table := vmap (fun b _ => Entry.bare (s.layout.setupState b)) s.table }

/-- The bays taken at ENTER STANDBY: counters kept where the block was a bay before (R80). -/
def State.takeBays (s : State) : State :=
  { s with bays := vmap (fun b y =>
      if s.layout.kind b = some .bay then
        some (Bay.vacant ((y.map (·.weighs)).getD 0) ((y.map (·.failures)).getD 0))
      else none) s.bays }

/-- A launch record for each LAUNCH block (R123). -/
def State.takeLaunches (s : State) : State :=
  { s with launches := vmap (fun b _ =>
      if s.layout.kind b = some .launch then some { lastLaunch := none, headway := none } else none) s.launches }

/-- An arbiter record for each filled merge slot (R134). -/
def State.takeArbiters (s : State) : State :=
  { s with arbiters := vmap (fun m _ => (s.layout.merge m).map fun _ => Arbiter.initial) s.arbiters }

/-- A switch record with no move, its reading from the points, its held leg from the reading (R130, R172). -/
def State.freshSwitch (s : State) (r : SwitchSection) : SwitchRecord :=
  let reading := readingOf (s.point r.mainPosition).level (s.point r.spurPosition).level
  { reading, move := none, held := reading.leg }

/-- A switch record for each SWITCH block. -/
def State.takeSwitches (s : State) : State :=
  { s with switches := vmap (fun b _ => ((s.record b).bind (·.switch)).map s.freshSwitch) s.switches }

/-- A brake record as it is set up (R142). -/
def Brake.fresh (r : BrakeSection) : Brake :=
  { passage := none, demand := r.idleLevel, hold := false, stopDelay := none, lastSpeed := none,
    lastDecel := none, lastLevel := none, zone := .empty }

/-- A brake record for each brake block. -/
def State.takeBrakes (s : State) : State :=
  { s with brakes := vmap (fun b _ => ((s.record b).bind (·.brake)).map Brake.fresh) s.brakes }

/-- The block whose record names a drive channel. -/
def LayoutStore.ownerOf (L : LayoutStore) (c : ChannelId) : Option BlockId :=
  allBlocks.find? fun b => ((L.record b).bind (·.drive)).map (·.channel) == some c

/-- Every channel with its owner by the layout; its command follows at the end of the event (R167). -/
def State.takeChannels (s : State) : State :=
  { s with channels := vmap (fun c _ => { Channel.unowned with owner := s.layout.ownerOf c }) s.channels }

/-- Every unit set up from the validated layout at ENTER STANDBY (R186). -/
def State.setUp (s : State) : State :=
  s.setupTable.takeBays.takeLaunches.takeArbiters.takeSwitches.takeBrakes.takeChannels

/-- A slot at RESTART and ENTER CONFIGURE (R61). -/
def Slot.offTrack : Slot → Slot
  | .unused => .unused
  | .absent x => .absent { x with load := none }
  | .onTrack x _ _ => .absent { x with load := none }

/-- A brake record at RESTART and ENTER CONFIGURE (R142). -/
def Brake.reset (k : Brake) : Brake := { k with passage := none, hold := false, stopDelay := none }

/-- A bay at RESTART and ENTER CONFIGURE, but for its phase (R80). -/
def Bay.dropped (y : Bay) : Bay := { y with entryEye := none, returnPhase := none, status := none, weigh := none }

/-- What RESTART and ENTER CONFIGURE make of the boats, the block table, the tag windows, the dispatch list, the launch
and arbiter records, the brakes and the bays' records (R187). -/
def State.forget (s : State) : State :=
  { s.setupTable with
    roster := vmap (fun _ t => t.offTrack) s.roster
    tagWindows := Vector.replicate 4 none
    dispatch := []
    launches := vmap (fun _ (r : Option LaunchRecord) =>
      r.map fun _ => { lastLaunch := none, headway := none }) s.launches
    arbiters := vmap (fun _ (a : Option Arbiter) => a.map fun _ => Arbiter.initial) s.arbiters
    brakes := vmap (fun _ (k : Option Brake) => k.map (·.reset)) s.brakes
    bays := vmap (fun _ (y : Option Bay) => y.map (·.dropped)) s.bays }

/-- Every bay VACANT, with its BAY reports in block order (R80, R101; log entry 18). -/
def State.vacateAll (s : State) : State := allBlocks.foldl (fun t b => t.setPhase b .vacant) s

/-- A switch record at RESTART: no move, the held leg from the reading (R130, R172). -/
def SwitchRecord.restarted (w : SwitchRecord) : SwitchRecord := { w with move := none, held := w.reading.leg }

/-- A switch record at ENTER CONFIGURE: no move, the held leg kept unused (R130, section 8.6). -/
def SwitchRecord.idled (w : SwitchRecord) : SwitchRecord := { w with move := none }

/-- A channel at RESTART: its owner kept; its command and expectation follow at the end of the event (R167). -/
def Channel.restarted (c : Channel) : Channel :=
  { c with pulse := none, expectation := none, check := none, position := none }

/-- RESTART on the units (R187). -/
def State.restartUnits (s : State) : State :=
  let s := s.forget.vacateAll
  { s with switches := vmap (fun _ (w : Option SwitchRecord) => w.map (·.restarted)) s.switches,
           channels := vmap (fun _ c => c.restarted) s.channels }

/-- ENTER CONFIGURE on the units: every channel loses its owner, a move is discarded and the held leg kept unused, the
brake demands take the idle level (R142, R167, R187). -/
def State.configureUnits (s : State) : State :=
  let s := s.forget.vacateAll
  State.refreshBrakes
    { s with switches := vmap (fun _ (w : Option SwitchRecord) => w.map (·.idled)) s.switches,
             channels := Vector.replicate 32 .unowned }

/-! ### Mode requests (R180 to R185) -/

/-- The mode a request leads to when carried out in a mode (R180). -/
def ModeReq.target (m : ModeReq) (mode : Mode) (runMode : RunMode) : Mode :=
  match m with
  | .enterStandby | .restart => .standby
  | .enterRun => .run
  | .enterManual => .manual
  | .enterConfigure => .configure
  | .resume => if mode = .halted then .holding else runMode.toMode

/-- Carry a mode change out (R185 to R187, R192). -/
def State.carryOut (s : State) (m : ModeReq) : State :=
  let halted := decide (s.mode = .halted)
  let s := (s.setMc { s.mc with slot := none }).changeMode (m.target s.mode s.mc.runMode) .request
  match m with
  | .enterStandby => s.setUp.finish
  | .restart => s.restartUnits.finish
  | .enterConfigure => s.configureUnits
  | .enterRun | .enterManual => s.finish
  | .resume => if halted then s.resumeFrozen.finish else s.finish

/-- The lowest-numbered UNVERIFIED block (R181). -/
def State.firstUnverified (s : State) : Option BlockId :=
  allBlocks.find? fun b => (s.entry b).state == .unverified

/-- The preconditions of ENTER STANDBY (R181, R20). -/
def State.standbyRefusal (s : State) (generation : Option Nat) : Option Reply :=
  if generation ≠ some s.layout.generation then some { status := .stale, data := b2 s.layout.generation }
  else s.layout.validate.map fun (check, block) => { status := .state, data := b1 check ++ b1 block }

/-- The preconditions of ENTER RUN, ENTER MANUAL and RESUME (R181). -/
def State.startRefusal (s : State) : Option Reply :=
  if s.mc.stopActive then some (.reason 0 none)
  else s.firstUnverified.map fun b => .reason 1 (some b)

/-- The first precondition a mode request fails, as its refusal (R181). -/
def State.modeRefusal (s : State) (m : ModeReq) (generation : Option Nat) : Option Reply :=
  match m with
  | .enterStandby => s.standbyRefusal generation
  | .enterRun | .enterManual | .resume => s.startRefusal
  | .enterConfigure | .restart => none

/-- A slot filled from now (R182). -/
def State.slotFor (s : State) (m : ModeReq) (generation : Option Nat) (l : ControlLink) : PendingSlot :=
  { request := m, generation, link := l, deadline := s.after s.layout.settings.consentWindow }

/-- Open or replace the slot (R182, R199). -/
def State.openSlot (s : State) (m : ModeReq) (generation : Option Nat) (l : ControlLink) : Reply × State :=
  (.bare .pending,
   (s.setMc { s.mc with slot := some (s.slotFor m generation l) }).modeReport .opened m.code l.code
     (generation.getD 0))

/-- Refresh the slot (R182). -/
def State.refreshSlot (s : State) (p : PendingSlot) : Reply × State :=
  (.bare .pending,
   s.setMc { s.mc with slot := some { p with deadline := s.after s.layout.settings.consentWindow } })

/-- A request that does not match the other link's slot discards it (R183, R199). -/
def State.mismatchSlot (s : State) (p : PendingSlot) (m : ModeReq) (l : ControlLink) : Reply × State :=
  ({ status := .mismatch, data := b1 p.request.code ++ b1 p.link.code },
   (s.setMc { s.mc with slot := none }).modeReport .mismatch p.request.code m.code l.code)

/-- A mode request past its preconditions, decided against the slot (R182, R183). -/
def State.decideSlot (s : State) (l : ControlLink) (m : ModeReq) (generation : Option Nat) : Reply × State :=
  match s.mc.slot with
  | none => s.openSlot m generation l
  | some p =>
    let same := decide (p.request = m ∧ p.generation = generation)
    if p.link = l then
      if same then s.refreshSlot p else s.openSlot m generation l
    else if same then
      (.okWith (b1 (m.target s.mode s.mc.runMode).code), s.carryOut m)
    else s.mismatchSlot p m l

/-- The ride-control link of a link, none for Link S. -/
def controlLink : Link → Option ControlLink
  | .a => some .a
  | .b => some .b
  | .s => none

/-- A mode request at its owner (R181 to R183). Link S is refused by its role before this. -/
def State.modeRequest (s : State) (l : Link) (m : ModeReq) (generation : Option Nat) : Reply × State :=
  match controlLink l, s.modeRefusal m generation with
  | none, _ => (.bare .notPermitted, s)
  | some _, some refusal => (refusal, s)
  | some c, none => s.decideSlot c m generation

/-! ### HOLD and HALT (R188, R190) -/

/-- A HOLD request (R188). -/
def State.holdRequest (s : State) : Reply × State :=
  if isRunMode s.mode then (.okWith (b1 Mode.holding.code), (s.enterHolding .holdRequest).finish)
  else (.okWith (b1 s.mode.code), s)

/-- The modes a HALT is entered from (R190). -/
def haltable : Mode → Bool
  | .run | .manual | .holding | .held => true
  | .configure | .standby | .halted => false

/-- A HALT request (R190). -/
def State.haltRequest (s : State) : Reply × State :=
  if haltable s.mode then (.okWith (b1 Mode.halted.code), (s.enterHalted .haltRequest).finish)
  else (.okWith (b1 s.mode.code), s)

end Sys2Proof.Machine
end

