-- ==== Sys2Proof/Machine/LayoutOwners.lean ====
section
/-! DEFINITION. The layout writes (R16, R17, R164, R215, R18) and the service requests of the Mode Controller, the brake
unit, the counters and the Report Queue (R159, R198, R224, R225). -/

namespace Sys2Proof.Machine

open Sys2Proof

/-! ### Layout writes -/

/-- The Layout Store after an accepted layout write (R18). -/
def State.bumpGeneration (s : State) : State :=
  { s with layout := { s.layout with generation := nextGeneration s.layout.generation } }

/-- The response of an accepted layout write: OK with the new generation (R16, R17, R164, R215). -/
def State.wrote (s : State) : Reply × State :=
  let s := s.bumpGeneration
  (.okWith (b2 s.layout.generation), s)

/-- WRITE BLOCK: a record is replaced whole, or removed (R16). -/
def State.writeBlock (s : State) (b : BlockId) (r : Option BlockRecord) : Reply × State :=
  State.wrote { s with layout := { s.layout with blocks := vput s.layout.blocks b r } }

/-- WRITE MERGE: a slot is replaced whole, or emptied (R17). -/
def State.writeMerge (s : State) (m : MergeId) (r : Option MergeRecord) : Reply × State :=
  State.wrote { s with layout := { s.layout with merges := vput s.layout.merges m r } }

/-- WRITE SETTINGS: the seven settings together (R17). -/
def State.writeSettings (s : State) (t : Settings) : Reply × State :=
  State.wrote { s with layout := { s.layout with settings := t } }

/-- A link's windows with one of them replaced (R215). -/
def Windows.write (w : Windows) (second : Bool) (x : Window) : Windows :=
  if second then { w with w1 := x } else { w with w0 := x }

/-- WRITE WINDOW (R215). -/
def State.writeWindow (s : State) (l : Link) (second : Bool) (x : Window) : Reply × State :=
  State.wrote { s with windows := s.windows.put l ((s.windows.get l).write second x) }

/-- A point after WRITE POINT (R164). -/
def Point.write (q : Point) (invert : Bool) (filter : Nat) : Point :=
  { q with invert, filter, pending := none, level := q.raw != invert }

/-- WRITE POINT (R164). -/
def State.writePoint (s : State) (p : PointId) (invert : Bool) (filter : Nat) : Reply × State :=
  (s.setPoint p ((s.point p).write invert filter)).wrote

/-! ### Fault record, zone condition, counters, attention -/

/-- CLEAR FAULT: the kind recorded or none, and the count before clearing, an item of 0..255 and so of two bytes (R197,
R198, R218). -/
def State.clearFault (s : State) : Reply × State :=
  (.okWith (o1 (s.mc.fault.map (·.kind.code)) ++ b2 s.mc.further),
   s.setMc { s.mc with fault := none, further := 0 })

/-- CLEAR ZONE CONDITION (R159). -/
def State.clearZone (s : State) (b : BlockId) : Reply × State :=
  match s.brake b with
  | none => (.bare .state, s)
  | some _ => (.ok, s.modBrake b fun k => { k with zone := .empty })

/-- A link's counters at 0 (R225). -/
def LinkPort.clearCounters (p : LinkPort) : LinkPort :=
  { p with goodFrames := 0, checkErrors := 0, overruns := 0, truncated := 0, breaks := 0 }

/-- CLEAR COUNTERS: every counter of R225, and no other count. -/
def State.clearCounters (s : State) : Reply × State :=
  (.ok,
   { s with
     passages := Vector.replicate 32 0
     ports := { a := s.ports.a.clearCounters, b := s.ports.b.clearCounters, s := s.ports.s.clearCounters }
     points := vmap (fun _ (q : Point) => { q with glitches := 0 }) s.points
     bays := vmap (fun _ (y : Option Bay) => y.map fun y => { y with weighs := 0, failures := 0 }) s.bays
     tagDiscards := 0
     trapStrays := 0 })

/-- SET ATTENTION: the set and interval of the link it is on; its line is evaluated at once (R224). -/
def State.setAttention (s : State) (l : Link) (kinds : Byte) (interval : Nat) : Reply × State :=
  let r := { s.reader l with attention := kinds, interval := interval }
  (.ok, s.setReader l (r.evaluate s.timeBase (s.up l) s.reports.ring))

/-- READ REPORTS: the data as it stands, then the link's cursor moves (R222). -/
def State.readReports (s : State) (l : Link) (most : Nat) : Reply × State :=
  (.okWith (s.reportsData l most), s.advanceCursor l most)

end Sys2Proof.Machine
end

