-- ==== Sys2Proof/Machine/CensusOwners.lean ====
section
/-! DEFINITION. The census and recovery requests (R75 to R78, R194, R195) and the roster's requests (R62, R63, R68 to
R70). -/

namespace Sys2Proof.Machine

open Sys2Proof

/-! ### Census and recovery -/

/-- VERIFY CLEAR (R75). -/
def State.verifyClear (s : State) (b : BlockId) : Reply × State :=
  match (s.entry b).state with
  | .unverified => (.ok, (s.setEntry b (.bare .clear)).finish)
  | .clear => (.ok, s)
  | _ => (.bare .state, s)

/-- The boat of an ABSENT slot. -/
def Slot.absentBoat : Slot → Option Boat
  | .absent x => some x
  | _ => none

/-- PLACE BOAT's conditions on the block (R76). -/
def State.placeable (s : State) (b : BlockId) : Bool :=
  s.layout.holdable b && ((s.entry b).state == .unverified || (s.entry b).state == .clear)

/-- The block entry, roster record, brake record and bay of an accepted PLACE BOAT (R77, R82, R144, R156). -/
def State.place (s : State) (x : BoatId) (t : Boat) (b : BlockId) (guests : Bool) : State :=
  let s := s.setEntry b { Entry.bare .occupied with occupant := some x }
  let s := s.setSlot x (.onTrack { t with guests, load := if guests then none else some 0 } b [])
  (s.placePassage b x).berth b none

/-- PLACE BOAT (R76, R77). -/
def State.placeBoat (s : State) (x : BoatId) (b : BlockId) (guests : Bool) : Reply × State :=
  match (s.slot x).absentBoat with
  | none => (.bare .state, s)
  | some t => if s.placeable b then (.ok, (s.place x t b guests).finish) else (.bare .state, s)

/-- The block has the boat as occupant or reservation holder. -/
def Entry.has (e : Entry) (x : BoatId) : Bool := e.occupant == some x || e.holder == some x

/-- An entry that loses the boat removed (R78). -/
def Entry.without (e : Entry) : Entry :=
  match e.state with
  | .occupied | .releasing | .reserved => .bare .clear
  | st => .bare st

/-- A brake record at the removal of a boat: its passage goes; where the boat was the block's occupant the hold and
the stop delay go too (R149, R156). -/
def Brake.removed (k : Brake) (x : BoatId) (occupant : Bool) : Brake :=
  { k with
    passage := k.passage.filter fun p => p.boat != x
    hold := k.hold && !occupant
    stopDelay := if occupant then none else k.stopDelay }

/-- The tag window is another boat's (R74). -/
def TagWindow.notOf (x : BoatId) (w : TagWindow) : Bool := w.boat != x

/-- REMOVE BOAT for an ON_TRACK boat (R78, R92, R120). A boat that is occupant of two bays vacates them by rising block
number, each with its CANCELED report directly before its BAY report (log entry 35). -/
def State.remove (s : State) (x : BoatId) (t : Boat) : State :=
  let held := allBlocks.filter fun b => (s.entry b).occupant == some x
  let losing := allBlocks.filter fun b => (s.entry b).has x
  let s := losing.foldl (fun u b => u.modEntry b (·.without)) s
  let s := s.setSlot x (.absent { t with load := none })
  let s := { s with
    brakes := vmap (fun b k => k.map fun k => k.removed x (held.contains b)) s.brakes
    tagWindows := vmap (fun _ (w : Option TagWindow) => w.filter (TagWindow.notOf x)) s.tagWindows }
  held.foldl State.vacateBay s

/-- REMOVE BOAT (R78). -/
def State.removeBoat (s : State) (x : BoatId) : Reply × State :=
  match s.slot x with
  | .unused => (.bare .state, s)
  | .absent _ => (.ok, s)
  | .onTrack t _ _ => (.ok, (s.remove x t).finish)

/-- RESTORE BLOCK (R194). -/
def State.restoreBlock (s : State) (b : BlockId) : Reply × State :=
  if (s.entry b).state = .faulted ∧ (s.entry b).occupant = none then
    (.ok, (s.setEntry b (.bare .clear)).finish)
  else (.bare .state, s)

/-- SET SERVICE, out (R195). -/
def State.takeOut (s : State) (b : BlockId) : Reply × State :=
  match (s.entry b).state with
  | .clear | .unverified => (.ok, (s.setEntry b (.bare .outOfService)).finish)
  | .outOfService => (.ok, s)
  | _ => (.bare .state, s)

/-- SET SERVICE, in (R195). -/
def State.putIn (s : State) (b : BlockId) : Reply × State :=
  if s.layout.defined b = false then (.bare .state, s)
  else if (s.entry b).state = .outOfService then (.ok, (s.setEntry b (.bare .unverified)).finish)
  else (.ok, s)

/-- SET SERVICE (R195). -/
def State.setService (s : State) (b : BlockId) (into : Bool) : Reply × State :=
  if into then s.putIn b else s.takeOut b

/-! ### The roster -/

/-- A boat as it is enrolled (R62). -/
def Boat.enrolled (code tare : Nat) : Boat :=
  { tagCode := code, tare, load := none, guests := false, route := .station, check := false, expedite := false,
    laps := 0, lastSpeed := none }

/-- ENROLL (R62). -/
def State.enroll (s : State) (x : BoatId) (code tare : Nat) : Reply × State :=
  if s.slot x ≠ .unused then (.bare .state, s)
  else
    match s.slotOfCode code with
    | some y => ({ status := .duplicate, data := b1 y.val }, s)
    | none => (.ok, s.setSlot x (.absent (.enrolled code tare)))

/-- RETIRE (R63). -/
def State.retire (s : State) (x : BoatId) : Reply × State :=
  match (s.slot x).absentBoat with
  | some _ => (.ok, s.setSlot x .unused)
  | none => (.bare .state, s)

/-- A move toward another leg than the one now chosen, with the reading already on the chosen leg, is discarded in RUN
and MANUAL (R131; log entry 20). -/
def State.rechoose (s : State) (b : BlockId) (w : SwitchRecord) : SwitchRecord :=
  let leg := s.chosenLeg b
  if isRunMode s.mode && (s.entry b).state == .occupied && w.reading == leg.reading &&
      w.move.map (·.1) != some leg then
    w.dropMove
  else w

/-- A boat's new route, with the switch of the block it is held in (R68, R131). -/
def State.reroute (s : State) (x : BoatId) (r : Route) : State :=
  let s := s.modBoat x fun t => { t with route := r }
  { s with switches := vmap (fun b w =>
      w.map fun w => if (s.entry b).occupant = some x then s.rechoose b w else w) s.switches }

/-- SET ROUTE (R68). -/
def State.setRoute (s : State) (x : BoatId) (r : Route) : Reply × State :=
  match s.boat x with
  | none => (.bare .state, s)
  | some t => (.ok, if t.route = r then s else (s.reroute x r).finish)

/-- SET EXPEDITE (R70). -/
def State.setExpedite (s : State) (x : BoatId) (v : Bool) : Reply × State :=
  match s.boat x with
  | none => (.bare .state, s)
  | some _ => (.ok, s.modBoat x fun t => { t with expedite := v })

/-- CLEAR CHECK (R69). -/
def State.clearCheck (s : State) (x : BoatId) : Reply × State :=
  match s.boat x with
  | none => (.bare .state, s)
  | some _ => (.ok, s.modBoat x fun t => { t with check := false })

end Sys2Proof.Machine
end

