-- ==== Sys2Proof/Machine/StationOwners.lean ====
section
/-! DEFINITION. The station requests (R84, R85), the Dispatch Queue's requests (R106 to R111) and STEP (R193). -/

namespace Sys2Proof.Machine

open Sys2Proof

/-- The outcome of UNLOADED or LOADED on a bay: `phase` is the phase it is taken in (R84, R85). -/
def State.declare (s : State) (b : BlockId) (phase : Phase) (kind : WeighKind) : Reply × State :=
  match s.bay b with
  | none => (.bare .state, s)
  | some y =>
    if (s.entry b).state = .faulted then (.bare .state, s)
    else if y.phase = .tareWeigh ∨ y.phase = .loadWeigh then (.bare .busy, s)
    else if y.phase = phase then (.ok, s.startWeigh b kind)
    else (.bare .state, s)

/-- UNLOADED (R84). -/
def State.unloaded (s : State) (b : BlockId) : Reply × State := s.declare b .unloading .tare

/-- LOADED (R85). -/
def State.loaded (s : State) (b : BlockId) : Reply × State := s.declare b .loading .load

/-- The first value from `c` on that no entry of the list holds (R105). -/
def freeSeq (es : List DispatchEntry) : (fuel : Nat) → Byte → Byte
  | 0, c => c
  | n + 1, c => if es.any fun e => e.seq == c then freeSeq es n (c + 1) else c

/-- The entry an accepted DISPATCH makes (R107). -/
def State.newEntry (s : State) (b : BlockId) (x : BoatId) (afterPrevious : Bool) : DispatchEntry :=
  { seq := s.nextDispatch, bay := b, boat := x, afterPrevious, consentA := false, consentB := false,
    timerStart := s.timeBase, timer := s.freshTimer }

/-- An accepted DISPATCH (R105, R107, R121). -/
def State.queueDispatch (s : State) (b : BlockId) (x : BoatId) (afterPrevious : Bool) : State :=
  let e := s.newEntry b x afterPrevious
  let es := s.dispatch ++ [e]
  let s := { s with dispatch := es, nextDispatch := freeSeq es 256 (s.nextDispatch + 1) }
  (s.dispatchReport e .queued afterPrevious.toNat es.length).setPhase b .dispatchQueued

/-- DISPATCH, past the checks of the Request Checker (R106). -/
def State.dispatchRequest (s : State) (b : BlockId) (afterPrevious : Bool) : Reply × State :=
  match s.bay b, s.entryOfBay b, (s.entry b).occupant with
  | none, _, _ => (.bare .state, s)
  | some _, some e, _ => ({ status := .duplicate, data := [e.seq] }, s)
  | some _, none, none => (.bare .state, s)
  | some y, none, some x =>
    if (s.entry b).state = .faulted then (.bare .state, s)
    else if y.phase ≠ .ready then (.bare .state, s)
    else if Config.dispatchCapacity ≤ s.dispatch.length then (.bare .queueFull, s)
    else (.okWith [s.nextDispatch], s.queueDispatch b x afterPrevious)

/-- CANCEL (R111). -/
def State.cancelRequest (s : State) (l : Link) (seq : Byte) : Reply × State :=
  match s.entryOfSeq seq with
  | none => (.bare .state, s)
  | some e => (.ok, ((s.cancelEntry e .request (linkCode l)).setPhase e.bay .ready).finish)

/-- A consent of a ride-control link is given (R104). -/
def DispatchEntry.given (e : DispatchEntry) : ControlLink → Bool
  | .a => e.consentA
  | .b => e.consentB

/-- An entry with a link's consent recorded; its timer stops when both are given (R108, R109). -/
def DispatchEntry.give (e : DispatchEntry) (l : ControlLink) : DispatchEntry :=
  let e := match l with
    | .a => { e with consentA := true }
    | .b => { e with consentB := true }
  if e.consented then { e with timer := .stopped } else e

/-- Replace an entry of the list by its sequence number. -/
def State.putEntry (s : State) (e : DispatchEntry) : State :=
  { s with dispatch := s.dispatch.map fun d => if d.seq = e.seq then e else d }

/-- An entry's state in response data: 0 AWAITING_CONSENT, 1 CONSENTED (R108, R122). -/
def DispatchEntry.stateCode (e : DispatchEntry) : Nat := e.consented.toNat

/-- CONSENT DISPATCH on an entry in the list (R108, R109). -/
def State.consentTo (s : State) (l : ControlLink) (e : DispatchEntry) : Reply × State :=
  if e.given l then (.okWith (b1 e.stateCode), s)
  else
    let e' := e.give l
    let s := s.putEntry e'
    (.okWith (b1 e'.stateCode),
     if e'.consented then (s.dispatchReport e' .consented l.code 0).finish else s)

/-- CONSENT DISPATCH (R108). Link S is refused by its role before this. -/
def State.consentRequest (s : State) (l : Link) (seq : Byte) : Reply × State :=
  match controlLink l, s.entryOfSeq seq with
  | none, _ => (.bare .notPermitted, s)
  | some _, none => (.bare .state, s)
  | some c, some e => s.consentTo c e

/-- DENY DISPATCH (R110). Link S is refused by its role before this. -/
def State.denyRequest (s : State) (l : Link) (seq : Byte) : Reply × State :=
  match controlLink l, s.entryOfSeq seq with
  | none, _ => (.bare .notPermitted, s)
  | some _, none => (.bare .state, s)
  | some c, some e =>
    (.ok, (((s.removeEntry e).dispatchReport e .denied c.code 0).setPhase e.bay .ready).finish)

/-- The switch of a block does not let its boat step: the reading is not the chosen leg or a move is under way
(R193). -/
def State.switchBars (s : State) (b : BlockId) : Bool :=
  match s.layout.kind b, s.switchRec b with
  | some .switch, some w => w.reading != (s.chosenLeg b).reading || w.move.isSome
  | some .switch, none => true
  | _, _ => false

/-- The block is a BAY whose boat has guests aboard (R193). -/
def State.guestsBar (s : State) (b : BlockId) : Bool :=
  s.layout.kind b == some .bay && s.guestsIn b

/-- STEP (R193). -/
def State.stepRequest (s : State) (b : BlockId) : Reply × State :=
  if (s.entry b).state ≠ .occupied then (.reason 2 none, s)
  else if s.guestsBar b then (.reason 3 none, s)
  else if s.switchBars b then (.reason 4 none, s)
  else
    match s.pathFrom b with
    | none => (.reason 5 none, s)
    | some p =>
      match p.find? fun c => !s.isClear c with
      | some c => (.reason 5 (some c), s)
      | none => (.okWith (blockListBytes p), (s.grant b .step p).finish)

end Sys2Proof.Machine
end

