-- ==== Sys2Proof/Machine/Requests.lean ====
section
/-! DEFINITION. The Request Checker (R211 to R216, section 10.7) and the taking of a request (R208): checks, owner,
response. -/

namespace Sys2Proof.Machine

open Sys2Proof

/-! ### Checks -/

/-- The role check (R213). -/
def roleAllows (l : Link) (r : Req) : Bool :=
  match l with
  | .a | .b => true
  | .s =>
    match r with
    | .unloaded | .loaded | .dispatch | .cancel | .setExpedite | .hold | .halt | .setAttention | .readLayout
    | .readStatus | .readBlock | .readBoat | .readQueue | .readReports | .readCounters => true
    | _ => false

/-- The modes in which the catalogue takes a request (section 10.7). -/
def takenIn (r : Req) (m : Mode) : Bool :=
  match r with
  | .writeBlock | .writeMerge | .writeSettings | .writeWindow | .writePoint | .enterStandby => m == .configure
  | .enterRun => m == .standby || m == .manual || m == .held
  | .enterManual => m == .run || m == .held
  | .enterConfigure => m == .standby || m == .halted
  | .resume => m == .held || m == .halted
  | .verifyClear | .placeBoat | .removeBoat | .restoreBlock | .setService =>
    m == .standby || m == .held || m == .halted
  | .enroll | .retire => m == .configure || m == .standby
  | .restart | .unloaded | .loaded | .dispatch | .cancel | .consentDispatch | .denyDispatch
  | .clearZoneCondition => m != .configure
  | .step => m == .manual
  | .readLayout | .hold | .halt | .setRoute | .setExpedite | .clearCheck | .clearFault | .readStatus | .readBlock
  | .readBoat | .readQueue | .readReports | .readCounters | .clearCounters | .setAttention => true

/-- The block a request is window-checked against, if it is block-addressed and one exists (R216). -/
def State.windowBlock (s : State) : Call → Option BlockId
  | .writeBlock b _ | .verifyClear b | .placeBoat _ b _ | .restoreBlock b | .setService b _ | .unloaded b
  | .loaded b | .dispatch b _ | .step b | .clearZone b => some b
  | .removeBoat x => (s.slot x).position
  | .cancel seq | .consent seq | .deny seq => (s.entryOfSeq seq).map (·.bay)
  | _ => none

/-- The window check (R214, R216). -/
def State.inWindow (s : State) (l : Link) (c : Call) : Bool :=
  match s.windowBlock c with
  | some b => (s.windows.get l).holds b
  | none => true

/-- A BAD_ARGUMENT refusal: the offset as one byte, or no data when the length is wrong (R211). -/
def badArgument (offset : Option Nat) : Reply :=
  { status := .badArgument, data := match offset with
      | some i => b1 i
      | none => [] }

/-! ### Owners -/

/-- The owning unit carries a request out or refuses it (R212, check 6). -/
def State.own (s : State) (l : Link) : Call → Reply × State
  | .writeBlock b r => s.writeBlock b r
  | .writeMerge m r => s.writeMerge m r
  | .writeSettings t => s.writeSettings t
  | .writeWindow k second w => s.writeWindow k second w
  | .writePoint p invert filter => s.writePoint p invert filter
  | .readLayout part => (.okWith (s.layoutData part), s)
  | .modeRequest m g => s.modeRequest l m g
  | .hold => s.holdRequest
  | .halt => s.haltRequest
  | .verifyClear b => s.verifyClear b
  | .placeBoat x b g => s.placeBoat x b g
  | .removeBoat x => s.removeBoat x
  | .restoreBlock b => s.restoreBlock b
  | .setService b v => s.setService b v
  | .enroll x code tare => s.enroll x code tare
  | .retire x => s.retire x
  | .setRoute x r => s.setRoute x r
  | .setExpedite x v => s.setExpedite x v
  | .clearCheck x => s.clearCheck x
  | .unloaded b => s.unloaded b
  | .loaded b => s.loaded b
  | .dispatch b v => s.dispatchRequest b v
  | .cancel seq => s.cancelRequest l seq
  | .consent seq => s.consentRequest l seq
  | .deny seq => s.denyRequest l seq
  | .step b => s.stepRequest b
  | .clearFault => s.clearFault
  | .clearZone b => s.clearZone b
  | .readStatus => (.okWith s.statusData, s)
  | .readBlock b part => (.okWith (s.blockData b part), s)
  | .readBoat x => (.okWith (s.boatData x), s)
  | .readQueue => (.okWith s.queueData, s)
  | .readReports most => s.readReports l most
  | .readCounters part => (.okWith (s.counterData part), s)
  | .clearCounters => s.clearCounters
  | .setAttention kinds interval => s.setAttention l kinds interval

/-- A known request through the checks, in the order of R212, to its owner. -/
def State.decide (s : State) (l : Link) (r : Req) (args : List Byte) : Reply × State :=
  if roleAllows l r = false then (.bare .notPermitted, s)
  else
    match readArgs r args with
    | .error offset => (badArgument offset, s)
    | .ok c =>
      if takenIn r s.mode = false then (.bare .mode, s)
      else if s.inWindow l c = false then (.bare .window, s)
      else s.own l c

/-! ### Taking and answering (R208) -/

/-- The response to a request begins to be sent (R202, R208). -/
def State.answer (s : State) (l : Link) (code tag : Byte) (r : Reply) : State :=
  s.setPort l { s.port l with sending := some { code := code + 128, tag, status := r.status, data := r.data } }

/-- A known request is taken, decided and answered in one event (R208). -/
def State.serve (s : State) (l : Link) (r : Req) (tag : Byte) (args : List Byte) : State :=
  let (reply, s') := s.decide l r args
  s'.answer l (BitVec.ofNat 8 r.code) tag reply

/-- A frame is taken: its code names a request of the catalogue, or is answered UNKNOWN_REQUEST (R212, check 1). -/
def State.serveFrame (s : State) (l : Link) (f : Frame) : State :=
  match Req.ofCode f.code.toNat with
  | some r => s.serve l r f.tag f.args
  | none => s.answer l f.code f.tag (.bare .unknownRequest)

/-- A frame joins the request queue where it holds fewer than 2; a partner that sends on against a negated ready line
is not heard (R203, R207; log entry 5). -/
def State.enqueue (s : State) (l : Link) (f : Frame) : State :=
  let p := s.port l
  if p.ready then s.setPort l { p with queue := p.queue ++ [f] } else s

/-- A request put to a link: taken at once while no response is being sent, else it waits in the request queue (R208;
log entry 5). -/
def State.present (s : State) (l : Link) (r : Req) (tag : Byte) (args : List Byte) : State :=
  if (s.port l).sending.isNone then s.serve l r tag args
  else s.enqueue l { code := BitVec.ofNat 8 r.code, tag, args }

/-- A request whose code the catalogue lacks, put to a link. -/
def State.presentUnknown (s : State) (l : Link) (code tag : Byte) (args : List Byte) : State :=
  if (s.port l).sending.isNone then s.serveFrame l { code, tag, args }
  else s.enqueue l { code, tag, args }

end Sys2Proof.Machine
end

