-- ==== Sys2Proof/Machine/Links.lean ====
section
/-! DEFINITION. The Link Ports (R203 to R210): characters, frames, losses, breaks, supervision, and the taking of the
frames that wait. -/

namespace Sys2Proof.Machine

open Sys2Proof

/-! ### Characters and frames (R204, R205) -/

/-- A counter of R225 goes up by one. -/
def countUp (n : Nat) : Nat := satInc Config.counterCeiling n

/-- The newest character of a FIFO takes a loss mark (R205). -/
def markNewest : List Character → List Character
  | [] => []
  | [c] => [{ c with lost := true }]
  | c :: cs => c :: markNewest cs

/-- A character reaches the receive FIFO, or is lost (R201, R205). -/
def LinkPort.receive (p : LinkPort) (byte : Byte) (marker : Bool) : LinkPort :=
  if p.fifo.length < Config.fifoCapacity then { p with fifo := p.fifo ++ [{ byte, marker, lost := false }] }
  else { p with fifo := markNewest p.fifo }

/-- The sum of a frame's bytes, modulo 256 (R202). -/
def byteSum (bytes : List Byte) : Byte := bytes.foldl (· + ·) 0

/-- The request a complete frame carries (R202). -/
def frameOf (bytes : List Byte) : Frame :=
  { code := bytes.getD 0 0, tag := bytes.getD 1 0, args := (bytes.drop 3).dropLast }

/-- A complete frame is judged (R204). -/
def LinkPort.judge (p : LinkPort) (a : Assembly) : LinkPort × Option Frame :=
  let p := { p with assembly := none }
  if a.overrun then ({ p with overruns := countUp p.overruns }, none)
  else if byteSum a.bytes ≠ 0 then ({ p with checkErrors := countUp p.checkErrors }, none)
  else if 128 ≤ (a.bytes.getD 0 0).toNat then ({ p with checkErrors := countUp p.checkErrors }, none)
  else (p, some (frameOf a.bytes))

/-- A marker character begins a frame; a partial frame is counted (R204). -/
def LinkPort.beginFrame (p : LinkPort) (byte : Byte) : LinkPort :=
  let p := match p.assembly with
    | none => p
    | some a =>
      if a.overrun then { p with overruns := countUp p.overruns } else { p with truncated := countUp p.truncated }
  { p with assembly := some { bytes := [byte], overrun := false } }

/-- A character without marker is added to a frame under assembly (R204). -/
def LinkPort.extendFrame (p : LinkPort) (a : Assembly) (byte : Byte) : LinkPort × Option Frame :=
  let a := { a with bytes := a.bytes ++ [byte] }
  if a.bytes.length = 3 ∧ Config.maxFrameData < byte.toNat then
    ({ p with assembly := none, checkErrors := countUp p.checkErrors }, none)
  else if 3 ≤ a.bytes.length ∧ a.bytes.length = 4 + (a.bytes.getD 2 0).toNat then p.judge a
  else ({ p with assembly := some a }, none)

/-- A character taken from the FIFO, but for its loss mark (R204). -/
def LinkPort.takeByte (p : LinkPort) (byte : Byte) (marker : Bool) : LinkPort × Option Frame :=
  if marker then (p.beginFrame byte, none)
  else
    match p.assembly with
    | none => (p, none)
    | some a => p.extendFrame a byte

/-- The loss that a marked character carries is placed (R205; log entry 23). -/
def LinkPort.placeLoss (p : LinkPort) : LinkPort :=
  match p.assembly with
  | some a => { p with assembly := some { a with overrun := true } }
  | none => { p with overruns := countUp p.overruns }

/-- A character taken from the FIFO (R204, R205). -/
def LinkPort.takeCharacter (p : LinkPort) (c : Character) : LinkPort × Option Frame :=
  let (p, f) := p.takeByte c.byte c.marker
  (if c.lost then p.placeLoss else p, f)

/-- What a link's transmitter sends: the characters of the response being sent, none while it is idle (R201, R208). -/
def LinkPort.transmission (p : LinkPort) : List (Byte × Bool) := (p.sending.map (·.characters)).getD []

/-! ### Good frames, supervision (R204, R209) -/

/-- LINK events (R222): 0 UP, 1 DOWN. A LINK report names no block and no boat (R210). -/
def State.linkReport (s : State) (l : Link) (event timeout : Nat) : State :=
  s.append .link none none none (detail event (linkCode l) timeout 0)

/-- A link comes UP: its cursor past the newest entry, its line negated with no hold-off, then the LINK report UP (R209,
R220, R223). -/
def State.comeUp (s : State) (l : Link) : State :=
  let r := s.reader l
  (s.setReader l { r with cursor := s.reports.ring.length, skipped := 0, line := false, holdOff := none }).linkReport
    l 0 0

/-- A good frame joins the request queue and is taken for supervision (R204, R209). -/
def State.goodFrame (s : State) (l : Link) (f : Frame) : State :=
  let p := s.port l
  let timeout := s.layout.settings.linkTimeout
  let s := s.setPort l
    { p with queue := p.queue ++ [f], goodFrames := countUp p.goodFrames,
             supervision := some { deadline := s.after timeout, timeout } }
  if p.up then s else s.comeUp l

/-- The request at the front of a link's queue is taken when no response of that link is being sent (R208). -/
def State.takeFront (s : State) (l : Link) : State :=
  let p := s.port l
  match p.sending, p.queue with
  | none, f :: rest => (s.setPort l { p with queue := rest }).serveFrame l f
  | _, _ => s

/-- The first character that waits in the FIFO is taken; a good frame joins the queue and may be taken at once (R204,
R208). -/
def State.takeWaiting (s : State) (l : Link) (c : Character) (rest : List Character) : State :=
  let (p, f) := { s.port l with fifo := rest }.takeCharacter c
  let s := s.setPort l p
  match f with
  | none => s
  | some f => (s.goodFrame l f).takeFront l

/-- Characters are taken from the FIFO while the request queue holds fewer than 2 frames (R204). -/
def drain (l : Link) : (fuel : Nat) → State → State
  | 0, s => s
  | n + 1, s =>
    if (s.port l).ready then
      match (s.port l).fifo with
      | [] => s
      | c :: rest => drain l n (s.takeWaiting l c rest)
    else s

/-- A character completes on a link (R204); a line being ignored after a break gives none (R206). -/
def State.character (s : State) (l : Link) (byte : Byte) (marker : Bool) : State :=
  if (s.port l).ignoring then s
  else drain l Config.fifoCapacity (s.setPort l ((s.port l).receive byte marker))

/-- The last character of a response has left the transmitter: the next request is taken and carried out, and then the
characters that wait are taken as places come free (R204, R208; that the request is carried out before those characters are
taken is log entry 36). -/
def State.responseSent (s : State) (l : Link) : State :=
  if (s.port l).sending.isNone then s
  else
    drain l Config.fifoCapacity ((s.setPort l { s.port l with sending := none }).takeFront l)

/-- A break on a line (R206). -/
def LinkPort.broken (p : LinkPort) : LinkPort :=
  if p.ignoring then p
  else { p with fifo := [], assembly := none, shift := [], ignoring := true, breaks := countUp p.breaks }

/-! ### Loss of a link (R210, R116, R117) -/

/-- An entry that loses a link's consent (R116). -/
def State.withdrawn (s : State) (l : ControlLink) (e : DispatchEntry) : DispatchEntry :=
  let timer := if e.consented then s.freshTimer else e.timer
  match l with
  | .a => { e with consentA := false, timerStart := s.timeBase, timer }
  | .b => { e with consentB := false, timerStart := s.timeBase, timer }

/-- The cause of a VOIDED report at the loss of a ride-control link (R116). -/
def ControlLink.voidCause : ControlLink → VoidCause
  | .a => .linkA
  | .b => .linkB

/-- The loss of Link A or Link B takes its consent back from every entry that holds it, in list order (R116). -/
def State.withdrawConsents (s : State) (l : ControlLink) : State :=
  let s' := { s with dispatch := s.dispatch.map fun e => if e.given l then s.withdrawn l e else e }
  (s.dispatch.filter (·.given l)).foldl (fun t e => t.voidReport l.voidCause e) s'

/-- The loss of Link S removes every entry, in list order (R117). -/
def State.cancelAll (s : State) : State :=
  s.dispatch.foldl (fun t e => (t.cancelEntry e .link 0).setPhase e.bay .ready) s

/-- The slot is discarded if this link opened it (R184). -/
def State.discardSlotOf (s : State) (l : Link) : State :=
  match s.mc.slot with
  | some p => if controlLink l = some p.link then s.discardSlot 1 else s
  | none => s

/-- LINK_LOST is a fault in RUN, MANUAL, HOLDING and HELD (R210). -/
def State.linkLost (s : State) (l : Link) : State :=
  if permitOf s.mode then s.raise .linkLost none none (detail (linkCode l)) else s

/-- The link state and the Report Queue at a link going DOWN: the entries it alone had not read are freed (R220,
R223), and the LINK report DOWN is appended (R210). -/
def State.dropLink (s : State) (l : Link) : State :=
  let p := s.port l
  let r := s.reader l
  let timeout := (p.supervision.map (·.timeout)).getD 0
  let s := s.setPort l { p with supervision := none }
  let s := s.setReader l { r with cursor := 0, line := false, holdOff := none }
  s.freeEntries.linkReport l 1 timeout

/-- A link goes DOWN (R210; log entry 12). -/
def State.goDown (s : State) (l : Link) : State :=
  let s := (s.dropLink l).discardSlotOf l
  match controlLink l with
  | some c => ((s.withdrawConsents c).linkLost l).finish
  | none => s.cancelAll.finish

end Sys2Proof.Machine
end

