-- ==== Sys2Proof/Machine/CensusCommands.lean ====
section
/-! DEFINITION. The census, recovery and roster requests as commands (chapter 3, R194, R195). -/

namespace Sys2Proof.Machine

open Sys2Proof

/-- VERIFY CLEAR (R75). -/
def execVerifyClear (l : Link) (tag : Byte) (args : List Byte) (s : State) : Host.Outcome State Fault Refusal :=
  .next (s.present l .verifyClear tag args)

/-- PLACE BOAT (R76, R77). -/
def execPlaceBoat (l : Link) (tag : Byte) (args : List Byte) (s : State) : Host.Outcome State Fault Refusal :=
  .next (s.present l .placeBoat tag args)

/-- REMOVE BOAT (R78). -/
def execRemoveBoat (l : Link) (tag : Byte) (args : List Byte) (s : State) : Host.Outcome State Fault Refusal :=
  .next (s.present l .removeBoat tag args)

/-- RESTORE BLOCK (R194). -/
def execRestoreBlock (l : Link) (tag : Byte) (args : List Byte) (s : State) : Host.Outcome State Fault Refusal :=
  .next (s.present l .restoreBlock tag args)

/-- SET SERVICE (R195). -/
def execSetService (l : Link) (tag : Byte) (args : List Byte) (s : State) : Host.Outcome State Fault Refusal :=
  .next (s.present l .setService tag args)

/-- ENROLL (R62). -/
def execEnroll (l : Link) (tag : Byte) (args : List Byte) (s : State) : Host.Outcome State Fault Refusal :=
  .next (s.present l .enroll tag args)

/-- RETIRE (R63). -/
def execRetire (l : Link) (tag : Byte) (args : List Byte) (s : State) : Host.Outcome State Fault Refusal :=
  .next (s.present l .retire tag args)

/-- SET ROUTE (R68). -/
def execSetRoute (l : Link) (tag : Byte) (args : List Byte) (s : State) : Host.Outcome State Fault Refusal :=
  .next (s.present l .setRoute tag args)

/-- SET EXPEDITE (R70). -/
def execSetExpedite (l : Link) (tag : Byte) (args : List Byte) (s : State) : Host.Outcome State Fault Refusal :=
  .next (s.present l .setExpedite tag args)

/-- CLEAR CHECK (R69). -/
def execClearCheck (l : Link) (tag : Byte) (args : List Byte) (s : State) : Host.Outcome State Fault Refusal :=
  .next (s.present l .clearCheck tag args)

end Sys2Proof.Machine
end

