-- ==== Sys2Proof/Machine/Deadlines.lean ====
section
/-! DEFINITION. The deadlines of the part as commands. Each acts when its deadline is present and the Time Base has
reached it, and else leaves the state as it is (log entry 3). -/

namespace Sys2Proof.Machine

open Sys2Proof

/-! ### Links, reports, inputs -/

/-- A link's supervision deadline has passed. -/
def State.supervisionDue (s : State) (l : Link) : Bool :=
  due s.timeBase ((s.port l).supervision.map (·.deadline))

/-- A link's supervision deadline passes (R209, R210). -/
def execSupervisionDeadline (l : Link) (s : State) : Host.Outcome State Fault Refusal :=
  .next (if s.supervisionDue l then s.goDown l else s)

/-- A link's hold-off deadline has passed. -/
def State.holdOffDue (s : State) (l : Link) : Bool := due s.timeBase (s.reader l).holdOff

/-- The hold-off deadline is discarded and the line asserted if it is still due (R223). -/
def State.endHoldOff (s : State) (l : Link) : State :=
  s.setReader l (Reader.evaluate { s.reader l with holdOff := none } s.timeBase (s.up l) s.reports.ring)

/-- A link's attention hold-off deadline passes (R223). -/
def execHoldOffDeadline (l : Link) (s : State) : Host.Outcome State Fault Refusal :=
  .next (if s.holdOffDue l then s.endHoldOff l else s)

/-- A point's acceptance deadline has passed. -/
def State.acceptanceDue (s : State) (p : PointId) : Bool := due s.timeBase (s.point p).pending

/-- A pending change's acceptance deadline passes (R162). -/
def execInputAcceptance (p : PointId) (s : State) : Host.Outcome State Fault Refusal :=
  .next (if s.acceptanceDue p then s.acceptLevel p else s)

/-! ### Station -/

/-- The weigh of a bay whose window deadline has passed. -/
def State.weighDue (s : State) (b : BlockId) : Option Weigh :=
  ((s.bay b).bind (·.weigh)).filter fun w => reached s.timeBase w.deadline

/-- A weigh window closes (R97). -/
def execWeighWindowDeadline (b : BlockId) (s : State) : Host.Outcome State Fault Refusal :=
  .next (match s.weighDue b with
    | some w => (s.closeWindow b w).finish
    | none => s)

/-! ### Block table (section 2.6) -/

/-- The transit deadline of a RELEASING block that has passed. -/
def State.transitDue (s : State) (b : BlockId) : Option Time :=
  if (s.entry b).state = .releasing then (s.entry b).transit.filter (reached s.timeBase) else none

/-- The transit deadline of a holdable block that has passed. -/
def State.holdableTransitDue (s : State) (b : BlockId) : Option Time :=
  if s.layout.holdable b then s.transitDue b else none

/-- The transit deadline of a releasing holdable block passes (R48 to R50). -/
def execHoldableTransitDeadline (b : BlockId) (s : State) : Host.Outcome State Fault Refusal :=
  .next (match s.holdableTransitDue b with
    | some d => (s.transitEvent b d).finish
    | none => s)

/-- The transit deadline of a non-holdable block has passed. -/
def State.lostDue (s : State) (b : BlockId) : Bool := !s.layout.holdable b && (s.transitDue b).isSome

/-- The transit deadline of a non-holdable block passes (R51). -/
def execLostBoat (b : BlockId) (s : State) : Host.Outcome State Fault Refusal :=
  .next (if s.lostDue b then (s.faultAt .lostBoat b (s.entry b).occupant (detail)).finish else s)

/-- The clearance deadline of a RELEASING block has passed. -/
def State.stuckDue (s : State) (b : BlockId) : Bool :=
  (s.entry b).state == .releasing && due s.timeBase (s.entry b).clearance

/-- A clearance deadline passes (R52). -/
def execStuckAtBoundary (b : BlockId) (s : State) : Host.Outcome State Fault Refusal :=
  .next (if s.stuckDue b then (s.faultAt .stuckAtBoundary b (s.entry b).occupant (detail)).finish else s)

/-! ### Dispatch Queue and Mode Controller -/

/-- The consent deadline of an entry has passed. -/
def DispatchEntry.expired (e : DispatchEntry) (now : Time) : Bool :=
  match e.timer with
  | .running d => reached now d
  | _ => false

/-- The entry holding a sequence number whose consent deadline has passed. -/
def State.consentDue (s : State) (seq : Byte) : Option DispatchEntry :=
  (s.entryOfSeq seq).filter (·.expired s.timeBase)

/-- An entry expires (R113). -/
def State.expireEntry (s : State) (e : DispatchEntry) : State :=
  ((s.removeEntry e).dispatchReport e .expired (consentsCode e.consentA e.consentB) 0).setPhase e.bay .ready

/-- The consent deadline of an entry passes (R113). -/
def execConsentDeadline (seq : Byte) (s : State) : Host.Outcome State Fault Refusal :=
  .next (match s.consentDue seq with
    | some e => (s.expireEntry e).finish
    | none => s)

/-- The pending slot whose deadline has passed. -/
def State.slotDue (s : State) : Option PendingSlot :=
  s.mc.slot.filter fun p => reached s.timeBase p.deadline

/-- The slot expires (R184, R199). -/
def State.expireSlot (s : State) (p : PendingSlot) : State :=
  (s.setMc { s.mc with slot := none }).modeReport .expired p.request.code p.link.code 0

/-- The pending slot's deadline passes (R184). -/
def execSlotDeadline (s : State) : Host.Outcome State Fault Refusal :=
  .next (match s.slotDue with
    | some p => s.expireSlot p
    | none => s)

/-! ### Launch, switch, brake -/

/-- The headway deadline of a LAUNCH block has passed. -/
def State.headwayDue (s : State) (b : BlockId) : Bool := due s.timeBase ((s.launchRec b).bind (·.headway))

/-- The headway becomes ELAPSED; the last launch is kept (R127). -/
def State.endHeadway (s : State) (b : BlockId) : State :=
  { s with launches := vput s.launches b ((s.launchRec b).map fun r => { r with headway := none }) }

/-- A headway deadline passes (R127). -/
def execHeadwayDeadline (b : BlockId) (s : State) : Host.Outcome State Fault Refusal :=
  .next (if s.headwayDue b then (s.endHeadway b).finish else s)

/-- The target of a switch move whose travel deadline has passed. -/
def State.travelDue (s : State) (b : BlockId) : Option Leg :=
  (((s.switchRec b).bind (·.move)).filter fun m => reached s.timeBase m.2).map (·.1)

/-- A fault of the Drive Supervisor against a block, which becomes FAULTED unless it is FAULTED or OUT_OF_SERVICE
(R54). -/
def State.driveFault (s : State) (k : FaultKind) (b : BlockId) (d : Details) : State :=
  let boat := (s.entry b).occupant
  if unchecked (s.entry b).state then (s.modSwitch b (·.dropMove)).raise k (some b) boat d
  else s.faultAt k b boat d

/-- The code of the reading of a switch. -/
def State.readingCode (s : State) (b : BlockId) : Nat :=
  match s.switchRec b with
  | some w => w.reading.code
  | none => Reading.none.code

/-- A switch move's travel deadline passes (R132). -/
def execSwitchTravel (b : BlockId) (s : State) : Host.Outcome State Fault Refusal :=
  .next (match s.travelDue b with
    | some leg => (s.driveFault .switchTravel b (detail leg.code (s.readingCode b))).finish
    | none => s)

/-- The passage of a brake block whose trap deadline has passed. -/
def State.trapDue (s : State) (b : BlockId) : Option Passage :=
  ((s.brake b).bind (·.passage)).filter fun p => due s.timeBase p.deadline

/-- A passage's trap deadline passes (R148); a RUNOUT block's hold engages. -/
def execTrapDeadline (b : BlockId) (s : State) : Host.Outcome State Fault Refusal :=
  .next (match s.brakeRec b, s.trapDue b with
    | some r, some p => (s.trapFails b r p (s.layout.kind b == some .runout)).finish
    | _, _ => s)

/-- The stop delay deadline of a RUNOUT block has passed. -/
def State.stopDelayDue (s : State) (b : BlockId) : Bool := due s.timeBase ((s.brake b).bind (·.stopDelay))

/-- The hold engages (R156). -/
def State.engageHold (s : State) (b : BlockId) : State :=
  s.modBrake b fun k => { k with stopDelay := none, hold := true }

/-- A stop delay deadline passes (R156). -/
def execStopDelayDeadline (b : BlockId) (s : State) : Host.Outcome State Fault Refusal :=
  .next (if s.stopDelayDue b then (s.engageHold b).finish else s)

/-! ### Drive channels -/

/-- A kicker's pulse deadline has passed. -/
def State.pulseDue (s : State) (c : ChannelId) : Bool := due s.timeBase (s.channel c).pulse

/-- A kicker's pulse ends (R170). -/
def execPulseDeadline (c : ChannelId) (s : State) : Host.Outcome State Fault Refusal :=
  .next (if s.pulseDue c then (s.setChannel c { s.channel c with pulse := none }).finish else s)

/-- The owner of a channel whose check deadline has passed. -/
def State.checkDue (s : State) (c : ChannelId) : Option BlockId :=
  if due s.timeBase (s.channel c).check then (s.channel c).owner else none

/-- The level the feedback point of a block shows. -/
def State.feedbackLevel (s : State) (b : BlockId) : Bool :=
  ((((s.record b).bind (·.drive)).bind (·.feedback)).map fun p => (s.point p).level).getD false

/-- A channel's check deadline passes (R174): its details are the channel, the command and the level observed. -/
def State.checkFails (s : State) (c : ChannelId) (b : BlockId) : State :=
  let d := detail c.val (s.channel c).command.code (s.feedbackLevel b).toNat
  (s.setChannel c { s.channel c with check := none }).driveFault .actuatorMismatch b d

/-- A feedback check deadline passes (R174). -/
def execCheckDeadline (c : ChannelId) (s : State) : Host.Outcome State Fault Refusal :=
  .next (match s.checkDue c with
    | some b => (s.checkFails c b).finish
    | none => s)

/-- The owner of a channel whose position deadline has passed. -/
def State.positionDue (s : State) (c : ChannelId) : Option BlockId :=
  if due s.timeBase (s.channel c).position then (s.channel c).owner else none

/-- A channel's position deadline passes (R175): its details are the channel, the held leg and the reading. -/
def State.positionFails (s : State) (c : ChannelId) (b : BlockId) : State :=
  let held := (((s.switchRec b).bind (·.held)).map (·.code)).getD 255
  let d := detail c.val held (s.readingCode b)
  (s.setChannel c { s.channel c with position := none }).driveFault .actuatorMismatch b d

/-- A switch's position deadline at rest passes (R175). -/
def execPositionDeadline (c : ChannelId) (s : State) : Host.Outcome State Fault Refusal :=
  .next (match s.positionDue c with
    | some b => (s.positionFails c b).finish
    | none => s)

/-! ### The deadlines that have passed -/

/-- The commands of the deadlines the Time Base has reached, in the order they are queued (log entries 1 and 4). -/
def State.dueCommands (s : State) : List Instr :=
  let links : List Link := [.a, .b, .s]
  let channels := List.finRange 32
  (links.filter s.supervisionDue).map .supervisionDeadline ++
  ((List.finRange 96).filter s.acceptanceDue).map .inputAcceptance ++
  (allBlocks.filter fun b => (s.weighDue b).isSome).map .weighWindowDeadline ++
  (allBlocks.filter fun b => (s.holdableTransitDue b).isSome).map .holdableTransitDeadline ++
  (allBlocks.filter s.lostDue).map .lostBoat ++
  (allBlocks.filter s.stuckDue).map .stuckAtBoundary ++
  (s.dispatch.filter (·.expired s.timeBase)).map (fun e => .consentDeadline e.seq) ++
  (if s.slotDue.isSome then [.slotDeadline] else []) ++
  (allBlocks.filter s.headwayDue).map .headwayDeadline ++
  (allBlocks.filter fun b => (s.travelDue b).isSome).map .switchTravel ++
  (allBlocks.filter fun b => (s.brakeRec b).isSome && (s.trapDue b).isSome).map .trapDeadline ++
  (allBlocks.filter s.stopDelayDue).map .stopDelayDeadline ++
  (channels.filter s.pulseDue).map .pulseDeadline ++
  (channels.filter fun c => (s.checkDue c).isSome).map .checkDeadline ++
  (channels.filter fun c => (s.positionDue c).isSome).map .positionDeadline ++
  (links.filter s.holdOffDue).map .holdOffDeadline

/-- What the part does while no command waits: the commands of the deadlines reached are queued; with none reached the
Time Base counts one microsecond (log entry 1). -/
def State.tick (s : State) : State :=
  match s.dueCommands with
  | [] => { s with timeBase := s.timeBase + 1 }
  | cs => { s with pending := cs }

end Sys2Proof.Machine
end

