-- ==== Sys2Proof/Machine/FieldEvents.lean ====
section
/-! DEFINITION. Power-on reset and the events of the field wiring as commands (R162, R165, R178, R191). -/

namespace Sys2Proof.Machine

open Sys2Proof

/-- Power-on reset with the levels at the pins: the rate pins (R201), the stop line's contacts (R178, R191) and the
points whose raw level is on (R161). The queue of waiting commands is the model's own and stays. -/
def State.powerOn (s : State) (ratePins : BitVec 2) (contact1Open contact2Open : Bool) (rawOn : List PointId) :
    State :=
  let z := State.reset
  { z with
    pending := s.pending
    rate := ratePins
    mc := { z.mc with contact1Open, contact2Open, stopActive := contact1Open || contact2Open }
    points := vmap (fun p (q : Point) => { q with raw := rawOn.contains p, level := rawOn.contains p }) z.points }

/-- Power-on reset (R178). -/
def execPowerOnReset (ratePins : BitVec 2) (contact1Open contact2Open : Bool) (rawOn : List PointId) (s : State) :
    Host.Outcome State Fault Refusal :=
  .next (s.powerOn ratePins contact1Open contact2Open rawOn)

/-- The sampled raw level of a point changes (R162). -/
def execRawChange (p : PointId) (on : Bool) (s : State) : Host.Outcome State Fault Refusal := .next (s.rawSample p on)

/-- The two contacts with one of them set. -/
def ModeController.setContact (c : ModeController) (k : StopContact) (isOpen : Bool) : ModeController :=
  match k with
  | .first => { c with contact1Open := isOpen }
  | .second => { c with contact2Open := isOpen }

/-- A contact of the stop line opens (R191). -/
def State.stopOpens (s : State) (k : StopContact) : State :=
  let c := s.mc.setContact k true
  if s.mc.stopActive then s.setMc c
  else ((s.setMc { c with stopActive := true }).raise .stopLine none none (detail)).finish

/-- A contact of the stop line opens (R191). -/
def execStopLineOpens (k : StopContact) (s : State) : Host.Outcome State Fault Refusal := .next (s.stopOpens k)

/-- A contact of the stop line closes (R191). -/
def State.stopCloses (s : State) (k : StopContact) : State :=
  let c := s.mc.setContact k false
  s.setMc { c with stopActive := c.contact1Open || c.contact2Open }

/-- A contact of the stop line closes (R191). -/
def execStopLineCloses (k : StopContact) (s : State) : Host.Outcome State Fault Refusal := .next (s.stopCloses k)

/-- A tag-reader port delivers a code (R73, R165). -/
def execTagRead (port : PortId) (code : Nat) (s : State) : Host.Outcome State Fault Refusal :=
  .next (s.takeTag port code).finish

/-- A sample pair goes to the open window of its bay, or is discarded (R94, R96, R165). -/
def State.weighSample (s : State) (front rear : CellId) (frontKg rearKg : Nat) : State :=
  if s.mode = .configure then s
  else
    match s.layout.bayOfCells front rear with
    | none => s
    | some b => s.modBay b fun y => { y with weigh := y.weigh.map fun w => w.takeSample frontKg rearKg }

/-- A bay's two weigh channels deliver a sample pair (R94). -/
def execWeighSample (front rear : CellId) (frontKg rearKg : Nat) (s : State) : Host.Outcome State Fault Refusal :=
  .next (s.weighSample front rear frontKg rearKg)

end Sys2Proof.Machine
end

