-- ==== Sys2Proof/Machine/LayoutCommands.lean ====
section
/-! DEFINITION. The layout requests as commands (chapter 1, R164, R215). -/

namespace Sys2Proof.Machine

open Sys2Proof

/-- WRITE BLOCK (R16). -/
def execWriteBlock (l : Link) (tag : Byte) (args : List Byte) (s : State) : Host.Outcome State Fault Refusal :=
  .next (s.present l .writeBlock tag args)

/-- WRITE MERGE (R17). -/
def execWriteMerge (l : Link) (tag : Byte) (args : List Byte) (s : State) : Host.Outcome State Fault Refusal :=
  .next (s.present l .writeMerge tag args)

/-- WRITE SETTINGS (R13, R17). -/
def execWriteSettings (l : Link) (tag : Byte) (args : List Byte) (s : State) : Host.Outcome State Fault Refusal :=
  .next (s.present l .writeSettings tag args)

/-- WRITE WINDOW (R215). -/
def execWriteWindow (l : Link) (tag : Byte) (args : List Byte) (s : State) : Host.Outcome State Fault Refusal :=
  .next (s.present l .writeWindow tag args)

/-- WRITE POINT (R164). -/
def execWritePoint (l : Link) (tag : Byte) (args : List Byte) (s : State) : Host.Outcome State Fault Refusal :=
  .next (s.present l .writePoint tag args)

/-- READ LAYOUT (R19). -/
def execReadLayout (l : Link) (tag : Byte) (args : List Byte) (s : State) : Host.Outcome State Fault Refusal :=
  .next (s.present l .readLayout tag args)

end Sys2Proof.Machine
end

