-- ==== Sys2Proof/Machine/LinkEvents.lean ====
section
/-! DEFINITION. The events of the serial lines as commands (R204 to R208). -/

namespace Sys2Proof.Machine

open Sys2Proof

/-- A character completes on a link (R204, R205). -/
def execCharacterReceived (l : Link) (byte : Byte) (marker : Bool) (s : State) : Host.Outcome State Fault Refusal :=
  .next (s.character l byte marker)

/-- The last character of a response has left the transmitter (R208). -/
def execResponseSent (l : Link) (s : State) : Host.Outcome State Fault Refusal := .next (s.responseSent l)

/-- A line has been held in space for 22 bit times (R206). -/
def execLineBreak (l : Link) (s : State) : Host.Outcome State Fault Refusal := .next (s.setPort l (s.port l).broken)

/-- A line that was held in a break returns to mark (R206). -/
def execLineReturnsToMark (l : Link) (s : State) : Host.Outcome State Fault Refusal :=
  .next (s.setPort l { s.port l with ignoring := false })

end Sys2Proof.Machine
end

