-- ==== Sys2Proof/Machine/ModeCommands.lean ====
section
/-! DEFINITION. The mode requests and stops as commands (chapter 9). -/

namespace Sys2Proof.Machine

open Sys2Proof

/-- ENTER STANDBY (R186). -/
def execEnterStandby (l : Link) (tag : Byte) (args : List Byte) (s : State) : Host.Outcome State Fault Refusal :=
  .next (s.present l .enterStandby tag args)

/-- ENTER RUN (R186). -/
def execEnterRun (l : Link) (tag : Byte) (args : List Byte) (s : State) : Host.Outcome State Fault Refusal :=
  .next (s.present l .enterRun tag args)

/-- ENTER MANUAL (R186). -/
def execEnterManual (l : Link) (tag : Byte) (args : List Byte) (s : State) : Host.Outcome State Fault Refusal :=
  .next (s.present l .enterManual tag args)

/-- ENTER CONFIGURE (R187). -/
def execEnterConfigure (l : Link) (tag : Byte) (args : List Byte) (s : State) : Host.Outcome State Fault Refusal :=
  .next (s.present l .enterConfigure tag args)

/-- RESUME (R192). -/
def execResume (l : Link) (tag : Byte) (args : List Byte) (s : State) : Host.Outcome State Fault Refusal :=
  .next (s.present l .resume tag args)

/-- RESTART (R187). -/
def execRestart (l : Link) (tag : Byte) (args : List Byte) (s : State) : Host.Outcome State Fault Refusal :=
  .next (s.present l .restart tag args)

/-- HOLD (R188). -/
def execHold (l : Link) (tag : Byte) (args : List Byte) (s : State) : Host.Outcome State Fault Refusal :=
  .next (s.present l .hold tag args)

/-- HALT (R190). -/
def execHalt (l : Link) (tag : Byte) (args : List Byte) (s : State) : Host.Outcome State Fault Refusal :=
  .next (s.present l .halt tag args)

end Sys2Proof.Machine
end

