-- ==== Sys2Proof/Machine/ServiceCommands.lean ====
section
/-! DEFINITION. The reading and clearing requests, SET ATTENTION and a request of unknown code as commands (chapters 10 and 11, R159, R198). -/

namespace Sys2Proof.Machine

open Sys2Proof

/-- CLEAR FAULT (R198). -/
def execClearFault (l : Link) (tag : Byte) (args : List Byte) (s : State) : Host.Outcome State Fault Refusal :=
  .next (s.present l .clearFault tag args)

/-- CLEAR ZONE CONDITION (R159). -/
def execClearZoneCondition (l : Link) (tag : Byte) (args : List Byte) (s : State) : Host.Outcome State Fault Refusal :=
  .next (s.present l .clearZoneCondition tag args)

/-- READ STATUS (R200, R217). -/
def execReadStatus (l : Link) (tag : Byte) (args : List Byte) (s : State) : Host.Outcome State Fault Refusal :=
  .next (s.present l .readStatus tag args)

/-- READ BLOCK (R58, R218). -/
def execReadBlock (l : Link) (tag : Byte) (args : List Byte) (s : State) : Host.Outcome State Fault Refusal :=
  .next (s.present l .readBlock tag args)

/-- READ BOAT (R79). -/
def execReadBoat (l : Link) (tag : Byte) (args : List Byte) (s : State) : Host.Outcome State Fault Refusal :=
  .next (s.present l .readBoat tag args)

/-- READ QUEUE (R122). -/
def execReadQueue (l : Link) (tag : Byte) (args : List Byte) (s : State) : Host.Outcome State Fault Refusal :=
  .next (s.present l .readQueue tag args)

/-- READ REPORTS (R222). -/
def execReadReports (l : Link) (tag : Byte) (args : List Byte) (s : State) : Host.Outcome State Fault Refusal :=
  .next (s.present l .readReports tag args)

/-- READ COUNTERS (R225). -/
def execReadCounters (l : Link) (tag : Byte) (args : List Byte) (s : State) : Host.Outcome State Fault Refusal :=
  .next (s.present l .readCounters tag args)

/-- CLEAR COUNTERS (R225). -/
def execClearCounters (l : Link) (tag : Byte) (args : List Byte) (s : State) : Host.Outcome State Fault Refusal :=
  .next (s.present l .clearCounters tag args)

/-- SET ATTENTION (R224). -/
def execSetAttention (l : Link) (tag : Byte) (args : List Byte) (s : State) : Host.Outcome State Fault Refusal :=
  .next (s.present l .setAttention tag args)

/-- A request whose code the catalogue lacks (R212). -/
def execUnknownRequest (l : Link) (code tag : Byte) (args : List Byte) (s : State) : Host.Outcome State Fault Refusal :=
  .next (s.presentUnknown l code tag args)

end Sys2Proof.Machine
end

