-- ==== Sys2Proof/Machine/StationCommands.lean ====
section
/-! DEFINITION. The station and dispatch requests and STEP as commands (chapters 4 and 5, R193). -/

namespace Sys2Proof.Machine

open Sys2Proof

/-- UNLOADED (R84). -/
def execUnloaded (l : Link) (tag : Byte) (args : List Byte) (s : State) : Host.Outcome State Fault Refusal :=
  .next (s.present l .unloaded tag args)

/-- LOADED (R85). -/
def execLoaded (l : Link) (tag : Byte) (args : List Byte) (s : State) : Host.Outcome State Fault Refusal :=
  .next (s.present l .loaded tag args)

/-- DISPATCH (R106, R107). -/
def execDispatch (l : Link) (tag : Byte) (args : List Byte) (s : State) : Host.Outcome State Fault Refusal :=
  .next (s.present l .dispatch tag args)

/-- CANCEL (R111). -/
def execCancel (l : Link) (tag : Byte) (args : List Byte) (s : State) : Host.Outcome State Fault Refusal :=
  .next (s.present l .cancel tag args)

/-- CONSENT DISPATCH (R108, R109). -/
def execConsentDispatch (l : Link) (tag : Byte) (args : List Byte) (s : State) : Host.Outcome State Fault Refusal :=
  .next (s.present l .consentDispatch tag args)

/-- DENY DISPATCH (R110). -/
def execDenyDispatch (l : Link) (tag : Byte) (args : List Byte) (s : State) : Host.Outcome State Fault Refusal :=
  .next (s.present l .denyDispatch tag args)

/-- STEP (R193). -/
def execStepBoat (l : Link) (tag : Byte) (args : List Byte) (s : State) : Host.Outcome State Fault Refusal :=
  .next (s.present l .step tag args)

end Sys2Proof.Machine
end

