-- ==== Sys2Proof/Machine/Dispatch.lean ====
section
/-! DEFINITION. One arm for each command of spec/opcode_table.json: the call of its meaning. -/

namespace Sys2Proof.Machine

open Sys2Proof

def exec (i : Instr) (s : State) : Host.Outcome State Fault Refusal :=
  match i with
  | .powerOnReset ratePins contact1Open contact2Open rawOn => Sys2Proof.Machine.execPowerOnReset ratePins contact1Open contact2Open rawOn s
  | .writeBlock link tag args => Sys2Proof.Machine.execWriteBlock link tag args s
  | .writeMerge link tag args => Sys2Proof.Machine.execWriteMerge link tag args s
  | .writeSettings link tag args => Sys2Proof.Machine.execWriteSettings link tag args s
  | .writeWindow link tag args => Sys2Proof.Machine.execWriteWindow link tag args s
  | .writePoint link tag args => Sys2Proof.Machine.execWritePoint link tag args s
  | .readLayout link tag args => Sys2Proof.Machine.execReadLayout link tag args s
  | .enterStandby link tag args => Sys2Proof.Machine.execEnterStandby link tag args s
  | .enterRun link tag args => Sys2Proof.Machine.execEnterRun link tag args s
  | .enterManual link tag args => Sys2Proof.Machine.execEnterManual link tag args s
  | .enterConfigure link tag args => Sys2Proof.Machine.execEnterConfigure link tag args s
  | .resume link tag args => Sys2Proof.Machine.execResume link tag args s
  | .restart link tag args => Sys2Proof.Machine.execRestart link tag args s
  | .hold link tag args => Sys2Proof.Machine.execHold link tag args s
  | .halt link tag args => Sys2Proof.Machine.execHalt link tag args s
  | .verifyClear link tag args => Sys2Proof.Machine.execVerifyClear link tag args s
  | .placeBoat link tag args => Sys2Proof.Machine.execPlaceBoat link tag args s
  | .removeBoat link tag args => Sys2Proof.Machine.execRemoveBoat link tag args s
  | .restoreBlock link tag args => Sys2Proof.Machine.execRestoreBlock link tag args s
  | .setService link tag args => Sys2Proof.Machine.execSetService link tag args s
  | .enroll link tag args => Sys2Proof.Machine.execEnroll link tag args s
  | .retire link tag args => Sys2Proof.Machine.execRetire link tag args s
  | .setRoute link tag args => Sys2Proof.Machine.execSetRoute link tag args s
  | .setExpedite link tag args => Sys2Proof.Machine.execSetExpedite link tag args s
  | .clearCheck link tag args => Sys2Proof.Machine.execClearCheck link tag args s
  | .unloaded link tag args => Sys2Proof.Machine.execUnloaded link tag args s
  | .loaded link tag args => Sys2Proof.Machine.execLoaded link tag args s
  | .dispatch link tag args => Sys2Proof.Machine.execDispatch link tag args s
  | .cancel link tag args => Sys2Proof.Machine.execCancel link tag args s
  | .consentDispatch link tag args => Sys2Proof.Machine.execConsentDispatch link tag args s
  | .denyDispatch link tag args => Sys2Proof.Machine.execDenyDispatch link tag args s
  | .stepBoat link tag args => Sys2Proof.Machine.execStepBoat link tag args s
  | .clearFault link tag args => Sys2Proof.Machine.execClearFault link tag args s
  | .clearZoneCondition link tag args => Sys2Proof.Machine.execClearZoneCondition link tag args s
  | .readStatus link tag args => Sys2Proof.Machine.execReadStatus link tag args s
  | .readBlock link tag args => Sys2Proof.Machine.execReadBlock link tag args s
  | .readBoat link tag args => Sys2Proof.Machine.execReadBoat link tag args s
  | .readQueue link tag args => Sys2Proof.Machine.execReadQueue link tag args s
  | .readReports link tag args => Sys2Proof.Machine.execReadReports link tag args s
  | .readCounters link tag args => Sys2Proof.Machine.execReadCounters link tag args s
  | .clearCounters link tag args => Sys2Proof.Machine.execClearCounters link tag args s
  | .setAttention link tag args => Sys2Proof.Machine.execSetAttention link tag args s
  | .unknownRequest link code tag args => Sys2Proof.Machine.execUnknownRequest link code tag args s
  | .characterReceived link byte marker => Sys2Proof.Machine.execCharacterReceived link byte marker s
  | .responseSent link => Sys2Proof.Machine.execResponseSent link s
  | .lineBreak link => Sys2Proof.Machine.execLineBreak link s
  | .supervisionDeadline link => Sys2Proof.Machine.execSupervisionDeadline link s
  | .rawChange point on => Sys2Proof.Machine.execRawChange point on s
  | .inputAcceptance point => Sys2Proof.Machine.execInputAcceptance point s
  | .stopLineOpens contact => Sys2Proof.Machine.execStopLineOpens contact s
  | .stopLineCloses contact => Sys2Proof.Machine.execStopLineCloses contact s
  | .tagRead port code => Sys2Proof.Machine.execTagRead port code s
  | .weighSample front rear frontKg rearKg => Sys2Proof.Machine.execWeighSample front rear frontKg rearKg s
  | .weighWindowDeadline bay => Sys2Proof.Machine.execWeighWindowDeadline bay s
  | .holdableTransitDeadline block => Sys2Proof.Machine.execHoldableTransitDeadline block s
  | .lostBoat block => Sys2Proof.Machine.execLostBoat block s
  | .stuckAtBoundary block => Sys2Proof.Machine.execStuckAtBoundary block s
  | .consentDeadline seq => Sys2Proof.Machine.execConsentDeadline seq s
  | .slotDeadline => Sys2Proof.Machine.execSlotDeadline s
  | .headwayDeadline block => Sys2Proof.Machine.execHeadwayDeadline block s
  | .switchTravel block => Sys2Proof.Machine.execSwitchTravel block s
  | .trapDeadline block => Sys2Proof.Machine.execTrapDeadline block s
  | .stopDelayDeadline block => Sys2Proof.Machine.execStopDelayDeadline block s
  | .pulseDeadline channel => Sys2Proof.Machine.execPulseDeadline channel s
  | .checkDeadline channel => Sys2Proof.Machine.execCheckDeadline channel s
  | .positionDeadline channel => Sys2Proof.Machine.execPositionDeadline channel s
  | .holdOffDeadline link => Sys2Proof.Machine.execHoldOffDeadline link s
  | .lineReturnsToMark link => Sys2Proof.Machine.execLineReturnsToMark link s

end Sys2Proof.Machine
end

