-- ==== Sys2Proof/Machine/Step.lean ====
section
/-! DEFINITION. One step: the command at the front of the queue is carried out on the state with the rest of the queue;
with no command waiting the Time Base runs (log entry 1). -/

namespace Sys2Proof.Machine

open Sys2Proof

/-- The state with the rest of its queue. -/
def State.withPending (s : State) (rest : List Instr) : State := { s with pending := rest }

/-- One step of the part. -/
def step (s : State) : Host.Outcome State Fault Refusal :=
  match s.pending with
  | [] => .next s.tick
  | c :: rest => exec c (s.withPending rest)

/-- The command that a table word spells, put at the front of the queue; no row gives bits, so the state is unchanged
(log entry 8). -/
def State.withFetchWord (s : State) (nbits w : Nat) : State :=
  match decodeTableWord nbits w with
  | some c => s.withPending (c :: s.pending)
  | none => s

end Sys2Proof.Machine
end

