-- ==== Sys2Proof/WellFormed.lean ====
section
/-! DEFINITION. Which commands the part can be sent: arguments fit a frame (R202), an unknown code is a request code
that the catalogue lacks (R202, R212), a tag code is in its range (00_scope, Numbering of things), a weigh sample is a
pair of two channels with readings a converter gives (R94), and a list of points names none twice. -/

namespace Sys2Proof

/-- A list of points that names none twice. -/
def noRepeat : List PointId → Bool
  | [] => true
  | p :: ps => !ps.contains p && noRepeat ps

/-- The arguments of a request fit in a frame (R202). -/
def argsFit (args : List Byte) : Bool := args.length ≤ Config.maxFrameData

/-- The commands that can reach the part. -/
def Instr.wellFormed : Instr → Bool
  | .powerOnReset _ _ _ rawOn => noRepeat rawOn
  | .writeBlock _ _ args | .writeMerge _ _ args | .writeSettings _ _ args | .writeWindow _ _ args
  | .writePoint _ _ args | .readLayout _ _ args | .enterStandby _ _ args | .enterRun _ _ args
  | .enterManual _ _ args | .enterConfigure _ _ args | .resume _ _ args | .restart _ _ args
  | .hold _ _ args | .halt _ _ args | .verifyClear _ _ args | .placeBoat _ _ args | .removeBoat _ _ args
  | .restoreBlock _ _ args | .setService _ _ args | .enroll _ _ args | .retire _ _ args | .setRoute _ _ args
  | .setExpedite _ _ args | .clearCheck _ _ args | .unloaded _ _ args | .loaded _ _ args
  | .dispatch _ _ args | .cancel _ _ args | .consentDispatch _ _ args | .denyDispatch _ _ args
  | .stepBoat _ _ args | .clearFault _ _ args | .clearZoneCondition _ _ args | .readStatus _ _ args
  | .readBlock _ _ args | .readBoat _ _ args | .readQueue _ _ args | .readReports _ _ args
  | .readCounters _ _ args | .clearCounters _ _ args | .setAttention _ _ args => argsFit args
  | .unknownRequest _ code _ args => argsFit args && code.toNat < 128 && (Req.ofCode code.toNat).isNone
  | .characterReceived _ _ _ | .responseSent _ | .lineBreak _ | .supervisionDeadline _ | .rawChange _ _
  | .inputAcceptance _ | .stopLineOpens _ | .stopLineCloses _ => true
  | .tagRead _ code => 1 ≤ code && code ≤ 16777215
  | .weighSample front rear frontKg rearKg => front != rear && frontKg ≤ 2000 && rearKg ≤ 2000
  | .weighWindowDeadline _ | .holdableTransitDeadline _ | .lostBoat _ | .stuckAtBoundary _
  | .consentDeadline _ | .slotDeadline | .headwayDeadline _ | .switchTravel _ | .trapDeadline _
  | .stopDelayDeadline _ | .pulseDeadline _ | .checkDeadline _ | .positionDeadline _ | .holdOffDeadline _
  | .lineReturnsToMark _ => true

end Sys2Proof
end

