-- ==== Sys2Proof/Safety.lean ====
section
/-! DEFINITION. What a safe run is: the invariants of the part as plain predicates on a state, and the frames that the
statements use. Every one is decidable on a given state or follows the words of a numbered rule. -/

namespace Sys2Proof.Machine

open Sys2Proof

/-! ### Frames -/

/-- What no event inside the machine touches: the queue of commands, the Time Base, the rate pins, the Link Ports, the
command windows, the stored layout and the input points. -/
def State.surroundings (s : State) :
    List Instr × Time × BitVec 2 × PerLink LinkPort × PerLink Windows × LayoutStore × Vector Point 96 :=
  (s.pending, s.timeBase, s.rate, s.ports, s.windows, s.layout, s.points)

/-- `t` is `u` with switch moves, brake demands and drive channels derived afresh (R29): all that the end of an event
does outside RUN and HOLDING. -/
def Rederived (u t : State) : Prop :=
  t = { u with switches := t.switches, brakes := t.brakes, channels := t.channels }

/-- The state with a response on its way out of link `l` (R202, R208); nothing else differs. -/
def State.sends (s : State) (l : Link) (code tag : Byte) (st : Status) (data : List Byte) : State :=
  s.setPort l { s.port l with sending := some { code := code + 128, tag := tag, status := st, data := data } }

/-- The state with the response to a known request on its way out of link `l`. -/
def State.replies (s : State) (l : Link) (r : Req) (tag : Byte) (st : Status) (data : List Byte) : State :=
  s.sends l (BitVec.ofNat 8 r.code) tag st data

/-- No response of the link is being sent, its role may make the request, and the mode takes it (R208, R212). -/
def State.admits (s : State) (l : Link) (r : Req) : Prop :=
  (s.port l).sending = none ∧ roleAllows l r = true ∧ takenIn r s.mode = true

/-- The two ride-control links as links. -/
def ControlLink.link : ControlLink → Link
  | .a => .a
  | .b => .b

/-- A mode request as a request of the catalogue. -/
def ModeReq.req : ModeReq → Req
  | .enterStandby => .enterStandby | .enterRun => .enterRun | .enterManual => .enterManual
  | .enterConfigure => .enterConfigure | .resume => .resume | .restart => .restart

/-- The argument bytes of a mode request: the generation of ENTER STANDBY, high byte first, else none (R218). -/
def ModeReq.argBytes (m : ModeReq) (generation : Nat) : List Byte :=
  match m with
  | .enterStandby => [BitVec.ofNat 8 (generation / 256), BitVec.ofNat 8 generation]
  | _ => []

/-- The generation a mode request quotes, absent for all but ENTER STANDBY (R182). -/
def ModeReq.quotes (m : ModeReq) (generation : Nat) : Option Nat :=
  match m with
  | .enterStandby => some generation
  | _ => none

/-- The modes each mode request is taken in (R180). -/
def ModeReq.modes : ModeReq → List Mode
  | .enterStandby => [.configure]
  | .enterRun => [.standby, .manual, .held]
  | .enterManual => [.run, .held]
  | .enterConfigure => [.standby, .halted]
  | .resume => [.held, .halted]
  | .restart => [.standby, .run, .manual, .holding, .held, .halted]

/-- The state with one link's reader replaced and nothing else (chapter 11). -/
def State.reads (s : State) (l : Link) (r : Reader) : State :=
  { s with reports := { s.reports with readers := s.reports.readers.put l r } }

/-! ### Ranges of the layout records (R5, R12, R13, R214) -/

/-- A drive section in range (R5). -/
def DriveSection.inRange (d : DriveSection) : Bool := 50 ≤ d.checkTime && d.checkTime ≤ 5000

/-- Brake fields in range (R5). -/
def BrakeSection.inRange (k : BrakeSection) : Bool :=
  100 ≤ k.trapLength && k.trapLength ≤ 2000 && k.targetSpeed ≤ 5000 && 1000 ≤ k.brakeLength &&
  k.brakeLength ≤ 30000 && 10 ≤ k.forceStep && k.forceStep ≤ 2000 && k.idleLevel ≤ 15 && k.minimumLevel ≤ 15 &&
  100 ≤ k.trapTimeout && k.trapTimeout ≤ 5000

/-- What a record holds beyond the common fields is in range (R5). -/
def KindFields.inRange : KindFields → Bool
  | .bay d y => d.inRange && 100 ≤ y.maxLoad && y.maxLoad ≤ 1500
  | .queue d _ => d.inRange
  | .launch d y =>
    d.inRange && 5 ≤ y.headway && y.headway ≤ 120 && y.kickRetries ≤ 3 && 100 ≤ y.kickPulse && y.kickPulse ≤ 2000
  | .lift d => d.inRange
  | .run => true
  | .trim d k => d.inRange && k.inRange
  | .runout d k delay => d.inRange && k.inRange && delay ≤ 5000
  | .switch d y => d.inRange && 500 ≤ y.travelLimit && y.travelLimit ≤ 10000

/-- A block record whose every field is in the range of R5. -/
def BlockRecord.inRange (r : BlockRecord) : Bool :=
  500 ≤ r.transitLimit && r.transitLimit ≤ 60000 && 200 ≤ r.clearanceLimit && r.clearanceLimit ≤ 10000 &&
  r.fields.inRange

/-- A feeder list: 1 to 4 blocks, none twice (R12). -/
def feederInRange (feeder : List BlockId) : Bool :=
  1 ≤ feeder.length && feeder.length ≤ 4 && distinct (feeder.map (·.val))

/-- A merge record whose every field is in the range of R12. -/
def MergeRecord.inRange (r : MergeRecord) : Bool :=
  r.input0 != r.input1 && feederInRange r.feeder0 && feederInRange r.feeder1 && 1 ≤ r.tLow && r.tLow ≤ r.tHigh &&
  r.tHigh ≤ 4 && 1 ≤ r.burst && r.burst ≤ 4

/-- Settings in the ranges of R13. -/
def Settings.inRange (t : Settings) : Bool :=
  500 ≤ t.consentWindow && t.consentWindow ≤ 10000 && 50 ≤ t.linkTimeout && t.linkTimeout ≤ 2000 &&
  t.unweighedAllowance ≤ 1200 && 5 ≤ t.tareTolerance && t.tareTolerance ≤ 100 && 2 ≤ t.spreadTolerance &&
  t.spreadTolerance ≤ 50 && 500 ≤ t.settleTime && t.settleTime ≤ 5000 && t.minimumGuestLoad ≤ 100

/-- A window as R214 allows it: off with base 0, or a size of the list with the base a multiple of it. -/
def Window.allowed (w : Window) : Bool :=
  (w.size == 0 && w.base.val == 0) ||
  ([1, 2, 4, 8, 16, 32].contains w.size && w.base.val % w.size == 0)

/-! ### The part right after power-on -/

/-- What every chapter gives its unit at power-on reset; the levels at the pins are left open (R1, R13, R28, R59, R80,
R103, R123, R130, R134, R142, R161, R167, R178, R203, R207, R209, R214, R219, R220, R223, R225). -/
def State.justPoweredOn (t : State) : Prop :=
  t.timeBase = 0 ∧
  ((∀ b, t.record b = none) ∧ (∀ m, t.layout.merge m = none) ∧
    t.layout.settings =
      { consentWindow := 5000, linkTimeout := 250, unweighedAllowance := 600, tareTolerance := 25,
        spreadTolerance := 8, settleTime := 1500, minimumGuestLoad := 20 } ∧
    t.layout.generation = 0) ∧
  (∀ b, t.entry b =
      { state := .outOfService, occupant := none, holder := none, nose := false, transit := none, clearance := none,
        release := none }) ∧
  ((∀ x, t.slot x = .unused) ∧ (∀ p, vget t.tagWindows p = none)) ∧
  ((∀ b, t.bay b = none) ∧ t.dispatch = [] ∧ t.nextDispatch = 0 ∧ (∀ b, t.launchRec b = none) ∧
    (∀ m, t.arbiter m = none) ∧ (∀ b, t.switchRec b = none) ∧ (∀ b, t.brake b = none)) ∧
  (∀ p, (t.point p).invert = false ∧ (t.point p).filter = 5 ∧ (t.point p).level = (t.point p).raw ∧
    (t.point p).pending = none ∧ (t.point p).glitches = 0) ∧
  (∀ c, t.channel c =
      { owner := none, command := .deEnergised, pulse := none, expectation := none, check := none,
        position := none }) ∧
  (t.mode = .configure ∧ t.mc.runMode = .run ∧ t.mc.slot = none ∧ t.mc.fault = none ∧ t.mc.further = 0 ∧
    t.mc.permit = false ∧ t.mc.stopActive = (t.mc.contact1Open || t.mc.contact2Open)) ∧
  (∀ l, (t.port l).sending = none ∧ (t.port l).queue = [] ∧ (t.port l).fifo = [] ∧ (t.port l).assembly = none ∧
    (t.port l).supervision = none ∧ (t.port l).ready = true) ∧
  (t.windows.a = { w0 := { base := 0, size := 32 }, w1 := { base := 0, size := 0 } } ∧ t.windows.b = t.windows.a ∧
    t.windows.s = { w0 := { base := 0, size := 0 }, w1 := { base := 0, size := 0 } }) ∧
  (t.reports.ring = [] ∧ t.reports.nextSeq = 0 ∧
    ∀ l, t.reader l =
      { cursor := 0, skipped := 0, attention := 0, interval := 0, line := false, holdOff := none }) ∧
  ((∀ b, vget t.passages b = 0) ∧ t.tagDiscards = 0 ∧ t.trapStrays = 0 ∧
    ∀ l, (t.port l).goodFrames = 0 ∧ (t.port l).checkErrors = 0 ∧ (t.port l).overruns = 0 ∧
      (t.port l).truncated = 0 ∧ (t.port l).breaks = 0)

/-! ### Deadlines -/

/-- The commands of the deadlines. -/
def isDeadline : Instr → Bool
  | .supervisionDeadline _ | .holdOffDeadline _ | .inputAcceptance _ | .weighWindowDeadline _
  | .holdableTransitDeadline _ | .lostBoat _ | .stuckAtBoundary _ | .consentDeadline _ | .slotDeadline
  | .headwayDeadline _ | .switchTravel _ | .trapDeadline _ | .stopDelayDeadline _ | .pulseDeadline _
  | .checkDeadline _ | .positionDeadline _ => true
  | _ => false

/-- The deadline that a command carries out is present and the Time Base has reached it (R48, R51, R52, R97, R113, R127,
R132, R148, R156, R162, R170, R174, R175, R184, R210, R223); no other command has a deadline. -/
def State.hasReached (s : State) : Instr → Bool
  | .supervisionDeadline l => due s.timeBase ((s.port l).supervision.map (·.deadline))
  | .holdOffDeadline l => due s.timeBase (s.reader l).holdOff
  | .inputAcceptance p => due s.timeBase (s.point p).pending
  | .weighWindowDeadline b => due s.timeBase (((s.bay b).bind (·.weigh)).map (·.deadline))
  | .holdableTransitDeadline b =>
    s.layout.holdable b && (s.entry b).state == .releasing && due s.timeBase (s.entry b).transit
  | .lostBoat b => !s.layout.holdable b && (s.entry b).state == .releasing && due s.timeBase (s.entry b).transit
  | .stuckAtBoundary b => (s.entry b).state == .releasing && due s.timeBase (s.entry b).clearance
  | .consentDeadline seq => s.dispatch.any fun e => e.seq == seq && match e.timer with
    | .running d => reached s.timeBase d
    | _ => false
  | .slotDeadline => due s.timeBase (s.mc.slot.map (·.deadline))
  | .headwayDeadline b => due s.timeBase ((s.launchRec b).bind (·.headway))
  | .switchTravel b => due s.timeBase (((s.switchRec b).bind (·.move)).map (·.2))
  | .trapDeadline b =>
    ((s.record b).bind (·.brake)).isSome && due s.timeBase (((s.brake b).bind (·.passage)).bind (·.deadline))
  | .stopDelayDeadline b => due s.timeBase ((s.brake b).bind (·.stopDelay))
  | .pulseDeadline c => due s.timeBase (s.channel c).pulse
  | .checkDeadline c => (s.channel c).owner.isSome && due s.timeBase (s.channel c).check
  | .positionDeadline c => (s.channel c).owner.isSome && due s.timeBase (s.channel c).position
  | _ => false

/-- The ms left to a deadline, rounded up; 0 once it is reached (R58, R122, R217). -/
def msLeft (now deadline : Time) : Nat :=
  if reached now deadline then 0 else ((deadline - now).toNat + 999) / 1000

/-! ### Modes after stops and faults -/

/-- The modes a HALT acts in (R190). -/
def Mode.moves : Mode → Bool
  | .run | .manual | .holding | .held => true
  | _ => false

/-- The mode a fault class leaves (R196). -/
def modeAfterFault (cls : FaultClass) (m : Mode) : Mode :=
  match cls, m with
  | .halt, .run | .halt, .manual | .halt, .holding | .halt, .held => .halted
  | .hold, .run | .hold, .manual => .holding
  | _, m => m

/-- The fault record and the further-faults count of `t` are those of `s` after one more fault (R197). -/
def FaultTaken (s t : State) (k : FaultKind) (block : Option BlockId) (boat : Option BoatId) : Prop :=
  match s.mc.fault with
  | none =>
    t.mc.fault = some { kind := k, cls := k.cls, block := block, boat := boat, time := s.timeBase } ∧
    t.mc.further = s.mc.further
  | some f => t.mc.fault = some f ∧ t.mc.further = min (s.mc.further + 1) 255

/-- An entry as the entering of HALTED leaves it: a release not yet crossed is frozen, its transit deadline suspended
(R55). -/
def Entry.halted (e : Entry) : Entry :=
  match e.state, e.nose, e.release with
  | .releasing, false, some r => { e with release := some { r with frozen := true }, transit := none }
  | _, _, _ => e

/-- The entries of `t` are those of `s` but for the ones in the list, and but for the freezing where a fault of HALT
class took the ride to HALTED (R55, R196). -/
def OthersKept (s t : State) (changed : List BlockId) : Prop :=
  ∀ c, c ∉ changed → t.entry c = if s.mode.moves then (s.entry c).halted else s.entry c

/-- A block that becomes FAULTED out of `e` (R26): its occupant and nose-at-exit are kept. -/
def Entry.faultedFrom (e : Entry) : Entry := { Entry.bare .faulted with occupant := e.occupant, nose := e.nose }

/-- `t` is `s` with block `f` made FAULTED: where `f` was RESERVED its holder's path list keeps the blocks before it and
every block after it is CLEAR (R36); every other entry is as `OthersKept` says and the roster is else unchanged. -/
def PathCut (s t : State) (f : BlockId) : Prop :=
  t.entry f = (s.entry f).faultedFrom ∧
  ((s.entry f).state ≠ .reserved → OthersKept s t [f] ∧ t.roster = s.roster) ∧
  ∀ (y : BoatId) (bt : Boat) (pos : BlockId) (before later : List BlockId),
    (s.entry f).state = .reserved → (s.entry f).holder = some y → s.slot y = .onTrack bt pos (before ++ f :: later) →
    f ∉ before → f ∉ later → (∀ c ∈ later, (s.entry c).state = .reserved) →
    (∀ c ∈ later, t.entry c = .bare .clear) ∧ OthersKept s t (f :: later) ∧ t.slot y = .onTrack bt pos before ∧
    ∀ z, z ≠ y → t.slot z = s.slot z

/-! ### Invariants -/

/-- The permit output is asserted exactly in RUN, MANUAL, HOLDING and HELD (R179). -/
def State.permitAgrees (s : State) : Prop :=
  s.mc.permit = true ↔ s.mode = .run ∨ s.mode = .manual ∨ s.mode = .holding ∨ s.mode = .held

/-- While the mode is HALTED every owned channel of a block with a drive section carries its safe command (R169). -/
def State.haltedSafe (s : State) : Prop :=
  s.mode = .halted → ∀ (c : ChannelId) (b : BlockId) (r : BlockRecord) (d : DriveSection),
    (s.channel c).owner = some b → s.record b = some r → r.drive = some d →
      (s.channel c).command = safeCommand r.kind

/-- While the mode is HOLDING some entry is RESERVED or RELEASING (R189). -/
def State.holdingMoves (s : State) : Prop :=
  s.mode = .holding → ∃ b, (s.entry b).state = .reserved ∨ (s.entry b).state = .releasing

/-- A Link Port within its capacities; characters wait only while the request queue is full, and frames only while a
response is being sent (R203, R204, R208). -/
def LinkPort.sound (p : LinkPort) : Prop :=
  p.queue.length ≤ 2 ∧ p.fifo.length ≤ 4 ∧ (p.fifo ≠ [] → p.queue.length = 2) ∧ (p.sending = none → p.queue = []) ∧
  p.goodFrames ≤ 65535 ∧ p.checkErrors ≤ 65535 ∧ p.overruns ≤ 65535 ∧ p.truncated ≤ 65535 ∧ p.breaks ≤ 65535

/-- Every Link Port is sound. -/
def State.portsSound (s : State) : Prop := ∀ l : Link, (s.port l).sound

/-- The ring holds at most 64 entries, none while no link is UP; no cursor runs past it, and the cursor of a DOWN link
rests at the oldest entry (R219, R220). -/
def State.ringSound (s : State) : Prop :=
  s.reports.ring.length ≤ 64 ∧
  ((∀ l : Link, s.up l = false) → s.reports.ring = []) ∧
  ∀ l : Link, (s.reader l).cursor ≤ s.reports.ring.length ∧ (s.reader l).skipped ≤ 255 ∧
    (s.up l = false → (s.reader l).cursor = 0)

/-- An attention line is asserted only while it is due and no hold-off runs; a line that is due is asserted or waits for
its hold-off (R223). -/
def State.attentionSound (s : State) : Prop :=
  ∀ l : Link,
    let r := s.reader l
    let due := s.up l = true ∧ ∃ e ∈ s.reports.ring.drop r.cursor, inAttention r.attention e.kind = true
    (r.line = true → due ∧ r.holdOff = none) ∧ (due → r.line = true ∨ r.holdOff.isSome = true)

/-- The attributes an entry may have in its state (R25, R26). -/
def Entry.sound (e : Entry) : Prop :=
  match e.state with
  | .unverified | .clear | .outOfService => e = .bare e.state
  | .reserved => e.holder.isSome = true ∧ e = { Entry.bare .reserved with holder := e.holder }
  | .occupied => e.occupant.isSome = true ∧ e = { Entry.bare .occupied with occupant := e.occupant }
  | .releasing =>
    e.occupant.isSome = true ∧ e.holder = none ∧ (e.transit.isSome = true → e.nose = false) ∧
    (e.clearance.isSome = true → e.nose = true) ∧
    ∀ r, e.release = some r → r.frozen = true → e.nose = false ∧ e.transit = none
  | .faulted =>
    e = { Entry.bare .faulted with occupant := e.occupant, nose := e.nose } ∧ (e.nose = true → e.occupant.isSome = true)

/-- Every entry of the block table is sound. -/
def State.tableSound (s : State) : Prop := ∀ b : BlockId, (s.entry b).sound

/-- The dispatch list holds at most 8 entries, no sequence number and no bay twice, and the next sequence number is free
(R104, R105). -/
def State.dispatchSound (s : State) : Prop :=
  s.dispatch.length ≤ 8 ∧ (s.dispatch.map (·.seq)).Nodup ∧ (s.dispatch.map (·.bay)).Nodup ∧
  s.nextDispatch ∉ s.dispatch.map (·.seq)

/-- No two enrolled slots hold the same tag code (R62). -/
def State.codesDistinct (s : State) : Prop :=
  ∀ (x y : BoatId) (t u : Boat), s.boat x = some t → s.boat y = some u → t.tagCode = u.tagCode → x = y

/-- Outside CONFIGURE the stored layout passes validation (R2). -/
def State.layoutValidated (s : State) : Prop := s.mode ≠ .configure → s.layout.validate = none

/-- Generation 0 identifies the empty layout of a part that has taken no write (R18). -/
def State.generationSound (s : State) : Prop :=
  s.layout.generation ≤ 65535 ∧
  (s.layout.generation = 0 →
    s.layout = State.reset.layout ∧ s.windows = State.reset.windows ∧
    ∀ p : PointId, (s.point p).invert = false ∧ (s.point p).filter = 5)

/-- The boats and the blocks agree (R27, R30, R33, R35): every occupant is ON_TRACK, in its position block or, with
nose-at-exit, in the one block upstream of it; an ON_TRACK boat is occupant of its position block; a block is RESERVED for
a boat exactly when it stands in that boat's path list, which holds at most 8 blocks and none twice, and is empty while the
boat is held; and in CONFIGURE no block has a boat or a holder. -/
def State.trackSound (s : State) : Prop :=
  (∀ b x, (s.entry b).occupant = some x → ∃ bt pos path, s.slot x = .onTrack bt pos path ∧
    (pos = b ∨ (s.entry b).nose = true ∧ ∃ leg, s.layout.successor b leg = some pos)) ∧
  (∀ x bt pos path, s.slot x = .onTrack bt pos path → (s.entry pos).occupant = some x ∧ (s.entry pos).nose = false) ∧
  (∀ x b c, (s.entry b).occupant = some x → (s.entry c).occupant = some x → (s.slot x).position ≠ some b →
    (s.slot x).position ≠ some c → b = c) ∧
  (∀ b x, ((s.entry b).state = .reserved ∧ (s.entry b).holder = some x) ↔ b ∈ s.pathOf x) ∧
  (∀ x, (s.pathOf x).Nodup ∧ (s.pathOf x).length ≤ 8) ∧
  (∀ b x, (s.entry b).state = .occupied → (s.entry b).occupant = some x → s.pathOf x = []) ∧
  (s.mode = .configure → ∀ b, (s.entry b).occupant = none ∧ (s.entry b).holder = none)

/-! ### Reports (R219 to R223) -/

/-- What a unit says in a report; the ring adds the number and the time. -/
structure Told where
  kind : ReportKind
  fault : Option (FaultKind × FaultClass)
  block : Option BlockId
  boat : Option BoatId
  details : Details

/-- A report with its details, naming no fault. -/
def Told.of (kind : ReportKind) (block : Option BlockId) (boat : Option BoatId) (d1 d2 d3 d4 : Nat) : Told :=
  { kind := kind, fault := none, block := block, boat := boat, details := { d1 := d1, d2 := d2, d3 := d3, d4 := d4 } }

/-- A detail value as a report carries it: at most 16,777,215 (R219, log entry 16). -/
def cap (n : Nat) : Nat := min n 16777215

/-- The entries of the reports of one event, numbered from `seq` on (R219). -/
def numbered (now : Time) : BitVec 16 → List Told → List Report
  | _, [] => []
  | seq, r :: rs =>
    { seq := seq, kind := r.kind, fault := r.fault, time := now, block := r.block, boat := r.boat,
      details := r.details } :: numbered now (seq + 1) rs

/-- The newest 64 entries of a list (R219, R221). -/
def newest64 (es : List Report) : List Report := es.drop (es.length - 64)

/-- The entries a link has not read (R220). -/
def State.unread (s : State) (l : Link) : List Report := s.reports.ring.drop (s.reader l).cursor

/-- `t` is `s` with these reports appended in this order: the sequence number counts them, the ring keeps the newest 64,
an UP link loses the oldest of its unread entries and counts those it loses, and with no link UP nothing is held (R219 to
R221). -/
def ReportsAdded (s t : State) (rs : List Told) : Prop :=
  s.ringSound →
  t.reports.nextSeq = s.reports.nextSeq + BitVec.ofNat 16 rs.length ∧
  ((∃ l, s.up l = true) →
    t.reports.ring = newest64 (s.reports.ring ++ numbered s.timeBase s.reports.nextSeq rs)) ∧
  ((∀ l, s.up l = false) → t.reports.ring = []) ∧
  (∀ l, s.up l = true →
    t.unread l = newest64 (s.unread l ++ numbered s.timeBase s.reports.nextSeq rs) ∧
    (t.reader l).skipped = min ((s.reader l).skipped + ((s.unread l).length + rs.length - 64)) 255) ∧
  (∀ l, s.up l = false → (t.reader l).cursor = 0 ∧ (t.reader l).skipped = (s.reader l).skipped) ∧
  ∀ l, (t.reader l).attention = (s.reader l).attention ∧ (t.reader l).interval = (s.reader l).interval

/-- An attention line after an evaluation at which it is due or not (R223). -/
def Attended (r t : Reader) (now : Time) (due : Bool) : Prop :=
  t.line = (if r.line then due else due && r.holdOff.isNone) ∧
  t.holdOff =
    (if r.line = true ∧ due = false then (if r.interval = 0 then none else some (now + msSpan r.interval)) else r.holdOff)

/-- Some entry of the list is of a kind in the attention set (R223, R224). -/
def anyWanted (kinds : Byte) (es : List Report) : Bool := es.any fun e => inAttention kinds e.kind

/-- The reports of a change of mode that stops granting: CHANGED, the slot DISCARDED if one was open, every dispatch entry
VOIDED with the consents it held (R115, R184, R185); DISCARDED before VOIDED is log entry 11. -/
def State.stopReports (s : State) (new : Mode) (changed voided : Nat) : List Told :=
  .of .mode none none 1 s.mode.code new.code changed ::
  ((match s.mc.slot with
    | some p => [.of .mode none none 4 p.request.req.code (linkCode p.link.link) 0]
    | none => []) ++
   s.dispatch.map fun e =>
     .of .dispatch (some e.bay) (some e.boat) 6 e.seq.toNat voided (e.consentA.toNat + 2 * e.consentB.toNat))

/-- The reports a fault makes: the FAULT report, then those of the mode change its class brings (R196). -/
def State.faultReports (s : State) (k : FaultKind) (block : Option BlockId) (boat : Option BoatId)
    (d1 d2 d3 d4 : Nat) : List Told :=
  { kind := .fault, fault := some (k, k.cls), block := block, boat := boat,
    details := { d1 := d1, d2 := d2, d3 := d3, d4 := d4 } } ::
  (match modeAfterFault k.cls s.mode with
   | .halted => if s.mode = .halted then [] else s.stopReports .halted 3 1
   | .holding => if s.mode = .holding then [] else s.stopReports .holding 3 0
   | _ => [])

/-! ### The loss of a link (R116, R117, R210) -/

/-- A link taken DOWN, before anything is reported: no supervision, its cursor at the oldest entry, its line negated, no
hold-off, and the entries it alone had not read freed (R210, R220, R223). -/
def State.silenced (s : State) (l : Link) : State :=
  ((s.setPort l { s.port l with supervision := none }).setReader l { s.reader l with
    cursor := 0, line := false, holdOff := none }).freeEntries

/-- A dispatch entry after the loss of a ride-control link outside RUN and MANUAL: one that holds the link's consent loses
it, its timer starts afresh where it was CONSENTED, and any other entry is as it was (R116). -/
def State.takenBack (s : State) (c : ControlLink) (e : DispatchEntry) : DispatchEntry :=
  if e.given c then
    { (match c with
       | .a => { e with consentA := false }
       | .b => { e with consentB := false }) with
      timerStart := s.timeBase
      timer := if e.consentA && e.consentB then .suspended (s.layout.settings.consentWindow * 1000) else e.timer }
  else e

/-- The slot and the dispatch list that LINK_LOST finds: the slot of the lost link discarded, its consents taken back (R116,
R184; that both come before the fault is log entry 12). -/
def State.afterLoss (s : State) (c : ControlLink) : State :=
  { s with
    mc := { s.mc with slot := s.mc.slot.filter fun p => p.link != c }
    dispatch := s.dispatch.map (s.takenBack c) }

/-- The reports of the loss of a ride-control link: DOWN with its timeout, its slot DISCARDED by the link, each entry that
held its consent VOIDED with the consents held, and LINK_LOST where the permit is asserted, with the reports of the change
to HOLDING (R116, R184, R199, R210; the order is log entry 12, the timeout log entry 19). -/
def State.lossReports (s : State) (c : ControlLink) (timeout : Nat) : List Told :=
  .of .link none none 1 (linkCode c.link) (cap timeout) 0 ::
  ((match s.mc.slot with
    | some p => if p.link = c then [.of .mode none none 4 p.request.req.code (linkCode c.link) 1] else []
    | none => []) ++
   ((s.dispatch.filter (·.given c)).map fun e => .of .dispatch (some e.bay) (some e.boat) 6 e.seq.toNat
     (match c with
      | .a => 2
      | .b => 3) (e.consentA.toNat + 2 * e.consentB.toNat)) ++
   if permitOf s.mode then (s.afterLoss c).faultReports .linkLost none none (linkCode c.link) 0 0 0 else [])

/-! ### Bays in reports -/

/-- The BAY report of a change of phase, none where the phase is kept (R101); its third and fourth details are 0 (log
entry 37). -/
def bayReport (b : BlockId) (boat : Option BoatId) (old new : Phase) : List Told :=
  if old = new then [] else [.of .bay (some b) boat old.code new.code 0 0]

/-! ### Grants (R31 to R34) -/

/-- The boat `x` held in `b` may be granted the path `p`, but for the award of a merge terminal (R31). -/
def State.mayGo (s : State) (b : BlockId) (x : BoatId) (p : List BlockId) : Prop :=
  (s.mode = .run ∨ s.mode = .manual) ∧ (s.entry b).state = .occupied ∧ (s.entry b).occupant = some x ∧
  (s.entry b).release = none ∧
  (s.layout.kind b = some .switch → ∃ w, s.switchRec b = some w ∧ w.reading = (s.chosenLeg b).reading) ∧
  s.pathFrom b = some p ∧ ∀ c ∈ p, (s.entry c).state = .clear

/-- The boat held in `b` is eligible to advance by the row of R124 for its block's kind. -/
def State.rowEligible (s : State) (b : BlockId) : Prop :=
  ∃ r, s.record b = some r ∧
    match r.kind with
    | .bay => ∃ y, s.bay b = some y ∧ y.phase = .cleared
    | .queue => r.park = true → ∀ x bt, (s.entry b).occupant = some x → s.boat x = some bt → bt.route = .station
    | .launch => ∀ n, s.launchRec b = some n → n.headway = none
    | .lift => True
    | .runout => ∃ k, s.brake b = some k ∧ k.hold = true
    | .switch => ∃ w, s.switchRec b = some w ∧ w.reading = (s.chosenLeg b).reading ∧ w.move = none
    | .run | .trim => False

/-- The entry is CONSENTED and, with the ordering flag set, first in the list (R118). -/
def State.mayBeSent (s : State) (e : DispatchEntry) : Prop :=
  e ∈ s.dispatch ∧ e.consentA = true ∧ e.consentB = true ∧
  (e.afterPrevious = true → ∀ d, s.dispatch.head? = some d → d.seq = e.seq)

/-- In RUN this requester asks for the boat held in `b` (R118, R124). -/
def State.asksBy (s : State) (b : BlockId) : Requester → Prop
  | .scheduler =>
    s.mode = .run ∧ (s.entry b).state = .occupied ∧ (s.entry b).release = none ∧ s.rowEligible b
  | .dispatch e => s.mode = .run ∧ s.mayBeSent e ∧ e.bay = b
  | .step => False

/-- Where the terminal of `p` is a merge block the arbiter names this candidate: the boat stands at the head of the input
its path comes in by, and the other input has no ready candidate or loses the contest (R32, R137, R138). -/
def State.awarded (s : State) (b : BlockId) (p : List BlockId) : Prop :=
  ∀ m r, p.getLast?.bind s.layout.mergeAt = some (m, r) →
    ∃ i, r.inputOf b p = some i ∧ (r.feeder i).head? = some b ∧
      (s.candidateAt r i.other = none ∨
       contestWinner ((s.arbiter m).getD .initial) r.preferred (s.level r ((s.arbiter m).getD .initial)) = i)

/-- `u` is `s` after zero or more grants, each asked for, allowed and awarded at its moment (R31 to R33, R125). -/
inductive GrantedFrom : State → State → Prop where
  | done (s : State) : GrantedFrom s s
  | more {s u : State} {b : BlockId} {x : BoatId} {p : List BlockId} {q : Requester} :
    s.asksBy b q → s.mayGo b x p → s.awarded b p → GrantedFrom (s.grant b q p) u → GrantedFrom s u

/-- `u` is `s` after the grant of the path `p` from `b` to the boat `x` held there: the block table, the roster, the launch
record, the kicker, the brake, the bay and the arbiter (R33, R34, R90, R127, R139, R149, R156, R170). What the requester
does with its entry is said beside it. -/
def GrantMade (s u : State) (b : BlockId) (x : BoatId) (p : List BlockId) : Prop :=
  ((∀ r, s.record b = some r → u.entry b = { s.entry b with
      state := .releasing
      transit := some (s.timeBase + msSpan r.transitLimit)
      release := some { path := p, frozen := false, retries := match r.launch with
        | some n => n.kickRetries
        | none => 0 } }) ∧
    (∀ c ∈ p, u.entry c = { Entry.bare .reserved with holder := some x }) ∧
    (∀ c, c ∉ p → c ≠ b → u.entry c = s.entry c)) ∧
  ((∀ bt pos old, s.slot x = .onTrack bt pos old → u.slot x = .onTrack bt pos p) ∧
    (∀ y, y ≠ x → u.slot y = s.slot y)) ∧
  ((∀ r n rec, s.record b = some r → r.launch = some n → s.launchRec b = some rec →
      u.launchRec b = some { lastLaunch := some s.timeBase, headway := some (s.timeBase + msSpan (n.headway * 1000)) }) ∧
    (∀ c, c ≠ b → u.launchRec c = s.launchRec c)) ∧
  ((∀ r dr ln, s.record b = some r → r.fields = .launch dr ln → u.channels = vput s.channels dr.channel
      { s.channel dr.channel with pulse := some (s.timeBase + msSpan ln.kickPulse) }) ∧
    ((∀ r dr ln, s.record b = some r → r.fields ≠ .launch dr ln) → u.channels = s.channels)) ∧
  ((∀ k, s.brake b = some k → u.brake b = some { k with
      passage := k.passage.map fun q => { q with phase := .done, deadline := none }
      hold := false
      stopDelay := none }) ∧
    (∀ c, c ≠ b → u.brake c = s.brake c)) ∧
  ((∀ y, s.bay b = some y → u.bay b = some { y with
      phase := .released, returnPhase := some (returnPhaseOf y.phase), weigh := none }) ∧
    (∀ c, c ≠ b → u.bay c = s.bay c)) ∧
  (∀ m a, s.arbiter m = some a → ∃ n, u.arbiter m = some n ∧
    (∀ r i, p.getLast?.bind s.layout.mergeAt = some (m, r) → r.inputOf b p = some i →
      n.holder = some i ∧
      n.burstRemaining = if a.holder = some i ∧ 0 < a.burstRemaining then a.burstRemaining - 1 else r.burst - 1) ∧
    ((∀ r, p.getLast?.bind s.layout.mergeAt ≠ some (m, r)) →
      n.holder = a.holder ∧ n.burstRemaining = a.burstRemaining)) ∧
  u.mc = s.mc ∧ u.switches = s.switches ∧ u.passages = s.passages ∧ u.tagWindows = s.tagWindows ∧
  u.tagDiscards = s.tagDiscards ∧ u.trapStrays = s.trapStrays ∧ u.nextDispatch = s.nextDispatch ∧
  u.surroundings = s.surroundings

/-! ### Blocks that become FAULTED -/

/-- A passage that has ended (R149). -/
def Passage.ended (p : Passage) : Passage := { p with phase := .done, deadline := none }

/-- A switch record with no move; the held leg becomes the leg of the reading where a move is discarded (R172). -/
def SwitchRecord.stopped (w : SwitchRecord) : SwitchRecord :=
  { w with move := none, held := if w.move.isSome then w.reading.leg else w.held }

/-- A bay whose weigh in progress is abandoned because its block is FAULTED (R93). -/
def Bay.abandoned (y : Bay) : Bay :=
  match y.weigh with
  | some w => { y with weigh := none, phase := w.kind.fromPhase }
  | none => y

/-- `u` is `s` after a fault of HALT class that makes the block `f` FAULTED: the table and the path lists, the fault record
and the mode, the bay, the brake and the switch of the block, and the reports in the order of log entry 11 (R26, R36, R54,
R93, R149, R156, R172, R196). -/
def BlockFaulted (s u : State) (k : FaultKind) (f : BlockId) (boat : Option BoatId) (d1 d2 d3 : Nat) : Prop :=
  PathCut s u f ∧ FaultTaken s u k (some f) boat ∧ u.mode = modeAfterFault .halt s.mode ∧
  (∀ y, s.bay f = some y → u.bay f = some y.abandoned) ∧ (∀ c, c ≠ f → u.bay c = s.bay c) ∧
  (∀ j, s.brake f = some j → u.brake f = some { j with
    passage := j.passage.map (·.ended), hold := false, stopDelay := none }) ∧
  (∀ c, c ≠ f → u.brake c = s.brake c) ∧
  (∀ w, s.switchRec f = some w → u.switchRec f = some w.stopped) ∧
  ReportsAdded s u (s.faultReports k (some f) boat d1 d2 d3 0 ++
    match s.bay f with
    | some y => bayReport f (s.entry f).occupant y.phase y.abandoned.phase
    | none => [])

/-! ### Bays -/

/-- A weigh at the opening of attempt 1, with the settings read now (R95, R96). -/
def State.firstAttempt (s : State) (kind : WeighKind) (x : BoatId) : Weigh :=
  { kind := kind, boat := x, attempt := 1, deadline := s.timeBase + msSpan s.layout.settings.settleTime,
    spreadTolerance := s.layout.settings.spreadTolerance, tareTolerance := s.layout.settings.tareTolerance,
    minimumGuestLoad := s.layout.settings.minimumGuestLoad, settleTime := s.layout.settings.settleTime,
    count := 0, sumTotals := 0, sumFronts := 0, least := none, greatest := none }

/-- A bay at the end of BERTHED, by its role and the guests of its boat `x` (R83). -/
def State.afterBerthed (s : State) (y : Bay) (role : BayRole) (x : BoatId) (guests : Bool) : Bay :=
  match role, guests with
  | .load, _ => { y with entryEye := none, phase := .loading }
  | _, true => { y with entryEye := none, phase := .unloading }
  | _, false => { y with entryEye := none, phase := .tareWeigh, weigh := some (s.firstAttempt .tare x) }

/-! ### Tag windows and passages at a tail clearance -/

/-- The window of the main exit of `p` still awaits its read, and no other window is on that exit (R74). -/
def State.missesTag (s : State) (p : BlockId) (leg : Leg) (port : PortId) (w : TagWindow) : Prop :=
  leg = .main ∧ vget s.tagWindows port = some w ∧ w.block = p ∧ w.resolved = false ∧
  ∀ q v, vget s.tagWindows q = some v → v.block = p → q = port

/-- No window of this exit awaits its read. -/
def State.tagIsRead (s : State) (p : BlockId) (leg : Leg) : Prop :=
  leg = .spur ∨ ∀ q v, vget s.tagWindows q = some v → v.block = p → v.resolved = true

/-- The passage of a brake block has not ended (R144, R149). -/
def State.untimed (s : State) (p : BlockId) (k : Brake) (g : Passage) (r : BrakeSection) : Prop :=
  s.brake p = some k ∧ (s.record p).bind (·.brake) = some r ∧ k.passage = some g ∧ g.phase ≠ .done

/-- No passage of the block is still to end. -/
def State.isTimed (s : State) (p : BlockId) : Prop :=
  ∀ k g, s.brake p = some k → k.passage = some g → g.phase = .done

/-- The eye a passage misses (R148). -/
def Passage.missing (g : Passage) : Nat :=
  match g.phase with
  | .armed => 1
  | _ => 2

/-! ### Commands -/

/-- Carry several commands out one after the other, as the queue would bring them. -/
def carryOutAll : List Instr → State → Host.Outcome State Fault Refusal
  | [], s => .next s
  | c :: cs, s =>
    match exec c s with
    | .next t => carryOutAll cs t
    | o => o

/-- The command that puts a known request on a link. -/
def requestCommand (r : Req) (l : Link) (tag : Byte) (args : List Byte) : Instr :=
  match r with
  | .writeBlock => .writeBlock l tag args | .writeMerge => .writeMerge l tag args
  | .writeSettings => .writeSettings l tag args | .writeWindow => .writeWindow l tag args
  | .writePoint => .writePoint l tag args | .readLayout => .readLayout l tag args
  | .enterStandby => .enterStandby l tag args | .enterRun => .enterRun l tag args
  | .enterManual => .enterManual l tag args | .enterConfigure => .enterConfigure l tag args
  | .resume => .resume l tag args | .restart => .restart l tag args
  | .hold => .hold l tag args | .halt => .halt l tag args
  | .verifyClear => .verifyClear l tag args | .placeBoat => .placeBoat l tag args
  | .removeBoat => .removeBoat l tag args | .restoreBlock => .restoreBlock l tag args
  | .setService => .setService l tag args | .enroll => .enroll l tag args | .retire => .retire l tag args
  | .setRoute => .setRoute l tag args | .setExpedite => .setExpedite l tag args
  | .clearCheck => .clearCheck l tag args | .unloaded => .unloaded l tag args | .loaded => .loaded l tag args
  | .dispatch => .dispatch l tag args | .cancel => .cancel l tag args
  | .consentDispatch => .consentDispatch l tag args | .denyDispatch => .denyDispatch l tag args
  | .step => .stepBoat l tag args | .clearFault => .clearFault l tag args
  | .clearZoneCondition => .clearZoneCondition l tag args | .readStatus => .readStatus l tag args
  | .readBlock => .readBlock l tag args | .readBoat => .readBoat l tag args | .readQueue => .readQueue l tag args
  | .readReports => .readReports l tag args | .readCounters => .readCounters l tag args
  | .clearCounters => .clearCounters l tag args | .setAttention => .setAttention l tag args

end Sys2Proof.Machine
end

