-- ==== Sys2Proof/Certificates/Slice0/Obligations.lean ====
section
/-! DEFINITION. The statements for the provers. -/

open Sys2Proof Sys2Proof.Machine

/-! ### The machine -/

/-- One step carries out the command at the front of the queue on the state with the queue's rest. -/
def Obligations.StepRunsTheFrontCommand : Prop :=
  ∀ (s : State) (c : Instr) (rest : List Instr), s.pending = c :: rest → step s = exec c { s with pending := rest }

/-- With no command waiting the part queues the commands of the deadlines reached, and with none reached the Time Base
counts one microsecond; the commands it queues are those of the sixteen sorts of deadline that are present and reached, each
of them and no other. Every command is carried out in every state, and a deadline's command changes nothing while its
deadline is absent or not reached. The model's own choices (log entries 1 to 3). -/
def Obligations.TimeRunsAndEveryCommandIsCarriedOut : Prop :=
  (∀ s : State, s.pending = [] →
    (s.dueCommands = [] → step s = .next { s with timeBase := s.timeBase + 1 }) ∧
    (s.dueCommands ≠ [] → step s = .next { s with pending := s.dueCommands })) ∧
  (∀ (s : State) (c : Instr), c ∈ s.dueCommands ↔ s.hasReached c = true) ∧
  (∀ (c : Instr) (s : State), ∃ t : State, exec c s = .next t) ∧
  (∀ (s : State) (c : Instr), isDeadline c = true → s.hasReached c = false → exec c s = .next s)

/-- Power-on reset, from whatever state, leaves the part as every chapter gives it, with the levels at the pins as the
command brings them. That the command brings those levels, the levels of State.reset and that the queue of waiting commands
is kept are the model's choice (log entry 7). -/
def Obligations.PowerOnResetSetsUpThePart : Prop :=
  State.reset.justPoweredOn ∧ State.reset.pending = [] ∧
  ∀ (pins : BitVec 2) (open1 open2 : Bool) (on : List PointId) (s : State),
    ∃ t : State, exec (.powerOnReset pins open1 open2 on) s = .next t ∧ t.justPoweredOn ∧ t.rate = pins ∧
      t.mc.contact1Open = open1 ∧ t.mc.contact2Open = open2 ∧ (∀ p, (t.point p).raw = on.contains p) ∧
      t.pending = s.pending

/-! ### Requests -/

/-- The checks of R212 in their order decide the response; a request refused at one of them changes nothing but the
response it is sent, a request that passes them is decided by its owner, and an owner that refuses changes nothing,
MISMATCH (R183) apart. While a response of its link is being sent a request joins the link's queue and changes nothing
else, and a full queue turns it away (log entry 5). -/
def Obligations.RequestsPassTheChecksInOrder : Prop :=
  (∀ (s : State) (l : Link) (r : Req) (tag : Byte) (args : List Byte), (s.port l).sending = none →
    (roleAllows l r = false →
      exec (requestCommand r l tag args) s = .next (s.replies l r tag .notPermitted [])) ∧
    (roleAllows l r = true →
      (readArgs r args = .error none →
        exec (requestCommand r l tag args) s = .next (s.replies l r tag .badArgument [])) ∧
      (∀ i, readArgs r args = .error (some i) →
        exec (requestCommand r l tag args) s = .next (s.replies l r tag .badArgument [BitVec.ofNat 8 i])) ∧
      ∀ c, readArgs r args = .ok c →
        (takenIn r s.mode = false →
          exec (requestCommand r l tag args) s = .next (s.replies l r tag .mode [])) ∧
        (takenIn r s.mode = true → s.inWindow l c = false →
          exec (requestCommand r l tag args) s = .next (s.replies l r tag .window [])) ∧
        (takenIn r s.mode = true → s.inWindow l c = true →
          exec (requestCommand r l tag args) s =
            .next ((s.own l c).2.replies l r tag (s.own l c).1.status (s.own l c).1.data)) ∧
        ((s.own l c).1.status ≠ .ok → (s.own l c).1.status ≠ .pending → (s.own l c).1.status ≠ .mismatch →
          (s.own l c).2 = s))) ∧
  (∀ (s : State) (l : Link) (code tag : Byte) (args : List Byte),
    (Instr.unknownRequest l code tag args).wellFormed = true → (s.port l).sending = none →
    exec (.unknownRequest l code tag args) s = .next (s.sends l code tag .unknownRequest [])) ∧
  (∀ (s : State) (l : Link) (tag : Byte) (args : List Byte), (s.port l).sending ≠ none →
    (∀ r : Req,
      ((s.port l).queue.length < 2 →
        exec (requestCommand r l tag args) s = .next (s.setPort l { s.port l with
          queue := (s.port l).queue ++ [{ code := BitVec.ofNat 8 r.code, tag := tag, args := args }] })) ∧
      (2 ≤ (s.port l).queue.length → exec (requestCommand r l tag args) s = .next s)) ∧
    (∀ code : Byte,
      ((s.port l).queue.length < 2 →
        exec (.unknownRequest l code tag args) s = .next (s.setPort l { s.port l with
          queue := (s.port l).queue ++ [{ code := code, tag := tag, args := args }] })) ∧
      (2 ≤ (s.port l).queue.length → exec (.unknownRequest l code tag args) s = .next s)))

/-- The roles of the links: Link S passes for fifteen requests and is answered NOT_PERMITTED for every other; Link A and
Link B pass for every request; and the power-on windows let A and B address every block and S none (R213, R214). -/
def Obligations.LinkRolesFollowThePort : Prop :=
  (∀ r : Req, roleAllows .a r = true ∧ roleAllows .b r = true) ∧
  (∀ r : Req, roleAllows .s r = true ↔
    r ∈ [Req.unloaded, .loaded, .dispatch, .cancel, .setExpedite, .hold, .halt, .setAttention, .readLayout,
      .readStatus, .readBlock, .readBoat, .readQueue, .readReports, .readCounters]) ∧
  (∀ (s : State) (r : Req) (tag : Byte) (args : List Byte), (s.port .s).sending = none →
    r ∉ [Req.unloaded, .loaded, .dispatch, .cancel, .setExpedite, .hold, .halt, .setAttention, .readLayout,
      .readStatus, .readBlock, .readBoat, .readQueue, .readReports, .readCounters] →
    exec (requestCommand r .s tag args) s = .next (s.replies .s r tag .notPermitted [])) ∧
  (∀ b : BlockId, (State.reset.windows.get .a).holds b = true ∧ (State.reset.windows.get .b).holds b = true ∧
    (State.reset.windows.get .s).holds b = false)

/-! ### Layout -/

/-- WRITE BLOCK, taken in CONFIGURE with the block in the link's windows, stores the record its 47 bytes carry, or
empties the place for byte 0 alone; the generation goes up by one, from 65,535 to 1; nothing else changes but the
response. -/
def Obligations.WriteBlockStoresTheRecord : Prop :=
  ∀ (s : State) (l : Link) (tag : Byte) (b : BlockId) (g : Nat),
    s.admits l .writeBlock → (s.windows.get l).holds b = true →
    g = (if s.layout.generation = 65535 then 1 else s.layout.generation + 1) →
    (∀ r : BlockRecord, r.inRange = true →
      exec (.writeBlock l tag (recordBytes b r)) s =
        .next (({ s with layout := { s.layout with
          blocks := vput s.layout.blocks b (some r), generation := g } } : State).replies l .writeBlock tag .ok (b2 g))) ∧
    exec (.writeBlock l tag (b1 b.val)) s =
      .next (({ s with layout := { s.layout with
        blocks := vput s.layout.blocks b none, generation := g } } : State).replies l .writeBlock tag .ok (b2 g))

/-- WRITE MERGE replaces or empties a slot whole; WRITE SETTINGS replaces the seven settings together; WRITE WINDOW replaces
one window of one link; WRITE POINT sets one point's conditioning, discards its pending change without a glitch and sets its
level from the raw level without an edge. Each counts in the generation and changes nothing else but the response. -/
def Obligations.LayoutWritesReplaceOneThing : Prop :=
  ∀ (s : State) (l : Link) (tag : Byte) (g : Nat),
    g = (if s.layout.generation = 65535 then 1 else s.layout.generation + 1) →
    (∀ (m : MergeId), s.admits l .writeMerge →
      (∀ r : MergeRecord, r.inRange = true →
        exec (.writeMerge l tag (mergeBytes m r)) s =
          .next (({ s with layout := { s.layout with
            merges := vput s.layout.merges m (some r), generation := g } } : State).replies l .writeMerge tag .ok (b2 g))) ∧
      exec (.writeMerge l tag (b1 m.val)) s =
        .next (({ s with layout := { s.layout with
          merges := vput s.layout.merges m none, generation := g } } : State).replies l .writeMerge tag .ok (b2 g))) ∧
    (∀ (t : Settings), s.admits l .writeSettings → t.inRange = true →
      exec (.writeSettings l tag (settingsBytes t)) s =
        .next (({ s with layout := { s.layout with
          settings := t, generation := g } } : State).replies l .writeSettings tag .ok (b2 g))) ∧
    (∀ (k : Link) (w : Window), s.admits l .writeWindow → w.allowed = true →
      exec (.writeWindow l tag (b1 (linkCode k) ++ b1 0 ++ b1 w.base.val ++ b1 w.size)) s =
        .next (({ s with windows := s.windows.put k ({ s.windows.get k with w0 := w }),
                         layout := { s.layout with generation := g } } : State).replies l .writeWindow tag .ok (b2 g)) ∧
      exec (.writeWindow l tag (b1 (linkCode k) ++ b1 1 ++ b1 w.base.val ++ b1 w.size)) s =
        .next (({ s with windows := s.windows.put k ({ s.windows.get k with w1 := w }),
                         layout := { s.layout with generation := g } } : State).replies l .writeWindow tag .ok (b2 g))) ∧
    (∀ (p : PointId) (invert : Bool) (filter : Nat), s.admits l .writePoint → filter ≤ 50 →
      exec (.writePoint l tag (b1 p.val ++ flagByte invert ++ b1 filter)) s =
        .next (({ s with
          points := vput s.points p { s.point p with
            invert := invert, filter := filter, pending := none, level := (s.point p).raw != invert },
          layout := { s.layout with generation := g } } : State).replies l .writePoint tag .ok (b2 g)))

/-- Every layout record written in its byte order is read back as it was: block records, removals, merge records and
settings, each at every value its fields may hold. -/
def Obligations.LayoutBytesReadBack : Prop :=
  (∀ (b : BlockId) (r : BlockRecord), r.inRange = true →
    (recordBytes b r).length = 47 ∧ readWriteBlock (recordBytes b r) = .ok (b, some r)) ∧
  (∀ b : BlockId, readWriteBlock (b1 b.val) = .ok (b, none)) ∧
  (∀ (m : MergeId) (r : MergeRecord), r.inRange = true → readWriteMerge (mergeBytes m r) = .ok (m, some r)) ∧
  (∀ m : MergeId, readWriteMerge (b1 m.val) = .ok (m, none)) ∧
  (∀ t : Settings, t.inRange = true → readWriteSettings (settingsBytes t) = .ok t)

/-- Every READ request but READ REPORTS is answered OK with the data of its part as it stands and changes nothing but
the response. READ STATUS returns its 34 bytes, READ QUEUE 2 bytes and 10 for each entry, READ BOAT the record of a slot,
READ BLOCK part 0 the entry of a block, and READ COUNTERS the counters, each byte by byte, with the codes of R222 (R58, R79, R122, R217, R218, R222,
R225). -/
def Obligations.ReadsChangeOnlyTheResponse : Prop :=
  (([.configure, .standby, .run, .manual, .holding, .held, .halted] : List Mode).map (·.code) = List.range 7 ∧
    ([.unexpectedArrival, .unreleasedDeparture, .boundaryOverlap, .lostBoat, .stuckAtBoundary, .actuatorMismatch,
      .switchTravel, .stopLine, .stalled, .strayClearance, .trapFault, .brakeMargin, .tagMismatch, .linkLost,
      .speedClamp, .tagMissing, .weighFailed, .tareDeviation] : List FaultKind).map (·.code) = List.range 18 ∧
    ([.halt, .hold, .note] : List FaultClass).map (·.code) = List.range 3 ∧
    ([.unverified, .clear, .reserved, .occupied, .releasing, .faulted, .outOfService] : List BlockState).map (·.code) =
      List.range 7 ∧
    ([.vacant, .berthed, .unloading, .tareWeigh, .loading, .loadWeigh, .ready, .dispatchQueued, .cleared,
      .released] : List Phase).map (·.code) = List.range 10 ∧
    ([.enterStandby, .enterRun, .enterManual, .enterConfigure, .resume, .restart] : List ModeReq).map (·.req.code) =
      [16, 17, 18, 19, 20, 21]) ∧
  ∀ (s : State) (l : Link) (tag : Byte), (s.port l).sending = none →
    (exec (.readStatus l tag []) s = .next (s.replies l .readStatus tag .ok
        (b1 s.mode.code ++ b1 s.mc.runMode.toMode.code ++ b1 s.mc.permit.toNat ++ b1 s.mc.stopActive.toNat ++
         (match s.mc.slot with
          | some p => b1 p.request.req.code ++ b2 (p.generation.getD 65535) ++ b1 (linkCode p.link.link) ++
              b2 (msLeft s.timeBase p.deadline)
          | none => b1 255 ++ b2 65535 ++ b1 255 ++ b2 0) ++
         (match s.mc.fault with
          | some f => b1 f.kind.code ++ b1 f.cls.code ++ b1 ((f.block.map (·.val)).getD 255) ++
              b1 ((f.boat.map (·.val)).getD 255) ++ b4 f.time.toNat
          | none => b1 255 ++ b1 255 ++ b1 255 ++ b1 255 ++ b4 0) ++
         b1 s.mc.further ++ b2 s.layout.generation ++ b1 s.rate.toNat ++
         [Link.a, .b, .s].flatMap fun k => b1 (s.port k).supervision.isSome.toNat ++ b1 (s.port k).queue.length ++
           b2 (match (s.port k).supervision with
             | some v => msLeft s.timeBase v.deadline
             | none => 0))) ∧
      s.statusData.length = 34) ∧
    (exec (.readQueue l tag []) s = .next (s.replies l .readQueue tag .ok
        (b1 s.dispatch.length ++ [s.nextDispatch] ++ s.dispatch.flatMap fun e =>
          [e.seq] ++ b1 e.bay.val ++ b1 e.boat.val ++
          b1 (e.afterPrevious.toNat + 2 * e.consentA.toNat + 4 * e.consentB.toNat +
            8 * (e.consentA && e.consentB).toNat +
            match e.timer with
            | .running _ => 0
            | .suspended _ => 16
            | .stopped => 32) ++
          b4 e.timerStart.toNat ++
          b2 (match e.timer with
            | .running d => msLeft s.timeBase d
            | .suspended left => (left + 999) / 1000
            | .stopped => 0))) ∧
      s.queueData.length = 2 + 10 * s.dispatch.length) ∧
    (∀ x : BoatId, exec (.readBoat l tag (b1 x.val)) s = .next (s.replies l .readBoat tag .ok
      (b1 x.val ++ b1 (match s.slot x with
        | .unused => 0
        | .absent _ => 1
        | .onTrack _ _ _ => 2) ++
       match s.boat x with
       | none => []
       | some bt => b3 bt.tagCode ++ b2 bt.tare ++ b2 (bt.load.getD 65535) ++ b1 bt.guests.toNat ++
          b1 (((s.slot x).position.map (·.val)).getD 255) ++ b1 (s.pathOf x).length ++
          ((s.pathOf x).flatMap fun c => b1 c.val) ++ b1 bt.route.code ++ b1 bt.check.toNat ++ b1 bt.expedite.toNat ++
          b3 bt.laps.toNat ++ b2 (bt.lastSpeed.getD 65535) ++
          b2 (bt.tare + bt.load.getD s.layout.settings.unweighedAllowance)))) ∧
    (∀ b : BlockId,
      exec (.readBlock l tag (b1 b.val ++ b1 0)) s = .next (s.replies l .readBlock tag .ok
        (b1 b.val ++ b1 (((s.layout.kind b).map (·.code)).getD 255) ++ b1 (s.entry b).state.code ++
         b1 (((s.entry b).occupant.map (·.val)).getD 255) ++ b1 (((s.entry b).holder.map (·.val)).getD 255) ++
         b1 (s.entry b).nose.toNat ++ b2 (((s.entry b).transit.map (msLeft s.timeBase)).getD 65535) ++
         b2 (((s.entry b).clearance.map (msLeft s.timeBase)).getD 65535) ++
         (match (s.entry b).release with
          | some r => b1 1 ++ b1 r.path.length ++ (r.path.flatMap fun c => b1 c.val) ++ b1 r.retries ++
              b1 r.frozen.toNat
          | none => b1 0) ++
         b3 (vget s.passages b))) ∧
      exec (.readBlock l tag (b1 b.val ++ b1 1)) s = .next (s.replies l .readBlock tag .ok (s.unitsData b)) ∧
      exec (.readBlock l tag (b1 b.val ++ b1 2)) s = .next (s.replies l .readBlock tag .ok (s.driveData b))) ∧
    (exec (.readLayout l tag (b1 0)) s =
        .next (s.replies l .readLayout tag .ok (b2 s.layout.generation ++
          match s.layout.validate with
          | some (check, block) => b1 check ++ b1 block
          | none => b1 0 ++ b1 255)) ∧
      (∀ b : BlockId, exec (.readLayout l tag (b1 1 ++ b1 b.val)) s =
        .next (s.replies l .readLayout tag .ok (match s.record b with
          | some r => recordBytes b r
          | none => b1 b.val))) ∧
      (∀ m : MergeId, exec (.readLayout l tag (b1 2 ++ b1 m.val)) s =
        .next (s.replies l .readLayout tag .ok (match s.layout.merge m with
          | some r => mergeBytes m r
          | none => b1 m.val))) ∧
      exec (.readLayout l tag (b1 3)) s =
        .next (s.replies l .readLayout tag .ok (settingsBytes s.layout.settings)) ∧
      exec (.readLayout l tag (b1 4)) s =
        .next (s.replies l .readLayout tag .ok
          (windowsBytes s.windows.a ++ windowsBytes s.windows.b ++ windowsBytes s.windows.s))) ∧
    (exec (.readCounters l tag (b1 0 ++ b1 0)) s =
        .next (s.replies l .readCounters tag .ok ([Link.a, .b, .s].flatMap fun k =>
          b2 (s.port k).goodFrames ++ b2 (s.port k).checkErrors ++ b2 (s.port k).overruns ++ b2 (s.port k).truncated ++
          b2 (s.port k).breaks)) ∧
      (∀ n : Nat, n ≤ 1 → exec (.readCounters l tag (b1 1 ++ b1 (16 * n))) s =
        .next (s.replies l .readCounters tag .ok
          ((((List.finRange 32).drop (16 * n)).take 16).flatMap fun b => b2 (vget s.passages b)))) ∧
      (∀ n : Nat, n ≤ 5 → exec (.readCounters l tag (b1 2 ++ b1 (16 * n))) s =
        .next (s.replies l .readCounters tag .ok
          ((((List.finRange 96).drop (16 * n)).take 16).flatMap fun p => b2 (s.point p).glitches))) ∧
      exec (.readCounters l tag (b1 3 ++ b1 0)) s =
        .next (s.replies l .readCounters tag .ok ((List.finRange 32).flatMap fun b => match s.bay b with
          | some y => b1 b.val ++ b2 y.weighs ++ b2 y.failures
          | none => [])) ∧
      exec (.readCounters l tag (b1 4 ++ b1 0)) s =
        .next (s.replies l .readCounters tag .ok (b2 s.tagDiscards ++ b2 s.trapStrays ++
          b1 (s.reader .a).skipped ++ b1 (s.reader .b).skipped ++ b1 (s.reader .s).skipped)) ∧
      exec (.readCounters l tag (b1 5 ++ b1 0)) s =
        .next (s.replies l .readCounters tag .ok
          ((List.finRange 32).flatMap fun c => b1 (s.channel c).command.code)))

/-! ### Ride modes -/

/-- A mode request outside its modes is answered MODE, and one whose precondition fails is refused with its data; the
slot and all else stay as they were (R180, R181). -/
def Obligations.ModeRequestPreconditions : Prop :=
  ∀ (s : State) (c : ControlLink) (tag : Byte) (g : Nat), (s.port c.link).sending = none → g < 65536 →
    (∀ m : ModeReq, s.mode ∉ m.modes →
      exec (requestCommand m.req c.link tag (m.argBytes g)) s = .next (s.replies c.link m.req tag .mode [])) ∧
    (s.mode = .configure → g ≠ s.layout.generation →
      exec (.enterStandby c.link tag (b2 g)) s =
        .next (s.replies c.link .enterStandby tag .stale (b2 s.layout.generation))) ∧
    (∀ check block : Nat, s.mode = .configure → g = s.layout.generation → s.layout.validate = some (check, block) →
      exec (.enterStandby c.link tag (b2 g)) s =
        .next (s.replies c.link .enterStandby tag .state (b1 check ++ b1 block))) ∧
    (∀ m ∈ [ModeReq.enterRun, .enterManual, .resume], s.mode ∈ m.modes →
      (s.mc.stopActive = true →
        exec (requestCommand m.req c.link tag []) s =
          .next (s.replies c.link m.req tag .state (b1 0 ++ b1 255))) ∧
      (∀ b : BlockId, s.mc.stopActive = false → (s.entry b).state = .unverified →
        (∀ a : BlockId, a < b → (s.entry a).state ≠ .unverified) →
        exec (requestCommand m.req c.link tag []) s =
          .next (s.replies c.link m.req tag .state (b1 1 ++ b1 b.val)))) ∧
    (∀ m ∈ [ModeReq.enterConfigure, .restart], s.modeRefusal m none = none)

/-- A mode request that meets its preconditions opens an empty slot with its own request, generation and link and a
deadline one consent window away, replaces a slot its own link opened for something else in the same way, each answered
PENDING and reported OPENED, and refreshes the deadline of a slot its own link opened for the same, answered PENDING with
no report (R182). A request of the other link that differs from the slot is answered MISMATCH with the slot's request and
link and empties it, reported MISMATCH (R183); and a slot whose deadline passes expires, reported EXPIRED (R184). -/
def Obligations.ModeRequestsHoldTheSlot : Prop :=
  (∀ (s : State) (m : ModeReq) (c : ControlLink) (tag : Byte) (g : Nat), s.admits c.link m.req → g < 65536 →
    s.modeRefusal m (m.quotes g) = none →
    ((s.mc.slot = none ∨ ∃ p, s.mc.slot = some p ∧ p.link = c ∧ (p.request ≠ m ∨ p.generation ≠ m.quotes g)) →
      exec (requestCommand m.req c.link tag (m.argBytes g)) s =
        .next ((({ s with mc := { s.mc with slot := some (
            { request := m, generation := m.quotes g, link := c,
              deadline := s.timeBase + msSpan s.layout.settings.consentWindow }) } } : State).append .mode none none none
            { d1 := 0, d2 := m.req.code, d3 := linkCode c.link, d4 := (m.quotes g).getD 0 }).replies c.link m.req tag
              .pending [])) ∧
    (∀ p, s.mc.slot = some p → p.link = c → p.request = m → p.generation = m.quotes g →
      exec (requestCommand m.req c.link tag (m.argBytes g)) s =
        .next (({ s with mc := { s.mc with slot := some ({ p with
          deadline := s.timeBase + msSpan s.layout.settings.consentWindow }) } } : State).replies c.link m.req tag
            .pending [])) ∧
    (∀ p, s.mc.slot = some p → p.link ≠ c → (p.request ≠ m ∨ p.generation ≠ m.quotes g) →
      exec (requestCommand m.req c.link tag (m.argBytes g)) s =
        .next ((({ s with mc := { s.mc with slot := none } } : State).append .mode none none none
            { d1 := 3, d2 := p.request.req.code, d3 := m.req.code, d4 := linkCode c.link }).replies c.link m.req tag
              .mismatch (b1 p.request.req.code ++ b1 (linkCode p.link.link))))) ∧
  (∀ (s : State) (p : PendingSlot), s.mc.slot = some p → reached s.timeBase p.deadline = true →
    exec .slotDeadline s =
      .next (({ s with mc := { s.mc with slot := none } } : State).append .mode none none none
        { d1 := 2, d2 := p.request.req.code, d3 := linkCode p.link.link, d4 := 0 }))

/-- The matching request of the other link carries ENTER RUN, ENTER MANUAL or RESUME out: the mode, the run mode, the
permit and the slot are as R183, R185, R186 and R192 give them; on entering RUN or MANUAL a suspended consent timer runs on
from its remaining time (R112); and a RESUME from HALTED takes every frozen release: with blocks left on the boat's path
list it is commanded again with a fresh transit limit, fresh retries and the kicker's pulse, with none left it is taken back
and STALLED is raised (R56). The MODE report CHANGED with cause REQUEST comes first, and before the grants, the settling and
the rest of the end of the event only the reports of those stalls follow it (R185, R199; by rising block number, log entry
31, a bay's report after the fault's, log entry 11).
Details 3 and 4 of a BAY report are 0, the model's choice (log entry 37). -/
def Obligations.MatchedRequestsStartTheRide : Prop :=
  ∀ (s : State) (m : ModeReq) (c other : ControlLink) (tag : Byte) (d : Time),
    m ∈ [ModeReq.enterRun, .enterManual, .resume] → s.admits c.link m.req → s.mc.stopActive = false →
    (∀ b, (s.entry b).state ≠ .unverified) → other ≠ c →
    s.mc.slot = some { request := m, generation := none, link := other, deadline := d } →
    ∃ t : State, exec (requestCommand m.req c.link tag []) s = .next t ∧ t.mc.slot = none ∧ t.mc.permit = true ∧
      (∀ new : Mode,
        new = (if m = .enterRun then .run else if m = .enterManual then .manual
               else if s.mode = .halted then .holding else s.mc.runMode.toMode) →
        ∃ u : State, t = u.finish.replies c.link m.req tag .ok (b1 new.code) ∧ u.mode = new ∧
          ((m ≠ .resume ∨ s.mode ≠ .halted) → u.table = s.table ∧ u.roster = s.roster ∧ u.bays = s.bays ∧
            ReportsAdded s u [.of .mode none none 1 s.mode.code new.code 0]) ∧
          (m = .resume → s.mode = .halted →
            (∀ b y, s.bay b = some y → y.returnPhase = some .berthed → y.entryEye ≠ none) →
            ReportsAdded s u (.of .mode none none 1 6 4 0 ::
              (List.finRange 32).flatMap fun b => match (s.entry b).release, (s.entry b).occupant with
                | some r, some x =>
                  if r.frozen = true ∧ s.pathOf x = [] then
                    { kind := .fault, fault := some (.stalled, .hold), block := some b, boat := some x,
                      details := { d1 := 0, d2 := 0, d3 := 0, d4 := 0 } } ::
                    match s.bay b with
                    | some y => (match y.phase, y.returnPhase with
                      | .released, some ph => bayReport b (some x) .released ph
                      | _, _ => [])
                    | none => []
                  else []
                | _, _ => []))) ∧
      (m = .enterRun → t.mode = .run ∧ t.mc.runMode = .run ∧ t.mc.fault = s.mc.fault ∧
        t.surroundings = (s.replies c.link m.req tag .ok (b1 2)).surroundings) ∧
      (m = .enterManual → t.mode = .manual ∧ t.mc.runMode = .manual ∧ t.mc.fault = s.mc.fault ∧
        t.table = s.table ∧ t.roster = s.roster ∧
        t.surroundings = (s.replies c.link m.req tag .ok (b1 3)).surroundings) ∧
      (m = .resume → s.mode = .held → t.mode = s.mc.runMode.toMode ∧ t.mc.runMode = s.mc.runMode ∧
        t.mc.fault = s.mc.fault ∧
        t.surroundings = (s.replies c.link m.req tag .ok (b1 s.mc.runMode.toMode.code)).surroundings) ∧
      ((t.mode = .run ∨ t.mode = .manual) → s.mode ≠ .run → s.mode ≠ .manual → s.dispatchSound →
        ∀ e ∈ s.dispatch, ∀ left : Nat, e.timer = .suspended left → ¬(e.consentA = true ∧ e.consentB = true) →
          { e with timer := .running (s.timeBase + BitVec.ofNat 32 left) } ∈ t.dispatch) ∧
      (m = .resume → s.mode = .halted → (t.mode = .holding ∨ t.mode = .held) ∧ t.mc.runMode = s.mc.runMode ∧
        t.dispatch = s.dispatch ∧ t.surroundings = (s.replies c.link m.req tag .ok (b1 4)).surroundings ∧
        (s.tableSound → (∀ b r, (t.entry b).release = some r → r.frozen = false) ∧
          (s.trackSound → ∀ (b : BlockId) (r : Release) (x : BoatId) (rec : BlockRecord),
            (s.entry b).release = some r → r.frozen = true → (s.entry b).occupant = some x → s.record b = some rec →
            (s.pathOf x ≠ [] →
              t.entry b = { s.entry b with
                transit := some (s.timeBase + msSpan rec.transitLimit)
                release := some { r with frozen := false, retries := match rec.launch with
                  | some n => n.kickRetries
                  | none => 0 } } ∧
              (∀ dr ln, rec.fields = .launch dr ln → (s.channel dr.channel).owner = some b →
                (∀ a ra da, a ≠ b → s.record a = some ra → ra.drive = some da → da.channel ≠ dr.channel) →
                (t.channel dr.channel).pulse = some (s.timeBase + msSpan ln.kickPulse))) ∧
            (s.pathOf x = [] →
              t.entry b = { s.entry b with state := .occupied, release := none, transit := none } ∧
              (s.mc.fault = none → ∃ f, t.mc.fault = some f ∧ f.kind = .stalled)))))

/-- The matching ENTER STANDBY of the other link, on a validated layout whose generation both quoted, sets every unit up
from the layout and leads to STANDBY: a bay for every BAY block, with the counters of a bay that was one before and 0 else
(R80), a launch record for every LAUNCH block, an arbiter record for every filled merge slot, a switch record for every
SWITCH block with the reading of its two position points (R130, R172), a brake record at its idle level for every TRIM and
RUNOUT block (R142) and an owner for every channel a record names; the roster is kept and no dispatch entry leaves the
list (R186); the one report is MODE, CHANGED from CONFIGURE to STANDBY with cause REQUEST (R185, R199). -/
def Obligations.MatchedEnterStandbySetsUp : Prop :=
  ∀ (s : State) (c other : ControlLink) (tag : Byte) (d : Time),
    s.admits c.link .enterStandby → s.layout.generation < 65536 → s.layout.validate = none → other ≠ c →
    s.mc.slot =
      some { request := .enterStandby, generation := some s.layout.generation, link := other, deadline := d } →
    ∃ t : State, exec (.enterStandby c.link tag (b2 s.layout.generation)) s = .next t ∧
      t.surroundings = (s.replies c.link .enterStandby tag .ok (b1 1)).surroundings ∧
      ReportsAdded s t [.of .mode none none 1 0 1 0] ∧
      t.mode = .standby ∧ t.mc.slot = none ∧ t.mc.permit = false ∧ t.mc.runMode = s.mc.runMode ∧
      t.mc.fault = s.mc.fault ∧ t.roster = s.roster ∧ t.nextDispatch = s.nextDispatch ∧
      t.dispatch.map (·.seq) = s.dispatch.map (·.seq) ∧
      (∀ b, t.entry b = Entry.bare (match s.record b with
        | some r => if r.inService then .unverified else .outOfService
        | none => .outOfService)) ∧
      (∀ b, t.bay b = if s.layout.kind b = some .bay then some
          { phase := .vacant, entryEye := none, returnPhase := none, status := none, weigh := none,
            weighs := ((s.bay b).map (·.weighs)).getD 0, failures := ((s.bay b).map (·.failures)).getD 0 }
        else none) ∧
      (∀ b, t.launchRec b =
        if s.layout.kind b = some .launch then some { lastLaunch := none, headway := none } else none) ∧
      (∀ m, t.arbiter m = (s.layout.merge m).map fun _ =>
        { holder := none, burstRemaining := 0, backlog0 := 0, backlog1 := 0, high0 := false, high1 := false }) ∧
      (∀ b, ((s.record b).bind (·.switch) = none → t.switchRec b = none) ∧
        ∀ z, (s.record b).bind (·.switch) = some z →
          t.switchRec b = some (match (s.point z.mainPosition).level, (s.point z.spurPosition).level with
            | true, false => { reading := .main, move := none, held := some .main }
            | false, true => { reading := .spur, move := none, held := some .spur }
            | _, _ => { reading := .none, move := none, held := none })) ∧
      (∀ b, t.brake b = ((s.record b).bind (·.brake)).map fun r =>
        { passage := none, demand := r.idleLevel, hold := false, stopDelay := none, lastSpeed := none,
          lastDecel := none, lastLevel := none, zone := { trapFault := false, clamped := false, margin := false } }) ∧
      (∀ ch b, (t.channel ch).owner = some b →
        ∃ r dr, s.record b = some r ∧ r.drive = some dr ∧ dr.channel = ch) ∧
      (∀ ch, (t.channel ch).pulse = none ∧ ((t.channel ch).owner = none → (t.channel ch).command = .deEnergised)) ∧
      (∀ b r dr, s.record b = some r → r.drive = some dr → (t.channel dr.channel).owner.isSome = true)

/-- The matching RESTART or ENTER CONFIGURE of the other link loses the picture of the ride and keeps the layout, the
enrolled boats, the counters, the run mode and the fault record: every bay, brake, launch, switch and arbiter record held
before is held after, a bay with its counters and a brake with its last values and its demand at the idle level, and no
other record is made (R61, R80, R123, R130, R134, R142, R187). The MODE report CHANGED with cause REQUEST comes first, then a
BAY report for each bay that was not VACANT (R101, R185, R199; that these are made, by rising block number and naming no
boat, is log entry 18).
Details 3 and 4 of a BAY report are 0, the model's choice (log entry 37). -/
def Obligations.MatchedRestartAndConfigureForget : Prop :=
  ∀ (s : State) (m : ModeReq) (c other : ControlLink) (tag : Byte) (d : Time),
    m ∈ [ModeReq.restart, .enterConfigure] → s.admits c.link m.req → other ≠ c →
    s.mc.slot = some { request := m, generation := none, link := other, deadline := d } →
    ∃ t : State, exec (requestCommand m.req c.link tag []) s = .next t ∧
      t.mode = (if m = .restart then .standby else .configure) ∧
      ReportsAdded s t (.of .mode none none 1 s.mode.code (if m = .restart then 1 else 0) 0 ::
        (List.finRange 32).flatMap fun b => match s.bay b with
          | some y => bayReport b none y.phase .vacant
          | none => []) ∧
      t.surroundings = (s.replies c.link m.req tag .ok (b1 (if m = .restart then 1 else 0))).surroundings ∧
      t.mc.slot = none ∧ t.mc.permit = false ∧ t.mc.runMode = s.mc.runMode ∧ t.mc.fault = s.mc.fault ∧
      t.mc.further = s.mc.further ∧ t.mc.stopActive = s.mc.stopActive ∧
      (∀ b, t.entry b = Entry.bare (match s.record b with
        | some r => if r.inService then .unverified else .outOfService
        | none => .outOfService)) ∧
      (∀ x, t.slot x = match s.slot x with
        | .unused => .unused
        | .absent bt => .absent { bt with load := none }
        | .onTrack bt _ _ => .absent { bt with load := none }) ∧
      (∀ p, vget t.tagWindows p = none) ∧ t.dispatch = [] ∧ t.nextDispatch = s.nextDispatch ∧
      (∀ k, t.arbiter k = (s.arbiter k).map fun _ =>
        { holder := none, burstRemaining := 0, backlog0 := 0, backlog1 := 0, high0 := false, high1 := false }) ∧
      (∀ b, t.launchRec b = (s.launchRec b).map fun _ => { lastLaunch := none, headway := none }) ∧
      (∀ b, t.bay b = (s.bay b).map fun y =>
        { phase := .vacant, entryEye := none, returnPhase := none, status := none, weigh := none,
          weighs := y.weighs, failures := y.failures }) ∧
      (∀ b, (s.brake b = none → t.brake b = none) ∧
        ∀ k r, s.brake b = some k → (s.record b).bind (·.brake) = some r →
          t.brake b = some { k with passage := none, demand := r.idleLevel, hold := false, stopDelay := none }) ∧
      (∀ b, t.switchRec b = (s.switchRec b).map fun w =>
        { reading := w.reading, move := none, held := if m = .restart then w.reading.leg else w.held }) ∧
      (∀ ch, (t.channel ch).pulse = none ∧
        (t.channel ch).owner = (if m = .restart then (s.channel ch).owner else none) ∧
        (m = .enterConfigure → t.channel ch =
          { owner := none, command := .deEnergised, pulse := none, expectation := none, check := none,
            position := none })) ∧
      t.passages = s.passages ∧ t.tagDiscards = s.tagDiscards ∧ t.trapStrays = s.trapStrays

/-- A HOLD in RUN or MANUAL voids every dispatch entry, keeps every block and boat, and leads to HOLDING, or on to HELD
when nothing is RESERVED or RELEASING, with its CHANGED, DISCARDED and VOIDED reports in this order; in any other mode it
changes nothing but the response (R188, R189, R115, R199). That DISCARDED comes before the VOIDED reports and HELD is settled
after them is the model's choice (log entries 9 and 11). -/
def Obligations.HoldStopsGranting : Prop :=
  ∀ (s : State) (l : Link) (tag : Byte), (s.port l).sending = none →
    ((s.mode = .run ∨ s.mode = .manual) →
      ∃ t : State, exec (.hold l tag []) s = .next t ∧
        t.surroundings = (s.replies l .hold tag .ok (b1 4)).surroundings ∧
        ((∃ b, (s.entry b).state = .reserved ∨ (s.entry b).state = .releasing) → t.mode = .holding ∧
          ReportsAdded s t (s.stopReports .holding 1 0)) ∧
        ((∀ b, (s.entry b).state ≠ .reserved ∧ (s.entry b).state ≠ .releasing) → t.mode = .held ∧
          ReportsAdded s t (s.stopReports .holding 1 0 ++ [.of .mode none none 1 4 5 4])) ∧
        t.mc.runMode = s.mc.runMode ∧ t.mc.permit = true ∧ t.mc.slot = none ∧ t.mc.fault = s.mc.fault ∧
        t.table = s.table ∧ t.roster = s.roster ∧ t.bays = s.bays ∧ t.launches = s.launches ∧
        t.arbiters = s.arbiters ∧ t.tagWindows = s.tagWindows ∧ t.passages = s.passages ∧
        t.nextDispatch = s.nextDispatch ∧
        t.dispatch = s.dispatch.map fun e => { e with
          consentA := false, consentB := false, timerStart := s.timeBase,
          timer := .suspended (s.layout.settings.consentWindow * 1000) }) ∧
    (s.mode ≠ .run → s.mode ≠ .manual →
      exec (.hold l tag []) s = .next (s.replies l .hold tag .ok (b1 s.mode.code)))

/-- A HALT in RUN, MANUAL, HOLDING or HELD negates the permit, freezes every release not yet crossed, voids every
dispatch entry, discards switch moves with the held leg taken from the reading, puts every owned channel at its safe
command, and makes its CHANGED, DISCARDED and VOIDED reports in this order; in any other mode it changes nothing but the
response (R190, R55, R169, R172, R199). That DISCARDED comes before the VOIDED reports is log entry 11. -/
def Obligations.HaltStopsTheRide : Prop :=
  ∀ (s : State) (l : Link) (tag : Byte), (s.port l).sending = none →
    (s.mode.moves = true →
      ∃ t : State, exec (.halt l tag []) s = .next t ∧
        t.surroundings = (s.replies l .halt tag .ok (b1 6)).surroundings ∧
        t.mode = .halted ∧ t.mc.runMode = s.mc.runMode ∧ t.mc.permit = false ∧ t.mc.slot = none ∧
        t.mc.fault = s.mc.fault ∧ (∀ b, t.entry b = (s.entry b).halted) ∧ t.roster = s.roster ∧
        t.bays = s.bays ∧ t.launches = s.launches ∧ t.tagWindows = s.tagWindows ∧
        (∀ b, t.switchRec b = (s.switchRec b).map (·.stopped)) ∧
        ReportsAdded s t (s.stopReports .halted 2 1) ∧
        t.dispatch = (s.dispatch.map fun e => { e with
          consentA := false, consentB := false, timerStart := s.timeBase,
          timer := .suspended (s.layout.settings.consentWindow * 1000) }) ∧
        ∀ (ch : ChannelId) (b : BlockId) (r : BlockRecord) (dr : DriveSection),
          (t.channel ch).owner = some b → s.record b = some r → r.drive = some dr →
            (t.channel ch).command = safeCommand r.kind ∧ (t.channel ch).pulse = none) ∧
    (s.mode.moves = false →
      exec (.halt l tag []) s = .next (s.replies l .halt tag .ok (b1 s.mode.code)))

/-- A contact of the stop line that opens makes an INACTIVE stop line ACTIVE, raises and reports STOP_LINE naming no block
and no boat, and halts a ride in RUN, MANUAL, HOLDING or HELD, the reports in the order of log entry 11; a contact that closes
raises nothing and changes no mode (R191). -/
def Obligations.StopLineHaltsTheRide : Prop :=
  ∀ (s : State) (k : StopContact),
    (s.mc.stopActive = false →
      ∃ t : State, exec (.stopLineOpens k) s = .next t ∧ t.mc.stopActive = true ∧
        (t.mc.contact1Open = (s.mc.contact1Open || k == .first)) ∧
        (t.mc.contact2Open = (s.mc.contact2Open || k == .second)) ∧
        FaultTaken s t .stopLine none none ∧ t.mode = modeAfterFault .halt s.mode ∧
        OthersKept s t [] ∧ t.surroundings = s.surroundings ∧
        ReportsAdded s t (s.faultReports .stopLine none none 0 0 0 0)) ∧
    (s.mc.stopActive = true →
      exec (.stopLineOpens k) s = .next { s with mc := match k with
        | .first => { s.mc with contact1Open := true }
        | .second => { s.mc with contact2Open := true } }) ∧
    exec (.stopLineCloses .first) s =
      .next { s with mc := { s.mc with contact1Open := false, stopActive := s.mc.contact2Open } } ∧
    exec (.stopLineCloses .second) s =
      .next { s with mc := { s.mc with contact2Open := false, stopActive := s.mc.contact1Open } }

/-- Every fault passed to the Mode Controller fills the empty fault record or counts as a further fault, is reported with
its kind, class, block, boat and details, and its class acts on the mode at that moment, the reports of that change
following the FAULT report (R196, R197, R199); that DISCARDED comes before VOIDED is log entry 11. -/
def Obligations.FaultsAreRecordedAndApplied : Prop :=
  ∀ (s : State) (k : FaultKind) (block : Option BlockId) (boat : Option BoatId) (d1 d2 d3 d4 : Nat) (t : State),
    t = s.raise k block boat { d1 := d1, d2 := d2, d3 := d3, d4 := d4 } →
    FaultTaken s t k block boat ∧ t.mode = modeAfterFault k.cls s.mode ∧ t.roster = s.roster ∧
    t.surroundings = s.surroundings ∧ (k.cls ≠ .halt → t.table = s.table) ∧ (k.cls = .halt → OthersKept s t []) ∧
    ReportsAdded s t (s.faultReports k block boat d1 d2 d3 d4)

/-- CLEAR FAULT empties the fault record and the further-faults count and returns what they were, the count in two bytes
since its range is 0..255; CLEAR ZONE CONDITION empties the zone condition of a brake block and is refused with STATE for
any other block; CLEAR COUNTERS sets every counter of R225 to 0; each changes nothing else but the response (R197, R198,
R218, R159, R225). -/
def Obligations.ClearRequestsEmptyWhatTheyName : Prop :=
  ∀ (s : State) (l : Link) (tag : Byte),
    (s.admits l .clearFault →
      exec (.clearFault l tag []) s =
        .next (({ s with mc := { s.mc with fault := none, further := 0 } } : State).replies l .clearFault tag .ok
          ((match s.mc.fault with
            | some f => b1 f.kind.code
            | none => b1 255) ++ b2 s.mc.further))) ∧
    (∀ b : BlockId, s.admits l .clearZoneCondition → (s.windows.get l).holds b = true →
      (s.brake b = none →
        exec (.clearZoneCondition l tag (b1 b.val)) s = .next (s.replies l .clearZoneCondition tag .state [])) ∧
      (∀ k, s.brake b = some k →
        exec (.clearZoneCondition l tag (b1 b.val)) s =
          .next (({ s with brakes := vput s.brakes b (some { k with zone :=
            { trapFault := false, clamped := false, margin := false } }) } : State).replies l .clearZoneCondition tag
              .ok []))) ∧
    (s.admits l .clearCounters →
      exec (.clearCounters l tag []) s =
        .next (({ s with
          passages := Vector.replicate 32 0
          ports := { a := { s.ports.a with goodFrames := 0, checkErrors := 0, overruns := 0, truncated := 0, breaks := 0 }
                     b := { s.ports.b with goodFrames := 0, checkErrors := 0, overruns := 0, truncated := 0, breaks := 0 }
                     s := { s.ports.s with goodFrames := 0, checkErrors := 0, overruns := 0, truncated := 0, breaks := 0 } }
          points := vmap (fun _ (q : Point) => { q with glitches := 0 }) s.points
          bays := vmap (fun _ (y : Option Bay) => y.map fun y => { y with weighs := 0, failures := 0 }) s.bays
          tagDiscards := 0
          trapStrays := 0 } : State).replies l .clearCounters tag .ok []))

/-! ### Census, recovery, roster -/

/-- VERIFY CLEAR makes an UNVERIFIED block CLEAR, RESTORE BLOCK a FAULTED block with no occupant, and SET SERVICE moves a
block between service and OUT_OF_SERVICE; each is otherwise answered OK or STATE with no change (R75, R194, R195). -/
def Obligations.BlockRequestsMoveOneEntry : Prop :=
  ∀ (s : State) (l : Link) (tag : Byte) (b : BlockId), (s.windows.get l).holds b = true →
    (s.admits l .verifyClear →
      ((s.entry b).state = .unverified →
        exec (.verifyClear l tag (b1 b.val)) s =
          .next ((s.setEntry b (.bare .clear)).finish.replies l .verifyClear tag .ok [])) ∧
      ((s.entry b).state = .clear →
        exec (.verifyClear l tag (b1 b.val)) s = .next (s.replies l .verifyClear tag .ok [])) ∧
      ((s.entry b).state ≠ .unverified → (s.entry b).state ≠ .clear →
        exec (.verifyClear l tag (b1 b.val)) s = .next (s.replies l .verifyClear tag .state []))) ∧
    (s.admits l .restoreBlock →
      ((s.entry b).state = .faulted → (s.entry b).occupant = none →
        exec (.restoreBlock l tag (b1 b.val)) s =
          .next ((s.setEntry b (.bare .clear)).finish.replies l .restoreBlock tag .ok [])) ∧
      (((s.entry b).state ≠ .faulted ∨ (s.entry b).occupant ≠ none) →
        exec (.restoreBlock l tag (b1 b.val)) s = .next (s.replies l .restoreBlock tag .state []))) ∧
    (s.admits l .setService →
      (((s.entry b).state = .clear ∨ (s.entry b).state = .unverified) →
        exec (.setService l tag (b1 b.val ++ b1 0)) s =
          .next ((s.setEntry b (.bare .outOfService)).finish.replies l .setService tag .ok [])) ∧
      ((s.entry b).state = .outOfService →
        exec (.setService l tag (b1 b.val ++ b1 0)) s = .next (s.replies l .setService tag .ok [])) ∧
      ((s.entry b).state ∈ [BlockState.reserved, .occupied, .releasing, .faulted] →
        exec (.setService l tag (b1 b.val ++ b1 0)) s = .next (s.replies l .setService tag .state [])) ∧
      (s.record b ≠ none → (s.entry b).state = .outOfService →
        exec (.setService l tag (b1 b.val ++ b1 1)) s =
          .next ((s.setEntry b (.bare .unverified)).finish.replies l .setService tag .ok [])) ∧
      (s.record b = none →
        exec (.setService l tag (b1 b.val ++ b1 1)) s = .next (s.replies l .setService tag .state [])) ∧
      (s.record b ≠ none → (s.entry b).state ≠ .outOfService →
        exec (.setService l tag (b1 b.val ++ b1 1)) s = .next (s.replies l .setService tag .ok [])))

/-- PLACE BOAT puts an ABSENT boat into a holdable UNVERIFIED or CLEAR block as its held occupant, with the guests given
and its load 0 or absent; a bay passes through BERTHED at once into the phase its role and the guests give, a tare weigh
starting where that phase is TARE_WEIGH; any other boat or block is refused with STATE and no change (R76, R77, R82,
R83).
Details 3 and 4 of a BAY report are 0, the model's choice (log entry 37). -/
def Obligations.PlaceBoatHoldsTheBoat : Prop :=
  ∀ (s : State) (l : Link) (tag : Byte) (x : BoatId) (b : BlockId) (guests : Bool),
    s.admits l .placeBoat → (s.windows.get l).holds b = true →
    (∀ bt : Boat, s.slot x = .absent bt → s.layout.holdable b = true →
      ((s.entry b).state = .unverified ∨ (s.entry b).state = .clear) →
      ∃ t : State, exec (.placeBoat l tag (b1 x.val ++ b1 b.val ++ flagByte guests)) s = .next t ∧
        t.surroundings = (s.replies l .placeBoat tag .ok []).surroundings ∧
        t.entry b = { Entry.bare .occupied with occupant := some x } ∧ (∀ c, c ≠ b → t.entry c = s.entry c) ∧
        t.slot x = .onTrack { bt with guests := guests, load := if guests then none else some 0 } b [] ∧
        (∀ y, y ≠ x → t.slot y = s.slot y) ∧ t.mc = s.mc ∧ t.dispatch = s.dispatch ∧
        t.tagWindows = s.tagWindows ∧ t.passages = s.passages ∧
        (∀ c, c ≠ b → t.bay c = s.bay c) ∧ (∀ y, t.bay b = some y → y.phase ≠ .vacant) ∧
        (∀ y rec z, s.bay b = some y → s.record b = some rec → rec.bay = some z →
          t.bay b = some (s.afterBerthed y z.role x guests)) ∧
        (s.bay b = none → ReportsAdded s t []) ∧
        (∀ y rec z, s.bay b = some y → y.phase = .vacant → s.record b = some rec → rec.bay = some z →
          ReportsAdded s t (bayReport b (some x) .vacant .berthed ++
            bayReport b (some x) .berthed (s.afterBerthed y z.role x guests).phase)) ∧
        (∀ k, t.brake b = some k → s.layout.kind b = some .runout → k.hold = true)) ∧
    (((∀ bt, s.slot x ≠ .absent bt) ∨ s.layout.holdable b = false ∨
        ((s.entry b).state ≠ .unverified ∧ (s.entry b).state ≠ .clear)) →
      exec (.placeBoat l tag (b1 x.val ++ b1 b.val ++ flagByte guests)) s =
        .next (s.replies l .placeBoat tag .state []))

/-- REMOVE BOAT takes an ON_TRACK boat out of every block it occupies or holds reserved, discards its tag windows, makes it
ABSENT with its load absent, and empties its bay, whose dispatch entry leaves the list while every entry of another boat's
bay stays; an ABSENT boat is answered OK and an UNUSED slot STATE, with no change (R78, R92, R120). A bay's CANCELED report
comes before its BAY report, and that the BAY report then names no boat is the model's inference (log entry 17). A brake
record loses the boat's passage, and where the boat was its block's occupant the hold and the stop delay (R149, R156); the
demand is derived afresh (R143).
Details 3 and 4 of a BAY report are 0, the model's choice (log entry 37). -/
def Obligations.RemoveBoatEmptiesItsBlocks : Prop :=
  ∀ (s : State) (l : Link) (tag : Byte) (x : BoatId), s.admits l .removeBoat →
    (∀ (bt : Boat) (b : BlockId) (p : List BlockId), s.slot x = .onTrack bt b p →
      (s.windows.get l).holds b = true →
      ∃ t : State, exec (.removeBoat l tag (b1 x.val)) s = .next t ∧
        t.surroundings = (s.replies l .removeBoat tag .ok []).surroundings ∧
        (∀ c, t.entry c =
          if (s.entry c).occupant = some x ∨ (s.entry c).holder = some x then
            (match (s.entry c).state with
             | .occupied | .releasing | .reserved => .bare .clear
             | st => .bare st)
          else s.entry c) ∧
        t.slot x = .absent { bt with load := none } ∧ (∀ y, y ≠ x → t.slot y = s.slot y) ∧
        (∀ q w, vget t.tagWindows q = some w → w.boat ≠ x) ∧ t.mc = s.mc ∧
        (∀ c y, (s.entry c).occupant = some x → t.bay c = some y → y.phase = .vacant ∧ y.weigh = none ∧
          y.status = none ∧ y.entryEye = none ∧ y.returnPhase = none) ∧
        (∀ c, (s.entry c).occupant ≠ some x → t.bay c = s.bay c) ∧
        (∀ c, (s.brake c = none → t.brake c = none) ∧ ∀ k, s.brake c = some k → ∃ demand, t.brake c = some { k with
          demand := demand
          passage := k.passage.filter fun g => g.boat != x
          hold := if (s.entry c).occupant = some x then false else k.hold
          stopDelay := if (s.entry c).occupant = some x then none else k.stopDelay }) ∧
        (∀ e ∈ t.dispatch, e ∈ s.dispatch) ∧
        (s.dispatchSound →
          (∀ c y, (s.entry c).occupant = some x → s.bay c = some y → ∀ e ∈ t.dispatch, e.bay ≠ c) ∧
          (∀ e ∈ s.dispatch, (s.entry e.bay).occupant ≠ some x → e ∈ t.dispatch) ∧
          (∀ y e, (∀ c, (s.entry c).occupant = some x → c = b) → (s.entry b).occupant = some x → s.bay b = some y →
            y.phase = .dispatchQueued → e ∈ s.dispatch → e.bay = b →
            ReportsAdded s t [.of .dispatch (some b) (some e.boat) 5 e.seq.toNat 3 0,
              .of .bay (some b) none Phase.dispatchQueued.code Phase.vacant.code 0 0]))) ∧
    (∀ bt, s.slot x = .absent bt →
      exec (.removeBoat l tag (b1 x.val)) s = .next (s.replies l .removeBoat tag .ok [])) ∧
    (s.slot x = .unused →
      exec (.removeBoat l tag (b1 x.val)) s = .next (s.replies l .removeBoat tag .state []))

/-- ENROLL makes an UNUSED slot ABSENT with the code and tare given and every other field at its start, unless an
enrolled slot holds the code; RETIRE makes an ABSENT slot UNUSED; each is else refused with no change (R62, R63). SET
ROUTE, SET EXPEDITE and CLEAR CHECK change the one field they name of an enrolled boat and are refused with STATE for an
UNUSED slot (R68, R69, R70). -/
def Obligations.RosterRequestsChangeOneSlot : Prop :=
  ∀ (s : State) (l : Link) (tag : Byte) (x : BoatId),
    (∀ (code tare : Nat), s.admits l .enroll → 1 ≤ code → code ≤ 16777215 → 100 ≤ tare → tare ≤ 800 →
      (s.slot x = .unused → (∀ y t, s.boat y = some t → t.tagCode ≠ code) →
        exec (.enroll l tag (b1 x.val ++ b3 code ++ b2 tare)) s =
          .next (({ s with roster := vput s.roster x (.absent
            { tagCode := code, tare := tare, load := none, guests := false, route := .station, check := false,
              expedite := false, laps := 0, lastSpeed := none }) } : State).replies l .enroll tag .ok [])) ∧
      (s.slot x ≠ .unused →
        exec (.enroll l tag (b1 x.val ++ b3 code ++ b2 tare)) s = .next (s.replies l .enroll tag .state [])) ∧
      (∀ y t, s.slot x = .unused → s.boat y = some t → t.tagCode = code →
        (∀ z u, s.boat z = some u → u.tagCode = code → z = y) →
        exec (.enroll l tag (b1 x.val ++ b3 code ++ b2 tare)) s =
          .next (s.replies l .enroll tag .duplicate (b1 y.val)))) ∧
    (s.admits l .retire →
      (∀ bt, s.slot x = .absent bt →
        exec (.retire l tag (b1 x.val)) s =
          .next (({ s with roster := vput s.roster x .unused } : State).replies l .retire tag .ok [])) ∧
      ((∀ bt, s.slot x ≠ .absent bt) →
        exec (.retire l tag (b1 x.val)) s = .next (s.replies l .retire tag .state []))) ∧
    (s.admits l .setRoute →
      (∀ (bt : Boat) (r : Route), s.boat x = some bt →
        ∃ t : State, exec (.setRoute l tag (b1 x.val ++ b1 r.code)) s = .next t ∧
          t.surroundings = (s.replies l .setRoute tag .ok []).surroundings ∧
          t.boat x = some { bt with route := r } ∧ (∀ y, y ≠ x → t.boat y = s.boat y) ∧
          (∀ y, (t.slot y).position = (s.slot y).position) ∧
          (s.mode ≠ .run → t.table = s.table ∧ t.dispatch = s.dispatch ∧ t.bays = s.bays ∧
            ∀ y, (t.slot y).path = (s.slot y).path)) ∧
      (∀ r : Route, s.boat x = none →
        exec (.setRoute l tag (b1 x.val ++ b1 r.code)) s = .next (s.replies l .setRoute tag .state []))) ∧
    (s.admits l .setExpedite → ∀ v : Bool,
      (∀ bt, s.boat x = some bt →
        exec (.setExpedite l tag (b1 x.val ++ flagByte v)) s =
          .next ((s.modBoat x fun t => { t with expedite := v }).replies l .setExpedite tag .ok [])) ∧
      (s.boat x = none →
        exec (.setExpedite l tag (b1 x.val ++ flagByte v)) s = .next (s.replies l .setExpedite tag .state []))) ∧
    (s.admits l .clearCheck →
      (∀ bt, s.boat x = some bt →
        exec (.clearCheck l tag (b1 x.val)) s =
          .next ((s.modBoat x fun t => { t with check := false }).replies l .clearCheck tag .ok [])) ∧
      (s.boat x = none →
        exec (.clearCheck l tag (b1 x.val)) s = .next (s.replies l .clearCheck tag .state [])))

/-- UNLOADED in UNLOADING and LOADED in LOADING start a weigh of the bay's boat at attempt 1 with a window one settle
time long and the settings of now; a bay that is weighing answers BUSY, and every other phase, a FAULTED block or a
block that is no bay answers STATE (R84, R85, R95, R96). A sample pair of a bay's two cells goes into the open window,
adding to the count, the sums and the least and greatest totals, and is discarded where no window is open or the mode is
CONFIGURE (R94, R96, R165); a pair of cells that is not one bay's own front and rear cell, in this order, is discarded
(log entry 29).
Details 3 and 4 of a BAY report are 0, the model's choice (log entry 37). -/
def Obligations.WeighsStartAndTakeSamples : Prop :=
  (∀ (s : State) (l : Link) (tag : Byte) (b : BlockId) (r : Req) (kind : WeighKind),
    ((r = .unloaded ∧ kind = .tare) ∨ (r = .loaded ∧ kind = .load)) → s.admits l r →
    (s.windows.get l).holds b = true →
    (∀ (y : Bay) (x : BoatId), s.bay b = some y → (s.entry b).occupant = some x → (s.entry b).state ≠ .faulted →
      y.phase = kind.fromPhase →
      ∃ t : State, exec (requestCommand r l tag (b1 b.val)) s = .next t ∧
        t.surroundings = (s.replies l r tag .ok []).surroundings ∧
        t.bay b = some { y with phase := kind.phase, weigh := some (s.firstAttempt kind x) } ∧
        (∀ c, c ≠ b → t.bay c = s.bay c) ∧ t.table = s.table ∧ t.roster = s.roster ∧ t.mc = s.mc ∧
        t.dispatch = s.dispatch ∧ t.brakes = s.brakes ∧ t.channels = s.channels ∧ t.switches = s.switches ∧
        ReportsAdded s t (bayReport b (some x) kind.fromPhase kind.phase)) ∧
    (∀ y, s.bay b = some y → (s.entry b).state ≠ .faulted → (y.phase = .tareWeigh ∨ y.phase = .loadWeigh) →
      exec (requestCommand r l tag (b1 b.val)) s = .next (s.replies l r tag .busy [])) ∧
    ((s.bay b = none ∨ (s.entry b).state = .faulted ∨
        ∃ y, s.bay b = some y ∧ y.phase ≠ kind.fromPhase ∧ y.phase ≠ .tareWeigh ∧ y.phase ≠ .loadWeigh) →
      exec (requestCommand r l tag (b1 b.val)) s = .next (s.replies l r tag .state []))) ∧
  (∀ (s : State) (front rear : CellId) (f r : Nat), f ≤ 2000 → r ≤ 2000 →
    (∀ (b : BlockId) (rec : BlockRecord) (z : BaySection) (y : Bay), s.mode ≠ .configure →
      s.record b = some rec → rec.bay = some z → z.frontCell = front → z.rearCell = rear →
      (∀ c rc zc, s.record c = some rc → rc.bay = some zc → zc.frontCell = front → zc.rearCell = rear → c = b) →
      s.bay b = some y →
      (∀ w, y.weigh = some w →
        exec (.weighSample front rear f r) s = .next { s with bays := vput s.bays b (some { y with weigh := some (
          { w with
            count := w.count + 1
            sumTotals := w.sumTotals + (f + r)
            sumFronts := w.sumFronts + f
            least := some (match w.least with
              | some n => min n (f + r)
              | none => f + r)
            greatest := some (match w.greatest with
              | some n => max n (f + r)
              | none => f + r) }) }) }) ∧
      (y.weigh = none → exec (.weighSample front rear f r) s = .next s)) ∧
    (s.mode = .configure → exec (.weighSample front rear f r) s = .next s) ∧
    ((∀ c rc zc, s.record c = some rc → rc.bay = some zc → ¬(zc.frontCell = front ∧ zc.rearCell = rear)) →
      exec (.weighSample front rear f r) s = .next s))

/-! ### Station -/

/-- A window that closes on a failed attempt adds a weigh failure: attempt 1 or 2 opens the next attempt with a fresh
window and freshly read settings; attempt 3 ends the weigh as WEIGH_FAILED, reported as such with the failing test and then
as a fault, and returns the bay to the phase weighed from, with the boat as it was (R97, R88, R100, R101). That the BAY report
follows the fault's is log entry 11; that the sample count of attempt 3, which has no stated range, is kept at most at
16,777,215 in the WEIGH report is the model's choice (log entry 16).
Details 3 and 4 of a BAY report are 0, the model's choice (log entry 37). -/
def Obligations.FailedAttemptsAreRepeatedTwice : Prop :=
  ∀ (s : State) (b : BlockId) (y : Bay) (w : Weigh), s.bay b = some y → y.weigh = some w →
    reached s.timeBase w.deadline = true →
    (w.count < 4 ∨ w.spreadTolerance < w.greatest.getD 0 - w.least.getD 0 ∨ w.sumTotals = 0) →
    (w.attempt < 3 →
      exec (.weighWindowDeadline b) s = .next (s.setBay b { y with
        failures := min (y.failures + 1) 65535
        weigh := some { s.firstAttempt w.kind w.boat with attempt := w.attempt + 1 } }).finish) ∧
    (3 ≤ w.attempt →
      ∃ u : State, exec (.weighWindowDeadline b) s = .next u.finish ∧
        u.bay b = some { y with
          phase := w.kind.fromPhase
          failures := min (y.failures + 1) 65535
          weighs := min (y.weighs + 1) 65535
          weigh := none
          status := some { kind := w.kind, outcome := .weighFailed, result := none, attempts := w.attempt } } ∧
        (∀ c, c ≠ b → u.bay c = s.bay c) ∧ u.roster = s.roster ∧ u.table = s.table ∧ u.mode = s.mode ∧
        FaultTaken s u .weighFailed (some b) (some w.boat) ∧ u.dispatch = s.dispatch ∧
        u.surroundings = s.surroundings ∧
        ReportsAdded s u (.of .weigh (some b) (some w.boat) 5 w.kind.code
            (if w.count < 4 then 1 else if w.spreadTolerance < w.greatest.getD 0 - w.least.getD 0 then 2 else 3)
            (cap w.count) ::
          (s.faultReports .weighFailed (some b) (some w.boat) 0 0 0 0 ++
           bayReport b (s.entry b).occupant y.phase w.kind.fromPhase)))

/-- A window that closes on a passing attempt ends the weigh with a result: a tare weigh empties the boat, sets or clears
CHECK by the deviation and moves the bay by its role; a load weigh is accepted, OVERWEIGHT or UNBALANCED. The WEIGH report
carries the outcome, the mean total, the front share and the deviation or load, and comes before a fault (R86, R87, R98 to
R101), the BAY report after it (log entry 11).
Details 3 and 4 of a BAY report are 0, the model's choice (log entry 37).
In states that no run reaches a detail above 16,777,215 is sent as that value, the model's choice (log entry 16). -/
def Obligations.PassingAttemptsEndTheWeigh : Prop :=
  ∀ (s : State) (b : BlockId) (y : Bay) (w : Weigh) (bt : Boat) (r : BlockRecord) (z : BaySection)
    (mean share : Nat),
    s.bay b = some y → y.weigh = some w → reached s.timeBase w.deadline = true → s.boat w.boat = some bt →
    s.record b = some r → r.bay = some z →
    4 ≤ w.count → w.greatest.getD 0 - w.least.getD 0 ≤ w.spreadTolerance → 0 < w.sumTotals →
    mean = (2 * w.sumTotals + w.count) / (2 * w.count) → share = 100 * w.sumFronts / w.sumTotals →
    ∃ u : State, exec (.weighWindowDeadline b) s = .next u.finish ∧ u.surroundings = s.surroundings ∧
      u.table = s.table ∧ u.mode = s.mode ∧ u.dispatch = s.dispatch ∧ (∀ c, c ≠ b → u.bay c = s.bay c) ∧
      (∀ x, x ≠ w.boat → u.slot x = s.slot x) ∧ (∀ x, (u.slot x).position = (s.slot x).position) ∧
      (∀ (dev : Nat), w.kind = .tare → dev = (mean - bt.tare) + (bt.tare - mean) →
        (dev ≤ w.tareTolerance →
          u.boat w.boat = some { bt with load := some 0, guests := false, check := false } ∧ u.mc = s.mc ∧
          u.bay b = some { y with
            phase := if z.role = .unload then .cleared else .loading
            weighs := min (y.weighs + 1) 65535
            weigh := none
            status := some { kind := .tare, outcome := .ok, attempts := w.attempt,
                             result := some { mean := mean, share := share, loadOrDeviation := dev } } } ∧
          ReportsAdded s u (.of .weigh (some b) (some w.boat) 0 (cap mean) (cap share) (cap dev) ::
            bayReport b (s.entry b).occupant y.phase (if z.role = .unload then .cleared else .loading))) ∧
        (w.tareTolerance < dev →
          u.boat w.boat = some { bt with load := some 0, guests := false, check := true, route := .storage } ∧
          FaultTaken s u .tareDeviation (some b) (some w.boat) ∧
          u.bay b = some { y with
            phase := .cleared
            weighs := min (y.weighs + 1) 65535
            weigh := none
            status := some { kind := .tare, outcome := .deviation, attempts := w.attempt,
                             result := some { mean := mean, share := share, loadOrDeviation := dev } } } ∧
          ReportsAdded s u (.of .weigh (some b) (some w.boat) 1 (cap mean) (cap share) (cap dev) ::
            (s.faultReports .tareDeviation (some b) (some w.boat) 0 0 0 0 ++
             bayReport b (s.entry b).occupant y.phase .cleared)))) ∧
      (∀ (load : Nat) (outcome : WeighOutcome) (code : Nat), w.kind = .load → load = mean - bt.tare →
        outcome = (if z.maxLoad < load ∨ 1200 < load then .overweight
                   else if share < 35 ∨ 65 < share then .unbalanced else .ok) →
        code = (if outcome = .overweight then 3 else if outcome = .unbalanced then 4 else 2) →
        u.mc = s.mc ∧
        u.boat w.boat = some (if outcome = .ok then
          { bt with load := some load, guests := decide (w.minimumGuestLoad ≤ load), laps := bt.laps + 1 }
          else bt) ∧
        u.bay b = some { y with
          phase := if outcome = .ok then .ready else .loading
          weighs := min (y.weighs + 1) 65535
          weigh := none
          status := some { kind := .load, outcome := outcome, attempts := w.attempt,
                           result := some { mean := mean, share := share, loadOrDeviation := load } } } ∧
        ReportsAdded s u (.of .weigh (some b) (some w.boat) code (cap mean) (cap share) (cap load) ::
          bayReport b (s.entry b).occupant y.phase (if outcome = .ok then .ready else .loading)))

/-- The weigh arithmetic: the mean total to the nearest kg with a half rounded up and the front share in percent, each in
its range, the computed load, the outcome of a load weigh and its guests, and the deviation of a tare weigh (R98, R99). The
brake level computation in integers: speed, deceleration, force, raw and applied level, their clamps and flags, and their
ranges on a record in range, an interval of the trap and a mass for braking (R150 to R153, R66). -/
def Obligations.WeighAndBrakeArithmetic : Prop :=
  ((∀ w : Weigh, 0 < w.count → w.sumTotals ≤ 4000 * w.count →
      meanTotal w = (2 * w.sumTotals + w.count) / (2 * w.count) ∧ meanTotal w ≤ 4000 ∧
      2 * w.count * meanTotal w ≤ 2 * w.sumTotals + w.count ∧
      2 * w.sumTotals < 2 * w.count * meanTotal w + w.count) ∧
    (∀ w : Weigh, 0 < w.sumTotals → w.sumFronts ≤ w.sumTotals →
      frontShare w = 100 * w.sumFronts / w.sumTotals ∧ frontShare w ≤ 100) ∧
    (∀ mean tare : Nat, (tare ≤ mean → computedLoad mean tare + tare = mean) ∧
      (mean < tare → computedLoad mean tare = 0)) ∧
    (∀ load share maxLoad : Nat,
      ((maxLoad < load ∨ 1200 < load) → loadOutcome load share maxLoad = .overweight) ∧
      (load ≤ maxLoad → load ≤ 1200 → (share < 35 ∨ 65 < share) → loadOutcome load share maxLoad = .unbalanced) ∧
      (load ≤ maxLoad → load ≤ 1200 → 35 ≤ share → share ≤ 65 → loadOutcome load share maxLoad = .ok)) ∧
    (∀ load least : Nat, guestsAboard load least = true ↔ least ≤ load) ∧
    (∀ mean tare : Nat, tareDeviation mean tare = (mean - tare) + (tare - mean))) ∧
  ∀ (k : BrakeSection) (T m : Nat) (c : BrakeResult), k.inRange = true → m ≤ 2000 → c = brakeCompute k T m →
    ((T = 0 ∨ 20000 < k.trapLength * 1000000 / T) → c.speed = 20000 ∧ c.speedClamped = true ∧ c.clamped = true) ∧
    (0 < T → k.trapLength * 1000000 / T ≤ 20000 →
      c.speed = k.trapLength * 1000000 / T ∧ c.speedClamped = false) ∧
    (c.speed ≤ k.targetSpeed → c.decel = 0 ∧ c.force = 0 ∧ c.applied = k.minimumLevel ∧
      c.clamped = c.speedClamped) ∧
    (∀ a : Nat, k.targetSpeed < c.speed →
      a = ((c.speed ^ 2 - k.targetSpeed ^ 2) + (2 * k.brakeLength - 1)) / (2 * k.brakeLength) →
      c.decel = min a 30000 ∧ c.clamped = (c.speedClamped || decide (30000 < a))) ∧
    c.force = (m * c.decel + 999) / 1000 ∧
    c.raw = (c.force + (k.forceStep - 1)) / k.forceStep ∧
    (15 < c.raw → c.margin = true ∧ c.applied = 15) ∧
    (c.raw ≤ 15 → c.margin = false ∧ c.applied = max c.raw k.minimumLevel) ∧
    c.speed ≤ 20000 ∧ c.decel ≤ 30000 ∧ c.force ≤ 60000 ∧ c.raw ≤ 6000 ∧ c.applied ≤ 15

/-! ### Dispatch -/

/-- DISPATCH of a READY bay appends an entry with the next sequence number, no consents and a full consent timer, moves
the bay to DISPATCH_QUEUED, reports QUEUED and the change of phase, and advances the counter to the first free number
counting up from the next with wrap; the rows before it refuse with their responses (R105, R106, R107, R121). That OK and
DUPLICATE carry the sequence number in one byte is the model's inference from the example of section 10.8 (log entry 15).
Details 3 and 4 of a BAY report are 0, the model's choice (log entry 37). -/
def Obligations.DispatchQueuesAReadyBay : Prop :=
  ∀ (s : State) (l : Link) (tag : Byte) (b : BlockId) (after : Bool), s.admits l .dispatch →
    (s.windows.get l).holds b = true →
    (s.bay b = none →
      exec (.dispatch l tag (b1 b.val ++ flagByte after)) s = .next (s.replies l .dispatch tag .state [])) ∧
    (∀ y e, s.bay b = some y → e ∈ s.dispatch → e.bay = b → (∀ d ∈ s.dispatch, d.bay = b → d = e) →
      exec (.dispatch l tag (b1 b.val ++ flagByte after)) s =
        .next (s.replies l .dispatch tag .duplicate [e.seq])) ∧
    (∀ y, s.bay b = some y → (∀ e ∈ s.dispatch, e.bay ≠ b) →
      (((s.entry b).state = .faulted ∨ y.phase ≠ .ready) →
        exec (.dispatch l tag (b1 b.val ++ flagByte after)) s = .next (s.replies l .dispatch tag .state [])) ∧
      (∀ x, (s.entry b).occupant = some x → (s.entry b).state ≠ .faulted → y.phase = .ready →
        (8 ≤ s.dispatch.length →
          exec (.dispatch l tag (b1 b.val ++ flagByte after)) s =
            .next (s.replies l .dispatch tag .queueFull [])) ∧
        (s.dispatch.length < 8 →
          ∃ t : State, exec (.dispatch l tag (b1 b.val ++ flagByte after)) s = .next t ∧
            t.surroundings = (s.replies l .dispatch tag .ok [s.nextDispatch]).surroundings ∧
            t.dispatch = s.dispatch ++
              [{ seq := s.nextDispatch, bay := b, boat := x, afterPrevious := after, consentA := false,
                 consentB := false, timerStart := s.timeBase,
                 timer := if s.mode = .run ∨ s.mode = .manual then
                     .running (s.timeBase + msSpan s.layout.settings.consentWindow)
                   else .suspended (s.layout.settings.consentWindow * 1000) }] ∧
            (s.dispatchSound → ∃ n : Nat, n ≤ 8 ∧ t.nextDispatch = s.nextDispatch + BitVec.ofNat 8 (n + 1) ∧
              (∀ e ∈ t.dispatch, e.seq ≠ t.nextDispatch) ∧
              ∀ k < n, ∃ e ∈ t.dispatch, e.seq = s.nextDispatch + BitVec.ofNat 8 (k + 1)) ∧
            t.bay b = some { y with phase := .dispatchQueued } ∧ (∀ c, c ≠ b → t.bay c = s.bay c) ∧
            t.table = s.table ∧ t.roster = s.roster ∧ t.mc = s.mc ∧ t.channels = s.channels ∧
            ReportsAdded s t [.of .dispatch (some b) (some x) 0 s.nextDispatch.toNat after.toNat
                (s.dispatch.length + 1),
              .of .bay (some b) (some x) 6 7 0 0])))

/-- CONSENT DISPATCH records the consent of the link it comes on: a first consent changes the entry alone, a repeated
one changes nothing, and the one that completes the pair stops the timer, is reported CONSENTED and may bring the grant
in the same event; a number that no entry holds is answered STATE (R108, R109). -/
def Obligations.ConsentIsRecordedPerChannel : Prop :=
  ∀ (s : State) (c : ControlLink) (tag seq : Byte), s.admits c.link .consentDispatch → s.dispatchSound →
    ((∀ e ∈ s.dispatch, e.seq ≠ seq) →
      exec (.consentDispatch c.link tag [seq]) s = .next (s.replies c.link .consentDispatch tag .state [])) ∧
    (∀ e : DispatchEntry, e ∈ s.dispatch → e.seq = seq → (s.windows.get c.link).holds e.bay = true →
      (e.given c = true →
        exec (.consentDispatch c.link tag [seq]) s =
          .next (s.replies c.link .consentDispatch tag .ok (b1 (e.consentA && e.consentB).toNat))) ∧
      (e.consentA = false → e.consentB = false →
        exec (.consentDispatch c.link tag [seq]) s =
          .next (({ s with dispatch := s.dispatch.map fun d => if d.seq = seq then
              (match c with
               | .a => { e with consentA := true }
               | .b => { e with consentB := true }) else d } : State).replies c.link .consentDispatch tag .ok (b1 0))) ∧
      (e.given c = false → (e.consentA = true ∨ e.consentB = true) →
        exec (.consentDispatch c.link tag [seq]) s =
          .next (((({ s with dispatch := s.dispatch.map fun d => if d.seq = seq then
              { e with consentA := true, consentB := true, timer := .stopped } else d } : State).append .dispatch none
                (some e.bay) (some e.boat)
                { d1 := 1, d2 := seq.toNat, d3 := linkCode c.link, d4 := 0 }).finish).replies c.link
                  .consentDispatch tag .ok (b1 1))))

/-- DENY DISPATCH, CANCEL and the consent deadline take the entry out of the list and return its bay to READY with its
boat, reported DENIED, CANCELED or EXPIRED and then as the bay's change of phase; a number that no entry holds is answered
STATE (R110, R111, R113, R121).
Details 3 and 4 of a BAY report are 0, the model's choice (log entry 37). -/
def Obligations.EntriesLeaveTheListToReady : Prop :=
  (∀ (s : State) (c : ControlLink) (tag seq : Byte), s.admits c.link .denyDispatch → s.dispatchSound →
    ((∀ e ∈ s.dispatch, e.seq ≠ seq) →
      exec (.denyDispatch c.link tag [seq]) s = .next (s.replies c.link .denyDispatch tag .state [])) ∧
    ∀ (e : DispatchEntry) (y : Bay), e ∈ s.dispatch → e.seq = seq → (s.windows.get c.link).holds e.bay = true →
      s.bay e.bay = some y →
      ∃ u : State, exec (.denyDispatch c.link tag [seq]) s =
          .next (u.finish.replies c.link .denyDispatch tag .ok []) ∧
        u.dispatch = s.dispatch.filter (fun d => d.seq != seq) ∧ u.bay e.bay = some { y with phase := .ready } ∧
        (∀ b, b ≠ e.bay → u.bay b = s.bay b) ∧ u.table = s.table ∧ u.roster = s.roster ∧ u.mc = s.mc ∧
        u.surroundings = s.surroundings ∧
        ReportsAdded s u (.of .dispatch (some e.bay) (some e.boat) 3 seq.toNat (linkCode c.link) 0 ::
          bayReport e.bay (s.entry e.bay).occupant y.phase .ready)) ∧
  (∀ (s : State) (l : Link) (tag seq : Byte), s.admits l .cancel → s.dispatchSound →
    ((∀ e ∈ s.dispatch, e.seq ≠ seq) →
      exec (.cancel l tag [seq]) s = .next (s.replies l .cancel tag .state [])) ∧
    ∀ (e : DispatchEntry) (y : Bay), e ∈ s.dispatch → e.seq = seq → (s.windows.get l).holds e.bay = true →
      s.bay e.bay = some y →
      ∃ u : State, exec (.cancel l tag [seq]) s = .next (u.finish.replies l .cancel tag .ok []) ∧
        u.dispatch = s.dispatch.filter (fun d => d.seq != seq) ∧ u.bay e.bay = some { y with phase := .ready } ∧
        (∀ b, b ≠ e.bay → u.bay b = s.bay b) ∧ u.table = s.table ∧ u.roster = s.roster ∧ u.mc = s.mc ∧
        u.surroundings = s.surroundings ∧
        ReportsAdded s u (.of .dispatch (some e.bay) (some e.boat) 5 seq.toNat 0 (linkCode l) ::
          bayReport e.bay (s.entry e.bay).occupant y.phase .ready)) ∧
  (∀ (s : State) (e : DispatchEntry) (y : Bay) (d : Time), s.dispatchSound → e ∈ s.dispatch →
    e.timer = .running d → reached s.timeBase d = true → s.bay e.bay = some y →
    ∃ u : State, exec (.consentDeadline e.seq) s = .next u.finish ∧
      u.dispatch = s.dispatch.filter (fun k => k.seq != e.seq) ∧ u.bay e.bay = some { y with phase := .ready } ∧
      (∀ b, b ≠ e.bay → u.bay b = s.bay b) ∧ u.table = s.table ∧ u.roster = s.roster ∧ u.mc = s.mc ∧
      u.surroundings = s.surroundings ∧
      ReportsAdded s u (.of .dispatch (some e.bay) (some e.boat) 4 e.seq.toNat
          (e.consentA.toNat + 2 * e.consentB.toNat) 0 ::
        bayReport e.bay (s.entry e.bay).occupant y.phase .ready))

/-- STEP in MANUAL grants the path of a boat held in the block, when its switch is confirmed with no move under way, no
guests leave a bay and every block of the path is CLEAR: the grant is made as R33 says, and the entry of a bay leaves the
list, reported CANCELED before the bay's change of phase; the rows before it refuse with their reasons and no change (R193,
R33, R90, R120, R127).
Details 3 and 4 of a BAY report are 0, the model's choice (log entry 37). -/
def Obligations.StepGrantsOnePath : Prop :=
  ∀ (s : State) (l : Link) (tag : Byte) (b : BlockId), s.admits l .step → (s.windows.get l).holds b = true →
    ((s.entry b).state ≠ .occupied →
      exec (.stepBoat l tag (b1 b.val)) s = .next (s.replies l .step tag .state (b1 2 ++ b1 255))) ∧
    ((s.entry b).state = .occupied →
      (s.layout.kind b = some .bay → s.guestsIn b = true →
        exec (.stepBoat l tag (b1 b.val)) s = .next (s.replies l .step tag .state (b1 3 ++ b1 255))) ∧
      (¬(s.layout.kind b = some .bay ∧ s.guestsIn b = true) →
        (∀ w, s.layout.kind b = some .switch → s.switchRec b = some w →
          (w.reading ≠ (s.chosenLeg b).reading ∨ w.move ≠ none) →
          exec (.stepBoat l tag (b1 b.val)) s = .next (s.replies l .step tag .state (b1 4 ++ b1 255))) ∧
        (s.switchBars b = false →
          (∀ (pre post : List BlockId) (c : BlockId), s.pathFrom b = some (pre ++ c :: post) →
            (∀ a ∈ pre, (s.entry a).state = .clear) → (s.entry c).state ≠ .clear →
            exec (.stepBoat l tag (b1 b.val)) s = .next (s.replies l .step tag .state (b1 5 ++ b1 c.val))) ∧
          (∀ (p : List BlockId) (x : BoatId),
            s.pathFrom b = some p → (∀ c ∈ p, (s.entry c).state = .clear) → (s.entry b).occupant = some x →
            ∃ u : State, exec (.stepBoat l tag (b1 b.val)) s =
                .next (u.finish.replies l .step tag .ok (b1 p.length ++ p.flatMap fun c => b1 c.val)) ∧
              GrantMade s u b x p ∧
              (s.dispatchSound → (∀ e, e ∈ u.dispatch ↔ e ∈ s.dispatch ∧ e.bay ≠ b) ∧
                ((∀ e ∈ s.dispatch, e.bay ≠ b) → ReportsAdded s u (match s.bay b with
                  | some y => bayReport b (some x) y.phase .released
                  | none => [])) ∧
                (∀ e y, e ∈ s.dispatch → e.bay = b → s.bay b = some y →
                  ReportsAdded s u (.of .dispatch (some b) (some e.boat) 5 e.seq.toNat 2 0 ::
                    bayReport b (some x) y.phase .released)))))))

/-! ### Field inputs and the block table -/

/-- A raw change opens a pending change one filter time long, a return before its acceptance counts a glitch, a filter
time of 0 accepts at once, and the acceptance deadline gives the point its seen level and delivers the edge; in CONFIGURE
and for a point no record names no unit takes it (R162, R163). -/
def Obligations.InputsAreFilteredBeforeDelivery : Prop :=
  (∀ (s : State) (p : PointId) (on : Bool) (q : Point), q = s.point p →
    (q.raw = on → exec (.rawChange p on) s = .next s) ∧
    (q.raw ≠ on →
      ((on != q.invert) = q.level →
        (q.pending = none → exec (.rawChange p on) s = .next { s with points := vput s.points p { q with raw := on } }) ∧
        (q.pending ≠ none → exec (.rawChange p on) s = .next { s with points := vput s.points p { q with
          raw := on, pending := none, glitches := min (q.glitches + 1) 65535 } })) ∧
      ((on != q.invert) ≠ q.level →
        (q.pending ≠ none → exec (.rawChange p on) s = .next { s with points := vput s.points p { q with raw := on } }) ∧
        (q.pending = none → q.filter ≠ 0 →
          exec (.rawChange p on) s = .next { s with points := vput s.points p { q with
            raw := on, pending := some (s.timeBase + msSpan q.filter) } }) ∧
        (q.pending = none → q.filter = 0 →
          exec (.rawChange p on) s = .next ((({ s with points := vput s.points p { q with
            raw := on, level := (on != q.invert), pending := none } } : State).deliverEdge p (on != q.invert)).finish))))) ∧
  (∀ (s : State) (p : PointId) (q : Point) (d : Time), q = s.point p → q.pending = some d →
    reached s.timeBase d = true →
    exec (.inputAcceptance p) s = .next ((({ s with points := vput s.points p { q with
      level := (q.raw != q.invert), pending := none } } : State).deliverEdge p (q.raw != q.invert)).finish)) ∧
  (∀ (s : State) (p : PointId) (on : Bool), (s.mode = .configure ∨ s.layout.pointUse p = none) →
    s.deliverEdge p on = s)

/-- The exit eye of P going to blocked moves a boat whose position is P and whose path list begins with S forward into S: S
takes the boat, S leaves the front of its path list, P's nose-at-exit, deadlines and frozen flag change, S's passages count
goes up, a tag window opens on a read main exit, a trap passage opens in a brake block, a bay is berthed, older FAULTED
records of the boat end with their bays, and the PASSAGE report comes first (R37 case 7, R42 to R44, R70, R72, R82, R92,
R144, R219; that the boat stands in P with S next is log entry 34, that PASSAGE comes before BAY is log entry 11).
Details 3 and 4 of a BAY report are 0, the model's choice (log entry 37). -/
def Obligations.NormalArrivalMovesTheBoat : Prop :=
  ∀ (s : State) (q : PointId) (d : Time) (p n : BlockId) (leg : Leg) (x : BoatId) (bt : Boat)
    (path : List BlockId) (rp rn : BlockRecord),
    s.mode ≠ .configure → (s.point q).pending = some d → reached s.timeBase d = true → (s.point q).seen = true →
    s.layout.pointUse q = some (.exitEye p leg) → s.layout.successor p leg = some n →
    s.record p = some rp → s.record n = some rn → s.tableSound →
    ((s.entry p).state = .releasing ∨ (s.entry p).state = .faulted) → (s.entry p).occupant = some x →
    s.overlapped p x = false → (s.entry n).state = .reserved → (s.entry n).holder = some x →
    s.slot x = .onTrack bt p (n :: path) → n ∉ path →
    ∃ u : State, exec (.inputAcceptance q) s = .next u.finish ∧
      u.entry n = { Entry.bare (if holdableKind rn.kind = true ∧ path = [] then .occupied else .releasing) with
        occupant := some x
        transit := if holdableKind rn.kind then none else some (s.timeBase + msSpan rn.transitLimit) } ∧
      ((s.entry p).state = .releasing → u.entry p = { s.entry p with
        nose := true
        transit := none
        clearance := some (s.timeBase + msSpan rp.clearanceLimit)
        release := (s.entry p).release.map fun r => { r with frozen := false } }) ∧
      ((s.entry p).state = .faulted → u.entry p = { s.entry p with nose := true }) ∧
      (∀ c, c ≠ p → c ≠ n → u.entry c =
        if (s.entry c).state = .faulted ∧ (s.entry c).occupant = some x then
          { s.entry c with occupant := none, nose := false }
        else s.entry c) ∧
      u.slot x = .onTrack (if (s.layout.mergeAt n).isSome then { bt with expedite := false } else bt) n path ∧
      (∀ y, y ≠ x → u.slot y = s.slot y) ∧ u.mc = s.mc ∧
      vget u.passages n = min (vget s.passages n + 1) 65535 ∧ (∀ c, c ≠ n → vget u.passages c = vget s.passages c) ∧
      (∀ k, k ≠ q → u.point k = s.point k) ∧ (u.point q).level = true ∧ (u.point q).pending = none ∧
      (∀ port, leg = .main → rp.tagPort = some port →
        vget u.tagWindows port = some { boat := x, block := p, expected := bt.tagCode, resolved := false }) ∧
      (∀ k j, rn.brake = some k → s.brake n = some j → u.brake n = some { j with passage := some (
        { boat := x, phase := .armed, eye1 := none,
          deadline := some (s.timeBase + msSpan k.trapTimeout) }) }) ∧
      (∀ y, s.bay n = some y → (u.entry n).state = .occupied →
        u.bay n = some { y with phase := .berthed, entryEye := some q }) ∧
      (∀ c y, c ≠ p → (s.entry c).state = .faulted → (s.entry c).occupant = some x → u.bay c = some y →
        y.phase = .vacant ∧ y.weigh = none ∧ y.status = none ∧ y.returnPhase = none) ∧
      ((∀ c, c ≠ p → (s.entry c).state = .faulted → (s.entry c).occupant = some x → s.bay c = none) →
        ReportsAdded s u (.of .passage (some n) (some x) 0 0 p.val (min (vget s.passages n + 1) 65535) ::
          match s.bay n with
          | some y => if (u.entry n).state = .occupied then bayReport n (some x) y.phase .berthed else []
          | none => []))

/-- A nose arrival that is not normal: into a FAULTED block it changes no entry and no boat and is reported UNTRACKED; into
an OUT_OF_SERVICE block it raises UNEXPECTED_ARRIVAL alone; from an OCCUPIED block it raises UNRELEASED_DEPARTURE and that
block becomes FAULTED; a boat whose tail is not in yet raises BOUNDARY_OVERLAP and its block becomes FAULTED; from a block
with no occupant, or into a block not reserved for the boat, it raises UNEXPECTED_ARRIVAL and the block entered becomes
FAULTED, its holder's path being cut there when it was RESERVED (R36 to R41, R93; that a boat whose position is not P or
whose path list does not begin with S is no normal arrival is log entry 34, that a bay's report follows the fault's and
DISCARDED comes before VOIDED is log entry 11).
Details 3 and 4 of a BAY report are 0, the model's choice (log entry 37). -/
def Obligations.WrongArrivalsRaiseTheirFaults : Prop :=
  ∀ (s : State) (q : PointId) (d : Time) (p n : BlockId) (leg : Leg),
    s.mode ≠ .configure → (s.point q).pending = some d → reached s.timeBase d = true → (s.point q).seen = true →
    s.layout.pointUse q = some (.exitEye p leg) → s.layout.successor p leg = some n →
    ((s.entry n).state = .faulted →
      ∃ u : State, exec (.inputAcceptance q) s = .next u.finish ∧ u.table = s.table ∧ u.roster = s.roster ∧ u.mc = s.mc ∧
        u.passages = s.passages ∧ u.tagWindows = s.tagWindows ∧
        ReportsAdded s u [.of .passage (some n) (s.entry p).occupant 1 0 p.val 0]) ∧
    ((s.entry n).state = .outOfService →
      ∃ u : State, exec (.inputAcceptance q) s = .next u.finish ∧ OthersKept s u [] ∧ u.roster = s.roster ∧
        FaultTaken s u .unexpectedArrival (some n) (s.entry p).occupant ∧ u.mode = modeAfterFault .halt s.mode ∧
        ReportsAdded s u (s.faultReports .unexpectedArrival (some n) (s.entry p).occupant 0 0 0 0)) ∧
    ((s.entry n).state ≠ .faulted → (s.entry n).state ≠ .outOfService →
      ((s.entry p).state = .occupied →
        ∃ u : State, exec (.inputAcceptance q) s = .next u.finish ∧
          BlockFaulted s u .unreleasedDeparture p (s.entry p).occupant 0 0 0) ∧
      ((s.entry p).state ≠ .occupied →
        (∀ x, (s.entry p).occupant = some x → s.overlapped p x = true →
          ∃ u : State, exec (.inputAcceptance q) s = .next u.finish ∧
            BlockFaulted s u .boundaryOverlap p (some x) 0 0 0) ∧
        (((s.entry p).occupant = none ∨
            ∃ x, (s.entry p).occupant = some x ∧ s.overlapped p x = false ∧
              ((s.entry n).state ≠ .reserved ∨ (s.entry n).holder ≠ some x ∨ (s.slot x).position ≠ some p ∨
               (s.pathOf x).head? ≠ some n)) →
          ∃ u : State, exec (.inputAcceptance q) s = .next u.finish ∧
            BlockFaulted s u .unexpectedArrival n (s.entry p).occupant 0 0 0)))

/-- The exit eye of P going to unblocked ends a crossing when P is RELEASING with the nose at its exit and the boat's
position is the block beyond: P becomes CLEAR and a bay VACANT. With P FAULTED it changes no entry and is reported
UNTRACKED; in any other case it raises STRAY_CLEARANCE and changes no entry (R45 to R47, R92). In each case the tag window of
the exit ends, with TAG_MISSING where it still awaits its read (R74), a boat that leaves a trap untimed brings TRAP_FAULT
(R149), and a bay whose entry boundary this is ends BERTHED into the phase of its role and its boat's guests (R83; any
clearance of that eye, log entry 22). Of several faults of one clearance STRAY_CLEARANCE comes before TAG_MISSING and
TAG_MISSING before TRAP_FAULT (log entry 32), PASSAGE before both and DISCARDED before VOIDED (log entry 11), and TRAP_FAULT
sets the last level to 15 (log entry 30).
In states that no run reaches a detail above 16,777,215 is sent as that value, the model's choice (log entry 16). -/
def Obligations.TailClearanceEndsTheCrossing : Prop :=
  ∀ (s : State) (q : PointId) (d : Time) (p n : BlockId) (leg : Leg),
    s.mode ≠ .configure → (s.point q).pending = some d → reached s.timeBase d = true → (s.point q).seen = false →
    s.layout.pointUse q = some (.exitEye p leg) → s.layout.successor p leg = some n →
    ∃ u : State, exec (.inputAcceptance q) s = .next u.finish ∧
      ((leg = .spur ∨ ∀ k v, vget s.tagWindows k = some v → v.block ≠ p) → u.tagWindows = s.tagWindows) ∧
      (∀ port w, leg = .main → vget s.tagWindows port = some w → w.block = p →
        (∀ k v, vget s.tagWindows k = some v → v.block = p → k = port) →
        u.tagWindows = vput s.tagWindows port none) ∧
      (∀ c y rec z x bt, c ≠ p → s.bay c = some y → y.entryEye = some q →
        (∀ e v, s.bay e = some v → v.entryEye = some q → e = c) → s.record c = some rec → rec.bay = some z →
        (s.entry c).occupant = some x → s.boat x = some bt →
        u.bay c = some (if y.phase = .berthed then s.afterBerthed y z.role x bt.guests else { y with entryEye := none })) ∧
      (∀ x, (s.entry p).state = .releasing → (s.entry p).nose = true → (s.entry p).occupant = some x →
        (s.slot x).position = some n →
        u.entry p = .bare .clear ∧ (∀ c, c ≠ p → u.entry c = s.entry c) ∧ u.roster = s.roster ∧
        (∀ y, u.bay p = some y → y.phase = .vacant ∧ y.weigh = none ∧ y.status = none ∧ y.returnPhase = none) ∧
        (s.isTimed p → u.brakes = s.brakes ∧ u.mode = s.mode) ∧
        (∀ k g r, s.untimed p k g r →
          u.mode = modeAfterFault .hold s.mode ∧ (∀ c, c ≠ p → u.brake c = s.brake c) ∧
          u.brake p = some { k with
            passage := some g.ended
            lastLevel := some 15
            zone := match r.zoneMode with
              | .perPassage => { trapFault := true, clamped := false, margin := false }
              | .accumulate => { k.zone with trapFault := true } }) ∧
        (s.isTimed p → s.tagIsRead p leg → u.mc = s.mc) ∧
        (∀ port w, s.isTimed p → s.missesTag p leg port w → FaultTaken s u .tagMissing (some p) (some w.boat)) ∧
        (∀ k g r, s.untimed p k g r → s.tagIsRead p leg → FaultTaken s u .trapFault (some p) (some g.boat)) ∧
        (∀ k g r port w, s.untimed p k g r → s.missesTag p leg port w →
          ∃ v : State, v.timeBase = s.timeBase ∧ FaultTaken s v .tagMissing (some p) (some w.boat) ∧
            FaultTaken v u .trapFault (some p) (some g.boat)) ∧
        (s.bay p = none → (∀ c y, s.bay c = some y → y.entryEye ≠ some q) →
          (s.isTimed p → s.tagIsRead p leg → ReportsAdded s u []) ∧
          (∀ port w, s.isTimed p → s.missesTag p leg port w →
            ReportsAdded s u (s.faultReports .tagMissing (some p) (some w.boat) (cap w.expected) port.val 0 0)) ∧
          (∀ k g r, s.untimed p k g r → s.tagIsRead p leg →
            ReportsAdded s u (s.faultReports .trapFault (some p) (some g.boat) g.missing 15 0 0)) ∧
          (∀ k g r port w, s.untimed p k g r → s.missesTag p leg port w →
            ReportsAdded s u (s.faultReports .tagMissing (some p) (some w.boat) (cap w.expected) port.val 0 0 ++
              s.faultReports .trapFault (some p) (some g.boat) g.missing 15 0 0)))) ∧
      ((s.entry p).state = .faulted →
        u.table = s.table ∧ u.roster = s.roster ∧ u.mode = s.mode ∧ u.brakes = s.brakes ∧
        (s.tagIsRead p leg → u.mc = s.mc) ∧
        (∀ port w, s.missesTag p leg port w → FaultTaken s u .tagMissing (some p) (some w.boat)) ∧
        ((∀ c y, s.bay c = some y → y.entryEye ≠ some q) →
          (s.tagIsRead p leg →
            ReportsAdded s u [.of .passage (some p) (s.entry p).occupant 1 1 p.val 0]) ∧
          (∀ port w, s.missesTag p leg port w →
            ReportsAdded s u (.of .passage (some p) (s.entry p).occupant 1 1 p.val 0 ::
              s.faultReports .tagMissing (some p) (some w.boat) (cap w.expected) port.val 0 0)))) ∧
      ((s.entry p).state ≠ .faulted →
        ((s.entry p).state ≠ .releasing ∨ (s.entry p).nose = false ∨
          ∀ x, (s.entry p).occupant = some x → (s.slot x).position ≠ some n) →
        u.table = s.table ∧ u.roster = s.roster ∧ u.mode = modeAfterFault .hold s.mode ∧ u.brakes = s.brakes ∧
        (s.tagIsRead p leg → FaultTaken s u .strayClearance (some p) (s.entry p).occupant) ∧
        (∀ port w, s.missesTag p leg port w →
          ∃ v : State, v.timeBase = s.timeBase ∧ FaultTaken s v .strayClearance (some p) (s.entry p).occupant ∧
            FaultTaken v u .tagMissing (some p) (some w.boat)) ∧
        ((∀ c y, s.bay c = some y → y.entryEye ≠ some q) →
          (s.tagIsRead p leg →
            ReportsAdded s u (s.faultReports .strayClearance (some p) (s.entry p).occupant 0 0 0 0)) ∧
          (∀ port w, s.missesTag p leg port w →
            ReportsAdded s u (s.faultReports .strayClearance (some p) (s.entry p).occupant 0 0 0 0 ++
              s.faultReports .tagMissing (some p) (some w.boat) (cap w.expected) port.val 0 0))))

/-- A transit deadline of a holdable block kicks a LAUNCH block again while retries remain, and else takes the release
back as STALLED, a bay returning to its return phase; that of a non-holdable block raises LOST_BOAT and a clearance deadline
STUCK_AT_BOUNDARY, each making its block FAULTED with its boat kept (R48 to R52, R91). R49 restarts the transit deadline at
"the Time Base reading at its passing"; the model takes that as the reading of the deadline that passed (log entry 26). A
bay's report follows the fault's, and DISCARDED comes before VOIDED (log entry 11).
Details 3 and 4 of a BAY report are 0, the model's choice (log entry 37). -/
def Obligations.BlockDeadlinesActOnTheBlock : Prop :=
  ∀ (s : State) (b : BlockId) (d : Time) (e : Entry), e = s.entry b → e.state = .releasing →
    reached s.timeBase d = true →
    (∀ (r : Release) (rec : BlockRecord) (dr : DriveSection) (ln : LaunchSection), e.transit = some d →
      s.record b = some rec → rec.fields = .launch dr ln → e.release = some r → 0 < r.retries →
      ∃ u : State, exec (.holdableTransitDeadline b) s = .next u.finish ∧
        u.entry b = { e with transit := some (d + msSpan rec.transitLimit),
                             release := some { r with retries := r.retries - 1 } } ∧
        (∀ c, c ≠ b → u.entry c = s.entry c) ∧
        (u.channel dr.channel).pulse = some (s.timeBase + msSpan ln.kickPulse) ∧ u.roster = s.roster ∧
        u.mc = s.mc ∧ u.reports = s.reports) ∧
    (∀ (x : BoatId) (bt : Boat) (pos : BlockId) (path : List BlockId), e.transit = some d →
      s.layout.holdable b = true →
      (s.layout.kind b ≠ some .launch ∨ ∀ r, e.release = some r → r.retries = 0) →
      e.occupant = some x → s.slot x = .onTrack bt pos path →
      ∃ u : State, exec (.holdableTransitDeadline b) s = .next u.finish ∧
        u.entry b = { e with state := .occupied, release := none, transit := none } ∧
        (∀ c, c ≠ b → u.entry c =
          if c ∈ path ∧ (s.entry c).state = .reserved then .bare .clear else s.entry c) ∧
        u.slot x = .onTrack bt pos [] ∧ (∀ y, y ≠ x → u.slot y = s.slot y) ∧
        FaultTaken s u .stalled (some b) (some x) ∧ u.mode = modeAfterFault .hold s.mode ∧
        (∀ k, s.brake b = some k → s.layout.kind b = some .runout → u.brake b = some { k with hold := true }) ∧
        (s.bay b = none → ReportsAdded s u (s.faultReports .stalled (some b) (some x) 0 0 0 0)) ∧
        (∀ y ph, s.bay b = some y → y.phase = .released → y.returnPhase = some ph →
          ((ph ≠ .berthed ∨ y.entryEye ≠ none) → u.bay b = some { y with phase := ph, returnPhase := none } ∧
            ReportsAdded s u (s.faultReports .stalled (some b) (some x) 0 0 0 0 ++
              bayReport b (some x) .released ph)) ∧
          (ph = .berthed → y.entryEye = none → ∀ rec z, s.record b = some rec → rec.bay = some z →
            u.bay b = some (s.afterBerthed { y with returnPhase := none } z.role x bt.guests))) ∧
        (∀ y, s.bay b = some y → y.phase ≠ .released → u.bay b = some y) ∧ (∀ c, c ≠ b → u.bay c = s.bay c)) ∧
    (e.transit = some d → s.layout.holdable b = false →
      ∃ u : State, exec (.lostBoat b) s = .next u.finish ∧ BlockFaulted s u .lostBoat b e.occupant 0 0 0) ∧
    (e.clearance = some d →
      ∃ u : State, exec (.stuckAtBoundary b) s = .next u.finish ∧
        BlockFaulted s u .stuckAtBoundary b e.occupant 0 0 0)

/-- A headway deadline makes the headway ELAPSED with the last launch kept, a stop delay deadline engages the hold, a
pulse deadline ends the pulse, and a trap deadline fails the passage: DONE, last level 15, the flag TRAP_FAULT entered by
the zone condition mode, a RUNOUT block's hold engaged, reported with the missing eye and the level 15 (R127, R156, R170,
R148, R158). That DISCARDED comes before the VOIDED reports of its HOLD is log entry 11. -/
def Obligations.UnitDeadlinesActOnTheirRecords : Prop :=
  (∀ (s : State) (b : BlockId) (r : LaunchRecord) (d : Time), s.launchRec b = some r → r.headway = some d →
    reached s.timeBase d = true →
    exec (.headwayDeadline b) s =
      .next ({ s with launches := vput s.launches b (some { r with headway := none }) } : State).finish) ∧
  (∀ (s : State) (b : BlockId) (k : Brake) (d : Time), s.brake b = some k → k.stopDelay = some d →
    reached s.timeBase d = true →
    exec (.stopDelayDeadline b) s =
      .next ({ s with brakes := vput s.brakes b (some { k with stopDelay := none, hold := true }) } : State).finish) ∧
  (∀ (s : State) (c : ChannelId) (d : Time), (s.channel c).pulse = some d → reached s.timeBase d = true →
    exec (.pulseDeadline c) s =
      .next ({ s with channels := vput s.channels c { s.channel c with pulse := none } } : State).finish) ∧
  (∀ (s : State) (b : BlockId) (rec : BlockRecord) (r : BrakeSection) (k : Brake) (p : Passage) (d : Time),
    s.record b = some rec → rec.brake = some r → s.brake b = some k → k.passage = some p → p.deadline = some d →
    reached s.timeBase d = true →
    ∃ u : State, exec (.trapDeadline b) s = .next u.finish ∧
      u.brake b = some { k with
        passage := some { p with phase := .done, deadline := none }
        hold := k.hold || rec.kind == .runout
        lastLevel := some 15
        zone := match r.zoneMode with
          | .perPassage => { trapFault := true, clamped := false, margin := false }
          | .accumulate => { k.zone with trapFault := true } } ∧
      (∀ c, c ≠ b → u.brake c = s.brake c) ∧ u.table = s.table ∧ u.roster = s.roster ∧
      FaultTaken s u .trapFault (some b) (some p.boat) ∧ u.mode = modeAfterFault .hold s.mode ∧
      ReportsAdded s u (s.faultReports .trapFault (some b) (some p.boat) p.missing 15 0 0))

/-- An eye 1 edge starts the timing of an ARMED passage; an eye 2 edge of a TIMING passage makes the brake level
computation and hands its outcome to the brake record, the boat and the zone condition, reports it BRAKE, and then raises
SPEED_CLAMP and BRAKE_MARGIN where they apply; every other trap edge going to blocked is a stray, and one going to unblocked
is not used (R145 to R147, R150 to R154, R156, R158, R196). The trap interval that SPEED_CLAMP reports is kept at most at
16,777,215 (log entry 16), and that DISCARDED comes before the VOIDED reports of the HOLD of BRAKE_MARGIN is log entry 11. -/
def Obligations.TrapEyesMeasureThePassage : Prop :=
  ∀ (s : State) (b : BlockId) (rec : BlockRecord) (r : BrakeSection), s.mode ≠ .configure →
    s.record b = some rec → rec.brake = some r →
    (∀ q, (s.layout.pointUse q = some (.trapEye1 b) ∨ s.layout.pointUse q = some (.trapEye2 b)) →
      s.deliverEdge q false = s) ∧
    (∀ q, s.layout.pointUse q = some (.trapEye1 b) →
      (∀ k p, s.brake b = some k → k.passage = some p → p.phase = .armed →
        s.deliverEdge q true = { s with brakes := vput s.brakes b (some { k with passage := some (
          { p with phase := .timing, eye1 := some s.timeBase,
                   deadline := some (s.timeBase + msSpan r.trapTimeout) }) }) }) ∧
      ((∀ k p, s.brake b = some k → k.passage = some p → p.phase ≠ .armed) →
        s.deliverEdge q true = { s with trapStrays := min (s.trapStrays + 1) 65535 })) ∧
    (∀ q, s.layout.pointUse q = some (.trapEye2 b) →
      (∀ k p t bt (c : BrakeResult), s.brake b = some k → k.passage = some p → p.phase = .timing → p.eye1 = some t →
        s.boat p.boat = some bt →
        c = brakeCompute r (s.timeBase - t).toNat
          (bt.tare + bt.load.getD s.layout.settings.unweighedAllowance) →
        (s.deliverEdge q true).brake b = some { k with
          passage := some { p with phase := .done, deadline := none }
          lastSpeed := some c.speed
          lastDecel := some c.decel
          lastLevel := some c.applied
          hold := k.hold || rec.stopDelay == some 0
          stopDelay := match rec.stopDelay with
            | some (m + 1) => some (s.timeBase + msSpan (m + 1))
            | _ => none
          zone := match r.zoneMode with
            | .perPassage => { trapFault := false, clamped := c.clamped, margin := c.margin }
            | .accumulate =>
              { k.zone with clamped := k.zone.clamped || c.clamped, margin := k.zone.margin || c.margin } } ∧
        (s.deliverEdge q true).boat p.boat = some { bt with lastSpeed := some c.speed } ∧
        (∀ x, x ≠ p.boat → (s.deliverEdge q true).slot x = s.slot x) ∧
        (s.deliverEdge q true).table = s.table ∧
        (c.speedClamped = false → c.margin = false → (s.deliverEdge q true).mc = s.mc) ∧
        (c.speedClamped = true → c.margin = false →
          FaultTaken s (s.deliverEdge q true) .speedClamp (some b) (some p.boat)) ∧
        (c.speedClamped = false → c.margin = true →
          FaultTaken s (s.deliverEdge q true) .brakeMargin (some b) (some p.boat)) ∧
        (c.speedClamped = true → c.margin = true → ∃ w : State, w.timeBase = s.timeBase ∧
          FaultTaken s w .speedClamp (some b) (some p.boat) ∧
          FaultTaken w (s.deliverEdge q true) .brakeMargin (some b) (some p.boat)) ∧
        (s.deliverEdge q true).mode = (if c.margin then modeAfterFault .hold s.mode else s.mode) ∧
        ReportsAdded s (s.deliverEdge q true)
          (.of .brake (some b) (some p.boat) (cap c.speed) (cap c.decel) (cap c.applied)
              (c.clamped.toNat + 2 * c.margin.toNat) ::
            ((if c.speedClamped then
                s.faultReports .speedClamp (some b) (some p.boat) (cap (s.timeBase - t).toNat) 0 0 0 else []) ++
             if c.margin then
               s.faultReports .brakeMargin (some b) (some p.boat) (cap c.raw) (cap c.force) 0 0 else []))) ∧
      ((∀ k p, s.brake b = some k → k.passage = some p → p.phase ≠ .timing) →
        s.deliverEdge q true = { s with trapStrays := min (s.trapStrays + 1) 65535 }))

/-- A switch's travel deadline, a channel's check deadline and its position deadline each raise their fault against the
block with the details of R132, R174 and R175; the block becomes FAULTED with its occupant and nose kept, a RESERVED one
being cut from its holder's path, unless it is FAULTED or OUT_OF_SERVICE, which keeps every entry (R36, R54, R132, R172,
R174, R175; that a bay's report follows the fault's and DISCARDED comes before VOIDED is log entry 11).
Details 3 and 4 of a BAY report are 0, the model's choice (log entry 37).
In states that no run reaches a detail above 16,777,215 is sent as that value, the model's choice (log entry 16). -/
def Obligations.DriveDeadlinesFaultTheBlock : Prop :=
  (∀ (s : State) (b : BlockId) (w : SwitchRecord) (leg : Leg) (d : Time), s.switchRec b = some w →
    w.move = some (leg, d) → reached s.timeBase d = true →
    ∃ u : State, exec (.switchTravel b) s = .next u.finish ∧
      ((s.entry b).state ≠ .faulted → (s.entry b).state ≠ .outOfService →
        BlockFaulted s u .switchTravel b (s.entry b).occupant leg.code w.reading.code 0) ∧
      (((s.entry b).state = .faulted ∨ (s.entry b).state = .outOfService) →
        FaultTaken s u .switchTravel (some b) (s.entry b).occupant ∧ u.mode = modeAfterFault .halt s.mode ∧
        OthersKept s u [] ∧ u.roster = s.roster ∧ u.switchRec b = some w.stopped ∧
        ReportsAdded s u (s.faultReports .switchTravel (some b) (s.entry b).occupant leg.code w.reading.code 0 0))) ∧
  (∀ (s : State) (c : ChannelId) (b : BlockId) (d : Time), (s.channel c).owner = some b →
    reached s.timeBase d = true →
    ((s.channel c).check = some d →
      ∃ u : State, exec (.checkDeadline c) s = .next u.finish ∧ (u.channel c).check = none ∧
        ((s.entry b).state ≠ .faulted → (s.entry b).state ≠ .outOfService →
          BlockFaulted s u .actuatorMismatch b (s.entry b).occupant c.val (cap (s.channel c).command.code)
            (s.feedbackLevel b).toNat) ∧
        (((s.entry b).state = .faulted ∨ (s.entry b).state = .outOfService) →
          FaultTaken s u .actuatorMismatch (some b) (s.entry b).occupant ∧ u.mode = modeAfterFault .halt s.mode ∧
          OthersKept s u [] ∧ u.roster = s.roster ∧
          ReportsAdded s u (s.faultReports .actuatorMismatch (some b) (s.entry b).occupant c.val
            (cap (s.channel c).command.code) (s.feedbackLevel b).toNat 0))) ∧
    ((s.channel c).position = some d → ∀ w, s.switchRec b = some w →
      ∃ u : State, exec (.positionDeadline c) s = .next u.finish ∧ (u.channel c).position = none ∧
        ((s.entry b).state ≠ .faulted → (s.entry b).state ≠ .outOfService →
          BlockFaulted s u .actuatorMismatch b (s.entry b).occupant c.val ((w.held.map (·.code)).getD 255)
            w.reading.code) ∧
        (((s.entry b).state = .faulted ∨ (s.entry b).state = .outOfService) →
          FaultTaken s u .actuatorMismatch (some b) (s.entry b).occupant ∧ u.mode = modeAfterFault .halt s.mode ∧
          OthersKept s u [] ∧ u.roster = s.roster ∧
          ReportsAdded s u (s.faultReports .actuatorMismatch (some b) (s.entry b).occupant c.val
            ((w.held.map (·.code)).getD 255) w.reading.code 0))))

/-- The reading of a switch follows its two position points at every accepted edge; a move whose target the reading names
ends there, the held leg being the leg confirmed; in RUN and MANUAL an OCCUPIED switch whose reading is not the chosen leg
takes a move toward it with a fresh travel deadline unless one is under way, and in no other case is a move begun; a new
route discards a move when the reading already names the new leg (R130 to R133, R172). -/
def Obligations.SwitchesFollowTheirPoints : Prop :=
  (∀ (s : State) (q : PointId) (on : Bool) (b : BlockId) (r : SwitchSection) (w : SwitchRecord) (now : Reading),
    s.mode ≠ .configure → s.layout.pointUse q = some (.position b) → (s.record b).bind (·.switch) = some r →
    s.switchRec b = some w →
    now = (match (s.point r.mainPosition).level, (s.point r.spurPosition).level with
      | true, false => .main
      | false, true => .spur
      | _, _ => .none) →
    (∀ leg d, w.move = some (leg, d) → now = leg.reading →
      s.deliverEdge q on = { s with switches := vput s.switches b (some
        { reading := now, move := none, held := some leg }) }) ∧
    ((∀ leg d, w.move = some (leg, d) → now ≠ leg.reading) →
      s.deliverEdge q on = { s with switches := vput s.switches b (some { w with reading := now }) })) ∧
  (∀ (s : State) (b : BlockId) (r : SwitchSection) (w : SwitchRecord), s.mode ≠ .configure →
    (s.record b).bind (·.switch) = some r → s.switchRec b = some w →
    ((s.mode = .run ∨ s.mode = .manual) → (s.entry b).state = .occupied → w.reading ≠ (s.chosenLeg b).reading →
      (∀ d, w.move ≠ some (s.chosenLeg b, d)) →
      s.finish.switchRec b = some { w with
        move := some (s.chosenLeg b, s.timeBase + msSpan r.travelLimit) }) ∧
    (((s.mode ≠ .run ∧ s.mode ≠ .manual) ∨ (s.entry b).state ≠ .occupied ∨
        w.reading = (s.chosenLeg b).reading ∨ ∃ d, w.move = some (s.chosenLeg b, d)) →
      s.finish.switchRec b = some w)) ∧
  (∀ (s : State) (l : Link) (tag : Byte) (x : BoatId) (bt : Boat) (route : Route) (b : BlockId) (r : SwitchSection)
    (w : SwitchRecord), s.admits l .setRoute → s.boat x = some bt → route ≠ bt.route →
    (s.mode = .run ∨ s.mode = .manual) → s.layout.kind b = some .switch → (s.record b).bind (·.switch) = some r →
    (s.entry b).state = .occupied → (s.entry b).occupant = some x → s.switchRec b = some w →
    ∃ t : State, exec (.setRoute l tag (b1 x.val ++ b1 route.code)) s = .next t ∧
      (w.reading = route.leg.reading → (∀ d, w.move ≠ some (route.leg, d)) → t.switchRec b = some w.stopped) ∧
      (w.reading ≠ route.leg.reading → (∀ d, w.move ≠ some (route.leg, d)) → t.switchRec b = some { w with
        move := some (route.leg, s.timeBase + msSpan r.travelLimit) }))

/-- The feedback expectation of an owned channel is the one its command calls for, none without a feedback point or while
the block is FAULTED; where it changes a check deadline is set afresh if the feedback level differs, where it stays a check
deadline is set once while the level differs and discarded when it agrees; a switch holding on a held leg has a position
deadline while its reading differs, set afresh when the command has changed; and a FAULTED or OUT_OF_SERVICE block has
neither (R173 to R176; the expectation of a FAULTED block is log entry 21). A feedback edge changes nothing but its point
before that.
The comparison is made once, between the channel before the end of the event and after it, which is the model's choice (log
entry 38). -/
def Obligations.ChecksFollowTheCommands : Prop :=
  (∀ (s : State) (q : PointId) (on : Bool) (b : BlockId), s.layout.pointUse q = some (.feedback b) →
    s.deliverEdge q on = s) ∧
  ∀ (s t : State) (c : ChannelId) (b : BlockId) (r : BlockRecord) (dr : DriveSection) (st : BlockState)
    (old new : Channel) (fresh : Time),
    s.mode ≠ .configure → t = s.finish → (s.channel c).owner = some b → s.record b = some r → r.drive = some dr →
    st = (t.entry b).state → old = s.channel c → new = t.channel c → fresh = s.timeBase + msSpan dr.checkTime →
    ((dr.feedback = none ∨ st = .faulted) → new.expectation = none) ∧
    (dr.feedback ≠ none → st ≠ .faulted →
      (new.command = .closed → new.expectation = some true) ∧
      (new.command = .opened → new.expectation = some false) ∧
      (new.command = .run → new.expectation = some true) ∧
      (new.command = .stop → new.expectation = some false) ∧
      (∀ n, new.command = .level n → new.expectation = some (decide (1 ≤ n))) ∧
      (new.command = .idle → new.expectation = some true) ∧
      (new.command = .hold → new.expectation = some false) ∧
      ((new.command = .fire ∨ new.command = .driveMain ∨ new.command = .driveSpur) → new.expectation = none)) ∧
    ((st = .faulted ∨ st = .outOfService) → new.check = none ∧ new.position = none) ∧
    (st ≠ .faulted → st ≠ .outOfService →
      (new.expectation = none → new.check = none) ∧
      (∀ p v, dr.feedback = some p → new.expectation = some v →
        ((s.point p).level = v → new.check = none) ∧
        ((s.point p).level ≠ v → new.expectation ≠ old.expectation → new.check = some fresh) ∧
        ((s.point p).level ≠ v → new.expectation = old.expectation →
          (old.check = none → new.check = some fresh) ∧ (∀ d, old.check = some d → new.check = some d))) ∧
      (t.switchRec b = none → new.position = none) ∧
      (∀ w, t.switchRec b = some w →
        ((new.command ≠ .hold ∨ w.held = none) → new.position = none) ∧
        (∀ leg, new.command = .hold → w.held = some leg →
          (w.reading = leg.reading → new.position = none) ∧
          (w.reading ≠ leg.reading → new.command ≠ old.command → new.position = some fresh) ∧
          (w.reading ≠ leg.reading → new.command = old.command →
            (old.position = none → new.position = some fresh) ∧
            (∀ d, old.position = some d → new.position = some d)))))

/-- A tag read resolves an AWAITING window, raising TAG_MISMATCH when the codes differ, with the expected code, the code
read, the slot enrolled with it and the port as details; with no window or a RESOLVED one it is discarded and counted; in
CONFIGURE and on a port no record names it is discarded, and only the end of the event follows (R73, R165). That DISCARDED
comes before the VOIDED reports of the HOLD of TAG_MISMATCH is log entry 11.
In states that no run reaches a detail above 16,777,215 is sent as that value, the model's choice (log entry 16). -/
def Obligations.TagReadsResolveTheWindow : Prop :=
  ∀ (s : State) (port : PortId) (code : Nat), code ≤ 16777215 →
    (s.mode = .configure → exec (.tagRead port code) s = .next s) ∧
    (s.layout.portAssigned port = false → exec (.tagRead port code) s = .next s.finish) ∧
    (s.mode ≠ .configure → s.layout.portAssigned port = true →
      ((∀ w, vget s.tagWindows port = some w → w.resolved = true) →
        exec (.tagRead port code) s =
          .next ({ s with tagDiscards := min (s.tagDiscards + 1) 65535 } : State).finish) ∧
      (∀ w, vget s.tagWindows port = some w → w.resolved = false →
        (code = w.expected →
          exec (.tagRead port code) s =
            .next ({ s with tagWindows := vput s.tagWindows port (some { w with resolved := true }) } : State).finish) ∧
        (code ≠ w.expected →
          ∃ u : State, exec (.tagRead port code) s = .next u.finish ∧
            u.tagWindows = vput s.tagWindows port (some { w with resolved := true }) ∧ u.roster = s.roster ∧
            u.table = s.table ∧ FaultTaken s u .tagMismatch (some w.block) (some w.boat) ∧
            u.mode = modeAfterFault .hold s.mode ∧
            (∀ slot : Nat, ((∀ x bt, s.boat x = some bt → bt.tagCode ≠ code) ∧ slot = 255 ∨
                ∃ x bt, s.boat x = some bt ∧ bt.tagCode = code ∧ slot = x.val ∧
                  ∀ y u, s.boat y = some u → u.tagCode = code → y = x) →
              ReportsAdded s u (s.faultReports .tagMismatch (some w.block) (some w.boat) (cap w.expected) code slot
                port.val)))))

/-! ### Merges -/

/-- Backlogs count the OCCUPIED blocks of a feeder list and drive the high flag with hysteresis; a contest between two
ready candidates goes to a holder with burst left unless the other input alone is at level 3, else to the higher level,
else to the preferred input; and a grant takes one from the burst or makes its input the holder (R135, R136, R138,
R139). -/
def Obligations.MergeContestFollowsItsSteps : Prop :=
  (∀ (a : Arbiter) (preferred : MergeInput) (level : MergeInput → Nat),
    (∀ h, a.holder = some h → 0 < a.burstRemaining →
      ((level h.other = 3 ∧ level h < 3) → contestWinner a preferred level = h.other) ∧
      (¬(level h.other = 3 ∧ level h < 3) → contestWinner a preferred level = h)) ∧
    ((a.holder = none ∨ a.burstRemaining = 0) →
      (∀ i : MergeInput, level i.other < level i → contestWinner a preferred level = i) ∧
      (level .in0 = level .in1 → contestWinner a preferred level = preferred))) ∧
  (∀ (a : Arbiter) (burst : Nat) (i : MergeInput),
    (a.holder = some i → 0 < a.burstRemaining →
      a.afterGrant burst i = { a with burstRemaining := a.burstRemaining - 1 }) ∧
    ((a.holder ≠ some i ∨ a.burstRemaining = 0) →
      a.afterGrant burst i = { a with holder := some i, burstRemaining := burst - 1 })) ∧
  (∀ (tLow tHigh b : Nat) (old : Bool), tLow ≤ tHigh →
    (tHigh ≤ b → highAfter tLow tHigh b old = true) ∧ (b < tLow → highAfter tLow tHigh b old = false) ∧
    (tLow ≤ b → b < tHigh → highAfter tLow tHigh b old = old)) ∧
  (∀ (s : State) (b : BlockId) (e : Entry) (m : MergeId) (r : MergeRecord) (a : Arbiter),
    s.layout.merge m = some r → s.arbiter m = some a →
    ((s.entry b).state = .occupied ↔ e.state ≠ .occupied) →
    ∃ n, (s.setEntry b e).arbiter m = some n ∧ n.holder = a.holder ∧ n.burstRemaining = a.burstRemaining ∧
      (b ∈ r.feeder0 →
        n.backlog0 = (r.feeder0.filter fun c => ((s.setEntry b e).entry c).state == .occupied).length ∧
        n.high0 = highAfter r.tLow r.tHigh n.backlog0 a.high0) ∧
      (b ∈ r.feeder1 →
        n.backlog1 = (r.feeder1.filter fun c => ((s.setEntry b e).entry c).state == .occupied).length ∧
        n.high1 = highAfter r.tLow r.tHigh n.backlog1 a.high1) ∧
      (b ∉ r.feeder0 → n.backlog0 = a.backlog0 ∧ n.high0 = a.high0) ∧
      (b ∉ r.feeder1 → n.backlog1 = a.backlog1 ∧ n.high1 = a.high1)) ∧
  (∀ (s : State) (r : MergeRecord) (a : Arbiter) (i : MergeInput),
    ((∃ b ∈ r.feeder i, ∃ x bt, (s.entry b).occupant = some x ∧ s.boat x = some bt ∧ bt.expedite = true) →
      s.level r a i = 3) ∧
    ((∀ b ∈ r.feeder i, ∀ x bt, (s.entry b).occupant = some x → s.boat x = some bt → bt.expedite = false) →
      s.level r a i = if a.high i then 2 else if 1 ≤ a.backlog i then 1 else 0))

/-! ### Links and reports -/

/-- Characters: a line ignored after a break gives none; while the request queue is full a character waits in the FIFO or
is lost with a loss mark; else a marker begins a frame, and a frame already begun is counted TRUNCATED, or OVERRUN with its
mark; a character outside a frame is discarded; another is added to the frame, a length above 48 discarding it as CHECK; a
complete frame is discarded as OVERRUN with its mark, or as CHECK by its sum or code, and else is a good frame: it is
counted, sets the supervision deadline, brings a DOWN link UP with its cursor past the newest entry before the LINK report,
joins the queue, and is taken at once when nothing is being sent. A break empties the receive state and is counted once
(R203 to R206, R209, R220). That a length above 48 counts as CHECK also for a frame whose overrun mark is set is log entry
23. -/
def Obligations.CharactersMakeFrames : Prop :=
  ∀ (s : State) (l : Link) (p : LinkPort), p = s.port l →
    (∀ byte marker,
      (p.ignoring = true → exec (.characterReceived l byte marker) s = .next s) ∧
      (p.ignoring = false → 2 ≤ p.queue.length →
        (p.fifo.length < 4 →
          exec (.characterReceived l byte marker) s =
            .next (s.setPort l { p with fifo := p.fifo ++ [{ byte := byte, marker := marker, lost := false }] })) ∧
        (∀ (older : List Character) (c : Character), p.fifo = older ++ [c] → 4 ≤ p.fifo.length →
          exec (.characterReceived l byte marker) s =
            .next (s.setPort l { p with fifo := older ++ [{ c with lost := true }] })))) ∧
    (∀ byte, p.ignoring = false → p.queue.length < 2 → p.fifo = [] →
      (p.assembly = none →
        exec (.characterReceived l byte true) s =
          .next (s.setPort l { p with assembly := some { bytes := [byte], overrun := false } }) ∧
        exec (.characterReceived l byte false) s = .next s) ∧
      (∀ a, p.assembly = some a →
        exec (.characterReceived l byte true) s = .next (s.setPort l { p with
          assembly := some { bytes := [byte], overrun := false }
          overruns := if a.overrun then min (p.overruns + 1) 65535 else p.overruns
          truncated := if a.overrun then p.truncated else min (p.truncated + 1) 65535 }) ∧
        (a.bytes.length = 2 → 48 < byte.toNat →
          exec (.characterReceived l byte false) s =
            .next (s.setPort l { p with assembly := none, checkErrors := min (p.checkErrors + 1) 65535 })) ∧
        ((a.bytes.length < 2 ∨ a.bytes.length = 2 ∧ byte.toNat ≤ 48 ∨
            3 ≤ a.bytes.length ∧ a.bytes.length + 1 ≠ 4 + (a.bytes.getD 2 0).toNat) →
          exec (.characterReceived l byte false) s =
            .next (s.setPort l { p with assembly := some { a with bytes := a.bytes ++ [byte] } })) ∧
        (3 ≤ a.bytes.length → a.bytes.length + 1 = 4 + (a.bytes.getD 2 0).toNat →
          (a.overrun = true →
            exec (.characterReceived l byte false) s =
              .next (s.setPort l { p with assembly := none, overruns := min (p.overruns + 1) 65535 })) ∧
          (a.overrun = false →
            ((a.bytes ++ [byte]).foldl (· + ·) 0 ≠ 0 ∨ 128 ≤ (a.bytes.getD 0 0).toNat) →
            exec (.characterReceived l byte false) s =
              .next (s.setPort l { p with assembly := none, checkErrors := min (p.checkErrors + 1) 65535 }))))) ∧
    (∀ (byte code tag : Byte) (args : List Byte) (f : Frame) (v : Supervision),
      p.ignoring = false → p.queue.length < 2 → p.fifo = [] → args.length ≤ 48 → code.toNat < 128 →
      p.assembly = some { bytes := code :: tag :: BitVec.ofNat 8 args.length :: args, overrun := false } →
      (code :: tag :: BitVec.ofNat 8 args.length :: (args ++ [byte])).foldl (· + ·) 0 = 0 →
      f = { code := code, tag := tag, args := args } →
      v = { deadline := s.timeBase + msSpan s.layout.settings.linkTimeout,
            timeout := s.layout.settings.linkTimeout } →
      (p.supervision ≠ none →
        (p.sending = none → p.queue = [] →
          exec (.characterReceived l byte false) s =
            .next ((s.setPort l { p with assembly := none, goodFrames := min (p.goodFrames + 1) 65535,
                                         supervision := some v }).serveFrame l f)) ∧
        (p.sending ≠ none →
          exec (.characterReceived l byte false) s =
            .next (s.setPort l { p with assembly := none, goodFrames := min (p.goodFrames + 1) 65535,
                                        supervision := some v, queue := p.queue ++ [f] }))) ∧
      (p.supervision = none → (p.sending = none → p.queue = []) →
        ∃ u : State, exec (.characterReceived l byte false) s =
            .next (if p.sending = none then u.serveFrame l f else u) ∧
          u = { s.setPort l { p with
                  assembly := none
                  goodFrames := min (p.goodFrames + 1) 65535
                  supervision := some v
                  queue := if p.sending = none then p.queue else p.queue ++ [f] } with reports := u.reports } ∧
          (s.ringSound → u.unread l =
              [{ seq := s.reports.nextSeq, kind := .link, fault := none, time := s.timeBase, block := none,
                 boat := none, details := { d1 := 0, d2 := linkCode l, d3 := 0, d4 := 0 } }] ∧
            (u.reader l).skipped = 0 ∧ (u.reader l).holdOff = none ∧
            (u.reader l).line = inAttention (s.reader l).attention .link ∧
            u.reports.nextSeq = s.reports.nextSeq + 1))) ∧
    ((p.ignoring = false →
        exec (.lineBreak l) s = .next (s.setPort l { p with
          fifo := [], assembly := none, shift := [], ignoring := true, breaks := min (p.breaks + 1) 65535 })) ∧
      (p.ignoring = true → exec (.lineBreak l) s = .next s) ∧
      exec (.lineReturnsToMark l) s = .next (s.setPort l { p with ignoring := false }))

/-- A taken frame is the request of its code: with nothing being sent it is served as the request's own command is. The end
of a response takes the next frame in the queue, and the characters that waited in the FIFO are then received in their order
as places come free; a loss mark is placed on the frame under assembly, or counted as OVERRUN where there is none. A
response is sent as its bytes, the marker set on the first character alone and the sum of all bytes 0 (R201, R202, R204,
R205, R208, R212). That the request taken is carried out before those characters are received is log entry 36; that a marked
character which completes a frame with an earlier overrun mark counts one OVERRUN for that frame and one for the loss that
followed it is log entry 23. -/
def Obligations.TakenFramesAreServed : Prop :=
  (∀ (s : State) (l : Link) (tag : Byte) (args : List Byte), (s.port l).sending = none →
    (∀ r : Req, exec (requestCommand r l tag args) s =
      .next (s.serveFrame l { code := BitVec.ofNat 8 r.code, tag := tag, args := args })) ∧
    (∀ code : Byte, (∀ r : Req, code.toNat ≠ r.code) →
      s.serveFrame l { code := code, tag := tag, args := args } = s.sends l code tag .unknownRequest [])) ∧
  (∀ (s : State) (l : Link) (p : LinkPort), p = s.port l →
    (p.sending = none → exec (.responseSent l) s = .next s) ∧
    (∀ r, p.sending = some r →
      (p.queue = [] → p.fifo = [] → exec (.responseSent l) s = .next (s.setPort l { p with sending := none })) ∧
      (∀ f rest u, p.queue = f :: rest →
        u = (s.setPort l { p with sending := none, queue := rest }).serveFrame l f →
        (p.fifo = [] → exec (.responseSent l) s = .next u) ∧
        (p.fifo.length ≤ 4 → p.ignoring = false → rest.length < 2 →
          ((∀ c ∈ p.fifo, c.lost = false) →
            exec (.responseSent l) s =
              carryOutAll (p.fifo.map fun c => .characterReceived l c.byte c.marker)
                (u.setPort l { u.port l with fifo := [] })) ∧
          (∀ older c v w, p.fifo = older ++ [c] → (∀ k ∈ older, k.lost = false) → c.lost = true →
            carryOutAll (older.map fun k => .characterReceived l k.byte k.marker)
              (u.setPort l { u.port l with fifo := [] }) = .next v →
            (2 ≤ (v.port l).queue.length →
              exec (.responseSent l) s =
                .next (v.setPort l { v.port l with fifo := (v.port l).fifo ++ [c] })) ∧
            ((v.port l).queue.length < 2 → exec (.characterReceived l c.byte c.marker) v = .next w →
              (∀ a, (w.port l).assembly = some a →
                exec (.responseSent l) s =
                  .next (w.setPort l { w.port l with assembly := some { a with overrun := true } })) ∧
              ((w.port l).assembly = none →
                exec (.responseSent l) s = .next (w.setPort l { w.port l with
                  overruns := min ((w.port l).overruns + 1) 65535 })))))))) ∧
  (∀ (p : LinkPort) (r : Response), p.sending = some r →
    ∃ check : Byte,
      p.transmission = (r.code, true) :: ([r.tag, BitVec.ofNat 8 r.status.code, BitVec.ofNat 8 r.data.length] ++
        r.data ++ [check]).map (fun byte => (byte, false)) ∧
      (p.transmission.map (·.1)).foldl (· + ·) 0 = 0 ∧ p.transmission.length = 5 + r.data.length) ∧
  (∀ p : LinkPort, p.sending = none → p.transmission = [])

/-- A report joins the ring at its newest end with the next sequence number and the reading of the Time Base; with 64
entries held the oldest is dropped first, and an UP link that had not read it counts it as skipped; with no link UP nothing
is held; and each link's attention line is evaluated, at a drop it loses and at the append. Entries that every UP link has
read are freed from the oldest end, and no link loses an unread one (R219 to R221, R223). -/
def Obligations.ReportsJoinTheRing : Prop :=
  (∀ (s t : State) (kind : ReportKind) (fault : Option (FaultKind × FaultClass)) (block : Option BlockId)
    (boat : Option BoatId) (d : Details), t = s.append kind fault block boat d →
    t = { s with reports := t.reports } ∧
    ReportsAdded s t [{ kind := kind, fault := fault, block := block, boat := boat, details := d }] ∧
    (s.ringSound → ∀ l : Link,
      (s.reports.ring.length < 64 ∨ s.up l = false ∨ (s.reader l).cursor ≠ 0 →
        Attended (s.reader l) (t.reader l) s.timeBase (s.up l && anyWanted (s.reader l).attention (t.unread l))) ∧
      (s.reports.ring.length = 64 → s.up l = true → (s.reader l).cursor = 0 → ∃ m : Reader,
        Attended (s.reader l) m s.timeBase (anyWanted (s.reader l).attention s.reports.ring.tail) ∧
        m.interval = (s.reader l).interval ∧
        Attended m (t.reader l) s.timeBase (anyWanted (s.reader l).attention (t.unread l))))) ∧
  (∀ s t : State, s.ringSound → t = s.freeEntries →
    t = { s with reports := t.reports } ∧ t.reports.nextSeq = s.reports.nextSeq ∧
    (∃ k, t.reports.ring = s.reports.ring.drop k) ∧ (∀ l, s.up l = true → t.unread l = s.unread l) ∧
    ((∃ l, s.up l = true) → t.reports.ring = [] ∨ ∃ l, s.up l = true ∧ t.unread l = t.reports.ring) ∧
    ((∀ l, s.up l = false) → t.reports.ring = []) ∧
    ∀ l, (t.reader l).skipped = (s.reader l).skipped ∧ (t.reader l).line = (s.reader l).line ∧
      (t.reader l).holdOff = (s.reader l).holdOff ∧ (t.reader l).attention = (s.reader l).attention ∧
      (t.reader l).interval = (s.reader l).interval)

/-- A supervision deadline that passes takes the link DOWN: what it alone had not read is freed, and the LINK report DOWN
comes first. The loss of Link A or Link B discards its own slot, a slot of the other link staying unless the mode changes,
takes its consent back in every entry that holds it, a fresh timer for those that were CONSENTED, and leaves every other
entry; where the permit is asserted it is the fault LINK_LOST, whose HOLD in RUN and MANUAL voids every entry; the reports
are DOWN, DISCARDED, VOIDED by the link, and those of the fault. The loss of Link S empties the dispatch list, each bay READY again and reported so directly after its
entry's CANCELED, and is no fault. The receive state and the queue are kept (R210, R116, R117, R121, R184, R197, R199, R220,
R223). The order of these effects is log entry 12, DISCARDED before VOIDED inside the reports of LINK_LOST log entry 11; that the
timeout reported is the one the deadline was set with is log entry 19.
Details 3 and 4 of a BAY report are 0, the model's choice (log entry 37).
In states that no run reaches a detail above 16,777,215 is sent as that value, the model's choice (log entry 16). -/
def Obligations.LinkLossIsHandedOn : Prop :=
  (∀ (s : State) (l : Link) (v : Supervision), (s.port l).supervision = some v →
    reached s.timeBase v.deadline = true →
    (s.ringSound → (s.silenced l).ringSound) ∧
    ∃ (t : State) (more : List Told), exec (.supervisionDeadline l) s = .next t ∧
      ReportsAdded (s.silenced l) t (.of .link none none 1 (linkCode l) (cap v.timeout) 0 :: more)) ∧
  (∀ (s : State) (c : ControlLink) (v : Supervision), (s.port c.link).supervision = some v →
    reached s.timeBase v.deadline = true →
    ∃ t : State, exec (.supervisionDeadline c.link) s = .next t ∧
      t.surroundings = (s.setPort c.link { s.port c.link with supervision := none }).surroundings ∧
      (t.mode = s.mode → t.mc.slot = s.mc.slot.filter fun p => p.link != c) ∧ (t.mode ≠ s.mode → t.mc.slot = none) ∧
      ((s.mode = .run ∨ s.mode = .manual) → t.dispatch = s.dispatch.map fun e => { e with
        consentA := false, consentB := false, timerStart := s.timeBase,
        timer := .suspended (s.layout.settings.consentWindow * 1000) }) ∧
      (s.mode ≠ .run → s.mode ≠ .manual → t.dispatch = s.dispatch.map (s.takenBack c)) ∧
      t.nextDispatch = s.nextDispatch ∧
      (permitOf s.mode = true → FaultTaken s t .linkLost none none) ∧
      (permitOf s.mode = false → t.mc.fault = s.mc.fault ∧ t.mc.further = s.mc.further) ∧
      ((s.mode = .run ∨ s.mode = .manual ∨ s.mode = .holding) → t.mode = .holding ∨ t.mode = .held) ∧
      (s.mode ≠ .run → s.mode ≠ .manual → s.mode ≠ .holding → t.mode = s.mode) ∧
      (((∃ b, (s.entry b).state = .reserved ∨ (s.entry b).state = .releasing) ∨
          s.mode ≠ .run ∧ s.mode ≠ .manual ∧ s.mode ≠ .holding) →
        ReportsAdded (s.silenced c.link) t (s.lossReports c v.timeout)) ∧
      ((∀ b, (s.entry b).state ≠ .reserved ∧ (s.entry b).state ≠ .releasing) → (s.mode = .run ∨ s.mode = .manual) →
        ReportsAdded (s.silenced c.link) t (s.lossReports c v.timeout ++ [.of .mode none none 1 4 5 4])) ∧
      (t.reader c.link).line = false ∧ (t.reader c.link).holdOff = none ∧ t.table = s.table ∧
      t.roster = s.roster ∧ t.bays = s.bays) ∧
  (∀ (s : State) (v : Supervision), (s.port .s).supervision = some v → reached s.timeBase v.deadline = true →
    ∃ u : State, exec (.supervisionDeadline .s) s = .next u.finish ∧
      u.surroundings = (s.setPort .s { s.port .s with supervision := none }).surroundings ∧
      u.dispatch = [] ∧ u.nextDispatch = s.nextDispatch ∧ u.mc = s.mc ∧ u.table = s.table ∧ u.roster = s.roster ∧
      (∀ b, (∀ e ∈ s.dispatch, e.bay ≠ b) → u.bay b = s.bay b) ∧
      (∀ e ∈ s.dispatch, ∀ y, s.bay e.bay = some y → u.bay e.bay = some { y with phase := .ready }) ∧
      (s.dispatchSound → ReportsAdded (s.silenced .s) u (.of .link none none 1 2 (cap v.timeout) 0 ::
        s.dispatch.flatMap fun e => .of .dispatch (some e.bay) (some e.boat) 5 e.seq.toNat 1 0 ::
          match s.bay e.bay with
          | some y => bayReport e.bay (s.entry e.bay).occupant y.phase .ready
          | none => [])) ∧
      u.finish.surroundings = u.surroundings ∧ u.finish.dispatch = [] ∧ u.finish.nextDispatch = s.nextDispatch ∧
      u.finish.mc.fault = s.mc.fault ∧ u.finish.mc.further = s.mc.further ∧
      (s.mode ≠ .holding → u.finish.mode = s.mode) ∧
      (u.finish.reader .s).line = false ∧ (u.finish.reader .s).holdOff = none)

/-- SET ATTENTION sets the set and interval of its own link; READ REPORTS returns at most two of the oldest unread
entries of an UP link, moves its cursor past them and clears its skipped count, leaving what the other UP links have to
read, and frees the entries that every UP link has read; a hold-off deadline asserts a line that is still due (R220, R222 to
R224). -/
def Obligations.ReadersAdvanceAlone : Prop :=
  (∀ (s : State) (l : Link) (tag kinds : Byte) (interval : Nat), (s.port l).sending = none → interval ≤ 255 →
    ∃ t : State, exec (.setAttention l tag [kinds, BitVec.ofNat 8 interval]) s = .next t ∧
      t.surroundings = (s.replies l .setAttention tag .ok []).surroundings ∧
      (t.reader l).attention = kinds ∧ (t.reader l).interval = interval ∧
      (t.reader l).cursor = (s.reader l).cursor ∧ (t.reader l).skipped = (s.reader l).skipped ∧
      (∀ k, k ≠ l → t.reader k = s.reader k) ∧ t.reports.ring = s.reports.ring ∧
      Attended { s.reader l with interval := interval } (t.reader l) s.timeBase
        (s.up l && anyWanted kinds (s.unread l)) ∧
      t.mc = s.mc ∧ t.table = s.table ∧ t.roster = s.roster) ∧
  (∀ (s : State) (l : Link) (tag : Byte) (most : Nat) (es : List Report), s.admits l .readReports → s.ringSound →
    1 ≤ most → most ≤ 8 → es = (if s.up l then (s.unread l).take (min most 2) else []) →
    ∃ t : State, exec (.readReports l tag (b1 most)) s = .next t ∧
      t.surroundings = (s.replies l .readReports tag .ok
        (b1 es.length ++ b1 (s.reader l).skipped ++ es.flatMap Report.bytes)).surroundings ∧
      (t.reader l).skipped = 0 ∧
      (s.up l = true → t.unread l = (s.unread l).drop es.length) ∧
      (∀ k, k ≠ l → s.up k = true → t.unread k = s.unread k) ∧
      (∃ k, t.reports.ring = s.reports.ring.drop k) ∧ t.reports.nextSeq = s.reports.nextSeq ∧
      (s.up l = true → t.reports.ring = [] ∨ ∃ k, s.up k = true ∧ t.unread k = t.reports.ring) ∧
      (s.up l = true → Attended (s.reader l) (t.reader l) s.timeBase (anyWanted (s.reader l).attention (t.unread l))) ∧
      t.mc = s.mc ∧ t.table = s.table ∧ t.roster = s.roster ∧ t.bays = s.bays ∧ t.dispatch = s.dispatch) ∧
  (∀ (s : State) (l : Link) (d : Time) (r : Reader), r = s.reader l → r.holdOff = some d →
    reached s.timeBase d = true → r.line = false →
    (s.up l = true → anyWanted r.attention (s.unread l) = true →
      exec (.holdOffDeadline l) s = .next (s.reads l { r with holdOff := none, line := true })) ∧
    ((s.up l = false ∨ anyWanted r.attention (s.unread l) = false) →
      exec (.holdOffDeadline l) s = .next (s.reads l { r with holdOff := none })))

/-! ### The end of an event -/

/-- Outside RUN the end of an event makes no grant: it only derives switch moves, brake demands and channels afresh, and in
HOLDING passes on to HELD at the moment no entry is RESERVED or RELEASING; in CONFIGURE it does nothing (R29, R189). -/
def Obligations.EventsEndWithoutGrantsOutsideRun : Prop :=
  ∀ s : State,
    (s.mode = .configure → s.finish = s) ∧
    (s.mode ≠ .run → s.mode ≠ .holding → Rederived s s.finish) ∧
    (s.mode = .holding →
      ((∃ b, (s.entry b).state = .reserved ∨ (s.entry b).state = .releasing) → Rederived s s.finish) ∧
      ((∀ b, (s.entry b).state ≠ .reserved ∧ (s.entry b).state ≠ .releasing) →
        s.finish.mode = .held ∧ s.finish.mc.permit = true ∧ s.finish.mc.slot = none ∧
        s.finish.mc.fault = s.mc.fault ∧ s.finish.mc.runMode = s.mc.runMode ∧ s.finish.table = s.table ∧
        s.finish.roster = s.roster ∧ s.finish.bays = s.bays ∧ s.finish.dispatch = s.dispatch ∧
        s.finish.launches = s.launches ∧ s.finish.arbiters = s.arbiters)) ∧
    s.finish.surroundings = s.surroundings

/-- What the end of an event in RUN may change (log entries 9 and 10): the switch moves it begins, the brake demands and the
channels it derives afresh, and what grants change. A block keeps its entry, or goes from CLEAR to RESERVED on the path of a
boat then released, or from OCCUPIED to RELEASING with its boat; a bay and a launch record change only with the release of
their block; the boats, their positions, the mode and the fault record stay, and dispatch entries only leave the list (R29,
R31, R33, R90, R119, R127). -/
def Obligations.EventsInRunOnlyGrant : Prop :=
  ∀ (s t : State), s.mode = .run → t = s.finish →
    t.mc = s.mc ∧
    (∀ b, t.entry b = s.entry b ∨
      ((s.entry b).state = .clear ∧ (t.entry b).state = .reserved ∧
        ∃ (a : BlockId) (x : BoatId) (r : Release), (t.entry b).holder = some x ∧ (s.entry a).state = .occupied ∧
          (t.entry a).state = .releasing ∧ (t.entry a).occupant = some x ∧ (t.entry a).release = some r ∧ b ∈ r.path) ∨
      ((s.entry b).state = .occupied ∧ (t.entry b).state = .releasing ∧
        (t.entry b).occupant = (s.entry b).occupant ∧ (t.entry b).release.isSome = true)) ∧
    (∀ b, (t.bay b = s.bay b ∧ t.launchRec b = s.launchRec b) ∨
      ((s.entry b).state = .occupied ∧ (t.entry b).state = .releasing ∧
        (∀ y, s.bay b = some y → t.bay b = some { y with
          phase := .released, returnPhase := some (returnPhaseOf y.phase), weigh := none }) ∧
        (s.bay b = none → t.bay b = none) ∧
        ((t.launchRec b).isSome = (s.launchRec b).isSome))) ∧
    (∀ m, (t.arbiter m).isSome = (s.arbiter m).isSome) ∧ (∀ b, (t.switchRec b).isSome = (s.switchRec b).isSome) ∧
    (∀ x, t.boat x = s.boat x ∧ (t.slot x).position = (s.slot x).position) ∧
    (∀ e ∈ t.dispatch, e ∈ s.dispatch) ∧ t.nextDispatch = s.nextDispatch ∧
    t.passages = s.passages ∧ t.tagWindows = s.tagWindows ∧ t.surroundings = s.surroundings

/-- The end of an event in RUN makes grants: one after the other, each for a boat that is eligible by R124 or whose entry is
CONSENTED and in its order (R118), whose path is CLEAR, and which the arbiter of a merge terminal names, until no such boat
is left; and a grant makes the changes of R33, R119, R127 and R139 together. The order in which boats are asked for is log
entry 10.
Details 3 and 4 of a BAY report are 0, the model's choice (log entry 37). -/
def Obligations.RunGrantsWhatMayGo : Prop :=
  (∀ s : State, s.mode = .run →
    ∃ u : State, GrantedFrom { s with switches := s.finish.switches } u ∧ Rederived u s.finish ∧
      ∀ (b : BlockId) (q : Requester) (x : BoatId) (p : List BlockId), u.asksBy b q → u.mayGo b x p →
        ∃ m r, p.getLast?.bind u.layout.mergeAt = some (m, r) ∧
          ∀ i, ¬((r.feeder i).head? = some b ∧ r.inputOf b p = some i)) ∧
  (∀ (s : State) (b : BlockId) (x : BoatId) (p : List BlockId) (q : Requester), s.mayGo b x p →
    GrantMade s (s.grant b q p) b x p ∧
    (q = .scheduler → (s.grant b q p).dispatch = s.dispatch ∧
      ReportsAdded s (s.grant b q p) (match s.bay b with
        | some y => bayReport b (some x) y.phase .released
        | none => [])) ∧
    (∀ e, q = .dispatch e → (s.grant b q p).dispatch = s.dispatch.filter (fun d => d.seq != e.seq) ∧
      ReportsAdded s (s.grant b q p)
        (.of .dispatch (some e.bay) (some e.boat) 2 e.seq.toNat ((p.getLast?.map (·.val)).getD 255) 0 ::
          match s.bay b with
          | some y => bayReport b (some x) y.phase .released
          | none => [])))

/-- After an event outside CONFIGURE every owned channel of a block with a drive section carries the command its block's
state calls for, the safe command while the mode is HALTED or the block FAULTED, and HOLD on the switch of an OUT_OF_SERVICE
block; and every brake record's demand is the one of the table of R143 (R143, R168 to R172). -/
def Obligations.CommandsFollowTheBlocks : Prop :=
  ∀ (s t : State), s.mode ≠ .configure → t = s.finish →
    (∀ (c : ChannelId) (b : BlockId) (r : BlockRecord) (d : DriveSection) (st : BlockState) (cmd : DriveCmd),
      (t.channel c).owner = some b → t.record b = some r → r.drive = some d → st = (t.entry b).state →
      cmd = (t.channel c).command →
      ((t.mode = .halted ∨ st = .faulted) → cmd = safeCommand r.kind) ∧
      (t.mode ≠ .halted → st ≠ .faulted →
        ((r.kind = .bay ∨ r.kind = .queue) → cmd = if st = .releasing then .opened else .closed) ∧
        (r.kind = .lift → cmd = if st = .releasing ∨ st = .reserved then .run else .stop) ∧
        (r.kind = .launch → cmd = if (t.channel c).pulse.isSome then .fire else .idle) ∧
        ((r.kind = .trim ∨ r.kind = .runout) → ∀ k, t.brake b = some k → cmd = .level k.demand) ∧
        (r.kind = .switch → st = .outOfService → cmd = .hold) ∧
        (r.kind = .switch → st ≠ .outOfService → ∀ w, t.switchRec b = some w → cmd = match w.move with
          | some (.main, _) => .driveMain
          | some (.spur, _) => .driveSpur
          | none => .hold))) ∧
    (∀ (b : BlockId) (k : Brake) (rec : BlockRecord) (r : BrakeSection), t.brake b = some k →
      t.record b = some rec → rec.brake = some r →
      ((t.entry b).state ∈ [BlockState.unverified, .clear, .reserved, .outOfService] → k.demand = r.idleLevel) ∧
      ((t.entry b).state = .faulted → k.demand = 15) ∧
      ((t.entry b).state = .occupied → k.hold = true → k.demand = 15) ∧
      ((t.entry b).state = .releasing → rec.kind = .runout → k.demand = 0) ∧
      (((t.entry b).state = .occupied ∧ k.hold = false ∨ (t.entry b).state = .releasing ∧ rec.kind = .trim) →
        ∀ p, k.passage = some p →
          (p.phase ≠ .done → k.demand = r.idleLevel) ∧
          (∀ n, p.phase = .done → k.lastLevel = some n → k.demand = n)))

/-! ### Invariants -/

/-- The state right after power-on reset, with whatever levels at the pins, meets every invariant. -/
def Obligations.ResetMeetsTheInvariants : Prop :=
  ∀ (pins : BitVec 2) (open1 open2 : Bool) (on : List PointId) (t : State),
    (t = State.reset ∨ exec (.powerOnReset pins open1 open2 on) State.reset = .next t) →
    t.permitAgrees ∧ t.haltedSafe ∧ t.holdingMoves ∧ t.portsSound ∧ t.ringSound ∧ t.attentionSound ∧
    t.tableSound ∧ t.trackSound ∧ t.dispatchSound ∧ t.codesDistinct ∧ t.layoutValidated ∧ t.generationSound

/-- Every step keeps the permit in agreement with the mode, the channels of a HALTED ride safe, and a ride in HOLDING
moving: HOLDING that has settled is HELD. -/
def Obligations.StepsKeepTheModeSound : Prop :=
  ∀ s t : State, s.permitAgrees → s.haltedSafe → s.holdingMoves → step s = .next t →
    t.permitAgrees ∧ t.haltedSafe ∧ t.holdingMoves

/-- Every step keeps the Link Ports within their capacities, with characters waiting only behind a full request queue and
frames only behind a response. -/
def Obligations.StepsKeepThePortsSound : Prop :=
  ∀ s t : State, s.portsSound → step s = .next t → t.portsSound

/-- Every step keeps the report ring within 64 entries with every cursor in it, and every attention line as its due
entries and its hold-off say. -/
def Obligations.StepsKeepTheReportsSound : Prop :=
  ∀ s t : State, s.ringSound → s.attentionSound → step s = .next t → t.ringSound ∧ t.attentionSound

/-- Every step keeps every entry of the block table to the attributes its state allows. -/
def Obligations.StepsKeepTheTableSound : Prop :=
  ∀ s t : State, s.tableSound → step s = .next t → t.tableSound

/-- Every step keeps the boats and the blocks in agreement: an ON_TRACK boat is occupant of its position block and of at
most one block more, upstream of it with nose-at-exit; no other boat is an occupant; a block is RESERVED for a boat exactly
when it stands in that boat's path list, of at most 8 blocks and none twice, which is empty while the boat is held; and in
CONFIGURE no block has a boat or a holder (R27, R30, R33, R35). -/
def Obligations.StepsKeepBoatsAndBlocksAgreed : Prop :=
  ∀ s t : State, s.tableSound → s.trackSound → step s = .next t → t.trackSound

/-- Every step keeps the dispatch list to 8 entries with sequence numbers and bays held once and the next number free, and
the tag codes of enrolled slots distinct. -/
def Obligations.StepsKeepTheListsSound : Prop :=
  (∀ s t : State, s.dispatchSound → step s = .next t → t.dispatchSound) ∧
  (∀ s t : State, s.codesDistinct → step s = .next t → t.codesDistinct)

/-- Every step keeps the layout outside CONFIGURE one that passes validation, and generation 0 for the empty layout of a
part that has taken no write. -/
def Obligations.StepsKeepTheLayoutSound : Prop :=
  (∀ s t : State, s.layoutValidated → step s = .next t → t.layoutValidated) ∧
  (∀ s t : State, s.generationSound → step s = .next t → t.generationSound)
end

