-- ==== Sys2Proof/Laws/State.lean ====
section
/-! SUPPORT. What each update of the state leaves in each field: one rewriting fact per field per update, all true by
definition, so that no later proof opens a record update. -/

set_option Elab.async false

namespace Sys2Proof.Machine

open Sys2Proof

/-! ### `setSlot` -/

@[simp] theorem setSlot_pending (s : State) (x : BoatId) (t : Slot) : (s.setSlot x t).pending = s.pending := rfl
@[simp] theorem setSlot_timeBase (s : State) (x : BoatId) (t : Slot) : (s.setSlot x t).timeBase = s.timeBase := rfl
@[simp] theorem setSlot_rate (s : State) (x : BoatId) (t : Slot) : (s.setSlot x t).rate = s.rate := rfl
@[simp] theorem setSlot_ports (s : State) (x : BoatId) (t : Slot) : (s.setSlot x t).ports = s.ports := rfl
@[simp] theorem setSlot_windows (s : State) (x : BoatId) (t : Slot) : (s.setSlot x t).windows = s.windows := rfl
@[simp] theorem setSlot_layout (s : State) (x : BoatId) (t : Slot) : (s.setSlot x t).layout = s.layout := rfl
@[simp] theorem setSlot_table (s : State) (x : BoatId) (t : Slot) : (s.setSlot x t).table = s.table := rfl
@[simp] theorem setSlot_passages (s : State) (x : BoatId) (t : Slot) : (s.setSlot x t).passages = s.passages := rfl
@[simp] theorem setSlot_roster (s : State) (x : BoatId) (t : Slot) : (s.setSlot x t).roster = vput s.roster x t := rfl
@[simp] theorem setSlot_tagWindows (s : State) (x : BoatId) (t : Slot) : (s.setSlot x t).tagWindows = s.tagWindows := rfl
@[simp] theorem setSlot_tagDiscards (s : State) (x : BoatId) (t : Slot) : (s.setSlot x t).tagDiscards = s.tagDiscards := rfl
@[simp] theorem setSlot_bays (s : State) (x : BoatId) (t : Slot) : (s.setSlot x t).bays = s.bays := rfl
@[simp] theorem setSlot_dispatch (s : State) (x : BoatId) (t : Slot) : (s.setSlot x t).dispatch = s.dispatch := rfl
@[simp] theorem setSlot_nextDispatch (s : State) (x : BoatId) (t : Slot) : (s.setSlot x t).nextDispatch = s.nextDispatch := rfl
@[simp] theorem setSlot_launches (s : State) (x : BoatId) (t : Slot) : (s.setSlot x t).launches = s.launches := rfl
@[simp] theorem setSlot_arbiters (s : State) (x : BoatId) (t : Slot) : (s.setSlot x t).arbiters = s.arbiters := rfl
@[simp] theorem setSlot_switches (s : State) (x : BoatId) (t : Slot) : (s.setSlot x t).switches = s.switches := rfl
@[simp] theorem setSlot_brakes (s : State) (x : BoatId) (t : Slot) : (s.setSlot x t).brakes = s.brakes := rfl
@[simp] theorem setSlot_trapStrays (s : State) (x : BoatId) (t : Slot) : (s.setSlot x t).trapStrays = s.trapStrays := rfl
@[simp] theorem setSlot_points (s : State) (x : BoatId) (t : Slot) : (s.setSlot x t).points = s.points := rfl
@[simp] theorem setSlot_channels (s : State) (x : BoatId) (t : Slot) : (s.setSlot x t).channels = s.channels := rfl
@[simp] theorem setSlot_mc (s : State) (x : BoatId) (t : Slot) : (s.setSlot x t).mc = s.mc := rfl
@[simp] theorem setSlot_reports (s : State) (x : BoatId) (t : Slot) : (s.setSlot x t).reports = s.reports := rfl

/-! ### `setBay` -/

@[simp] theorem setBay_pending (s : State) (b : BlockId) (y : Bay) : (s.setBay b y).pending = s.pending := rfl
@[simp] theorem setBay_timeBase (s : State) (b : BlockId) (y : Bay) : (s.setBay b y).timeBase = s.timeBase := rfl
@[simp] theorem setBay_rate (s : State) (b : BlockId) (y : Bay) : (s.setBay b y).rate = s.rate := rfl
@[simp] theorem setBay_ports (s : State) (b : BlockId) (y : Bay) : (s.setBay b y).ports = s.ports := rfl
@[simp] theorem setBay_windows (s : State) (b : BlockId) (y : Bay) : (s.setBay b y).windows = s.windows := rfl
@[simp] theorem setBay_layout (s : State) (b : BlockId) (y : Bay) : (s.setBay b y).layout = s.layout := rfl
@[simp] theorem setBay_table (s : State) (b : BlockId) (y : Bay) : (s.setBay b y).table = s.table := rfl
@[simp] theorem setBay_passages (s : State) (b : BlockId) (y : Bay) : (s.setBay b y).passages = s.passages := rfl
@[simp] theorem setBay_roster (s : State) (b : BlockId) (y : Bay) : (s.setBay b y).roster = s.roster := rfl
@[simp] theorem setBay_tagWindows (s : State) (b : BlockId) (y : Bay) : (s.setBay b y).tagWindows = s.tagWindows := rfl
@[simp] theorem setBay_tagDiscards (s : State) (b : BlockId) (y : Bay) : (s.setBay b y).tagDiscards = s.tagDiscards := rfl
@[simp] theorem setBay_bays (s : State) (b : BlockId) (y : Bay) : (s.setBay b y).bays = vput s.bays b (some y) := rfl
@[simp] theorem setBay_dispatch (s : State) (b : BlockId) (y : Bay) : (s.setBay b y).dispatch = s.dispatch := rfl
@[simp] theorem setBay_nextDispatch (s : State) (b : BlockId) (y : Bay) : (s.setBay b y).nextDispatch = s.nextDispatch := rfl
@[simp] theorem setBay_launches (s : State) (b : BlockId) (y : Bay) : (s.setBay b y).launches = s.launches := rfl
@[simp] theorem setBay_arbiters (s : State) (b : BlockId) (y : Bay) : (s.setBay b y).arbiters = s.arbiters := rfl
@[simp] theorem setBay_switches (s : State) (b : BlockId) (y : Bay) : (s.setBay b y).switches = s.switches := rfl
@[simp] theorem setBay_brakes (s : State) (b : BlockId) (y : Bay) : (s.setBay b y).brakes = s.brakes := rfl
@[simp] theorem setBay_trapStrays (s : State) (b : BlockId) (y : Bay) : (s.setBay b y).trapStrays = s.trapStrays := rfl
@[simp] theorem setBay_points (s : State) (b : BlockId) (y : Bay) : (s.setBay b y).points = s.points := rfl
@[simp] theorem setBay_channels (s : State) (b : BlockId) (y : Bay) : (s.setBay b y).channels = s.channels := rfl
@[simp] theorem setBay_mc (s : State) (b : BlockId) (y : Bay) : (s.setBay b y).mc = s.mc := rfl
@[simp] theorem setBay_reports (s : State) (b : BlockId) (y : Bay) : (s.setBay b y).reports = s.reports := rfl

/-! ### `modBrake` -/

@[simp] theorem modBrake_pending (s : State) (b : BlockId) (f : Brake → Brake) : (s.modBrake b f).pending = s.pending := rfl
@[simp] theorem modBrake_timeBase (s : State) (b : BlockId) (f : Brake → Brake) : (s.modBrake b f).timeBase = s.timeBase := rfl
@[simp] theorem modBrake_rate (s : State) (b : BlockId) (f : Brake → Brake) : (s.modBrake b f).rate = s.rate := rfl
@[simp] theorem modBrake_ports (s : State) (b : BlockId) (f : Brake → Brake) : (s.modBrake b f).ports = s.ports := rfl
@[simp] theorem modBrake_windows (s : State) (b : BlockId) (f : Brake → Brake) : (s.modBrake b f).windows = s.windows := rfl
@[simp] theorem modBrake_layout (s : State) (b : BlockId) (f : Brake → Brake) : (s.modBrake b f).layout = s.layout := rfl
@[simp] theorem modBrake_table (s : State) (b : BlockId) (f : Brake → Brake) : (s.modBrake b f).table = s.table := rfl
@[simp] theorem modBrake_passages (s : State) (b : BlockId) (f : Brake → Brake) : (s.modBrake b f).passages = s.passages := rfl
@[simp] theorem modBrake_roster (s : State) (b : BlockId) (f : Brake → Brake) : (s.modBrake b f).roster = s.roster := rfl
@[simp] theorem modBrake_tagWindows (s : State) (b : BlockId) (f : Brake → Brake) : (s.modBrake b f).tagWindows = s.tagWindows := rfl
@[simp] theorem modBrake_tagDiscards (s : State) (b : BlockId) (f : Brake → Brake) : (s.modBrake b f).tagDiscards = s.tagDiscards := rfl
@[simp] theorem modBrake_bays (s : State) (b : BlockId) (f : Brake → Brake) : (s.modBrake b f).bays = s.bays := rfl
@[simp] theorem modBrake_dispatch (s : State) (b : BlockId) (f : Brake → Brake) : (s.modBrake b f).dispatch = s.dispatch := rfl
@[simp] theorem modBrake_nextDispatch (s : State) (b : BlockId) (f : Brake → Brake) : (s.modBrake b f).nextDispatch = s.nextDispatch := rfl
@[simp] theorem modBrake_launches (s : State) (b : BlockId) (f : Brake → Brake) : (s.modBrake b f).launches = s.launches := rfl
@[simp] theorem modBrake_arbiters (s : State) (b : BlockId) (f : Brake → Brake) : (s.modBrake b f).arbiters = s.arbiters := rfl
@[simp] theorem modBrake_switches (s : State) (b : BlockId) (f : Brake → Brake) : (s.modBrake b f).switches = s.switches := rfl
@[simp] theorem modBrake_brakes (s : State) (b : BlockId) (f : Brake → Brake) : (s.modBrake b f).brakes = vput s.brakes b ((s.brake b).map f) := rfl
@[simp] theorem modBrake_trapStrays (s : State) (b : BlockId) (f : Brake → Brake) : (s.modBrake b f).trapStrays = s.trapStrays := rfl
@[simp] theorem modBrake_points (s : State) (b : BlockId) (f : Brake → Brake) : (s.modBrake b f).points = s.points := rfl
@[simp] theorem modBrake_channels (s : State) (b : BlockId) (f : Brake → Brake) : (s.modBrake b f).channels = s.channels := rfl
@[simp] theorem modBrake_mc (s : State) (b : BlockId) (f : Brake → Brake) : (s.modBrake b f).mc = s.mc := rfl
@[simp] theorem modBrake_reports (s : State) (b : BlockId) (f : Brake → Brake) : (s.modBrake b f).reports = s.reports := rfl

/-! ### `modSwitch` -/

@[simp] theorem modSwitch_pending (s : State) (b : BlockId) (f : SwitchRecord → SwitchRecord) : (s.modSwitch b f).pending = s.pending := rfl
@[simp] theorem modSwitch_timeBase (s : State) (b : BlockId) (f : SwitchRecord → SwitchRecord) : (s.modSwitch b f).timeBase = s.timeBase := rfl
@[simp] theorem modSwitch_rate (s : State) (b : BlockId) (f : SwitchRecord → SwitchRecord) : (s.modSwitch b f).rate = s.rate := rfl
@[simp] theorem modSwitch_ports (s : State) (b : BlockId) (f : SwitchRecord → SwitchRecord) : (s.modSwitch b f).ports = s.ports := rfl
@[simp] theorem modSwitch_windows (s : State) (b : BlockId) (f : SwitchRecord → SwitchRecord) : (s.modSwitch b f).windows = s.windows := rfl
@[simp] theorem modSwitch_layout (s : State) (b : BlockId) (f : SwitchRecord → SwitchRecord) : (s.modSwitch b f).layout = s.layout := rfl
@[simp] theorem modSwitch_table (s : State) (b : BlockId) (f : SwitchRecord → SwitchRecord) : (s.modSwitch b f).table = s.table := rfl
@[simp] theorem modSwitch_passages (s : State) (b : BlockId) (f : SwitchRecord → SwitchRecord) : (s.modSwitch b f).passages = s.passages := rfl
@[simp] theorem modSwitch_roster (s : State) (b : BlockId) (f : SwitchRecord → SwitchRecord) : (s.modSwitch b f).roster = s.roster := rfl
@[simp] theorem modSwitch_tagWindows (s : State) (b : BlockId) (f : SwitchRecord → SwitchRecord) : (s.modSwitch b f).tagWindows = s.tagWindows := rfl
@[simp] theorem modSwitch_tagDiscards (s : State) (b : BlockId) (f : SwitchRecord → SwitchRecord) : (s.modSwitch b f).tagDiscards = s.tagDiscards := rfl
@[simp] theorem modSwitch_bays (s : State) (b : BlockId) (f : SwitchRecord → SwitchRecord) : (s.modSwitch b f).bays = s.bays := rfl
@[simp] theorem modSwitch_dispatch (s : State) (b : BlockId) (f : SwitchRecord → SwitchRecord) : (s.modSwitch b f).dispatch = s.dispatch := rfl
@[simp] theorem modSwitch_nextDispatch (s : State) (b : BlockId) (f : SwitchRecord → SwitchRecord) : (s.modSwitch b f).nextDispatch = s.nextDispatch := rfl
@[simp] theorem modSwitch_launches (s : State) (b : BlockId) (f : SwitchRecord → SwitchRecord) : (s.modSwitch b f).launches = s.launches := rfl
@[simp] theorem modSwitch_arbiters (s : State) (b : BlockId) (f : SwitchRecord → SwitchRecord) : (s.modSwitch b f).arbiters = s.arbiters := rfl
@[simp] theorem modSwitch_switches (s : State) (b : BlockId) (f : SwitchRecord → SwitchRecord) : (s.modSwitch b f).switches = vput s.switches b ((s.switchRec b).map f) := rfl
@[simp] theorem modSwitch_brakes (s : State) (b : BlockId) (f : SwitchRecord → SwitchRecord) : (s.modSwitch b f).brakes = s.brakes := rfl
@[simp] theorem modSwitch_trapStrays (s : State) (b : BlockId) (f : SwitchRecord → SwitchRecord) : (s.modSwitch b f).trapStrays = s.trapStrays := rfl
@[simp] theorem modSwitch_points (s : State) (b : BlockId) (f : SwitchRecord → SwitchRecord) : (s.modSwitch b f).points = s.points := rfl
@[simp] theorem modSwitch_channels (s : State) (b : BlockId) (f : SwitchRecord → SwitchRecord) : (s.modSwitch b f).channels = s.channels := rfl
@[simp] theorem modSwitch_mc (s : State) (b : BlockId) (f : SwitchRecord → SwitchRecord) : (s.modSwitch b f).mc = s.mc := rfl
@[simp] theorem modSwitch_reports (s : State) (b : BlockId) (f : SwitchRecord → SwitchRecord) : (s.modSwitch b f).reports = s.reports := rfl

/-! ### `setChannel` -/

@[simp] theorem setChannel_pending (s : State) (c : ChannelId) (x : Channel) : (s.setChannel c x).pending = s.pending := rfl
@[simp] theorem setChannel_timeBase (s : State) (c : ChannelId) (x : Channel) : (s.setChannel c x).timeBase = s.timeBase := rfl
@[simp] theorem setChannel_rate (s : State) (c : ChannelId) (x : Channel) : (s.setChannel c x).rate = s.rate := rfl
@[simp] theorem setChannel_ports (s : State) (c : ChannelId) (x : Channel) : (s.setChannel c x).ports = s.ports := rfl
@[simp] theorem setChannel_windows (s : State) (c : ChannelId) (x : Channel) : (s.setChannel c x).windows = s.windows := rfl
@[simp] theorem setChannel_layout (s : State) (c : ChannelId) (x : Channel) : (s.setChannel c x).layout = s.layout := rfl
@[simp] theorem setChannel_table (s : State) (c : ChannelId) (x : Channel) : (s.setChannel c x).table = s.table := rfl
@[simp] theorem setChannel_passages (s : State) (c : ChannelId) (x : Channel) : (s.setChannel c x).passages = s.passages := rfl
@[simp] theorem setChannel_roster (s : State) (c : ChannelId) (x : Channel) : (s.setChannel c x).roster = s.roster := rfl
@[simp] theorem setChannel_tagWindows (s : State) (c : ChannelId) (x : Channel) : (s.setChannel c x).tagWindows = s.tagWindows := rfl
@[simp] theorem setChannel_tagDiscards (s : State) (c : ChannelId) (x : Channel) : (s.setChannel c x).tagDiscards = s.tagDiscards := rfl
@[simp] theorem setChannel_bays (s : State) (c : ChannelId) (x : Channel) : (s.setChannel c x).bays = s.bays := rfl
@[simp] theorem setChannel_dispatch (s : State) (c : ChannelId) (x : Channel) : (s.setChannel c x).dispatch = s.dispatch := rfl
@[simp] theorem setChannel_nextDispatch (s : State) (c : ChannelId) (x : Channel) : (s.setChannel c x).nextDispatch = s.nextDispatch := rfl
@[simp] theorem setChannel_launches (s : State) (c : ChannelId) (x : Channel) : (s.setChannel c x).launches = s.launches := rfl
@[simp] theorem setChannel_arbiters (s : State) (c : ChannelId) (x : Channel) : (s.setChannel c x).arbiters = s.arbiters := rfl
@[simp] theorem setChannel_switches (s : State) (c : ChannelId) (x : Channel) : (s.setChannel c x).switches = s.switches := rfl
@[simp] theorem setChannel_brakes (s : State) (c : ChannelId) (x : Channel) : (s.setChannel c x).brakes = s.brakes := rfl
@[simp] theorem setChannel_trapStrays (s : State) (c : ChannelId) (x : Channel) : (s.setChannel c x).trapStrays = s.trapStrays := rfl
@[simp] theorem setChannel_points (s : State) (c : ChannelId) (x : Channel) : (s.setChannel c x).points = s.points := rfl
@[simp] theorem setChannel_channels (s : State) (c : ChannelId) (x : Channel) : (s.setChannel c x).channels = vput s.channels c x := rfl
@[simp] theorem setChannel_mc (s : State) (c : ChannelId) (x : Channel) : (s.setChannel c x).mc = s.mc := rfl
@[simp] theorem setChannel_reports (s : State) (c : ChannelId) (x : Channel) : (s.setChannel c x).reports = s.reports := rfl

/-! ### `setPoint` -/

@[simp] theorem setPoint_pending (s : State) (p : PointId) (x : Point) : (s.setPoint p x).pending = s.pending := rfl
@[simp] theorem setPoint_timeBase (s : State) (p : PointId) (x : Point) : (s.setPoint p x).timeBase = s.timeBase := rfl
@[simp] theorem setPoint_rate (s : State) (p : PointId) (x : Point) : (s.setPoint p x).rate = s.rate := rfl
@[simp] theorem setPoint_ports (s : State) (p : PointId) (x : Point) : (s.setPoint p x).ports = s.ports := rfl
@[simp] theorem setPoint_windows (s : State) (p : PointId) (x : Point) : (s.setPoint p x).windows = s.windows := rfl
@[simp] theorem setPoint_layout (s : State) (p : PointId) (x : Point) : (s.setPoint p x).layout = s.layout := rfl
@[simp] theorem setPoint_table (s : State) (p : PointId) (x : Point) : (s.setPoint p x).table = s.table := rfl
@[simp] theorem setPoint_passages (s : State) (p : PointId) (x : Point) : (s.setPoint p x).passages = s.passages := rfl
@[simp] theorem setPoint_roster (s : State) (p : PointId) (x : Point) : (s.setPoint p x).roster = s.roster := rfl
@[simp] theorem setPoint_tagWindows (s : State) (p : PointId) (x : Point) : (s.setPoint p x).tagWindows = s.tagWindows := rfl
@[simp] theorem setPoint_tagDiscards (s : State) (p : PointId) (x : Point) : (s.setPoint p x).tagDiscards = s.tagDiscards := rfl
@[simp] theorem setPoint_bays (s : State) (p : PointId) (x : Point) : (s.setPoint p x).bays = s.bays := rfl
@[simp] theorem setPoint_dispatch (s : State) (p : PointId) (x : Point) : (s.setPoint p x).dispatch = s.dispatch := rfl
@[simp] theorem setPoint_nextDispatch (s : State) (p : PointId) (x : Point) : (s.setPoint p x).nextDispatch = s.nextDispatch := rfl
@[simp] theorem setPoint_launches (s : State) (p : PointId) (x : Point) : (s.setPoint p x).launches = s.launches := rfl
@[simp] theorem setPoint_arbiters (s : State) (p : PointId) (x : Point) : (s.setPoint p x).arbiters = s.arbiters := rfl
@[simp] theorem setPoint_switches (s : State) (p : PointId) (x : Point) : (s.setPoint p x).switches = s.switches := rfl
@[simp] theorem setPoint_brakes (s : State) (p : PointId) (x : Point) : (s.setPoint p x).brakes = s.brakes := rfl
@[simp] theorem setPoint_trapStrays (s : State) (p : PointId) (x : Point) : (s.setPoint p x).trapStrays = s.trapStrays := rfl
@[simp] theorem setPoint_points (s : State) (p : PointId) (x : Point) : (s.setPoint p x).points = vput s.points p x := rfl
@[simp] theorem setPoint_channels (s : State) (p : PointId) (x : Point) : (s.setPoint p x).channels = s.channels := rfl
@[simp] theorem setPoint_mc (s : State) (p : PointId) (x : Point) : (s.setPoint p x).mc = s.mc := rfl
@[simp] theorem setPoint_reports (s : State) (p : PointId) (x : Point) : (s.setPoint p x).reports = s.reports := rfl

/-! ### `setPort` -/

@[simp] theorem setPort_pending (s : State) (l : Link) (p : LinkPort) : (s.setPort l p).pending = s.pending := rfl
@[simp] theorem setPort_timeBase (s : State) (l : Link) (p : LinkPort) : (s.setPort l p).timeBase = s.timeBase := rfl
@[simp] theorem setPort_rate (s : State) (l : Link) (p : LinkPort) : (s.setPort l p).rate = s.rate := rfl
@[simp] theorem setPort_ports (s : State) (l : Link) (p : LinkPort) : (s.setPort l p).ports = s.ports.put l p := rfl
@[simp] theorem setPort_windows (s : State) (l : Link) (p : LinkPort) : (s.setPort l p).windows = s.windows := rfl
@[simp] theorem setPort_layout (s : State) (l : Link) (p : LinkPort) : (s.setPort l p).layout = s.layout := rfl
@[simp] theorem setPort_table (s : State) (l : Link) (p : LinkPort) : (s.setPort l p).table = s.table := rfl
@[simp] theorem setPort_passages (s : State) (l : Link) (p : LinkPort) : (s.setPort l p).passages = s.passages := rfl
@[simp] theorem setPort_roster (s : State) (l : Link) (p : LinkPort) : (s.setPort l p).roster = s.roster := rfl
@[simp] theorem setPort_tagWindows (s : State) (l : Link) (p : LinkPort) : (s.setPort l p).tagWindows = s.tagWindows := rfl
@[simp] theorem setPort_tagDiscards (s : State) (l : Link) (p : LinkPort) : (s.setPort l p).tagDiscards = s.tagDiscards := rfl
@[simp] theorem setPort_bays (s : State) (l : Link) (p : LinkPort) : (s.setPort l p).bays = s.bays := rfl
@[simp] theorem setPort_dispatch (s : State) (l : Link) (p : LinkPort) : (s.setPort l p).dispatch = s.dispatch := rfl
@[simp] theorem setPort_nextDispatch (s : State) (l : Link) (p : LinkPort) : (s.setPort l p).nextDispatch = s.nextDispatch := rfl
@[simp] theorem setPort_launches (s : State) (l : Link) (p : LinkPort) : (s.setPort l p).launches = s.launches := rfl
@[simp] theorem setPort_arbiters (s : State) (l : Link) (p : LinkPort) : (s.setPort l p).arbiters = s.arbiters := rfl
@[simp] theorem setPort_switches (s : State) (l : Link) (p : LinkPort) : (s.setPort l p).switches = s.switches := rfl
@[simp] theorem setPort_brakes (s : State) (l : Link) (p : LinkPort) : (s.setPort l p).brakes = s.brakes := rfl
@[simp] theorem setPort_trapStrays (s : State) (l : Link) (p : LinkPort) : (s.setPort l p).trapStrays = s.trapStrays := rfl
@[simp] theorem setPort_points (s : State) (l : Link) (p : LinkPort) : (s.setPort l p).points = s.points := rfl
@[simp] theorem setPort_channels (s : State) (l : Link) (p : LinkPort) : (s.setPort l p).channels = s.channels := rfl
@[simp] theorem setPort_mc (s : State) (l : Link) (p : LinkPort) : (s.setPort l p).mc = s.mc := rfl
@[simp] theorem setPort_reports (s : State) (l : Link) (p : LinkPort) : (s.setPort l p).reports = s.reports := rfl

/-! ### `setReader` -/

@[simp] theorem setReader_pending (s : State) (l : Link) (r : Reader) : (s.setReader l r).pending = s.pending := rfl
@[simp] theorem setReader_timeBase (s : State) (l : Link) (r : Reader) : (s.setReader l r).timeBase = s.timeBase := rfl
@[simp] theorem setReader_rate (s : State) (l : Link) (r : Reader) : (s.setReader l r).rate = s.rate := rfl
@[simp] theorem setReader_ports (s : State) (l : Link) (r : Reader) : (s.setReader l r).ports = s.ports := rfl
@[simp] theorem setReader_windows (s : State) (l : Link) (r : Reader) : (s.setReader l r).windows = s.windows := rfl
@[simp] theorem setReader_layout (s : State) (l : Link) (r : Reader) : (s.setReader l r).layout = s.layout := rfl
@[simp] theorem setReader_table (s : State) (l : Link) (r : Reader) : (s.setReader l r).table = s.table := rfl
@[simp] theorem setReader_passages (s : State) (l : Link) (r : Reader) : (s.setReader l r).passages = s.passages := rfl
@[simp] theorem setReader_roster (s : State) (l : Link) (r : Reader) : (s.setReader l r).roster = s.roster := rfl
@[simp] theorem setReader_tagWindows (s : State) (l : Link) (r : Reader) : (s.setReader l r).tagWindows = s.tagWindows := rfl
@[simp] theorem setReader_tagDiscards (s : State) (l : Link) (r : Reader) : (s.setReader l r).tagDiscards = s.tagDiscards := rfl
@[simp] theorem setReader_bays (s : State) (l : Link) (r : Reader) : (s.setReader l r).bays = s.bays := rfl
@[simp] theorem setReader_dispatch (s : State) (l : Link) (r : Reader) : (s.setReader l r).dispatch = s.dispatch := rfl
@[simp] theorem setReader_nextDispatch (s : State) (l : Link) (r : Reader) : (s.setReader l r).nextDispatch = s.nextDispatch := rfl
@[simp] theorem setReader_launches (s : State) (l : Link) (r : Reader) : (s.setReader l r).launches = s.launches := rfl
@[simp] theorem setReader_arbiters (s : State) (l : Link) (r : Reader) : (s.setReader l r).arbiters = s.arbiters := rfl
@[simp] theorem setReader_switches (s : State) (l : Link) (r : Reader) : (s.setReader l r).switches = s.switches := rfl
@[simp] theorem setReader_brakes (s : State) (l : Link) (r : Reader) : (s.setReader l r).brakes = s.brakes := rfl
@[simp] theorem setReader_trapStrays (s : State) (l : Link) (r : Reader) : (s.setReader l r).trapStrays = s.trapStrays := rfl
@[simp] theorem setReader_points (s : State) (l : Link) (r : Reader) : (s.setReader l r).points = s.points := rfl
@[simp] theorem setReader_channels (s : State) (l : Link) (r : Reader) : (s.setReader l r).channels = s.channels := rfl
@[simp] theorem setReader_mc (s : State) (l : Link) (r : Reader) : (s.setReader l r).mc = s.mc := rfl
@[simp] theorem setReader_reports (s : State) (l : Link) (r : Reader) : (s.setReader l r).reports = { s.reports with readers := s.reports.readers.put l r } := rfl

/-! ### `setMc` -/

@[simp] theorem setMc_pending (s : State) (c : ModeController) : (s.setMc c).pending = s.pending := rfl
@[simp] theorem setMc_timeBase (s : State) (c : ModeController) : (s.setMc c).timeBase = s.timeBase := rfl
@[simp] theorem setMc_rate (s : State) (c : ModeController) : (s.setMc c).rate = s.rate := rfl
@[simp] theorem setMc_ports (s : State) (c : ModeController) : (s.setMc c).ports = s.ports := rfl
@[simp] theorem setMc_windows (s : State) (c : ModeController) : (s.setMc c).windows = s.windows := rfl
@[simp] theorem setMc_layout (s : State) (c : ModeController) : (s.setMc c).layout = s.layout := rfl
@[simp] theorem setMc_table (s : State) (c : ModeController) : (s.setMc c).table = s.table := rfl
@[simp] theorem setMc_passages (s : State) (c : ModeController) : (s.setMc c).passages = s.passages := rfl
@[simp] theorem setMc_roster (s : State) (c : ModeController) : (s.setMc c).roster = s.roster := rfl
@[simp] theorem setMc_tagWindows (s : State) (c : ModeController) : (s.setMc c).tagWindows = s.tagWindows := rfl
@[simp] theorem setMc_tagDiscards (s : State) (c : ModeController) : (s.setMc c).tagDiscards = s.tagDiscards := rfl
@[simp] theorem setMc_bays (s : State) (c : ModeController) : (s.setMc c).bays = s.bays := rfl
@[simp] theorem setMc_dispatch (s : State) (c : ModeController) : (s.setMc c).dispatch = s.dispatch := rfl
@[simp] theorem setMc_nextDispatch (s : State) (c : ModeController) : (s.setMc c).nextDispatch = s.nextDispatch := rfl
@[simp] theorem setMc_launches (s : State) (c : ModeController) : (s.setMc c).launches = s.launches := rfl
@[simp] theorem setMc_arbiters (s : State) (c : ModeController) : (s.setMc c).arbiters = s.arbiters := rfl
@[simp] theorem setMc_switches (s : State) (c : ModeController) : (s.setMc c).switches = s.switches := rfl
@[simp] theorem setMc_brakes (s : State) (c : ModeController) : (s.setMc c).brakes = s.brakes := rfl
@[simp] theorem setMc_trapStrays (s : State) (c : ModeController) : (s.setMc c).trapStrays = s.trapStrays := rfl
@[simp] theorem setMc_points (s : State) (c : ModeController) : (s.setMc c).points = s.points := rfl
@[simp] theorem setMc_channels (s : State) (c : ModeController) : (s.setMc c).channels = s.channels := rfl
@[simp] theorem setMc_mc (s : State) (c : ModeController) : (s.setMc c).mc = c := rfl
@[simp] theorem setMc_reports (s : State) (c : ModeController) : (s.setMc c).reports = s.reports := rfl

/-! ### `setEntry` -/

@[simp] theorem setEntry_pending (s : State) (b : BlockId) (e : Entry) : (s.setEntry b e).pending = s.pending := rfl
@[simp] theorem setEntry_timeBase (s : State) (b : BlockId) (e : Entry) : (s.setEntry b e).timeBase = s.timeBase := rfl
@[simp] theorem setEntry_rate (s : State) (b : BlockId) (e : Entry) : (s.setEntry b e).rate = s.rate := rfl
@[simp] theorem setEntry_ports (s : State) (b : BlockId) (e : Entry) : (s.setEntry b e).ports = s.ports := rfl
@[simp] theorem setEntry_windows (s : State) (b : BlockId) (e : Entry) : (s.setEntry b e).windows = s.windows := rfl
@[simp] theorem setEntry_layout (s : State) (b : BlockId) (e : Entry) : (s.setEntry b e).layout = s.layout := rfl
@[simp] theorem setEntry_table (s : State) (b : BlockId) (e : Entry) : (s.setEntry b e).table = vput s.table b e := rfl
@[simp] theorem setEntry_passages (s : State) (b : BlockId) (e : Entry) : (s.setEntry b e).passages = s.passages := rfl
@[simp] theorem setEntry_roster (s : State) (b : BlockId) (e : Entry) : (s.setEntry b e).roster = s.roster := rfl
@[simp] theorem setEntry_tagWindows (s : State) (b : BlockId) (e : Entry) : (s.setEntry b e).tagWindows = s.tagWindows := rfl
@[simp] theorem setEntry_tagDiscards (s : State) (b : BlockId) (e : Entry) : (s.setEntry b e).tagDiscards = s.tagDiscards := rfl
@[simp] theorem setEntry_bays (s : State) (b : BlockId) (e : Entry) : (s.setEntry b e).bays = s.bays := rfl
@[simp] theorem setEntry_dispatch (s : State) (b : BlockId) (e : Entry) : (s.setEntry b e).dispatch = s.dispatch := rfl
@[simp] theorem setEntry_nextDispatch (s : State) (b : BlockId) (e : Entry) : (s.setEntry b e).nextDispatch = s.nextDispatch := rfl
@[simp] theorem setEntry_launches (s : State) (b : BlockId) (e : Entry) : (s.setEntry b e).launches = s.launches := rfl
@[simp] theorem setEntry_switches (s : State) (b : BlockId) (e : Entry) : (s.setEntry b e).switches = s.switches := rfl
@[simp] theorem setEntry_brakes (s : State) (b : BlockId) (e : Entry) : (s.setEntry b e).brakes = s.brakes := rfl
@[simp] theorem setEntry_trapStrays (s : State) (b : BlockId) (e : Entry) : (s.setEntry b e).trapStrays = s.trapStrays := rfl
@[simp] theorem setEntry_points (s : State) (b : BlockId) (e : Entry) : (s.setEntry b e).points = s.points := rfl
@[simp] theorem setEntry_channels (s : State) (b : BlockId) (e : Entry) : (s.setEntry b e).channels = s.channels := rfl
@[simp] theorem setEntry_mc (s : State) (b : BlockId) (e : Entry) : (s.setEntry b e).mc = s.mc := rfl
@[simp] theorem setEntry_reports (s : State) (b : BlockId) (e : Entry) : (s.setEntry b e).reports = s.reports := rfl

/-! ### `mapReaders` -/

@[simp] theorem mapReaders_pending (s : State) (f : Link → Reader → Reader) : (s.mapReaders f).pending = s.pending := rfl
@[simp] theorem mapReaders_timeBase (s : State) (f : Link → Reader → Reader) : (s.mapReaders f).timeBase = s.timeBase := rfl
@[simp] theorem mapReaders_rate (s : State) (f : Link → Reader → Reader) : (s.mapReaders f).rate = s.rate := rfl
@[simp] theorem mapReaders_ports (s : State) (f : Link → Reader → Reader) : (s.mapReaders f).ports = s.ports := rfl
@[simp] theorem mapReaders_windows (s : State) (f : Link → Reader → Reader) : (s.mapReaders f).windows = s.windows := rfl
@[simp] theorem mapReaders_layout (s : State) (f : Link → Reader → Reader) : (s.mapReaders f).layout = s.layout := rfl
@[simp] theorem mapReaders_table (s : State) (f : Link → Reader → Reader) : (s.mapReaders f).table = s.table := rfl
@[simp] theorem mapReaders_passages (s : State) (f : Link → Reader → Reader) : (s.mapReaders f).passages = s.passages := rfl
@[simp] theorem mapReaders_roster (s : State) (f : Link → Reader → Reader) : (s.mapReaders f).roster = s.roster := rfl
@[simp] theorem mapReaders_tagWindows (s : State) (f : Link → Reader → Reader) : (s.mapReaders f).tagWindows = s.tagWindows := rfl
@[simp] theorem mapReaders_tagDiscards (s : State) (f : Link → Reader → Reader) : (s.mapReaders f).tagDiscards = s.tagDiscards := rfl
@[simp] theorem mapReaders_bays (s : State) (f : Link → Reader → Reader) : (s.mapReaders f).bays = s.bays := rfl
@[simp] theorem mapReaders_dispatch (s : State) (f : Link → Reader → Reader) : (s.mapReaders f).dispatch = s.dispatch := rfl
@[simp] theorem mapReaders_nextDispatch (s : State) (f : Link → Reader → Reader) : (s.mapReaders f).nextDispatch = s.nextDispatch := rfl
@[simp] theorem mapReaders_launches (s : State) (f : Link → Reader → Reader) : (s.mapReaders f).launches = s.launches := rfl
@[simp] theorem mapReaders_arbiters (s : State) (f : Link → Reader → Reader) : (s.mapReaders f).arbiters = s.arbiters := rfl
@[simp] theorem mapReaders_switches (s : State) (f : Link → Reader → Reader) : (s.mapReaders f).switches = s.switches := rfl
@[simp] theorem mapReaders_brakes (s : State) (f : Link → Reader → Reader) : (s.mapReaders f).brakes = s.brakes := rfl
@[simp] theorem mapReaders_trapStrays (s : State) (f : Link → Reader → Reader) : (s.mapReaders f).trapStrays = s.trapStrays := rfl
@[simp] theorem mapReaders_points (s : State) (f : Link → Reader → Reader) : (s.mapReaders f).points = s.points := rfl
@[simp] theorem mapReaders_channels (s : State) (f : Link → Reader → Reader) : (s.mapReaders f).channels = s.channels := rfl
@[simp] theorem mapReaders_mc (s : State) (f : Link → Reader → Reader) : (s.mapReaders f).mc = s.mc := rfl

/-! ### `setTagWindow` -/

@[simp] theorem setTagWindow_pending (s : State) (p : PortId) (w : Option TagWindow) : (s.setTagWindow p w).pending = s.pending := rfl
@[simp] theorem setTagWindow_timeBase (s : State) (p : PortId) (w : Option TagWindow) : (s.setTagWindow p w).timeBase = s.timeBase := rfl
@[simp] theorem setTagWindow_rate (s : State) (p : PortId) (w : Option TagWindow) : (s.setTagWindow p w).rate = s.rate := rfl
@[simp] theorem setTagWindow_ports (s : State) (p : PortId) (w : Option TagWindow) : (s.setTagWindow p w).ports = s.ports := rfl
@[simp] theorem setTagWindow_windows (s : State) (p : PortId) (w : Option TagWindow) : (s.setTagWindow p w).windows = s.windows := rfl
@[simp] theorem setTagWindow_layout (s : State) (p : PortId) (w : Option TagWindow) : (s.setTagWindow p w).layout = s.layout := rfl
@[simp] theorem setTagWindow_table (s : State) (p : PortId) (w : Option TagWindow) : (s.setTagWindow p w).table = s.table := rfl
@[simp] theorem setTagWindow_passages (s : State) (p : PortId) (w : Option TagWindow) : (s.setTagWindow p w).passages = s.passages := rfl
@[simp] theorem setTagWindow_roster (s : State) (p : PortId) (w : Option TagWindow) : (s.setTagWindow p w).roster = s.roster := rfl
@[simp] theorem setTagWindow_tagWindows (s : State) (p : PortId) (w : Option TagWindow) : (s.setTagWindow p w).tagWindows = vput s.tagWindows p w := rfl
@[simp] theorem setTagWindow_tagDiscards (s : State) (p : PortId) (w : Option TagWindow) : (s.setTagWindow p w).tagDiscards = s.tagDiscards := rfl
@[simp] theorem setTagWindow_bays (s : State) (p : PortId) (w : Option TagWindow) : (s.setTagWindow p w).bays = s.bays := rfl
@[simp] theorem setTagWindow_dispatch (s : State) (p : PortId) (w : Option TagWindow) : (s.setTagWindow p w).dispatch = s.dispatch := rfl
@[simp] theorem setTagWindow_nextDispatch (s : State) (p : PortId) (w : Option TagWindow) : (s.setTagWindow p w).nextDispatch = s.nextDispatch := rfl
@[simp] theorem setTagWindow_launches (s : State) (p : PortId) (w : Option TagWindow) : (s.setTagWindow p w).launches = s.launches := rfl
@[simp] theorem setTagWindow_arbiters (s : State) (p : PortId) (w : Option TagWindow) : (s.setTagWindow p w).arbiters = s.arbiters := rfl
@[simp] theorem setTagWindow_switches (s : State) (p : PortId) (w : Option TagWindow) : (s.setTagWindow p w).switches = s.switches := rfl
@[simp] theorem setTagWindow_brakes (s : State) (p : PortId) (w : Option TagWindow) : (s.setTagWindow p w).brakes = s.brakes := rfl
@[simp] theorem setTagWindow_trapStrays (s : State) (p : PortId) (w : Option TagWindow) : (s.setTagWindow p w).trapStrays = s.trapStrays := rfl
@[simp] theorem setTagWindow_points (s : State) (p : PortId) (w : Option TagWindow) : (s.setTagWindow p w).points = s.points := rfl
@[simp] theorem setTagWindow_channels (s : State) (p : PortId) (w : Option TagWindow) : (s.setTagWindow p w).channels = s.channels := rfl
@[simp] theorem setTagWindow_mc (s : State) (p : PortId) (w : Option TagWindow) : (s.setTagWindow p w).mc = s.mc := rfl
@[simp] theorem setTagWindow_reports (s : State) (p : PortId) (w : Option TagWindow) : (s.setTagWindow p w).reports = s.reports := rfl

/-! ### `removeEntry` -/

@[simp] theorem removeEntry_pending (s : State) (e : DispatchEntry) : (s.removeEntry e).pending = s.pending := rfl
@[simp] theorem removeEntry_timeBase (s : State) (e : DispatchEntry) : (s.removeEntry e).timeBase = s.timeBase := rfl
@[simp] theorem removeEntry_rate (s : State) (e : DispatchEntry) : (s.removeEntry e).rate = s.rate := rfl
@[simp] theorem removeEntry_ports (s : State) (e : DispatchEntry) : (s.removeEntry e).ports = s.ports := rfl
@[simp] theorem removeEntry_windows (s : State) (e : DispatchEntry) : (s.removeEntry e).windows = s.windows := rfl
@[simp] theorem removeEntry_layout (s : State) (e : DispatchEntry) : (s.removeEntry e).layout = s.layout := rfl
@[simp] theorem removeEntry_table (s : State) (e : DispatchEntry) : (s.removeEntry e).table = s.table := rfl
@[simp] theorem removeEntry_passages (s : State) (e : DispatchEntry) : (s.removeEntry e).passages = s.passages := rfl
@[simp] theorem removeEntry_roster (s : State) (e : DispatchEntry) : (s.removeEntry e).roster = s.roster := rfl
@[simp] theorem removeEntry_tagWindows (s : State) (e : DispatchEntry) : (s.removeEntry e).tagWindows = s.tagWindows := rfl
@[simp] theorem removeEntry_tagDiscards (s : State) (e : DispatchEntry) : (s.removeEntry e).tagDiscards = s.tagDiscards := rfl
@[simp] theorem removeEntry_bays (s : State) (e : DispatchEntry) : (s.removeEntry e).bays = s.bays := rfl
@[simp] theorem removeEntry_dispatch (s : State) (e : DispatchEntry) : (s.removeEntry e).dispatch = s.dispatch.filter fun d => d.seq != e.seq := rfl
@[simp] theorem removeEntry_nextDispatch (s : State) (e : DispatchEntry) : (s.removeEntry e).nextDispatch = s.nextDispatch := rfl
@[simp] theorem removeEntry_launches (s : State) (e : DispatchEntry) : (s.removeEntry e).launches = s.launches := rfl
@[simp] theorem removeEntry_arbiters (s : State) (e : DispatchEntry) : (s.removeEntry e).arbiters = s.arbiters := rfl
@[simp] theorem removeEntry_switches (s : State) (e : DispatchEntry) : (s.removeEntry e).switches = s.switches := rfl
@[simp] theorem removeEntry_brakes (s : State) (e : DispatchEntry) : (s.removeEntry e).brakes = s.brakes := rfl
@[simp] theorem removeEntry_trapStrays (s : State) (e : DispatchEntry) : (s.removeEntry e).trapStrays = s.trapStrays := rfl
@[simp] theorem removeEntry_points (s : State) (e : DispatchEntry) : (s.removeEntry e).points = s.points := rfl
@[simp] theorem removeEntry_channels (s : State) (e : DispatchEntry) : (s.removeEntry e).channels = s.channels := rfl
@[simp] theorem removeEntry_mc (s : State) (e : DispatchEntry) : (s.removeEntry e).mc = s.mc := rfl
@[simp] theorem removeEntry_reports (s : State) (e : DispatchEntry) : (s.removeEntry e).reports = s.reports := rfl

/-! ### `withPending` -/

@[simp] theorem withPending_pending (s : State) (cs : List Instr) : (s.withPending cs).pending = cs := rfl
@[simp] theorem withPending_timeBase (s : State) (cs : List Instr) : (s.withPending cs).timeBase = s.timeBase := rfl
@[simp] theorem withPending_rate (s : State) (cs : List Instr) : (s.withPending cs).rate = s.rate := rfl
@[simp] theorem withPending_ports (s : State) (cs : List Instr) : (s.withPending cs).ports = s.ports := rfl
@[simp] theorem withPending_windows (s : State) (cs : List Instr) : (s.withPending cs).windows = s.windows := rfl
@[simp] theorem withPending_layout (s : State) (cs : List Instr) : (s.withPending cs).layout = s.layout := rfl
@[simp] theorem withPending_table (s : State) (cs : List Instr) : (s.withPending cs).table = s.table := rfl
@[simp] theorem withPending_passages (s : State) (cs : List Instr) : (s.withPending cs).passages = s.passages := rfl
@[simp] theorem withPending_roster (s : State) (cs : List Instr) : (s.withPending cs).roster = s.roster := rfl
@[simp] theorem withPending_tagWindows (s : State) (cs : List Instr) : (s.withPending cs).tagWindows = s.tagWindows := rfl
@[simp] theorem withPending_tagDiscards (s : State) (cs : List Instr) : (s.withPending cs).tagDiscards = s.tagDiscards := rfl
@[simp] theorem withPending_bays (s : State) (cs : List Instr) : (s.withPending cs).bays = s.bays := rfl
@[simp] theorem withPending_dispatch (s : State) (cs : List Instr) : (s.withPending cs).dispatch = s.dispatch := rfl
@[simp] theorem withPending_nextDispatch (s : State) (cs : List Instr) : (s.withPending cs).nextDispatch = s.nextDispatch := rfl
@[simp] theorem withPending_launches (s : State) (cs : List Instr) : (s.withPending cs).launches = s.launches := rfl
@[simp] theorem withPending_arbiters (s : State) (cs : List Instr) : (s.withPending cs).arbiters = s.arbiters := rfl
@[simp] theorem withPending_switches (s : State) (cs : List Instr) : (s.withPending cs).switches = s.switches := rfl
@[simp] theorem withPending_brakes (s : State) (cs : List Instr) : (s.withPending cs).brakes = s.brakes := rfl
@[simp] theorem withPending_trapStrays (s : State) (cs : List Instr) : (s.withPending cs).trapStrays = s.trapStrays := rfl
@[simp] theorem withPending_points (s : State) (cs : List Instr) : (s.withPending cs).points = s.points := rfl
@[simp] theorem withPending_channels (s : State) (cs : List Instr) : (s.withPending cs).channels = s.channels := rfl
@[simp] theorem withPending_mc (s : State) (cs : List Instr) : (s.withPending cs).mc = s.mc := rfl
@[simp] theorem withPending_reports (s : State) (cs : List Instr) : (s.withPending cs).reports = s.reports := rfl

/-! ### One entry read after one write -/

@[simp] theorem PerLink.get_put_self {α : Type} (p : PerLink α) (l : Link) (x : α) : (p.put l x).get l = x := by
  cases l <;> rfl

theorem PerLink.get_put_ne {α : Type} (p : PerLink α) {l k : Link} (x : α) (h : k ≠ l) :
    (p.put l x).get k = p.get k := by
  cases l <;> cases k <;> first | rfl | exact absurd rfl h

@[simp] theorem PerLink.put_put {α : Type} (p : PerLink α) (l : Link) (x y : α) :
    (p.put l x).put l y = p.put l y := by
  cases l <;> rfl

@[simp] theorem setPort_port_self (s : State) (l : Link) (p : LinkPort) : (s.setPort l p).port l = p := by
  simp [State.port]

theorem setPort_port_ne (s : State) {l k : Link} (p : LinkPort) (h : k ≠ l) : (s.setPort l p).port k = s.port k := by
  simp [State.port, PerLink.get_put_ne _ _ h]

@[simp] theorem setReader_reader_self (s : State) (l : Link) (r : Reader) : (s.setReader l r).reader l = r := by
  simp [State.reader]

@[simp] theorem setEntry_entry_self (s : State) (b : BlockId) (e : Entry) : (s.setEntry b e).entry b = e := by
  simp [State.entry]

theorem setEntry_entry_ne (s : State) {b c : BlockId} (e : Entry) (h : c ≠ b) :
    (s.setEntry b e).entry c = s.entry c := by
  simp [State.entry, vget_vput_ne _ _ h]

@[simp] theorem setSlot_slot_self (s : State) (x : BoatId) (t : Slot) : (s.setSlot x t).slot x = t := by
  simp [State.slot]

theorem setSlot_slot_ne (s : State) {x y : BoatId} (t : Slot) (h : y ≠ x) : (s.setSlot x t).slot y = s.slot y := by
  simp [State.slot, vget_vput_ne _ _ h]

@[simp] theorem setBay_bay_self (s : State) (b : BlockId) (y : Bay) : (s.setBay b y).bay b = some y := by
  simp [State.bay]

theorem setBay_bay_ne (s : State) {b c : BlockId} (y : Bay) (h : c ≠ b) : (s.setBay b y).bay c = s.bay c := by
  simp [State.bay, vget_vput_ne _ _ h]

@[simp] theorem setPoint_point_self (s : State) (p : PointId) (q : Point) : (s.setPoint p q).point p = q := by
  simp [State.point]

theorem setPoint_point_ne (s : State) {p r : PointId} (q : Point) (h : r ≠ p) :
    (s.setPoint p q).point r = s.point r := by
  simp [State.point, vget_vput_ne _ _ h]

@[simp] theorem setChannel_channel_self (s : State) (c : ChannelId) (x : Channel) : (s.setChannel c x).channel c = x := by
  simp [State.channel]

end Sys2Proof.Machine
end

