-- ==== Sys2Proof/Laws/Frame.lean ====
section
/-! SUPPORT. What each shared operation leaves alone. For every operation one fact: anything read off a state that does
not depend on the fields the operation writes is the same before and after. The fields it keeps follow as rewriting
facts. -/

set_option Elab.async false

namespace Sys2Proof.Machine

open Sys2Proof

/-- A fold of steps that keep something keeps it. -/
theorem foldl_keeps {α β γ : Type} (v : β → γ) (f : β → α → β) (h : ∀ t a, v (f t a) = v t) (as : List α) (t : β) :
    v (as.foldl f t) = v t := by
  induction as generalizing t with
  | nil => rfl
  | cons a as ih => rw [List.foldl_cons, ih, h]

theorem setSlot_view {γ : Type} (v : State → γ)
    (h_roster : ∀ t x, v { t with roster := x } = v t) (s : State) (x : BoatId) (t : Slot) :
    v (s.setSlot x t) = v s := h_roster s _

theorem modBoat_view {γ : Type} (v : State → γ)
    (h_roster : ∀ t x, v { t with roster := x } = v t) (s : State) (x : BoatId) (f : Boat → Boat) :
    v (s.modBoat x f) = v s := h_roster s _

theorem setPath_view {γ : Type} (v : State → γ)
    (h_roster : ∀ t x, v { t with roster := x } = v t) (s : State) (x : BoatId) (p : List BlockId) :
    v (s.setPath x p) = v s := h_roster s _

theorem setBay_view {γ : Type} (v : State → γ)
    (h_bays : ∀ t x, v { t with bays := x } = v t) (s : State) (b : BlockId) (y : Bay) :
    v (s.setBay b y) = v s := h_bays s _

theorem modBrake_view {γ : Type} (v : State → γ)
    (h_brakes : ∀ t x, v { t with brakes := x } = v t) (s : State) (b : BlockId) (f : Brake → Brake) :
    v (s.modBrake b f) = v s := h_brakes s _

theorem modSwitch_view {γ : Type} (v : State → γ)
    (h_switches : ∀ t x, v { t with switches := x } = v t) (s : State) (b : BlockId) (f : SwitchRecord → SwitchRecord) :
    v (s.modSwitch b f) = v s := h_switches s _

theorem setChannel_view {γ : Type} (v : State → γ)
    (h_channels : ∀ t x, v { t with channels := x } = v t) (s : State) (c : ChannelId) (x : Channel) :
    v (s.setChannel c x) = v s := h_channels s _

theorem setPoint_view {γ : Type} (v : State → γ)
    (h_points : ∀ t x, v { t with points := x } = v t) (s : State) (p : PointId) (x : Point) :
    v (s.setPoint p x) = v s := h_points s _

theorem setPort_view {γ : Type} (v : State → γ)
    (h_ports : ∀ t x, v { t with ports := x } = v t) (s : State) (l : Link) (p : LinkPort) :
    v (s.setPort l p) = v s := h_ports s _

theorem setReader_view {γ : Type} (v : State → γ)
    (h_reports : ∀ t x, v { t with reports := x } = v t) (s : State) (l : Link) (r : Reader) :
    v (s.setReader l r) = v s := h_reports s _

theorem setMc_view {γ : Type} (v : State → γ)
    (h_mc : ∀ t x, v { t with mc := x } = v t) (s : State) (c : ModeController) :
    v (s.setMc c) = v s := h_mc s _

theorem setTagWindow_view {γ : Type} (v : State → γ)
    (h_tagWindows : ∀ t x, v { t with tagWindows := x } = v t) (s : State) (p : PortId) (w : Option TagWindow) :
    v (s.setTagWindow p w) = v s := h_tagWindows s _

theorem removeEntry_view {γ : Type} (v : State → γ)
    (h_dispatch : ∀ t x, v { t with dispatch := x } = v t) (s : State) (e : DispatchEntry) :
    v (s.removeEntry e) = v s := h_dispatch s _

theorem mapReaders_view {γ : Type} (v : State → γ)
    (h_reports : ∀ t x, v { t with reports := x } = v t) (s : State) (f : Link → Reader → Reader) :
    v (s.mapReaders f) = v s := h_reports s _

theorem evaluateAll_view {γ : Type} (v : State → γ)
    (h_reports : ∀ t x, v { t with reports := x } = v t) (s : State) :
    v (s.evaluateAll) = v s := h_reports s _

theorem freeEntries_view {γ : Type} (v : State → γ)
    (h_reports : ∀ t x, v { t with reports := x } = v t) (s : State) :
    v (s.freeEntries) = v s := h_reports s _

theorem dropOldest_view {γ : Type} (v : State → γ)
    (h_reports : ∀ t x, v { t with reports := x } = v t) (s : State) :
    v (s.dropOldest) = v s := h_reports s _

theorem pushReport_view {γ : Type} (v : State → γ)
    (h_reports : ∀ t x, v { t with reports := x } = v t) (s : State) (k : ReportKind) (f : Option (FaultKind × FaultClass)) (b : Option BlockId) (x : Option BoatId) (d : Details) :
    v (s.pushReport k f b x d) = v s := h_reports s _

theorem putEntry_view {γ : Type} (v : State → γ)
    (h_dispatch : ∀ t x, v { t with dispatch := x } = v t) (s : State) (e : DispatchEntry) :
    v (s.putEntry e) = v s := h_dispatch s _

theorem refreshBrakes_view {γ : Type} (v : State → γ)
    (h_brakes : ∀ t x, v { t with brakes := x } = v t) (s : State) :
    v (s.refreshBrakes) = v s := h_brakes s _

theorem refreshSwitches_view {γ : Type} (v : State → γ)
    (h_switches : ∀ t x, v { t with switches := x } = v t) (s : State) :
    v (s.refreshSwitches) = v s := h_switches s _

theorem refreshChannels_view {γ : Type} (v : State → γ)
    (h_channels : ∀ t x, v { t with channels := x } = v t) (s : State) :
    v (s.refreshChannels) = v s := h_channels s _

theorem strayTrap_view {γ : Type} (v : State → γ)
    (h_trapStrays : ∀ t x, v { t with trapStrays := x } = v t) (s : State) :
    v (s.strayTrap) = v s := h_trapStrays s _

theorem discardTag_view {γ : Type} (v : State → γ)
    (h_tagDiscards : ∀ t x, v { t with tagDiscards := x } = v t) (s : State) :
    v (s.discardTag) = v s := h_tagDiscards s _

theorem endHeadway_view {γ : Type} (v : State → γ)
    (h_launches : ∀ t x, v { t with launches := x } = v t) (s : State) (b : BlockId) :
    v (s.endHeadway b) = v s := h_launches s _

theorem engageHold_view {γ : Type} (v : State → γ)
    (h_brakes : ∀ t x, v { t with brakes := x } = v t) (s : State) (b : BlockId) :
    v (s.engageHold b) = v s := h_brakes s _

theorem setupTable_view {γ : Type} (v : State → γ)
    (h_table : ∀ t x, v { t with table := x } = v t) (s : State) :
    v (s.setupTable) = v s := h_table s _

theorem takeBays_view {γ : Type} (v : State → γ)
    (h_bays : ∀ t x, v { t with bays := x } = v t) (s : State) :
    v (s.takeBays) = v s := h_bays s _

theorem takeLaunches_view {γ : Type} (v : State → γ)
    (h_launches : ∀ t x, v { t with launches := x } = v t) (s : State) :
    v (s.takeLaunches) = v s := h_launches s _

theorem takeArbiters_view {γ : Type} (v : State → γ)
    (h_arbiters : ∀ t x, v { t with arbiters := x } = v t) (s : State) :
    v (s.takeArbiters) = v s := h_arbiters s _

theorem takeSwitches_view {γ : Type} (v : State → γ)
    (h_switches : ∀ t x, v { t with switches := x } = v t) (s : State) :
    v (s.takeSwitches) = v s := h_switches s _

theorem takeBrakes_view {γ : Type} (v : State → γ)
    (h_brakes : ∀ t x, v { t with brakes := x } = v t) (s : State) :
    v (s.takeBrakes) = v s := h_brakes s _

theorem takeChannels_view {γ : Type} (v : State → γ)
    (h_channels : ∀ t x, v { t with channels := x } = v t) (s : State) :
    v (s.takeChannels) = v s := h_channels s _

theorem placePassage_view {γ : Type} (v : State → γ)
    (h_brakes : ∀ t x, v { t with brakes := x } = v t) (s : State) (b : BlockId) (x : BoatId) :
    v (s.placePassage b x) = v s := h_brakes s _

theorem setEntry_view {γ : Type} (v : State → γ)
    (h_table : ∀ t x, v { t with table := x } = v t)
    (h_arbiters : ∀ t x, v { t with arbiters := x } = v t) (s : State) (b : BlockId) (e : Entry) :
    v (s.setEntry b e) = v s := (h_arbiters { s with table := vput s.table b e } _).trans (h_table s _)

theorem modEntry_view {γ : Type} (v : State → γ)
    (h_table : ∀ t x, v { t with table := x } = v t)
    (h_arbiters : ∀ t x, v { t with arbiters := x } = v t) (s : State) (b : BlockId) (f : Entry → Entry) :
    v (s.modEntry b f) = v s := by
  unfold State.modEntry
  try dsimp only
  (repeat' split) <;> first | rfl | simp only [setEntry_view v h_table h_arbiters]

theorem append_view {γ : Type} (v : State → γ)
    (h_reports : ∀ t x, v { t with reports := x } = v t) (s : State) (k : ReportKind) (f : Option (FaultKind × FaultClass)) (b : Option BlockId) (x : Option BoatId) (d : Details) :
    v (s.append k f b x d) = v s := by
  unfold State.append
  extract_lets a b c
  have ha : v a = v s := by
    simp only [a]
    split
    · rfl
    · exact dropOldest_view v h_reports s
  have hb : v b = v s := (pushReport_view v h_reports a k f _ x d).trans ha
  have hc : v c = v s := by
    simp only [c]
    split
    · exact (freeEntries_view v h_reports b).trans hb
    · exact hb
  exact (evaluateAll_view v h_reports c).trans hc

theorem dispatchReport_view {γ : Type} (v : State → γ)
    (h_reports : ∀ t x, v { t with reports := x } = v t) (s : State) (e : DispatchEntry) (ev : DispatchEvent) (i j : Nat) :
    v (s.dispatchReport e ev i j) = v s := by
  unfold State.dispatchReport
  try dsimp only
  (repeat' split) <;> first | rfl | simp only [append_view v h_reports]

theorem voidReport_view {γ : Type} (v : State → γ)
    (h_reports : ∀ t x, v { t with reports := x } = v t) (s : State) (c : VoidCause) (e : DispatchEntry) :
    v (s.voidReport c e) = v s := by
  unfold State.voidReport
  try dsimp only
  (repeat' split) <;> first | rfl | simp only [dispatchReport_view v h_reports]

theorem modeReport_view {γ : Type} (v : State → γ)
    (h_reports : ∀ t x, v { t with reports := x } = v t) (s : State) (ev : ModeEvent) (i j k : Nat) :
    v (s.modeReport ev i j k) = v s := by
  unfold State.modeReport
  try dsimp only
  (repeat' split) <;> first | rfl | simp only [append_view v h_reports]

theorem passageReport_view {γ : Type} (v : State → γ)
    (h_reports : ∀ t x, v { t with reports := x } = v t) (s : State) (b : BlockId) (x : Option BoatId) (i j : Nat) (p : BlockId) (n : Nat) :
    v (s.passageReport b x i j p n) = v s := by
  unfold State.passageReport
  try dsimp only
  (repeat' split) <;> first | rfl | simp only [append_view v h_reports]

theorem linkReport_view {γ : Type} (v : State → γ)
    (h_reports : ∀ t x, v { t with reports := x } = v t) (s : State) (l : Link) (i j : Nat) :
    v (s.linkReport l i j) = v s := by
  unfold State.linkReport
  try dsimp only
  (repeat' split) <;> first | rfl | simp only [append_view v h_reports]

theorem voidAll_view {γ : Type} (v : State → γ)
    (h_dispatch : ∀ t x, v { t with dispatch := x } = v t)
    (h_reports : ∀ t x, v { t with reports := x } = v t) (s : State) (c : VoidCause) :
    v (s.voidAll c) = v s :=
  (foldl_keeps v _ (fun t e => voidReport_view v h_reports t c e) _ _).trans (h_dispatch s _)

theorem discardSlot_view {γ : Type} (v : State → γ)
    (h_mc : ∀ t x, v { t with mc := x } = v t)
    (h_reports : ∀ t x, v { t with reports := x } = v t) (s : State) (n : Nat) :
    v (s.discardSlot n) = v s := by
  unfold State.discardSlot
  try dsimp only
  (repeat' split) <;> first | rfl | simp only [setMc_view v h_mc, modeReport_view v h_reports]

theorem changeMode_view {γ : Type} (v : State → γ)
    (h_dispatch : ∀ t x, v { t with dispatch := x } = v t)
    (h_mc : ∀ t x, v { t with mc := x } = v t)
    (h_reports : ∀ t x, v { t with reports := x } = v t) (s : State) (m : Mode) (c : ChangeCause) :
    v (s.changeMode m c) = v s := by
  unfold State.changeMode
  try dsimp only
  (repeat' split) <;> first | rfl | simp only [discardSlot_view v h_mc h_reports, modeReport_view v h_reports, setMc_view v h_mc, h_dispatch]

theorem enterHolding_view {γ : Type} (v : State → γ)
    (h_dispatch : ∀ t x, v { t with dispatch := x } = v t)
    (h_mc : ∀ t x, v { t with mc := x } = v t)
    (h_reports : ∀ t x, v { t with reports := x } = v t) (s : State) (c : ChangeCause) :
    v (s.enterHolding c) = v s := by
  unfold State.enterHolding
  try dsimp only
  (repeat' split) <;> first | rfl | simp only [changeMode_view v h_dispatch h_mc h_reports, voidAll_view v h_dispatch h_reports]

theorem enterHalted_view {γ : Type} (v : State → γ)
    (h_table : ∀ t x, v { t with table := x } = v t)
    (h_dispatch : ∀ t x, v { t with dispatch := x } = v t)
    (h_switches : ∀ t x, v { t with switches := x } = v t)
    (h_mc : ∀ t x, v { t with mc := x } = v t)
    (h_reports : ∀ t x, v { t with reports := x } = v t) (s : State) (c : ChangeCause) :
    v (s.enterHalted c) = v s := by
  unfold State.enterHalted
  rw [voidAll_view v h_dispatch h_reports]
  have h (t : State) (e : Vector Entry 32) (w : Vector (Option SwitchRecord) 32) :
      v { t with table := e, switches := w } = v t := (h_switches { t with table := e } w).trans (h_table t e)
  exact (h _ _ _).trans (changeMode_view v h_dispatch h_mc h_reports s .halted c)

theorem applyClass_view {γ : Type} (v : State → γ)
    (h_table : ∀ t x, v { t with table := x } = v t)
    (h_dispatch : ∀ t x, v { t with dispatch := x } = v t)
    (h_switches : ∀ t x, v { t with switches := x } = v t)
    (h_mc : ∀ t x, v { t with mc := x } = v t)
    (h_reports : ∀ t x, v { t with reports := x } = v t) (s : State) (c : FaultClass) :
    v (s.applyClass c) = v s := by
  unfold State.applyClass
  try dsimp only
  (repeat' split) <;> first | rfl | simp only [enterHolding_view v h_dispatch h_mc h_reports, enterHalted_view v h_table h_dispatch h_switches h_mc h_reports]

theorem raise_view {γ : Type} (v : State → γ)
    (h_table : ∀ t x, v { t with table := x } = v t)
    (h_dispatch : ∀ t x, v { t with dispatch := x } = v t)
    (h_switches : ∀ t x, v { t with switches := x } = v t)
    (h_mc : ∀ t x, v { t with mc := x } = v t)
    (h_reports : ∀ t x, v { t with reports := x } = v t) (s : State) (k : FaultKind) (b : Option BlockId) (x : Option BoatId) (d : Details) :
    v (s.raise k b x d) = v s := by
  unfold State.raise
  try dsimp only
  (repeat' split) <;> first | rfl | simp only [applyClass_view v h_table h_dispatch h_switches h_mc h_reports, append_view v h_reports, setMc_view v h_mc]

theorem clearReserved_view {γ : Type} (v : State → γ)
    (h_table : ∀ t x, v { t with table := x } = v t)
    (h_arbiters : ∀ t x, v { t with arbiters := x } = v t) (s : State) (bs : List BlockId) :
    v (s.clearReserved bs) = v s :=
  foldl_keeps v _ (fun t b => by split <;> first | rfl | exact setEntry_view v h_table h_arbiters t b _) bs s

theorem cutPath_view {γ : Type} (v : State → γ)
    (h_table : ∀ t x, v { t with table := x } = v t)
    (h_roster : ∀ t x, v { t with roster := x } = v t)
    (h_arbiters : ∀ t x, v { t with arbiters := x } = v t) (s : State) (y : BoatId) (f : BlockId) :
    v (s.cutPath y f) = v s := by
  unfold State.cutPath
  try dsimp only
  (repeat' split) <;> first | rfl | simp only [clearReserved_view v h_table h_arbiters, setPath_view v h_roster]

theorem faultBlock_view {γ : Type} (v : State → γ)
    (h_table : ∀ t x, v { t with table := x } = v t)
    (h_roster : ∀ t x, v { t with roster := x } = v t)
    (h_arbiters : ∀ t x, v { t with arbiters := x } = v t)
    (h_switches : ∀ t x, v { t with switches := x } = v t)
    (h_brakes : ∀ t x, v { t with brakes := x } = v t) (s : State) (b : BlockId) :
    v (s.faultBlock b) = v s := by
  unfold State.faultBlock
  try dsimp only
  (repeat' split) <;> first | rfl | simp only [modSwitch_view v h_switches, modBrake_view v h_brakes, cutPath_view v h_table h_roster h_arbiters, setEntry_view v h_table h_arbiters]

theorem cancelEntry_view {γ : Type} (v : State → γ)
    (h_dispatch : ∀ t x, v { t with dispatch := x } = v t)
    (h_reports : ∀ t x, v { t with reports := x } = v t) (s : State) (e : DispatchEntry) (c : CancelCause) (n : Nat) :
    v (s.cancelEntry e c n) = v s := by
  unfold State.cancelEntry
  try dsimp only
  (repeat' split) <;> first | rfl | simp only [dispatchReport_view v h_reports, removeEntry_view v h_dispatch]

theorem cancelOfBay_view {γ : Type} (v : State → γ)
    (h_dispatch : ∀ t x, v { t with dispatch := x } = v t)
    (h_reports : ∀ t x, v { t with reports := x } = v t) (s : State) (b : BlockId) (c : CancelCause) :
    v (s.cancelOfBay b c) = v s := by
  unfold State.cancelOfBay
  try dsimp only
  (repeat' split) <;> first | rfl | simp only [cancelEntry_view v h_dispatch h_reports]

theorem setPhase_view {γ : Type} (v : State → γ)
    (h_bays : ∀ t x, v { t with bays := x } = v t)
    (h_reports : ∀ t x, v { t with reports := x } = v t) (s : State) (b : BlockId) (p : Phase) :
    v (s.setPhase b p) = v s := by
  unfold State.setPhase
  try dsimp only
  (repeat' split) <;> first | rfl | simp only [append_view v h_reports, setBay_view v h_bays]

theorem modBay_view {γ : Type} (v : State → γ)
    (h_bays : ∀ t x, v { t with bays := x } = v t) (s : State) (b : BlockId) (f : Bay → Bay) :
    v (s.modBay b f) = v s := by
  unfold State.modBay
  try dsimp only
  (repeat' split) <;> first | rfl | simp only [setBay_view v h_bays]

theorem startWeigh_view {γ : Type} (v : State → γ)
    (h_bays : ∀ t x, v { t with bays := x } = v t)
    (h_reports : ∀ t x, v { t with reports := x } = v t) (s : State) (b : BlockId) (k : WeighKind) :
    v (s.startWeigh b k) = v s := by
  unfold State.startWeigh
  try dsimp only
  (repeat' split) <;> first | rfl | simp only [setPhase_view v h_bays h_reports, modBay_view v h_bays]

theorem endBerthed_view {γ : Type} (v : State → γ)
    (h_bays : ∀ t x, v { t with bays := x } = v t)
    (h_reports : ∀ t x, v { t with reports := x } = v t) (s : State) (b : BlockId) :
    v (s.endBerthed b) = v s := by
  unfold State.endBerthed
  try dsimp only
  (repeat' split) <;> first | rfl | simp only [setPhase_view v h_bays h_reports, modBay_view v h_bays, startWeigh_view v h_bays h_reports]

theorem berth_view {γ : Type} (v : State → γ)
    (h_bays : ∀ t x, v { t with bays := x } = v t)
    (h_reports : ∀ t x, v { t with reports := x } = v t) (s : State) (b : BlockId) (e : Option PointId) :
    v (s.berth b e) = v s := by
  unfold State.berth
  try dsimp only
  (repeat' split) <;> first | rfl | simp only [endBerthed_view v h_bays h_reports, setPhase_view v h_bays h_reports, modBay_view v h_bays]

theorem vacateBay_view {γ : Type} (v : State → γ)
    (h_bays : ∀ t x, v { t with bays := x } = v t)
    (h_dispatch : ∀ t x, v { t with dispatch := x } = v t)
    (h_reports : ∀ t x, v { t with reports := x } = v t) (s : State) (b : BlockId) :
    v (s.vacateBay b) = v s := by
  unfold State.vacateBay
  try dsimp only
  (repeat' split) <;> first | rfl | simp only [setPhase_view v h_bays h_reports, modBay_view v h_bays, cancelOfBay_view v h_dispatch h_reports]

theorem bayFaulted_view {γ : Type} (v : State → γ)
    (h_bays : ∀ t x, v { t with bays := x } = v t)
    (h_reports : ∀ t x, v { t with reports := x } = v t) (s : State) (b : BlockId) :
    v (s.bayFaulted b) = v s := by
  unfold State.bayFaulted
  try dsimp only
  (repeat' split) <;> first | rfl | simp only [setPhase_view v h_bays h_reports, modBay_view v h_bays]

theorem bayReturn_view {γ : Type} (v : State → γ)
    (h_bays : ∀ t x, v { t with bays := x } = v t)
    (h_reports : ∀ t x, v { t with reports := x } = v t) (s : State) (b : BlockId) :
    v (s.bayReturn b) = v s := by
  unfold State.bayReturn
  try dsimp only
  (repeat' split) <;> first | rfl | simp only [setPhase_view v h_bays h_reports, modBay_view v h_bays, endBerthed_view v h_bays h_reports]

theorem bayGranted_view {γ : Type} (v : State → γ)
    (h_bays : ∀ t x, v { t with bays := x } = v t)
    (h_reports : ∀ t x, v { t with reports := x } = v t) (s : State) (b : BlockId) :
    v (s.bayGranted b) = v s := by
  unfold State.bayGranted
  try dsimp only
  (repeat' split) <;> first | rfl | simp only [setPhase_view v h_bays h_reports, setBay_view v h_bays]

theorem entryCleared_view {γ : Type} (v : State → γ)
    (h_bays : ∀ t x, v { t with bays := x } = v t)
    (h_reports : ∀ t x, v { t with reports := x } = v t) (s : State) (p : PointId) :
    v (s.entryCleared p) = v s := by
  unfold State.entryCleared
  try dsimp only
  (repeat' split) <;> first | rfl | simp only [endBerthed_view v h_bays h_reports, modBay_view v h_bays]

theorem endWeigh_view {γ : Type} (v : State → γ)
    (h_bays : ∀ t x, v { t with bays := x } = v t)
    (h_reports : ∀ t x, v { t with reports := x } = v t) (s : State) (b : BlockId) (w : Weigh) (o : WeighOutcome) (r : Option WeighResult) (i j k : Nat) :
    v (s.endWeigh b w o r i j k) = v s := by
  unfold State.endWeigh
  try dsimp only
  (repeat' split) <;> first | rfl | simp only [append_view v h_reports, modBay_view v h_bays]

theorem tareResult_view {γ : Type} (v : State → γ)
    (h_table : ∀ t x, v { t with table := x } = v t)
    (h_roster : ∀ t x, v { t with roster := x } = v t)
    (h_bays : ∀ t x, v { t with bays := x } = v t)
    (h_dispatch : ∀ t x, v { t with dispatch := x } = v t)
    (h_switches : ∀ t x, v { t with switches := x } = v t)
    (h_mc : ∀ t x, v { t with mc := x } = v t)
    (h_reports : ∀ t x, v { t with reports := x } = v t) (s : State) (b : BlockId) (w : Weigh) :
    v (s.tareResult b w) = v s := by
  unfold State.tareResult
  try dsimp only
  (repeat' split) <;> first | rfl | simp only [setPhase_view v h_bays h_reports, raise_view v h_table h_dispatch h_switches h_mc h_reports, endWeigh_view v h_bays h_reports, modBoat_view v h_roster]

theorem loadResult_view {γ : Type} (v : State → γ)
    (h_roster : ∀ t x, v { t with roster := x } = v t)
    (h_bays : ∀ t x, v { t with bays := x } = v t)
    (h_reports : ∀ t x, v { t with reports := x } = v t) (s : State) (b : BlockId) (w : Weigh) :
    v (s.loadResult b w) = v s := by
  unfold State.loadResult
  try dsimp only
  (repeat' split) <;> first | rfl | simp only [setPhase_view v h_bays h_reports, endWeigh_view v h_bays h_reports, modBoat_view v h_roster]

theorem weighFails_view {γ : Type} (v : State → γ)
    (h_table : ∀ t x, v { t with table := x } = v t)
    (h_bays : ∀ t x, v { t with bays := x } = v t)
    (h_dispatch : ∀ t x, v { t with dispatch := x } = v t)
    (h_switches : ∀ t x, v { t with switches := x } = v t)
    (h_mc : ∀ t x, v { t with mc := x } = v t)
    (h_reports : ∀ t x, v { t with reports := x } = v t) (s : State) (b : BlockId) (w : Weigh) (n : Nat) :
    v (s.weighFails b w n) = v s := by
  unfold State.weighFails
  try dsimp only
  (repeat' split) <;> first | rfl | simp only [setPhase_view v h_bays h_reports, raise_view v h_table h_dispatch h_switches h_mc h_reports, endWeigh_view v h_bays h_reports]

theorem closeWindow_view {γ : Type} (v : State → γ)
    (h_table : ∀ t x, v { t with table := x } = v t)
    (h_roster : ∀ t x, v { t with roster := x } = v t)
    (h_bays : ∀ t x, v { t with bays := x } = v t)
    (h_dispatch : ∀ t x, v { t with dispatch := x } = v t)
    (h_switches : ∀ t x, v { t with switches := x } = v t)
    (h_mc : ∀ t x, v { t with mc := x } = v t)
    (h_reports : ∀ t x, v { t with reports := x } = v t) (s : State) (b : BlockId) (w : Weigh) :
    v (s.closeWindow b w) = v s := by
  unfold State.closeWindow
  try dsimp only
  (repeat' split) <;> first | rfl | simp only [modBay_view v h_bays, weighFails_view v h_table h_bays h_dispatch h_switches h_mc h_reports, tareResult_view v h_table h_roster h_bays h_dispatch h_switches h_mc h_reports, loadResult_view v h_roster h_bays h_reports]

theorem firePulse_view {γ : Type} (v : State → γ)
    (h_channels : ∀ t x, v { t with channels := x } = v t) (s : State) (b : BlockId) :
    v (s.firePulse b) = v s := by
  unfold State.firePulse
  try dsimp only
  (repeat' split) <;> first | rfl | simp only [setChannel_view v h_channels]

theorem bookGrant_view {γ : Type} (v : State → γ)
    (h_arbiters : ∀ t x, v { t with arbiters := x } = v t) (s : State) (b : BlockId) (p : List BlockId) :
    v (s.bookGrant b p) = v s := by
  unfold State.bookGrant
  try dsimp only
  (repeat' split) <;> first | rfl | simp only [h_arbiters]

theorem reserve_view {γ : Type} (v : State → γ)
    (h_table : ∀ t x, v { t with table := x } = v t)
    (h_arbiters : ∀ t x, v { t with arbiters := x } = v t) (s : State) (x : BoatId) (p : List BlockId) :
    v (s.reserve x p) = v s :=
  foldl_keeps v _ (fun t b => setEntry_view v h_table h_arbiters t b _) p s

theorem writeLaunch_view {γ : Type} (v : State → γ)
    (h_launches : ∀ t x, v { t with launches := x } = v t) (s : State) (b : BlockId) :
    v (s.writeLaunch b) = v s := by
  unfold State.writeLaunch
  try dsimp only
  (repeat' split) <;> first | rfl | simp only [h_launches]

theorem tellRequester_view {γ : Type} (v : State → γ)
    (h_dispatch : ∀ t x, v { t with dispatch := x } = v t)
    (h_reports : ∀ t x, v { t with reports := x } = v t) (s : State) (b : BlockId) (q : Requester) (p : List BlockId) :
    v (s.tellRequester b q p) = v s := by
  unfold State.tellRequester
  try dsimp only
  (repeat' split) <;> first | rfl | simp only [dispatchReport_view v h_reports, removeEntry_view v h_dispatch, cancelOfBay_view v h_dispatch h_reports]

theorem grant_view {γ : Type} (v : State → γ)
    (h_table : ∀ t x, v { t with table := x } = v t)
    (h_roster : ∀ t x, v { t with roster := x } = v t)
    (h_bays : ∀ t x, v { t with bays := x } = v t)
    (h_dispatch : ∀ t x, v { t with dispatch := x } = v t)
    (h_launches : ∀ t x, v { t with launches := x } = v t)
    (h_arbiters : ∀ t x, v { t with arbiters := x } = v t)
    (h_brakes : ∀ t x, v { t with brakes := x } = v t)
    (h_channels : ∀ t x, v { t with channels := x } = v t)
    (h_reports : ∀ t x, v { t with reports := x } = v t) (s : State) (b : BlockId) (q : Requester) (p : List BlockId) :
    v (s.grant b q p) = v s := by
  unfold State.grant
  try dsimp only
  (repeat' split) <;> first | rfl | simp only [bayGranted_view v h_bays h_reports, tellRequester_view v h_dispatch h_reports, bookGrant_view v h_arbiters, writeLaunch_view v h_launches, modBrake_view v h_brakes, firePulse_view v h_channels, setEntry_view v h_table h_arbiters, setPath_view v h_roster, reserve_view v h_table h_arbiters]

theorem askFor_view {γ : Type} (v : State → γ)
    (h_table : ∀ t x, v { t with table := x } = v t)
    (h_roster : ∀ t x, v { t with roster := x } = v t)
    (h_bays : ∀ t x, v { t with bays := x } = v t)
    (h_dispatch : ∀ t x, v { t with dispatch := x } = v t)
    (h_launches : ∀ t x, v { t with launches := x } = v t)
    (h_arbiters : ∀ t x, v { t with arbiters := x } = v t)
    (h_brakes : ∀ t x, v { t with brakes := x } = v t)
    (h_channels : ∀ t x, v { t with channels := x } = v t)
    (h_reports : ∀ t x, v { t with reports := x } = v t) {s t : State} {b : BlockId}
    (h : s.askFor b = some t) : v t = v s := by
  have g (a : BlockId) (q : Requester) (p : List BlockId) : v (s.grant a q p) = v s := grant_view v h_table h_roster h_bays h_dispatch h_launches h_arbiters h_brakes h_channels h_reports s a q p
  unfold State.askFor at h
  split at h
  · split at h
    · simp only [Option.some.injEq] at h
      rw [← h, g]
    · simp only [Option.map_eq_some_iff] at h
      obtain ⟨_, _, h⟩ := h
      rw [← h, g]
  · exact absurd h (by simp)

theorem grantLoop_view {γ : Type} (v : State → γ)
    (h_table : ∀ t x, v { t with table := x } = v t)
    (h_roster : ∀ t x, v { t with roster := x } = v t)
    (h_bays : ∀ t x, v { t with bays := x } = v t)
    (h_dispatch : ∀ t x, v { t with dispatch := x } = v t)
    (h_launches : ∀ t x, v { t with launches := x } = v t)
    (h_arbiters : ∀ t x, v { t with arbiters := x } = v t)
    (h_brakes : ∀ t x, v { t with brakes := x } = v t)
    (h_channels : ∀ t x, v { t with channels := x } = v t)
    (h_reports : ∀ t x, v { t with reports := x } = v t) (n : Nat) (s : State) :
    v (grantLoop n s) = v s := by
  induction n generalizing s with
  | zero => rfl
  | succ n ih =>
    unfold grantLoop
    split
    · rename_i t h
      obtain ⟨b, _, hb⟩ := List.exists_of_findSome?_eq_some h
      rw [ih, askFor_view v h_table h_roster h_bays h_dispatch h_launches h_arbiters h_brakes h_channels h_reports hb]
    · rfl

theorem askAll_view {γ : Type} (v : State → γ)
    (h_table : ∀ t x, v { t with table := x } = v t)
    (h_roster : ∀ t x, v { t with roster := x } = v t)
    (h_bays : ∀ t x, v { t with bays := x } = v t)
    (h_dispatch : ∀ t x, v { t with dispatch := x } = v t)
    (h_launches : ∀ t x, v { t with launches := x } = v t)
    (h_arbiters : ∀ t x, v { t with arbiters := x } = v t)
    (h_brakes : ∀ t x, v { t with brakes := x } = v t)
    (h_channels : ∀ t x, v { t with channels := x } = v t)
    (h_reports : ∀ t x, v { t with reports := x } = v t) (s : State) :
    v (s.askAll) = v s := by
  unfold State.askAll
  try dsimp only
  (repeat' split) <;> first | rfl | simp only [grantLoop_view v h_table h_roster h_bays h_dispatch h_launches h_arbiters h_brakes h_channels h_reports]

theorem stall_view {γ : Type} (v : State → γ)
    (h_table : ∀ t x, v { t with table := x } = v t)
    (h_roster : ∀ t x, v { t with roster := x } = v t)
    (h_bays : ∀ t x, v { t with bays := x } = v t)
    (h_dispatch : ∀ t x, v { t with dispatch := x } = v t)
    (h_arbiters : ∀ t x, v { t with arbiters := x } = v t)
    (h_switches : ∀ t x, v { t with switches := x } = v t)
    (h_brakes : ∀ t x, v { t with brakes := x } = v t)
    (h_mc : ∀ t x, v { t with mc := x } = v t)
    (h_reports : ∀ t x, v { t with reports := x } = v t) (s : State) (b : BlockId) :
    v (s.stall b) = v s := by
  unfold State.stall
  try dsimp only
  (repeat' split) <;> first | rfl | simp only [bayReturn_view v h_bays h_reports, raise_view v h_table h_dispatch h_switches h_mc h_reports, modBrake_view v h_brakes, setPath_view v h_roster, clearReserved_view v h_table h_arbiters, setEntry_view v h_table h_arbiters]

theorem resumeRelease_view {γ : Type} (v : State → γ)
    (h_table : ∀ t x, v { t with table := x } = v t)
    (h_roster : ∀ t x, v { t with roster := x } = v t)
    (h_bays : ∀ t x, v { t with bays := x } = v t)
    (h_dispatch : ∀ t x, v { t with dispatch := x } = v t)
    (h_arbiters : ∀ t x, v { t with arbiters := x } = v t)
    (h_switches : ∀ t x, v { t with switches := x } = v t)
    (h_brakes : ∀ t x, v { t with brakes := x } = v t)
    (h_channels : ∀ t x, v { t with channels := x } = v t)
    (h_mc : ∀ t x, v { t with mc := x } = v t)
    (h_reports : ∀ t x, v { t with reports := x } = v t) (s : State) (b : BlockId) :
    v (s.resumeRelease b) = v s := by
  unfold State.resumeRelease
  try dsimp only
  (repeat' split) <;> first | rfl | simp only [stall_view v h_table h_roster h_bays h_dispatch h_arbiters h_switches h_brakes h_mc h_reports, firePulse_view v h_channels, setEntry_view v h_table h_arbiters]

theorem resumeFrozen_view {γ : Type} (v : State → γ)
    (h_table : ∀ t x, v { t with table := x } = v t)
    (h_roster : ∀ t x, v { t with roster := x } = v t)
    (h_bays : ∀ t x, v { t with bays := x } = v t)
    (h_dispatch : ∀ t x, v { t with dispatch := x } = v t)
    (h_arbiters : ∀ t x, v { t with arbiters := x } = v t)
    (h_switches : ∀ t x, v { t with switches := x } = v t)
    (h_brakes : ∀ t x, v { t with brakes := x } = v t)
    (h_channels : ∀ t x, v { t with channels := x } = v t)
    (h_mc : ∀ t x, v { t with mc := x } = v t)
    (h_reports : ∀ t x, v { t with reports := x } = v t) (s : State) :
    v (s.resumeFrozen) = v s :=
  foldl_keeps v _ (fun t b => resumeRelease_view v h_table h_roster h_bays h_dispatch h_arbiters h_switches h_brakes h_channels h_mc h_reports t b) allBlocks s

theorem settle_view {γ : Type} (v : State → γ)
    (h_dispatch : ∀ t x, v { t with dispatch := x } = v t)
    (h_mc : ∀ t x, v { t with mc := x } = v t)
    (h_reports : ∀ t x, v { t with reports := x } = v t) (s : State) :
    v (s.settle) = v s := by
  unfold State.settle
  try dsimp only
  (repeat' split) <;> first | rfl | simp only [changeMode_view v h_dispatch h_mc h_reports]

theorem finish_view {γ : Type} (v : State → γ)
    (h_table : ∀ t x, v { t with table := x } = v t)
    (h_roster : ∀ t x, v { t with roster := x } = v t)
    (h_bays : ∀ t x, v { t with bays := x } = v t)
    (h_dispatch : ∀ t x, v { t with dispatch := x } = v t)
    (h_launches : ∀ t x, v { t with launches := x } = v t)
    (h_arbiters : ∀ t x, v { t with arbiters := x } = v t)
    (h_switches : ∀ t x, v { t with switches := x } = v t)
    (h_brakes : ∀ t x, v { t with brakes := x } = v t)
    (h_channels : ∀ t x, v { t with channels := x } = v t)
    (h_mc : ∀ t x, v { t with mc := x } = v t)
    (h_reports : ∀ t x, v { t with reports := x } = v t) (s : State) :
    v (s.finish) = v s := by
  unfold State.finish
  try dsimp only
  (repeat' split) <;> first | rfl | simp only [settle_view v h_dispatch h_mc h_reports, refreshChannels_view v h_channels, refreshBrakes_view v h_brakes, refreshSwitches_view v h_switches, askAll_view v h_table h_roster h_bays h_dispatch h_launches h_arbiters h_brakes h_channels h_reports]

theorem trapEye1_view {γ : Type} (v : State → γ)
    (h_brakes : ∀ t x, v { t with brakes := x } = v t)
    (h_trapStrays : ∀ t x, v { t with trapStrays := x } = v t) (s : State) (b : BlockId) :
    v (s.trapEye1 b) = v s := by
  unfold State.trapEye1
  try dsimp only
  (repeat' split) <;> first | rfl | simp only [modBrake_view v h_brakes, strayTrap_view v h_trapStrays]

theorem raiseSpeedClamp_view {γ : Type} (v : State → γ)
    (h_table : ∀ t x, v { t with table := x } = v t)
    (h_dispatch : ∀ t x, v { t with dispatch := x } = v t)
    (h_switches : ∀ t x, v { t with switches := x } = v t)
    (h_mc : ∀ t x, v { t with mc := x } = v t)
    (h_reports : ∀ t x, v { t with reports := x } = v t) (s : State) (b : BlockId) (x : BoatId) (r : BrakeResult) (n : Nat) :
    v (s.raiseSpeedClamp b x r n) = v s := by
  unfold State.raiseSpeedClamp
  try dsimp only
  (repeat' split) <;> first | rfl | simp only [raise_view v h_table h_dispatch h_switches h_mc h_reports]

theorem raiseMargin_view {γ : Type} (v : State → γ)
    (h_table : ∀ t x, v { t with table := x } = v t)
    (h_dispatch : ∀ t x, v { t with dispatch := x } = v t)
    (h_switches : ∀ t x, v { t with switches := x } = v t)
    (h_mc : ∀ t x, v { t with mc := x } = v t)
    (h_reports : ∀ t x, v { t with reports := x } = v t) (s : State) (b : BlockId) (x : BoatId) (r : BrakeResult) :
    v (s.raiseMargin b x r) = v s := by
  unfold State.raiseMargin
  try dsimp only
  (repeat' split) <;> first | rfl | simp only [raise_view v h_table h_dispatch h_switches h_mc h_reports]

theorem brakeEvent_view {γ : Type} (v : State → γ)
    (h_table : ∀ t x, v { t with table := x } = v t)
    (h_roster : ∀ t x, v { t with roster := x } = v t)
    (h_dispatch : ∀ t x, v { t with dispatch := x } = v t)
    (h_switches : ∀ t x, v { t with switches := x } = v t)
    (h_brakes : ∀ t x, v { t with brakes := x } = v t)
    (h_mc : ∀ t x, v { t with mc := x } = v t)
    (h_reports : ∀ t x, v { t with reports := x } = v t) (s : State) (b : BlockId) (r : BrakeSection) (p : Passage) (t : Time) :
    v (s.brakeEvent b r p t) = v s := by
  unfold State.brakeEvent
  try dsimp only
  (repeat' split) <;> first | rfl | simp only [raiseMargin_view v h_table h_dispatch h_switches h_mc h_reports, raiseSpeedClamp_view v h_table h_dispatch h_switches h_mc h_reports, append_view v h_reports, modBoat_view v h_roster, modBrake_view v h_brakes]

theorem trapEye2_view {γ : Type} (v : State → γ)
    (h_table : ∀ t x, v { t with table := x } = v t)
    (h_roster : ∀ t x, v { t with roster := x } = v t)
    (h_dispatch : ∀ t x, v { t with dispatch := x } = v t)
    (h_switches : ∀ t x, v { t with switches := x } = v t)
    (h_brakes : ∀ t x, v { t with brakes := x } = v t)
    (h_trapStrays : ∀ t x, v { t with trapStrays := x } = v t)
    (h_mc : ∀ t x, v { t with mc := x } = v t)
    (h_reports : ∀ t x, v { t with reports := x } = v t) (s : State) (b : BlockId) :
    v (s.trapEye2 b) = v s := by
  unfold State.trapEye2
  try dsimp only
  (repeat' split) <;> first | rfl | simp only [brakeEvent_view v h_table h_roster h_dispatch h_switches h_brakes h_mc h_reports, strayTrap_view v h_trapStrays]

theorem trapFails_view {γ : Type} (v : State → γ)
    (h_table : ∀ t x, v { t with table := x } = v t)
    (h_dispatch : ∀ t x, v { t with dispatch := x } = v t)
    (h_switches : ∀ t x, v { t with switches := x } = v t)
    (h_brakes : ∀ t x, v { t with brakes := x } = v t)
    (h_mc : ∀ t x, v { t with mc := x } = v t)
    (h_reports : ∀ t x, v { t with reports := x } = v t) (s : State) (b : BlockId) (r : BrakeSection) (p : Passage) (g : Bool) :
    v (s.trapFails b r p g) = v s := by
  unfold State.trapFails
  try dsimp only
  (repeat' split) <;> first | rfl | simp only [raise_view v h_table h_dispatch h_switches h_mc h_reports, modBrake_view v h_brakes]

theorem trapUnmeasured_view {γ : Type} (v : State → γ)
    (h_table : ∀ t x, v { t with table := x } = v t)
    (h_dispatch : ∀ t x, v { t with dispatch := x } = v t)
    (h_switches : ∀ t x, v { t with switches := x } = v t)
    (h_brakes : ∀ t x, v { t with brakes := x } = v t)
    (h_mc : ∀ t x, v { t with mc := x } = v t)
    (h_reports : ∀ t x, v { t with reports := x } = v t) (s : State) (b : BlockId) :
    v (s.trapUnmeasured b) = v s := by
  unfold State.trapUnmeasured
  try dsimp only
  (repeat' split) <;> first | rfl | simp only [trapFails_view v h_table h_dispatch h_switches h_brakes h_mc h_reports]

theorem openPassage_view {γ : Type} (v : State → γ)
    (h_brakes : ∀ t x, v { t with brakes := x } = v t) (s : State) (b : BlockId) (x : BoatId) :
    v (s.openPassage b x) = v s := by
  unfold State.openPassage
  try dsimp only
  (repeat' split) <;> first | rfl | simp only [modBrake_view v h_brakes]

theorem openTagWindow_view {γ : Type} (v : State → γ)
    (h_tagWindows : ∀ t x, v { t with tagWindows := x } = v t) (s : State) (b : BlockId) (g : Leg) (x : BoatId) :
    v (s.openTagWindow b g x) = v s := by
  unfold State.openTagWindow
  try dsimp only
  (repeat' split) <;> first | rfl | simp only [setTagWindow_view v h_tagWindows]

theorem endTagWindow_view {γ : Type} (v : State → γ)
    (h_table : ∀ t x, v { t with table := x } = v t)
    (h_tagWindows : ∀ t x, v { t with tagWindows := x } = v t)
    (h_dispatch : ∀ t x, v { t with dispatch := x } = v t)
    (h_switches : ∀ t x, v { t with switches := x } = v t)
    (h_mc : ∀ t x, v { t with mc := x } = v t)
    (h_reports : ∀ t x, v { t with reports := x } = v t) (s : State) (b : BlockId) (g : Leg) :
    v (s.endTagWindow b g) = v s := by
  unfold State.endTagWindow
  try dsimp only
  (repeat' split) <;> first | rfl | simp only [raise_view v h_table h_dispatch h_switches h_mc h_reports, setTagWindow_view v h_tagWindows]

theorem takeTag_view {γ : Type} (v : State → γ)
    (h_table : ∀ t x, v { t with table := x } = v t)
    (h_tagWindows : ∀ t x, v { t with tagWindows := x } = v t)
    (h_tagDiscards : ∀ t x, v { t with tagDiscards := x } = v t)
    (h_dispatch : ∀ t x, v { t with dispatch := x } = v t)
    (h_switches : ∀ t x, v { t with switches := x } = v t)
    (h_mc : ∀ t x, v { t with mc := x } = v t)
    (h_reports : ∀ t x, v { t with reports := x } = v t) (s : State) (p : PortId) (n : Nat) :
    v (s.takeTag p n) = v s := by
  unfold State.takeTag
  try dsimp only
  (repeat' split) <;> first | rfl | simp only [discardTag_view v h_tagDiscards, raise_view v h_table h_dispatch h_switches h_mc h_reports, setTagWindow_view v h_tagWindows]

theorem faultAt_view {γ : Type} (v : State → γ)
    (h_table : ∀ t x, v { t with table := x } = v t)
    (h_roster : ∀ t x, v { t with roster := x } = v t)
    (h_bays : ∀ t x, v { t with bays := x } = v t)
    (h_dispatch : ∀ t x, v { t with dispatch := x } = v t)
    (h_arbiters : ∀ t x, v { t with arbiters := x } = v t)
    (h_switches : ∀ t x, v { t with switches := x } = v t)
    (h_brakes : ∀ t x, v { t with brakes := x } = v t)
    (h_mc : ∀ t x, v { t with mc := x } = v t)
    (h_reports : ∀ t x, v { t with reports := x } = v t) (s : State) (k : FaultKind) (b : BlockId) (x : Option BoatId) (d : Details) :
    v (s.faultAt k b x d) = v s := by
  unfold State.faultAt
  try dsimp only
  (repeat' split) <;> first | rfl | simp only [bayFaulted_view v h_bays h_reports, raise_view v h_table h_dispatch h_switches h_mc h_reports, faultBlock_view v h_table h_roster h_arbiters h_switches h_brakes]

theorem endFaultedRecord_view {γ : Type} (v : State → γ)
    (h_table : ∀ t x, v { t with table := x } = v t)
    (h_bays : ∀ t x, v { t with bays := x } = v t)
    (h_dispatch : ∀ t x, v { t with dispatch := x } = v t)
    (h_arbiters : ∀ t x, v { t with arbiters := x } = v t)
    (h_reports : ∀ t x, v { t with reports := x } = v t) (s : State) (b : BlockId) :
    v (s.endFaultedRecord b) = v s := by
  unfold State.endFaultedRecord
  try dsimp only
  (repeat' split) <;> first | rfl | simp only [vacateBay_view v h_bays h_dispatch h_reports, modEntry_view v h_table h_arbiters]

theorem moveNose_view {γ : Type} (v : State → γ)
    (h_table : ∀ t x, v { t with table := x } = v t)
    (h_roster : ∀ t x, v { t with roster := x } = v t)
    (h_arbiters : ∀ t x, v { t with arbiters := x } = v t) (s : State) (p n : BlockId) (x : BoatId) :
    v (s.moveNose p n x) = v s := by
  unfold State.moveNose
  try dsimp only
  (repeat' split) <;> first | rfl | simp only [modEntry_view v h_table h_arbiters, setSlot_view v h_roster, setEntry_view v h_table h_arbiters]

theorem normalArrival_view {γ : Type} (v : State → γ)
    (h_table : ∀ t x, v { t with table := x } = v t)
    (h_passages : ∀ t x, v { t with passages := x } = v t)
    (h_roster : ∀ t x, v { t with roster := x } = v t)
    (h_tagWindows : ∀ t x, v { t with tagWindows := x } = v t)
    (h_bays : ∀ t x, v { t with bays := x } = v t)
    (h_dispatch : ∀ t x, v { t with dispatch := x } = v t)
    (h_arbiters : ∀ t x, v { t with arbiters := x } = v t)
    (h_brakes : ∀ t x, v { t with brakes := x } = v t)
    (h_reports : ∀ t x, v { t with reports := x } = v t) (s : State) (p n : BlockId) (g : Leg) (q : PointId) (x : BoatId) :
    v (s.normalArrival p n g q x) = v s := by
  unfold State.normalArrival
  extract_lets a c a2 b d e f
  have ha : v a = v s := moveNose_view v h_table h_roster h_arbiters s p n x
  have ha2 : v a2 = v s := (h_passages a _).trans ha
  have hb : v b = v s := (passageReport_view v h_reports a2 _ _ _ _ _ _).trans ha2
  have hd : v d = v s := (foldl_keeps v _ (fun t u => endFaultedRecord_view v h_table h_bays h_dispatch h_arbiters h_reports t u) _ _).trans hb
  have he : v e = v s := by
    simp only [e]
    split
    · exact (modBoat_view v h_roster d _ _).trans hd
    · exact hd
  have hf : v f = v s := (openPassage_view v h_brakes _ _ _).trans ((openTagWindow_view v h_tagWindows _ _ _ _).trans he)
  split
  · exact (berth_view v h_bays h_reports f _ _).trans hf
  · exact hf

theorem noseArrival_view {γ : Type} (v : State → γ)
    (h_table : ∀ t x, v { t with table := x } = v t)
    (h_passages : ∀ t x, v { t with passages := x } = v t)
    (h_roster : ∀ t x, v { t with roster := x } = v t)
    (h_tagWindows : ∀ t x, v { t with tagWindows := x } = v t)
    (h_bays : ∀ t x, v { t with bays := x } = v t)
    (h_dispatch : ∀ t x, v { t with dispatch := x } = v t)
    (h_arbiters : ∀ t x, v { t with arbiters := x } = v t)
    (h_switches : ∀ t x, v { t with switches := x } = v t)
    (h_brakes : ∀ t x, v { t with brakes := x } = v t)
    (h_mc : ∀ t x, v { t with mc := x } = v t)
    (h_reports : ∀ t x, v { t with reports := x } = v t) (s : State) (b : BlockId) (g : Leg) (q : PointId) :
    v (s.noseArrival b g q) = v s := by
  unfold State.noseArrival
  try dsimp only
  (repeat' split) <;> first | rfl | simp only [normalArrival_view v h_table h_passages h_roster h_tagWindows h_bays h_dispatch h_arbiters h_brakes h_reports, faultAt_view v h_table h_roster h_bays h_dispatch h_arbiters h_switches h_brakes h_mc h_reports, raise_view v h_table h_dispatch h_switches h_mc h_reports, passageReport_view v h_reports]

theorem tailClearance_view {γ : Type} (v : State → γ)
    (h_table : ∀ t x, v { t with table := x } = v t)
    (h_tagWindows : ∀ t x, v { t with tagWindows := x } = v t)
    (h_bays : ∀ t x, v { t with bays := x } = v t)
    (h_dispatch : ∀ t x, v { t with dispatch := x } = v t)
    (h_arbiters : ∀ t x, v { t with arbiters := x } = v t)
    (h_switches : ∀ t x, v { t with switches := x } = v t)
    (h_brakes : ∀ t x, v { t with brakes := x } = v t)
    (h_mc : ∀ t x, v { t with mc := x } = v t)
    (h_reports : ∀ t x, v { t with reports := x } = v t) (s : State) (b : BlockId) (g : Leg) (q : PointId) :
    v (s.tailClearance b g q) = v s := by
  unfold State.tailClearance
  try dsimp only
  (repeat' split) <;> first | rfl | simp only [entryCleared_view v h_bays h_reports, vacateBay_view v h_bays h_dispatch h_reports, trapUnmeasured_view v h_table h_dispatch h_switches h_brakes h_mc h_reports, endTagWindow_view v h_table h_tagWindows h_dispatch h_switches h_mc h_reports, raise_view v h_table h_dispatch h_switches h_mc h_reports, passageReport_view v h_reports, setEntry_view v h_table h_arbiters]

theorem transitEvent_view {γ : Type} (v : State → γ)
    (h_table : ∀ t x, v { t with table := x } = v t)
    (h_roster : ∀ t x, v { t with roster := x } = v t)
    (h_bays : ∀ t x, v { t with bays := x } = v t)
    (h_dispatch : ∀ t x, v { t with dispatch := x } = v t)
    (h_arbiters : ∀ t x, v { t with arbiters := x } = v t)
    (h_switches : ∀ t x, v { t with switches := x } = v t)
    (h_brakes : ∀ t x, v { t with brakes := x } = v t)
    (h_channels : ∀ t x, v { t with channels := x } = v t)
    (h_mc : ∀ t x, v { t with mc := x } = v t)
    (h_reports : ∀ t x, v { t with reports := x } = v t) (s : State) (b : BlockId) (d : Time) :
    v (s.transitEvent b d) = v s := by
  unfold State.transitEvent
  try dsimp only
  (repeat' split) <;> first | rfl | simp only [firePulse_view v h_channels, setEntry_view v h_table h_arbiters, stall_view v h_table h_roster h_bays h_dispatch h_arbiters h_switches h_brakes h_mc h_reports]

theorem positionEdge_view {γ : Type} (v : State → γ)
    (h_switches : ∀ t x, v { t with switches := x } = v t) (s : State) (b : BlockId) :
    v (s.positionEdge b) = v s := by
  unfold State.positionEdge
  try dsimp only
  (repeat' split) <;> first | rfl | simp only [modSwitch_view v h_switches]

theorem deliverEdge_view {γ : Type} (v : State → γ)
    (h_table : ∀ t x, v { t with table := x } = v t)
    (h_passages : ∀ t x, v { t with passages := x } = v t)
    (h_roster : ∀ t x, v { t with roster := x } = v t)
    (h_tagWindows : ∀ t x, v { t with tagWindows := x } = v t)
    (h_bays : ∀ t x, v { t with bays := x } = v t)
    (h_dispatch : ∀ t x, v { t with dispatch := x } = v t)
    (h_arbiters : ∀ t x, v { t with arbiters := x } = v t)
    (h_switches : ∀ t x, v { t with switches := x } = v t)
    (h_brakes : ∀ t x, v { t with brakes := x } = v t)
    (h_trapStrays : ∀ t x, v { t with trapStrays := x } = v t)
    (h_mc : ∀ t x, v { t with mc := x } = v t)
    (h_reports : ∀ t x, v { t with reports := x } = v t) (s : State) (q : PointId) (on : Bool) :
    v (s.deliverEdge q on) = v s := by
  unfold State.deliverEdge
  try dsimp only
  (repeat' split) <;> first | rfl | simp only [noseArrival_view v h_table h_passages h_roster h_tagWindows h_bays h_dispatch h_arbiters h_switches h_brakes h_mc h_reports, tailClearance_view v h_table h_tagWindows h_bays h_dispatch h_arbiters h_switches h_brakes h_mc h_reports, trapEye1_view v h_brakes h_trapStrays, trapEye2_view v h_table h_roster h_dispatch h_switches h_brakes h_trapStrays h_mc h_reports, positionEdge_view v h_switches]

theorem driveFault_view {γ : Type} (v : State → γ)
    (h_table : ∀ t x, v { t with table := x } = v t)
    (h_roster : ∀ t x, v { t with roster := x } = v t)
    (h_bays : ∀ t x, v { t with bays := x } = v t)
    (h_dispatch : ∀ t x, v { t with dispatch := x } = v t)
    (h_arbiters : ∀ t x, v { t with arbiters := x } = v t)
    (h_switches : ∀ t x, v { t with switches := x } = v t)
    (h_brakes : ∀ t x, v { t with brakes := x } = v t)
    (h_mc : ∀ t x, v { t with mc := x } = v t)
    (h_reports : ∀ t x, v { t with reports := x } = v t) (s : State) (k : FaultKind) (b : BlockId) (d : Details) :
    v (s.driveFault k b d) = v s := by
  unfold State.driveFault
  try dsimp only
  (repeat' split) <;> first | rfl | simp only [faultAt_view v h_table h_roster h_bays h_dispatch h_arbiters h_switches h_brakes h_mc h_reports, raise_view v h_table h_dispatch h_switches h_mc h_reports, modSwitch_view v h_switches]

/-! ### The fields kept -/

@[simp] theorem modBoat_pending (s : State) (x : BoatId) (f : Boat → Boat) : (s.modBoat x f).pending = s.pending :=
  modBoat_view State.pending (fun _ _ => rfl) s x f
@[simp] theorem modBoat_timeBase (s : State) (x : BoatId) (f : Boat → Boat) : (s.modBoat x f).timeBase = s.timeBase :=
  modBoat_view State.timeBase (fun _ _ => rfl) s x f
@[simp] theorem modBoat_rate (s : State) (x : BoatId) (f : Boat → Boat) : (s.modBoat x f).rate = s.rate :=
  modBoat_view State.rate (fun _ _ => rfl) s x f
@[simp] theorem modBoat_ports (s : State) (x : BoatId) (f : Boat → Boat) : (s.modBoat x f).ports = s.ports :=
  modBoat_view State.ports (fun _ _ => rfl) s x f
@[simp] theorem modBoat_windows (s : State) (x : BoatId) (f : Boat → Boat) : (s.modBoat x f).windows = s.windows :=
  modBoat_view State.windows (fun _ _ => rfl) s x f
@[simp] theorem modBoat_layout (s : State) (x : BoatId) (f : Boat → Boat) : (s.modBoat x f).layout = s.layout :=
  modBoat_view State.layout (fun _ _ => rfl) s x f
@[simp] theorem modBoat_table (s : State) (x : BoatId) (f : Boat → Boat) : (s.modBoat x f).table = s.table :=
  modBoat_view State.table (fun _ _ => rfl) s x f
@[simp] theorem modBoat_passages (s : State) (x : BoatId) (f : Boat → Boat) : (s.modBoat x f).passages = s.passages :=
  modBoat_view State.passages (fun _ _ => rfl) s x f
@[simp] theorem modBoat_tagWindows (s : State) (x : BoatId) (f : Boat → Boat) : (s.modBoat x f).tagWindows = s.tagWindows :=
  modBoat_view State.tagWindows (fun _ _ => rfl) s x f
@[simp] theorem modBoat_tagDiscards (s : State) (x : BoatId) (f : Boat → Boat) : (s.modBoat x f).tagDiscards = s.tagDiscards :=
  modBoat_view State.tagDiscards (fun _ _ => rfl) s x f
@[simp] theorem modBoat_bays (s : State) (x : BoatId) (f : Boat → Boat) : (s.modBoat x f).bays = s.bays :=
  modBoat_view State.bays (fun _ _ => rfl) s x f
@[simp] theorem modBoat_dispatch (s : State) (x : BoatId) (f : Boat → Boat) : (s.modBoat x f).dispatch = s.dispatch :=
  modBoat_view State.dispatch (fun _ _ => rfl) s x f
@[simp] theorem modBoat_nextDispatch (s : State) (x : BoatId) (f : Boat → Boat) : (s.modBoat x f).nextDispatch = s.nextDispatch :=
  modBoat_view State.nextDispatch (fun _ _ => rfl) s x f
@[simp] theorem modBoat_launches (s : State) (x : BoatId) (f : Boat → Boat) : (s.modBoat x f).launches = s.launches :=
  modBoat_view State.launches (fun _ _ => rfl) s x f
@[simp] theorem modBoat_arbiters (s : State) (x : BoatId) (f : Boat → Boat) : (s.modBoat x f).arbiters = s.arbiters :=
  modBoat_view State.arbiters (fun _ _ => rfl) s x f
@[simp] theorem modBoat_switches (s : State) (x : BoatId) (f : Boat → Boat) : (s.modBoat x f).switches = s.switches :=
  modBoat_view State.switches (fun _ _ => rfl) s x f
@[simp] theorem modBoat_brakes (s : State) (x : BoatId) (f : Boat → Boat) : (s.modBoat x f).brakes = s.brakes :=
  modBoat_view State.brakes (fun _ _ => rfl) s x f
@[simp] theorem modBoat_trapStrays (s : State) (x : BoatId) (f : Boat → Boat) : (s.modBoat x f).trapStrays = s.trapStrays :=
  modBoat_view State.trapStrays (fun _ _ => rfl) s x f
@[simp] theorem modBoat_points (s : State) (x : BoatId) (f : Boat → Boat) : (s.modBoat x f).points = s.points :=
  modBoat_view State.points (fun _ _ => rfl) s x f
@[simp] theorem modBoat_channels (s : State) (x : BoatId) (f : Boat → Boat) : (s.modBoat x f).channels = s.channels :=
  modBoat_view State.channels (fun _ _ => rfl) s x f
@[simp] theorem modBoat_mc (s : State) (x : BoatId) (f : Boat → Boat) : (s.modBoat x f).mc = s.mc :=
  modBoat_view State.mc (fun _ _ => rfl) s x f
@[simp] theorem modBoat_reports (s : State) (x : BoatId) (f : Boat → Boat) : (s.modBoat x f).reports = s.reports :=
  modBoat_view State.reports (fun _ _ => rfl) s x f
@[simp] theorem setPath_pending (s : State) (x : BoatId) (p : List BlockId) : (s.setPath x p).pending = s.pending :=
  setPath_view State.pending (fun _ _ => rfl) s x p
@[simp] theorem setPath_timeBase (s : State) (x : BoatId) (p : List BlockId) : (s.setPath x p).timeBase = s.timeBase :=
  setPath_view State.timeBase (fun _ _ => rfl) s x p
@[simp] theorem setPath_rate (s : State) (x : BoatId) (p : List BlockId) : (s.setPath x p).rate = s.rate :=
  setPath_view State.rate (fun _ _ => rfl) s x p
@[simp] theorem setPath_ports (s : State) (x : BoatId) (p : List BlockId) : (s.setPath x p).ports = s.ports :=
  setPath_view State.ports (fun _ _ => rfl) s x p
@[simp] theorem setPath_windows (s : State) (x : BoatId) (p : List BlockId) : (s.setPath x p).windows = s.windows :=
  setPath_view State.windows (fun _ _ => rfl) s x p
@[simp] theorem setPath_layout (s : State) (x : BoatId) (p : List BlockId) : (s.setPath x p).layout = s.layout :=
  setPath_view State.layout (fun _ _ => rfl) s x p
@[simp] theorem setPath_table (s : State) (x : BoatId) (p : List BlockId) : (s.setPath x p).table = s.table :=
  setPath_view State.table (fun _ _ => rfl) s x p
@[simp] theorem setPath_passages (s : State) (x : BoatId) (p : List BlockId) : (s.setPath x p).passages = s.passages :=
  setPath_view State.passages (fun _ _ => rfl) s x p
@[simp] theorem setPath_tagWindows (s : State) (x : BoatId) (p : List BlockId) : (s.setPath x p).tagWindows = s.tagWindows :=
  setPath_view State.tagWindows (fun _ _ => rfl) s x p
@[simp] theorem setPath_tagDiscards (s : State) (x : BoatId) (p : List BlockId) : (s.setPath x p).tagDiscards = s.tagDiscards :=
  setPath_view State.tagDiscards (fun _ _ => rfl) s x p
@[simp] theorem setPath_bays (s : State) (x : BoatId) (p : List BlockId) : (s.setPath x p).bays = s.bays :=
  setPath_view State.bays (fun _ _ => rfl) s x p
@[simp] theorem setPath_dispatch (s : State) (x : BoatId) (p : List BlockId) : (s.setPath x p).dispatch = s.dispatch :=
  setPath_view State.dispatch (fun _ _ => rfl) s x p
@[simp] theorem setPath_nextDispatch (s : State) (x : BoatId) (p : List BlockId) : (s.setPath x p).nextDispatch = s.nextDispatch :=
  setPath_view State.nextDispatch (fun _ _ => rfl) s x p
@[simp] theorem setPath_launches (s : State) (x : BoatId) (p : List BlockId) : (s.setPath x p).launches = s.launches :=
  setPath_view State.launches (fun _ _ => rfl) s x p
@[simp] theorem setPath_arbiters (s : State) (x : BoatId) (p : List BlockId) : (s.setPath x p).arbiters = s.arbiters :=
  setPath_view State.arbiters (fun _ _ => rfl) s x p
@[simp] theorem setPath_switches (s : State) (x : BoatId) (p : List BlockId) : (s.setPath x p).switches = s.switches :=
  setPath_view State.switches (fun _ _ => rfl) s x p
@[simp] theorem setPath_brakes (s : State) (x : BoatId) (p : List BlockId) : (s.setPath x p).brakes = s.brakes :=
  setPath_view State.brakes (fun _ _ => rfl) s x p
@[simp] theorem setPath_trapStrays (s : State) (x : BoatId) (p : List BlockId) : (s.setPath x p).trapStrays = s.trapStrays :=
  setPath_view State.trapStrays (fun _ _ => rfl) s x p
@[simp] theorem setPath_points (s : State) (x : BoatId) (p : List BlockId) : (s.setPath x p).points = s.points :=
  setPath_view State.points (fun _ _ => rfl) s x p
@[simp] theorem setPath_channels (s : State) (x : BoatId) (p : List BlockId) : (s.setPath x p).channels = s.channels :=
  setPath_view State.channels (fun _ _ => rfl) s x p
@[simp] theorem setPath_mc (s : State) (x : BoatId) (p : List BlockId) : (s.setPath x p).mc = s.mc :=
  setPath_view State.mc (fun _ _ => rfl) s x p
@[simp] theorem setPath_reports (s : State) (x : BoatId) (p : List BlockId) : (s.setPath x p).reports = s.reports :=
  setPath_view State.reports (fun _ _ => rfl) s x p
@[simp] theorem refreshBrakes_pending (s : State) : (s.refreshBrakes).pending = s.pending :=
  refreshBrakes_view State.pending (fun _ _ => rfl) s
@[simp] theorem refreshBrakes_timeBase (s : State) : (s.refreshBrakes).timeBase = s.timeBase :=
  refreshBrakes_view State.timeBase (fun _ _ => rfl) s
@[simp] theorem refreshBrakes_rate (s : State) : (s.refreshBrakes).rate = s.rate :=
  refreshBrakes_view State.rate (fun _ _ => rfl) s
@[simp] theorem refreshBrakes_ports (s : State) : (s.refreshBrakes).ports = s.ports :=
  refreshBrakes_view State.ports (fun _ _ => rfl) s
@[simp] theorem refreshBrakes_windows (s : State) : (s.refreshBrakes).windows = s.windows :=
  refreshBrakes_view State.windows (fun _ _ => rfl) s
@[simp] theorem refreshBrakes_layout (s : State) : (s.refreshBrakes).layout = s.layout :=
  refreshBrakes_view State.layout (fun _ _ => rfl) s
@[simp] theorem refreshBrakes_table (s : State) : (s.refreshBrakes).table = s.table :=
  refreshBrakes_view State.table (fun _ _ => rfl) s
@[simp] theorem refreshBrakes_passages (s : State) : (s.refreshBrakes).passages = s.passages :=
  refreshBrakes_view State.passages (fun _ _ => rfl) s
@[simp] theorem refreshBrakes_roster (s : State) : (s.refreshBrakes).roster = s.roster :=
  refreshBrakes_view State.roster (fun _ _ => rfl) s
@[simp] theorem refreshBrakes_tagWindows (s : State) : (s.refreshBrakes).tagWindows = s.tagWindows :=
  refreshBrakes_view State.tagWindows (fun _ _ => rfl) s
@[simp] theorem refreshBrakes_tagDiscards (s : State) : (s.refreshBrakes).tagDiscards = s.tagDiscards :=
  refreshBrakes_view State.tagDiscards (fun _ _ => rfl) s
@[simp] theorem refreshBrakes_bays (s : State) : (s.refreshBrakes).bays = s.bays :=
  refreshBrakes_view State.bays (fun _ _ => rfl) s
@[simp] theorem refreshBrakes_dispatch (s : State) : (s.refreshBrakes).dispatch = s.dispatch :=
  refreshBrakes_view State.dispatch (fun _ _ => rfl) s
@[simp] theorem refreshBrakes_nextDispatch (s : State) : (s.refreshBrakes).nextDispatch = s.nextDispatch :=
  refreshBrakes_view State.nextDispatch (fun _ _ => rfl) s
@[simp] theorem refreshBrakes_launches (s : State) : (s.refreshBrakes).launches = s.launches :=
  refreshBrakes_view State.launches (fun _ _ => rfl) s
@[simp] theorem refreshBrakes_arbiters (s : State) : (s.refreshBrakes).arbiters = s.arbiters :=
  refreshBrakes_view State.arbiters (fun _ _ => rfl) s
@[simp] theorem refreshBrakes_switches (s : State) : (s.refreshBrakes).switches = s.switches :=
  refreshBrakes_view State.switches (fun _ _ => rfl) s
@[simp] theorem refreshBrakes_trapStrays (s : State) : (s.refreshBrakes).trapStrays = s.trapStrays :=
  refreshBrakes_view State.trapStrays (fun _ _ => rfl) s
@[simp] theorem refreshBrakes_points (s : State) : (s.refreshBrakes).points = s.points :=
  refreshBrakes_view State.points (fun _ _ => rfl) s
@[simp] theorem refreshBrakes_channels (s : State) : (s.refreshBrakes).channels = s.channels :=
  refreshBrakes_view State.channels (fun _ _ => rfl) s
@[simp] theorem refreshBrakes_mc (s : State) : (s.refreshBrakes).mc = s.mc :=
  refreshBrakes_view State.mc (fun _ _ => rfl) s
@[simp] theorem refreshBrakes_reports (s : State) : (s.refreshBrakes).reports = s.reports :=
  refreshBrakes_view State.reports (fun _ _ => rfl) s
@[simp] theorem refreshSwitches_pending (s : State) : (s.refreshSwitches).pending = s.pending :=
  refreshSwitches_view State.pending (fun _ _ => rfl) s
@[simp] theorem refreshSwitches_timeBase (s : State) : (s.refreshSwitches).timeBase = s.timeBase :=
  refreshSwitches_view State.timeBase (fun _ _ => rfl) s
@[simp] theorem refreshSwitches_rate (s : State) : (s.refreshSwitches).rate = s.rate :=
  refreshSwitches_view State.rate (fun _ _ => rfl) s
@[simp] theorem refreshSwitches_ports (s : State) : (s.refreshSwitches).ports = s.ports :=
  refreshSwitches_view State.ports (fun _ _ => rfl) s
@[simp] theorem refreshSwitches_windows (s : State) : (s.refreshSwitches).windows = s.windows :=
  refreshSwitches_view State.windows (fun _ _ => rfl) s
@[simp] theorem refreshSwitches_layout (s : State) : (s.refreshSwitches).layout = s.layout :=
  refreshSwitches_view State.layout (fun _ _ => rfl) s
@[simp] theorem refreshSwitches_table (s : State) : (s.refreshSwitches).table = s.table :=
  refreshSwitches_view State.table (fun _ _ => rfl) s
@[simp] theorem refreshSwitches_passages (s : State) : (s.refreshSwitches).passages = s.passages :=
  refreshSwitches_view State.passages (fun _ _ => rfl) s
@[simp] theorem refreshSwitches_roster (s : State) : (s.refreshSwitches).roster = s.roster :=
  refreshSwitches_view State.roster (fun _ _ => rfl) s
@[simp] theorem refreshSwitches_tagWindows (s : State) : (s.refreshSwitches).tagWindows = s.tagWindows :=
  refreshSwitches_view State.tagWindows (fun _ _ => rfl) s
@[simp] theorem refreshSwitches_tagDiscards (s : State) : (s.refreshSwitches).tagDiscards = s.tagDiscards :=
  refreshSwitches_view State.tagDiscards (fun _ _ => rfl) s
@[simp] theorem refreshSwitches_bays (s : State) : (s.refreshSwitches).bays = s.bays :=
  refreshSwitches_view State.bays (fun _ _ => rfl) s
@[simp] theorem refreshSwitches_dispatch (s : State) : (s.refreshSwitches).dispatch = s.dispatch :=
  refreshSwitches_view State.dispatch (fun _ _ => rfl) s
@[simp] theorem refreshSwitches_nextDispatch (s : State) : (s.refreshSwitches).nextDispatch = s.nextDispatch :=
  refreshSwitches_view State.nextDispatch (fun _ _ => rfl) s
@[simp] theorem refreshSwitches_launches (s : State) : (s.refreshSwitches).launches = s.launches :=
  refreshSwitches_view State.launches (fun _ _ => rfl) s
@[simp] theorem refreshSwitches_arbiters (s : State) : (s.refreshSwitches).arbiters = s.arbiters :=
  refreshSwitches_view State.arbiters (fun _ _ => rfl) s
@[simp] theorem refreshSwitches_brakes (s : State) : (s.refreshSwitches).brakes = s.brakes :=
  refreshSwitches_view State.brakes (fun _ _ => rfl) s
@[simp] theorem refreshSwitches_trapStrays (s : State) : (s.refreshSwitches).trapStrays = s.trapStrays :=
  refreshSwitches_view State.trapStrays (fun _ _ => rfl) s
@[simp] theorem refreshSwitches_points (s : State) : (s.refreshSwitches).points = s.points :=
  refreshSwitches_view State.points (fun _ _ => rfl) s
@[simp] theorem refreshSwitches_channels (s : State) : (s.refreshSwitches).channels = s.channels :=
  refreshSwitches_view State.channels (fun _ _ => rfl) s
@[simp] theorem refreshSwitches_mc (s : State) : (s.refreshSwitches).mc = s.mc :=
  refreshSwitches_view State.mc (fun _ _ => rfl) s
@[simp] theorem refreshSwitches_reports (s : State) : (s.refreshSwitches).reports = s.reports :=
  refreshSwitches_view State.reports (fun _ _ => rfl) s
@[simp] theorem refreshChannels_pending (s : State) : (s.refreshChannels).pending = s.pending :=
  refreshChannels_view State.pending (fun _ _ => rfl) s
@[simp] theorem refreshChannels_timeBase (s : State) : (s.refreshChannels).timeBase = s.timeBase :=
  refreshChannels_view State.timeBase (fun _ _ => rfl) s
@[simp] theorem refreshChannels_rate (s : State) : (s.refreshChannels).rate = s.rate :=
  refreshChannels_view State.rate (fun _ _ => rfl) s
@[simp] theorem refreshChannels_ports (s : State) : (s.refreshChannels).ports = s.ports :=
  refreshChannels_view State.ports (fun _ _ => rfl) s
@[simp] theorem refreshChannels_windows (s : State) : (s.refreshChannels).windows = s.windows :=
  refreshChannels_view State.windows (fun _ _ => rfl) s
@[simp] theorem refreshChannels_layout (s : State) : (s.refreshChannels).layout = s.layout :=
  refreshChannels_view State.layout (fun _ _ => rfl) s
@[simp] theorem refreshChannels_table (s : State) : (s.refreshChannels).table = s.table :=
  refreshChannels_view State.table (fun _ _ => rfl) s
@[simp] theorem refreshChannels_passages (s : State) : (s.refreshChannels).passages = s.passages :=
  refreshChannels_view State.passages (fun _ _ => rfl) s
@[simp] theorem refreshChannels_roster (s : State) : (s.refreshChannels).roster = s.roster :=
  refreshChannels_view State.roster (fun _ _ => rfl) s
@[simp] theorem refreshChannels_tagWindows (s : State) : (s.refreshChannels).tagWindows = s.tagWindows :=
  refreshChannels_view State.tagWindows (fun _ _ => rfl) s
@[simp] theorem refreshChannels_tagDiscards (s : State) : (s.refreshChannels).tagDiscards = s.tagDiscards :=
  refreshChannels_view State.tagDiscards (fun _ _ => rfl) s
@[simp] theorem refreshChannels_bays (s : State) : (s.refreshChannels).bays = s.bays :=
  refreshChannels_view State.bays (fun _ _ => rfl) s
@[simp] theorem refreshChannels_dispatch (s : State) : (s.refreshChannels).dispatch = s.dispatch :=
  refreshChannels_view State.dispatch (fun _ _ => rfl) s
@[simp] theorem refreshChannels_nextDispatch (s : State) : (s.refreshChannels).nextDispatch = s.nextDispatch :=
  refreshChannels_view State.nextDispatch (fun _ _ => rfl) s
@[simp] theorem refreshChannels_launches (s : State) : (s.refreshChannels).launches = s.launches :=
  refreshChannels_view State.launches (fun _ _ => rfl) s
@[simp] theorem refreshChannels_arbiters (s : State) : (s.refreshChannels).arbiters = s.arbiters :=
  refreshChannels_view State.arbiters (fun _ _ => rfl) s
@[simp] theorem refreshChannels_switches (s : State) : (s.refreshChannels).switches = s.switches :=
  refreshChannels_view State.switches (fun _ _ => rfl) s
@[simp] theorem refreshChannels_brakes (s : State) : (s.refreshChannels).brakes = s.brakes :=
  refreshChannels_view State.brakes (fun _ _ => rfl) s
@[simp] theorem refreshChannels_trapStrays (s : State) : (s.refreshChannels).trapStrays = s.trapStrays :=
  refreshChannels_view State.trapStrays (fun _ _ => rfl) s
@[simp] theorem refreshChannels_points (s : State) : (s.refreshChannels).points = s.points :=
  refreshChannels_view State.points (fun _ _ => rfl) s
@[simp] theorem refreshChannels_mc (s : State) : (s.refreshChannels).mc = s.mc :=
  refreshChannels_view State.mc (fun _ _ => rfl) s
@[simp] theorem refreshChannels_reports (s : State) : (s.refreshChannels).reports = s.reports :=
  refreshChannels_view State.reports (fun _ _ => rfl) s
@[simp] theorem append_pending (s : State) (k : ReportKind) (f : Option (FaultKind × FaultClass)) (b : Option BlockId) (x : Option BoatId) (d : Details) : (s.append k f b x d).pending = s.pending :=
  append_view State.pending (fun _ _ => rfl) s k f b x d
@[simp] theorem append_timeBase (s : State) (k : ReportKind) (f : Option (FaultKind × FaultClass)) (b : Option BlockId) (x : Option BoatId) (d : Details) : (s.append k f b x d).timeBase = s.timeBase :=
  append_view State.timeBase (fun _ _ => rfl) s k f b x d
@[simp] theorem append_rate (s : State) (k : ReportKind) (f : Option (FaultKind × FaultClass)) (b : Option BlockId) (x : Option BoatId) (d : Details) : (s.append k f b x d).rate = s.rate :=
  append_view State.rate (fun _ _ => rfl) s k f b x d
@[simp] theorem append_ports (s : State) (k : ReportKind) (f : Option (FaultKind × FaultClass)) (b : Option BlockId) (x : Option BoatId) (d : Details) : (s.append k f b x d).ports = s.ports :=
  append_view State.ports (fun _ _ => rfl) s k f b x d
@[simp] theorem append_windows (s : State) (k : ReportKind) (f : Option (FaultKind × FaultClass)) (b : Option BlockId) (x : Option BoatId) (d : Details) : (s.append k f b x d).windows = s.windows :=
  append_view State.windows (fun _ _ => rfl) s k f b x d
@[simp] theorem append_layout (s : State) (k : ReportKind) (f : Option (FaultKind × FaultClass)) (b : Option BlockId) (x : Option BoatId) (d : Details) : (s.append k f b x d).layout = s.layout :=
  append_view State.layout (fun _ _ => rfl) s k f b x d
@[simp] theorem append_table (s : State) (k : ReportKind) (f : Option (FaultKind × FaultClass)) (b : Option BlockId) (x : Option BoatId) (d : Details) : (s.append k f b x d).table = s.table :=
  append_view State.table (fun _ _ => rfl) s k f b x d
@[simp] theorem append_passages (s : State) (k : ReportKind) (f : Option (FaultKind × FaultClass)) (b : Option BlockId) (x : Option BoatId) (d : Details) : (s.append k f b x d).passages = s.passages :=
  append_view State.passages (fun _ _ => rfl) s k f b x d
@[simp] theorem append_roster (s : State) (k : ReportKind) (f : Option (FaultKind × FaultClass)) (b : Option BlockId) (x : Option BoatId) (d : Details) : (s.append k f b x d).roster = s.roster :=
  append_view State.roster (fun _ _ => rfl) s k f b x d
@[simp] theorem append_tagWindows (s : State) (k : ReportKind) (f : Option (FaultKind × FaultClass)) (b : Option BlockId) (x : Option BoatId) (d : Details) : (s.append k f b x d).tagWindows = s.tagWindows :=
  append_view State.tagWindows (fun _ _ => rfl) s k f b x d
@[simp] theorem append_tagDiscards (s : State) (k : ReportKind) (f : Option (FaultKind × FaultClass)) (b : Option BlockId) (x : Option BoatId) (d : Details) : (s.append k f b x d).tagDiscards = s.tagDiscards :=
  append_view State.tagDiscards (fun _ _ => rfl) s k f b x d
@[simp] theorem append_bays (s : State) (k : ReportKind) (f : Option (FaultKind × FaultClass)) (b : Option BlockId) (x : Option BoatId) (d : Details) : (s.append k f b x d).bays = s.bays :=
  append_view State.bays (fun _ _ => rfl) s k f b x d
@[simp] theorem append_dispatch (s : State) (k : ReportKind) (f : Option (FaultKind × FaultClass)) (b : Option BlockId) (x : Option BoatId) (d : Details) : (s.append k f b x d).dispatch = s.dispatch :=
  append_view State.dispatch (fun _ _ => rfl) s k f b x d
@[simp] theorem append_nextDispatch (s : State) (k : ReportKind) (f : Option (FaultKind × FaultClass)) (b : Option BlockId) (x : Option BoatId) (d : Details) : (s.append k f b x d).nextDispatch = s.nextDispatch :=
  append_view State.nextDispatch (fun _ _ => rfl) s k f b x d
@[simp] theorem append_launches (s : State) (k : ReportKind) (f : Option (FaultKind × FaultClass)) (b : Option BlockId) (x : Option BoatId) (d : Details) : (s.append k f b x d).launches = s.launches :=
  append_view State.launches (fun _ _ => rfl) s k f b x d
@[simp] theorem append_arbiters (s : State) (k : ReportKind) (f : Option (FaultKind × FaultClass)) (b : Option BlockId) (x : Option BoatId) (d : Details) : (s.append k f b x d).arbiters = s.arbiters :=
  append_view State.arbiters (fun _ _ => rfl) s k f b x d
@[simp] theorem append_switches (s : State) (k : ReportKind) (f : Option (FaultKind × FaultClass)) (b : Option BlockId) (x : Option BoatId) (d : Details) : (s.append k f b x d).switches = s.switches :=
  append_view State.switches (fun _ _ => rfl) s k f b x d
@[simp] theorem append_brakes (s : State) (k : ReportKind) (f : Option (FaultKind × FaultClass)) (b : Option BlockId) (x : Option BoatId) (d : Details) : (s.append k f b x d).brakes = s.brakes :=
  append_view State.brakes (fun _ _ => rfl) s k f b x d
@[simp] theorem append_trapStrays (s : State) (k : ReportKind) (f : Option (FaultKind × FaultClass)) (b : Option BlockId) (x : Option BoatId) (d : Details) : (s.append k f b x d).trapStrays = s.trapStrays :=
  append_view State.trapStrays (fun _ _ => rfl) s k f b x d
@[simp] theorem append_points (s : State) (k : ReportKind) (f : Option (FaultKind × FaultClass)) (b : Option BlockId) (x : Option BoatId) (d : Details) : (s.append k f b x d).points = s.points :=
  append_view State.points (fun _ _ => rfl) s k f b x d
@[simp] theorem append_channels (s : State) (k : ReportKind) (f : Option (FaultKind × FaultClass)) (b : Option BlockId) (x : Option BoatId) (d : Details) : (s.append k f b x d).channels = s.channels :=
  append_view State.channels (fun _ _ => rfl) s k f b x d
@[simp] theorem append_mc (s : State) (k : ReportKind) (f : Option (FaultKind × FaultClass)) (b : Option BlockId) (x : Option BoatId) (d : Details) : (s.append k f b x d).mc = s.mc :=
  append_view State.mc (fun _ _ => rfl) s k f b x d
@[simp] theorem dispatchReport_pending (s : State) (e : DispatchEntry) (ev : DispatchEvent) (i j : Nat) : (s.dispatchReport e ev i j).pending = s.pending :=
  dispatchReport_view State.pending (fun _ _ => rfl) s e ev i j
@[simp] theorem dispatchReport_timeBase (s : State) (e : DispatchEntry) (ev : DispatchEvent) (i j : Nat) : (s.dispatchReport e ev i j).timeBase = s.timeBase :=
  dispatchReport_view State.timeBase (fun _ _ => rfl) s e ev i j
@[simp] theorem dispatchReport_rate (s : State) (e : DispatchEntry) (ev : DispatchEvent) (i j : Nat) : (s.dispatchReport e ev i j).rate = s.rate :=
  dispatchReport_view State.rate (fun _ _ => rfl) s e ev i j
@[simp] theorem dispatchReport_ports (s : State) (e : DispatchEntry) (ev : DispatchEvent) (i j : Nat) : (s.dispatchReport e ev i j).ports = s.ports :=
  dispatchReport_view State.ports (fun _ _ => rfl) s e ev i j
@[simp] theorem dispatchReport_windows (s : State) (e : DispatchEntry) (ev : DispatchEvent) (i j : Nat) : (s.dispatchReport e ev i j).windows = s.windows :=
  dispatchReport_view State.windows (fun _ _ => rfl) s e ev i j
@[simp] theorem dispatchReport_layout (s : State) (e : DispatchEntry) (ev : DispatchEvent) (i j : Nat) : (s.dispatchReport e ev i j).layout = s.layout :=
  dispatchReport_view State.layout (fun _ _ => rfl) s e ev i j
@[simp] theorem dispatchReport_table (s : State) (e : DispatchEntry) (ev : DispatchEvent) (i j : Nat) : (s.dispatchReport e ev i j).table = s.table :=
  dispatchReport_view State.table (fun _ _ => rfl) s e ev i j
@[simp] theorem dispatchReport_passages (s : State) (e : DispatchEntry) (ev : DispatchEvent) (i j : Nat) : (s.dispatchReport e ev i j).passages = s.passages :=
  dispatchReport_view State.passages (fun _ _ => rfl) s e ev i j
@[simp] theorem dispatchReport_roster (s : State) (e : DispatchEntry) (ev : DispatchEvent) (i j : Nat) : (s.dispatchReport e ev i j).roster = s.roster :=
  dispatchReport_view State.roster (fun _ _ => rfl) s e ev i j
@[simp] theorem dispatchReport_tagWindows (s : State) (e : DispatchEntry) (ev : DispatchEvent) (i j : Nat) : (s.dispatchReport e ev i j).tagWindows = s.tagWindows :=
  dispatchReport_view State.tagWindows (fun _ _ => rfl) s e ev i j
@[simp] theorem dispatchReport_tagDiscards (s : State) (e : DispatchEntry) (ev : DispatchEvent) (i j : Nat) : (s.dispatchReport e ev i j).tagDiscards = s.tagDiscards :=
  dispatchReport_view State.tagDiscards (fun _ _ => rfl) s e ev i j
@[simp] theorem dispatchReport_bays (s : State) (e : DispatchEntry) (ev : DispatchEvent) (i j : Nat) : (s.dispatchReport e ev i j).bays = s.bays :=
  dispatchReport_view State.bays (fun _ _ => rfl) s e ev i j
@[simp] theorem dispatchReport_dispatch (s : State) (e : DispatchEntry) (ev : DispatchEvent) (i j : Nat) : (s.dispatchReport e ev i j).dispatch = s.dispatch :=
  dispatchReport_view State.dispatch (fun _ _ => rfl) s e ev i j
@[simp] theorem dispatchReport_nextDispatch (s : State) (e : DispatchEntry) (ev : DispatchEvent) (i j : Nat) : (s.dispatchReport e ev i j).nextDispatch = s.nextDispatch :=
  dispatchReport_view State.nextDispatch (fun _ _ => rfl) s e ev i j
@[simp] theorem dispatchReport_launches (s : State) (e : DispatchEntry) (ev : DispatchEvent) (i j : Nat) : (s.dispatchReport e ev i j).launches = s.launches :=
  dispatchReport_view State.launches (fun _ _ => rfl) s e ev i j
@[simp] theorem dispatchReport_arbiters (s : State) (e : DispatchEntry) (ev : DispatchEvent) (i j : Nat) : (s.dispatchReport e ev i j).arbiters = s.arbiters :=
  dispatchReport_view State.arbiters (fun _ _ => rfl) s e ev i j
@[simp] theorem dispatchReport_switches (s : State) (e : DispatchEntry) (ev : DispatchEvent) (i j : Nat) : (s.dispatchReport e ev i j).switches = s.switches :=
  dispatchReport_view State.switches (fun _ _ => rfl) s e ev i j
@[simp] theorem dispatchReport_brakes (s : State) (e : DispatchEntry) (ev : DispatchEvent) (i j : Nat) : (s.dispatchReport e ev i j).brakes = s.brakes :=
  dispatchReport_view State.brakes (fun _ _ => rfl) s e ev i j
@[simp] theorem dispatchReport_trapStrays (s : State) (e : DispatchEntry) (ev : DispatchEvent) (i j : Nat) : (s.dispatchReport e ev i j).trapStrays = s.trapStrays :=
  dispatchReport_view State.trapStrays (fun _ _ => rfl) s e ev i j
@[simp] theorem dispatchReport_points (s : State) (e : DispatchEntry) (ev : DispatchEvent) (i j : Nat) : (s.dispatchReport e ev i j).points = s.points :=
  dispatchReport_view State.points (fun _ _ => rfl) s e ev i j
@[simp] theorem dispatchReport_channels (s : State) (e : DispatchEntry) (ev : DispatchEvent) (i j : Nat) : (s.dispatchReport e ev i j).channels = s.channels :=
  dispatchReport_view State.channels (fun _ _ => rfl) s e ev i j
@[simp] theorem dispatchReport_mc (s : State) (e : DispatchEntry) (ev : DispatchEvent) (i j : Nat) : (s.dispatchReport e ev i j).mc = s.mc :=
  dispatchReport_view State.mc (fun _ _ => rfl) s e ev i j
@[simp] theorem voidReport_pending (s : State) (c : VoidCause) (e : DispatchEntry) : (s.voidReport c e).pending = s.pending :=
  voidReport_view State.pending (fun _ _ => rfl) s c e
@[simp] theorem voidReport_timeBase (s : State) (c : VoidCause) (e : DispatchEntry) : (s.voidReport c e).timeBase = s.timeBase :=
  voidReport_view State.timeBase (fun _ _ => rfl) s c e
@[simp] theorem voidReport_rate (s : State) (c : VoidCause) (e : DispatchEntry) : (s.voidReport c e).rate = s.rate :=
  voidReport_view State.rate (fun _ _ => rfl) s c e
@[simp] theorem voidReport_ports (s : State) (c : VoidCause) (e : DispatchEntry) : (s.voidReport c e).ports = s.ports :=
  voidReport_view State.ports (fun _ _ => rfl) s c e
@[simp] theorem voidReport_windows (s : State) (c : VoidCause) (e : DispatchEntry) : (s.voidReport c e).windows = s.windows :=
  voidReport_view State.windows (fun _ _ => rfl) s c e
@[simp] theorem voidReport_layout (s : State) (c : VoidCause) (e : DispatchEntry) : (s.voidReport c e).layout = s.layout :=
  voidReport_view State.layout (fun _ _ => rfl) s c e
@[simp] theorem voidReport_table (s : State) (c : VoidCause) (e : DispatchEntry) : (s.voidReport c e).table = s.table :=
  voidReport_view State.table (fun _ _ => rfl) s c e
@[simp] theorem voidReport_passages (s : State) (c : VoidCause) (e : DispatchEntry) : (s.voidReport c e).passages = s.passages :=
  voidReport_view State.passages (fun _ _ => rfl) s c e
@[simp] theorem voidReport_roster (s : State) (c : VoidCause) (e : DispatchEntry) : (s.voidReport c e).roster = s.roster :=
  voidReport_view State.roster (fun _ _ => rfl) s c e
@[simp] theorem voidReport_tagWindows (s : State) (c : VoidCause) (e : DispatchEntry) : (s.voidReport c e).tagWindows = s.tagWindows :=
  voidReport_view State.tagWindows (fun _ _ => rfl) s c e
@[simp] theorem voidReport_tagDiscards (s : State) (c : VoidCause) (e : DispatchEntry) : (s.voidReport c e).tagDiscards = s.tagDiscards :=
  voidReport_view State.tagDiscards (fun _ _ => rfl) s c e
@[simp] theorem voidReport_bays (s : State) (c : VoidCause) (e : DispatchEntry) : (s.voidReport c e).bays = s.bays :=
  voidReport_view State.bays (fun _ _ => rfl) s c e
@[simp] theorem voidReport_dispatch (s : State) (c : VoidCause) (e : DispatchEntry) : (s.voidReport c e).dispatch = s.dispatch :=
  voidReport_view State.dispatch (fun _ _ => rfl) s c e
@[simp] theorem voidReport_nextDispatch (s : State) (c : VoidCause) (e : DispatchEntry) : (s.voidReport c e).nextDispatch = s.nextDispatch :=
  voidReport_view State.nextDispatch (fun _ _ => rfl) s c e
@[simp] theorem voidReport_launches (s : State) (c : VoidCause) (e : DispatchEntry) : (s.voidReport c e).launches = s.launches :=
  voidReport_view State.launches (fun _ _ => rfl) s c e
@[simp] theorem voidReport_arbiters (s : State) (c : VoidCause) (e : DispatchEntry) : (s.voidReport c e).arbiters = s.arbiters :=
  voidReport_view State.arbiters (fun _ _ => rfl) s c e
@[simp] theorem voidReport_switches (s : State) (c : VoidCause) (e : DispatchEntry) : (s.voidReport c e).switches = s.switches :=
  voidReport_view State.switches (fun _ _ => rfl) s c e
@[simp] theorem voidReport_brakes (s : State) (c : VoidCause) (e : DispatchEntry) : (s.voidReport c e).brakes = s.brakes :=
  voidReport_view State.brakes (fun _ _ => rfl) s c e
@[simp] theorem voidReport_trapStrays (s : State) (c : VoidCause) (e : DispatchEntry) : (s.voidReport c e).trapStrays = s.trapStrays :=
  voidReport_view State.trapStrays (fun _ _ => rfl) s c e
@[simp] theorem voidReport_points (s : State) (c : VoidCause) (e : DispatchEntry) : (s.voidReport c e).points = s.points :=
  voidReport_view State.points (fun _ _ => rfl) s c e
@[simp] theorem voidReport_channels (s : State) (c : VoidCause) (e : DispatchEntry) : (s.voidReport c e).channels = s.channels :=
  voidReport_view State.channels (fun _ _ => rfl) s c e
@[simp] theorem voidReport_mc (s : State) (c : VoidCause) (e : DispatchEntry) : (s.voidReport c e).mc = s.mc :=
  voidReport_view State.mc (fun _ _ => rfl) s c e
@[simp] theorem modeReport_pending (s : State) (ev : ModeEvent) (i j k : Nat) : (s.modeReport ev i j k).pending = s.pending :=
  modeReport_view State.pending (fun _ _ => rfl) s ev i j k
@[simp] theorem modeReport_timeBase (s : State) (ev : ModeEvent) (i j k : Nat) : (s.modeReport ev i j k).timeBase = s.timeBase :=
  modeReport_view State.timeBase (fun _ _ => rfl) s ev i j k
@[simp] theorem modeReport_rate (s : State) (ev : ModeEvent) (i j k : Nat) : (s.modeReport ev i j k).rate = s.rate :=
  modeReport_view State.rate (fun _ _ => rfl) s ev i j k
@[simp] theorem modeReport_ports (s : State) (ev : ModeEvent) (i j k : Nat) : (s.modeReport ev i j k).ports = s.ports :=
  modeReport_view State.ports (fun _ _ => rfl) s ev i j k
@[simp] theorem modeReport_windows (s : State) (ev : ModeEvent) (i j k : Nat) : (s.modeReport ev i j k).windows = s.windows :=
  modeReport_view State.windows (fun _ _ => rfl) s ev i j k
@[simp] theorem modeReport_layout (s : State) (ev : ModeEvent) (i j k : Nat) : (s.modeReport ev i j k).layout = s.layout :=
  modeReport_view State.layout (fun _ _ => rfl) s ev i j k
@[simp] theorem modeReport_table (s : State) (ev : ModeEvent) (i j k : Nat) : (s.modeReport ev i j k).table = s.table :=
  modeReport_view State.table (fun _ _ => rfl) s ev i j k
@[simp] theorem modeReport_passages (s : State) (ev : ModeEvent) (i j k : Nat) : (s.modeReport ev i j k).passages = s.passages :=
  modeReport_view State.passages (fun _ _ => rfl) s ev i j k
@[simp] theorem modeReport_roster (s : State) (ev : ModeEvent) (i j k : Nat) : (s.modeReport ev i j k).roster = s.roster :=
  modeReport_view State.roster (fun _ _ => rfl) s ev i j k
@[simp] theorem modeReport_tagWindows (s : State) (ev : ModeEvent) (i j k : Nat) : (s.modeReport ev i j k).tagWindows = s.tagWindows :=
  modeReport_view State.tagWindows (fun _ _ => rfl) s ev i j k
@[simp] theorem modeReport_tagDiscards (s : State) (ev : ModeEvent) (i j k : Nat) : (s.modeReport ev i j k).tagDiscards = s.tagDiscards :=
  modeReport_view State.tagDiscards (fun _ _ => rfl) s ev i j k
@[simp] theorem modeReport_bays (s : State) (ev : ModeEvent) (i j k : Nat) : (s.modeReport ev i j k).bays = s.bays :=
  modeReport_view State.bays (fun _ _ => rfl) s ev i j k
@[simp] theorem modeReport_dispatch (s : State) (ev : ModeEvent) (i j k : Nat) : (s.modeReport ev i j k).dispatch = s.dispatch :=
  modeReport_view State.dispatch (fun _ _ => rfl) s ev i j k
@[simp] theorem modeReport_nextDispatch (s : State) (ev : ModeEvent) (i j k : Nat) : (s.modeReport ev i j k).nextDispatch = s.nextDispatch :=
  modeReport_view State.nextDispatch (fun _ _ => rfl) s ev i j k
@[simp] theorem modeReport_launches (s : State) (ev : ModeEvent) (i j k : Nat) : (s.modeReport ev i j k).launches = s.launches :=
  modeReport_view State.launches (fun _ _ => rfl) s ev i j k
@[simp] theorem modeReport_arbiters (s : State) (ev : ModeEvent) (i j k : Nat) : (s.modeReport ev i j k).arbiters = s.arbiters :=
  modeReport_view State.arbiters (fun _ _ => rfl) s ev i j k
@[simp] theorem modeReport_switches (s : State) (ev : ModeEvent) (i j k : Nat) : (s.modeReport ev i j k).switches = s.switches :=
  modeReport_view State.switches (fun _ _ => rfl) s ev i j k
@[simp] theorem modeReport_brakes (s : State) (ev : ModeEvent) (i j k : Nat) : (s.modeReport ev i j k).brakes = s.brakes :=
  modeReport_view State.brakes (fun _ _ => rfl) s ev i j k
@[simp] theorem modeReport_trapStrays (s : State) (ev : ModeEvent) (i j k : Nat) : (s.modeReport ev i j k).trapStrays = s.trapStrays :=
  modeReport_view State.trapStrays (fun _ _ => rfl) s ev i j k
@[simp] theorem modeReport_points (s : State) (ev : ModeEvent) (i j k : Nat) : (s.modeReport ev i j k).points = s.points :=
  modeReport_view State.points (fun _ _ => rfl) s ev i j k
@[simp] theorem modeReport_channels (s : State) (ev : ModeEvent) (i j k : Nat) : (s.modeReport ev i j k).channels = s.channels :=
  modeReport_view State.channels (fun _ _ => rfl) s ev i j k
@[simp] theorem modeReport_mc (s : State) (ev : ModeEvent) (i j k : Nat) : (s.modeReport ev i j k).mc = s.mc :=
  modeReport_view State.mc (fun _ _ => rfl) s ev i j k
@[simp] theorem passageReport_pending (s : State) (b : BlockId) (x : Option BoatId) (i j : Nat) (p : BlockId) (n : Nat) : (s.passageReport b x i j p n).pending = s.pending :=
  passageReport_view State.pending (fun _ _ => rfl) s b x i j p n
@[simp] theorem passageReport_timeBase (s : State) (b : BlockId) (x : Option BoatId) (i j : Nat) (p : BlockId) (n : Nat) : (s.passageReport b x i j p n).timeBase = s.timeBase :=
  passageReport_view State.timeBase (fun _ _ => rfl) s b x i j p n
@[simp] theorem passageReport_rate (s : State) (b : BlockId) (x : Option BoatId) (i j : Nat) (p : BlockId) (n : Nat) : (s.passageReport b x i j p n).rate = s.rate :=
  passageReport_view State.rate (fun _ _ => rfl) s b x i j p n
@[simp] theorem passageReport_ports (s : State) (b : BlockId) (x : Option BoatId) (i j : Nat) (p : BlockId) (n : Nat) : (s.passageReport b x i j p n).ports = s.ports :=
  passageReport_view State.ports (fun _ _ => rfl) s b x i j p n
@[simp] theorem passageReport_windows (s : State) (b : BlockId) (x : Option BoatId) (i j : Nat) (p : BlockId) (n : Nat) : (s.passageReport b x i j p n).windows = s.windows :=
  passageReport_view State.windows (fun _ _ => rfl) s b x i j p n
@[simp] theorem passageReport_layout (s : State) (b : BlockId) (x : Option BoatId) (i j : Nat) (p : BlockId) (n : Nat) : (s.passageReport b x i j p n).layout = s.layout :=
  passageReport_view State.layout (fun _ _ => rfl) s b x i j p n
@[simp] theorem passageReport_table (s : State) (b : BlockId) (x : Option BoatId) (i j : Nat) (p : BlockId) (n : Nat) : (s.passageReport b x i j p n).table = s.table :=
  passageReport_view State.table (fun _ _ => rfl) s b x i j p n
@[simp] theorem passageReport_passages (s : State) (b : BlockId) (x : Option BoatId) (i j : Nat) (p : BlockId) (n : Nat) : (s.passageReport b x i j p n).passages = s.passages :=
  passageReport_view State.passages (fun _ _ => rfl) s b x i j p n
@[simp] theorem passageReport_roster (s : State) (b : BlockId) (x : Option BoatId) (i j : Nat) (p : BlockId) (n : Nat) : (s.passageReport b x i j p n).roster = s.roster :=
  passageReport_view State.roster (fun _ _ => rfl) s b x i j p n
@[simp] theorem passageReport_tagWindows (s : State) (b : BlockId) (x : Option BoatId) (i j : Nat) (p : BlockId) (n : Nat) : (s.passageReport b x i j p n).tagWindows = s.tagWindows :=
  passageReport_view State.tagWindows (fun _ _ => rfl) s b x i j p n
@[simp] theorem passageReport_tagDiscards (s : State) (b : BlockId) (x : Option BoatId) (i j : Nat) (p : BlockId) (n : Nat) : (s.passageReport b x i j p n).tagDiscards = s.tagDiscards :=
  passageReport_view State.tagDiscards (fun _ _ => rfl) s b x i j p n
@[simp] theorem passageReport_bays (s : State) (b : BlockId) (x : Option BoatId) (i j : Nat) (p : BlockId) (n : Nat) : (s.passageReport b x i j p n).bays = s.bays :=
  passageReport_view State.bays (fun _ _ => rfl) s b x i j p n
@[simp] theorem passageReport_dispatch (s : State) (b : BlockId) (x : Option BoatId) (i j : Nat) (p : BlockId) (n : Nat) : (s.passageReport b x i j p n).dispatch = s.dispatch :=
  passageReport_view State.dispatch (fun _ _ => rfl) s b x i j p n
@[simp] theorem passageReport_nextDispatch (s : State) (b : BlockId) (x : Option BoatId) (i j : Nat) (p : BlockId) (n : Nat) : (s.passageReport b x i j p n).nextDispatch = s.nextDispatch :=
  passageReport_view State.nextDispatch (fun _ _ => rfl) s b x i j p n
@[simp] theorem passageReport_launches (s : State) (b : BlockId) (x : Option BoatId) (i j : Nat) (p : BlockId) (n : Nat) : (s.passageReport b x i j p n).launches = s.launches :=
  passageReport_view State.launches (fun _ _ => rfl) s b x i j p n
@[simp] theorem passageReport_arbiters (s : State) (b : BlockId) (x : Option BoatId) (i j : Nat) (p : BlockId) (n : Nat) : (s.passageReport b x i j p n).arbiters = s.arbiters :=
  passageReport_view State.arbiters (fun _ _ => rfl) s b x i j p n
@[simp] theorem passageReport_switches (s : State) (b : BlockId) (x : Option BoatId) (i j : Nat) (p : BlockId) (n : Nat) : (s.passageReport b x i j p n).switches = s.switches :=
  passageReport_view State.switches (fun _ _ => rfl) s b x i j p n
@[simp] theorem passageReport_brakes (s : State) (b : BlockId) (x : Option BoatId) (i j : Nat) (p : BlockId) (n : Nat) : (s.passageReport b x i j p n).brakes = s.brakes :=
  passageReport_view State.brakes (fun _ _ => rfl) s b x i j p n
@[simp] theorem passageReport_trapStrays (s : State) (b : BlockId) (x : Option BoatId) (i j : Nat) (p : BlockId) (n : Nat) : (s.passageReport b x i j p n).trapStrays = s.trapStrays :=
  passageReport_view State.trapStrays (fun _ _ => rfl) s b x i j p n
@[simp] theorem passageReport_points (s : State) (b : BlockId) (x : Option BoatId) (i j : Nat) (p : BlockId) (n : Nat) : (s.passageReport b x i j p n).points = s.points :=
  passageReport_view State.points (fun _ _ => rfl) s b x i j p n
@[simp] theorem passageReport_channels (s : State) (b : BlockId) (x : Option BoatId) (i j : Nat) (p : BlockId) (n : Nat) : (s.passageReport b x i j p n).channels = s.channels :=
  passageReport_view State.channels (fun _ _ => rfl) s b x i j p n
@[simp] theorem passageReport_mc (s : State) (b : BlockId) (x : Option BoatId) (i j : Nat) (p : BlockId) (n : Nat) : (s.passageReport b x i j p n).mc = s.mc :=
  passageReport_view State.mc (fun _ _ => rfl) s b x i j p n
@[simp] theorem voidAll_pending (s : State) (c : VoidCause) : (s.voidAll c).pending = s.pending :=
  voidAll_view State.pending (fun _ _ => rfl) (fun _ _ => rfl) s c
@[simp] theorem voidAll_timeBase (s : State) (c : VoidCause) : (s.voidAll c).timeBase = s.timeBase :=
  voidAll_view State.timeBase (fun _ _ => rfl) (fun _ _ => rfl) s c
@[simp] theorem voidAll_rate (s : State) (c : VoidCause) : (s.voidAll c).rate = s.rate :=
  voidAll_view State.rate (fun _ _ => rfl) (fun _ _ => rfl) s c
@[simp] theorem voidAll_ports (s : State) (c : VoidCause) : (s.voidAll c).ports = s.ports :=
  voidAll_view State.ports (fun _ _ => rfl) (fun _ _ => rfl) s c
@[simp] theorem voidAll_windows (s : State) (c : VoidCause) : (s.voidAll c).windows = s.windows :=
  voidAll_view State.windows (fun _ _ => rfl) (fun _ _ => rfl) s c
@[simp] theorem voidAll_layout (s : State) (c : VoidCause) : (s.voidAll c).layout = s.layout :=
  voidAll_view State.layout (fun _ _ => rfl) (fun _ _ => rfl) s c
@[simp] theorem voidAll_table (s : State) (c : VoidCause) : (s.voidAll c).table = s.table :=
  voidAll_view State.table (fun _ _ => rfl) (fun _ _ => rfl) s c
@[simp] theorem voidAll_passages (s : State) (c : VoidCause) : (s.voidAll c).passages = s.passages :=
  voidAll_view State.passages (fun _ _ => rfl) (fun _ _ => rfl) s c
@[simp] theorem voidAll_roster (s : State) (c : VoidCause) : (s.voidAll c).roster = s.roster :=
  voidAll_view State.roster (fun _ _ => rfl) (fun _ _ => rfl) s c
@[simp] theorem voidAll_tagWindows (s : State) (c : VoidCause) : (s.voidAll c).tagWindows = s.tagWindows :=
  voidAll_view State.tagWindows (fun _ _ => rfl) (fun _ _ => rfl) s c
@[simp] theorem voidAll_tagDiscards (s : State) (c : VoidCause) : (s.voidAll c).tagDiscards = s.tagDiscards :=
  voidAll_view State.tagDiscards (fun _ _ => rfl) (fun _ _ => rfl) s c
@[simp] theorem voidAll_bays (s : State) (c : VoidCause) : (s.voidAll c).bays = s.bays :=
  voidAll_view State.bays (fun _ _ => rfl) (fun _ _ => rfl) s c
@[simp] theorem voidAll_nextDispatch (s : State) (c : VoidCause) : (s.voidAll c).nextDispatch = s.nextDispatch :=
  voidAll_view State.nextDispatch (fun _ _ => rfl) (fun _ _ => rfl) s c
@[simp] theorem voidAll_launches (s : State) (c : VoidCause) : (s.voidAll c).launches = s.launches :=
  voidAll_view State.launches (fun _ _ => rfl) (fun _ _ => rfl) s c
@[simp] theorem voidAll_arbiters (s : State) (c : VoidCause) : (s.voidAll c).arbiters = s.arbiters :=
  voidAll_view State.arbiters (fun _ _ => rfl) (fun _ _ => rfl) s c
@[simp] theorem voidAll_switches (s : State) (c : VoidCause) : (s.voidAll c).switches = s.switches :=
  voidAll_view State.switches (fun _ _ => rfl) (fun _ _ => rfl) s c
@[simp] theorem voidAll_brakes (s : State) (c : VoidCause) : (s.voidAll c).brakes = s.brakes :=
  voidAll_view State.brakes (fun _ _ => rfl) (fun _ _ => rfl) s c
@[simp] theorem voidAll_trapStrays (s : State) (c : VoidCause) : (s.voidAll c).trapStrays = s.trapStrays :=
  voidAll_view State.trapStrays (fun _ _ => rfl) (fun _ _ => rfl) s c
@[simp] theorem voidAll_points (s : State) (c : VoidCause) : (s.voidAll c).points = s.points :=
  voidAll_view State.points (fun _ _ => rfl) (fun _ _ => rfl) s c
@[simp] theorem voidAll_channels (s : State) (c : VoidCause) : (s.voidAll c).channels = s.channels :=
  voidAll_view State.channels (fun _ _ => rfl) (fun _ _ => rfl) s c
@[simp] theorem voidAll_mc (s : State) (c : VoidCause) : (s.voidAll c).mc = s.mc :=
  voidAll_view State.mc (fun _ _ => rfl) (fun _ _ => rfl) s c
@[simp] theorem discardSlot_pending (s : State) (n : Nat) : (s.discardSlot n).pending = s.pending :=
  discardSlot_view State.pending (fun _ _ => rfl) (fun _ _ => rfl) s n
@[simp] theorem discardSlot_timeBase (s : State) (n : Nat) : (s.discardSlot n).timeBase = s.timeBase :=
  discardSlot_view State.timeBase (fun _ _ => rfl) (fun _ _ => rfl) s n
@[simp] theorem discardSlot_rate (s : State) (n : Nat) : (s.discardSlot n).rate = s.rate :=
  discardSlot_view State.rate (fun _ _ => rfl) (fun _ _ => rfl) s n
@[simp] theorem discardSlot_ports (s : State) (n : Nat) : (s.discardSlot n).ports = s.ports :=
  discardSlot_view State.ports (fun _ _ => rfl) (fun _ _ => rfl) s n
@[simp] theorem discardSlot_windows (s : State) (n : Nat) : (s.discardSlot n).windows = s.windows :=
  discardSlot_view State.windows (fun _ _ => rfl) (fun _ _ => rfl) s n
@[simp] theorem discardSlot_layout (s : State) (n : Nat) : (s.discardSlot n).layout = s.layout :=
  discardSlot_view State.layout (fun _ _ => rfl) (fun _ _ => rfl) s n
@[simp] theorem discardSlot_table (s : State) (n : Nat) : (s.discardSlot n).table = s.table :=
  discardSlot_view State.table (fun _ _ => rfl) (fun _ _ => rfl) s n
@[simp] theorem discardSlot_passages (s : State) (n : Nat) : (s.discardSlot n).passages = s.passages :=
  discardSlot_view State.passages (fun _ _ => rfl) (fun _ _ => rfl) s n
@[simp] theorem discardSlot_roster (s : State) (n : Nat) : (s.discardSlot n).roster = s.roster :=
  discardSlot_view State.roster (fun _ _ => rfl) (fun _ _ => rfl) s n
@[simp] theorem discardSlot_tagWindows (s : State) (n : Nat) : (s.discardSlot n).tagWindows = s.tagWindows :=
  discardSlot_view State.tagWindows (fun _ _ => rfl) (fun _ _ => rfl) s n
@[simp] theorem discardSlot_tagDiscards (s : State) (n : Nat) : (s.discardSlot n).tagDiscards = s.tagDiscards :=
  discardSlot_view State.tagDiscards (fun _ _ => rfl) (fun _ _ => rfl) s n
@[simp] theorem discardSlot_bays (s : State) (n : Nat) : (s.discardSlot n).bays = s.bays :=
  discardSlot_view State.bays (fun _ _ => rfl) (fun _ _ => rfl) s n
@[simp] theorem discardSlot_dispatch (s : State) (n : Nat) : (s.discardSlot n).dispatch = s.dispatch :=
  discardSlot_view State.dispatch (fun _ _ => rfl) (fun _ _ => rfl) s n
@[simp] theorem discardSlot_nextDispatch (s : State) (n : Nat) : (s.discardSlot n).nextDispatch = s.nextDispatch :=
  discardSlot_view State.nextDispatch (fun _ _ => rfl) (fun _ _ => rfl) s n
@[simp] theorem discardSlot_launches (s : State) (n : Nat) : (s.discardSlot n).launches = s.launches :=
  discardSlot_view State.launches (fun _ _ => rfl) (fun _ _ => rfl) s n
@[simp] theorem discardSlot_arbiters (s : State) (n : Nat) : (s.discardSlot n).arbiters = s.arbiters :=
  discardSlot_view State.arbiters (fun _ _ => rfl) (fun _ _ => rfl) s n
@[simp] theorem discardSlot_switches (s : State) (n : Nat) : (s.discardSlot n).switches = s.switches :=
  discardSlot_view State.switches (fun _ _ => rfl) (fun _ _ => rfl) s n
@[simp] theorem discardSlot_brakes (s : State) (n : Nat) : (s.discardSlot n).brakes = s.brakes :=
  discardSlot_view State.brakes (fun _ _ => rfl) (fun _ _ => rfl) s n
@[simp] theorem discardSlot_trapStrays (s : State) (n : Nat) : (s.discardSlot n).trapStrays = s.trapStrays :=
  discardSlot_view State.trapStrays (fun _ _ => rfl) (fun _ _ => rfl) s n
@[simp] theorem discardSlot_points (s : State) (n : Nat) : (s.discardSlot n).points = s.points :=
  discardSlot_view State.points (fun _ _ => rfl) (fun _ _ => rfl) s n
@[simp] theorem discardSlot_channels (s : State) (n : Nat) : (s.discardSlot n).channels = s.channels :=
  discardSlot_view State.channels (fun _ _ => rfl) (fun _ _ => rfl) s n
@[simp] theorem changeMode_pending (s : State) (m : Mode) (c : ChangeCause) : (s.changeMode m c).pending = s.pending :=
  changeMode_view State.pending (fun _ _ => rfl) (fun _ _ => rfl) (fun _ _ => rfl) s m c
@[simp] theorem changeMode_timeBase (s : State) (m : Mode) (c : ChangeCause) : (s.changeMode m c).timeBase = s.timeBase :=
  changeMode_view State.timeBase (fun _ _ => rfl) (fun _ _ => rfl) (fun _ _ => rfl) s m c
@[simp] theorem changeMode_rate (s : State) (m : Mode) (c : ChangeCause) : (s.changeMode m c).rate = s.rate :=
  changeMode_view State.rate (fun _ _ => rfl) (fun _ _ => rfl) (fun _ _ => rfl) s m c
@[simp] theorem changeMode_ports (s : State) (m : Mode) (c : ChangeCause) : (s.changeMode m c).ports = s.ports :=
  changeMode_view State.ports (fun _ _ => rfl) (fun _ _ => rfl) (fun _ _ => rfl) s m c
@[simp] theorem changeMode_windows (s : State) (m : Mode) (c : ChangeCause) : (s.changeMode m c).windows = s.windows :=
  changeMode_view State.windows (fun _ _ => rfl) (fun _ _ => rfl) (fun _ _ => rfl) s m c
@[simp] theorem changeMode_layout (s : State) (m : Mode) (c : ChangeCause) : (s.changeMode m c).layout = s.layout :=
  changeMode_view State.layout (fun _ _ => rfl) (fun _ _ => rfl) (fun _ _ => rfl) s m c
@[simp] theorem changeMode_table (s : State) (m : Mode) (c : ChangeCause) : (s.changeMode m c).table = s.table :=
  changeMode_view State.table (fun _ _ => rfl) (fun _ _ => rfl) (fun _ _ => rfl) s m c
@[simp] theorem changeMode_passages (s : State) (m : Mode) (c : ChangeCause) : (s.changeMode m c).passages = s.passages :=
  changeMode_view State.passages (fun _ _ => rfl) (fun _ _ => rfl) (fun _ _ => rfl) s m c
@[simp] theorem changeMode_roster (s : State) (m : Mode) (c : ChangeCause) : (s.changeMode m c).roster = s.roster :=
  changeMode_view State.roster (fun _ _ => rfl) (fun _ _ => rfl) (fun _ _ => rfl) s m c
@[simp] theorem changeMode_tagWindows (s : State) (m : Mode) (c : ChangeCause) : (s.changeMode m c).tagWindows = s.tagWindows :=
  changeMode_view State.tagWindows (fun _ _ => rfl) (fun _ _ => rfl) (fun _ _ => rfl) s m c
@[simp] theorem changeMode_tagDiscards (s : State) (m : Mode) (c : ChangeCause) : (s.changeMode m c).tagDiscards = s.tagDiscards :=
  changeMode_view State.tagDiscards (fun _ _ => rfl) (fun _ _ => rfl) (fun _ _ => rfl) s m c
@[simp] theorem changeMode_bays (s : State) (m : Mode) (c : ChangeCause) : (s.changeMode m c).bays = s.bays :=
  changeMode_view State.bays (fun _ _ => rfl) (fun _ _ => rfl) (fun _ _ => rfl) s m c
@[simp] theorem changeMode_nextDispatch (s : State) (m : Mode) (c : ChangeCause) : (s.changeMode m c).nextDispatch = s.nextDispatch :=
  changeMode_view State.nextDispatch (fun _ _ => rfl) (fun _ _ => rfl) (fun _ _ => rfl) s m c
@[simp] theorem changeMode_launches (s : State) (m : Mode) (c : ChangeCause) : (s.changeMode m c).launches = s.launches :=
  changeMode_view State.launches (fun _ _ => rfl) (fun _ _ => rfl) (fun _ _ => rfl) s m c
@[simp] theorem changeMode_arbiters (s : State) (m : Mode) (c : ChangeCause) : (s.changeMode m c).arbiters = s.arbiters :=
  changeMode_view State.arbiters (fun _ _ => rfl) (fun _ _ => rfl) (fun _ _ => rfl) s m c
@[simp] theorem changeMode_switches (s : State) (m : Mode) (c : ChangeCause) : (s.changeMode m c).switches = s.switches :=
  changeMode_view State.switches (fun _ _ => rfl) (fun _ _ => rfl) (fun _ _ => rfl) s m c
@[simp] theorem changeMode_brakes (s : State) (m : Mode) (c : ChangeCause) : (s.changeMode m c).brakes = s.brakes :=
  changeMode_view State.brakes (fun _ _ => rfl) (fun _ _ => rfl) (fun _ _ => rfl) s m c
@[simp] theorem changeMode_trapStrays (s : State) (m : Mode) (c : ChangeCause) : (s.changeMode m c).trapStrays = s.trapStrays :=
  changeMode_view State.trapStrays (fun _ _ => rfl) (fun _ _ => rfl) (fun _ _ => rfl) s m c
@[simp] theorem changeMode_points (s : State) (m : Mode) (c : ChangeCause) : (s.changeMode m c).points = s.points :=
  changeMode_view State.points (fun _ _ => rfl) (fun _ _ => rfl) (fun _ _ => rfl) s m c
@[simp] theorem changeMode_channels (s : State) (m : Mode) (c : ChangeCause) : (s.changeMode m c).channels = s.channels :=
  changeMode_view State.channels (fun _ _ => rfl) (fun _ _ => rfl) (fun _ _ => rfl) s m c
@[simp] theorem enterHolding_pending (s : State) (c : ChangeCause) : (s.enterHolding c).pending = s.pending :=
  enterHolding_view State.pending (fun _ _ => rfl) (fun _ _ => rfl) (fun _ _ => rfl) s c
@[simp] theorem enterHolding_timeBase (s : State) (c : ChangeCause) : (s.enterHolding c).timeBase = s.timeBase :=
  enterHolding_view State.timeBase (fun _ _ => rfl) (fun _ _ => rfl) (fun _ _ => rfl) s c
@[simp] theorem enterHolding_rate (s : State) (c : ChangeCause) : (s.enterHolding c).rate = s.rate :=
  enterHolding_view State.rate (fun _ _ => rfl) (fun _ _ => rfl) (fun _ _ => rfl) s c
@[simp] theorem enterHolding_ports (s : State) (c : ChangeCause) : (s.enterHolding c).ports = s.ports :=
  enterHolding_view State.ports (fun _ _ => rfl) (fun _ _ => rfl) (fun _ _ => rfl) s c
@[simp] theorem enterHolding_windows (s : State) (c : ChangeCause) : (s.enterHolding c).windows = s.windows :=
  enterHolding_view State.windows (fun _ _ => rfl) (fun _ _ => rfl) (fun _ _ => rfl) s c
@[simp] theorem enterHolding_layout (s : State) (c : ChangeCause) : (s.enterHolding c).layout = s.layout :=
  enterHolding_view State.layout (fun _ _ => rfl) (fun _ _ => rfl) (fun _ _ => rfl) s c
@[simp] theorem enterHolding_table (s : State) (c : ChangeCause) : (s.enterHolding c).table = s.table :=
  enterHolding_view State.table (fun _ _ => rfl) (fun _ _ => rfl) (fun _ _ => rfl) s c
@[simp] theorem enterHolding_passages (s : State) (c : ChangeCause) : (s.enterHolding c).passages = s.passages :=
  enterHolding_view State.passages (fun _ _ => rfl) (fun _ _ => rfl) (fun _ _ => rfl) s c
@[simp] theorem enterHolding_roster (s : State) (c : ChangeCause) : (s.enterHolding c).roster = s.roster :=
  enterHolding_view State.roster (fun _ _ => rfl) (fun _ _ => rfl) (fun _ _ => rfl) s c
@[simp] theorem enterHolding_tagWindows (s : State) (c : ChangeCause) : (s.enterHolding c).tagWindows = s.tagWindows :=
  enterHolding_view State.tagWindows (fun _ _ => rfl) (fun _ _ => rfl) (fun _ _ => rfl) s c
@[simp] theorem enterHolding_tagDiscards (s : State) (c : ChangeCause) : (s.enterHolding c).tagDiscards = s.tagDiscards :=
  enterHolding_view State.tagDiscards (fun _ _ => rfl) (fun _ _ => rfl) (fun _ _ => rfl) s c
@[simp] theorem enterHolding_bays (s : State) (c : ChangeCause) : (s.enterHolding c).bays = s.bays :=
  enterHolding_view State.bays (fun _ _ => rfl) (fun _ _ => rfl) (fun _ _ => rfl) s c
@[simp] theorem enterHolding_nextDispatch (s : State) (c : ChangeCause) : (s.enterHolding c).nextDispatch = s.nextDispatch :=
  enterHolding_view State.nextDispatch (fun _ _ => rfl) (fun _ _ => rfl) (fun _ _ => rfl) s c
@[simp] theorem enterHolding_launches (s : State) (c : ChangeCause) : (s.enterHolding c).launches = s.launches :=
  enterHolding_view State.launches (fun _ _ => rfl) (fun _ _ => rfl) (fun _ _ => rfl) s c
@[simp] theorem enterHolding_arbiters (s : State) (c : ChangeCause) : (s.enterHolding c).arbiters = s.arbiters :=
  enterHolding_view State.arbiters (fun _ _ => rfl) (fun _ _ => rfl) (fun _ _ => rfl) s c
@[simp] theorem enterHolding_switches (s : State) (c : ChangeCause) : (s.enterHolding c).switches = s.switches :=
  enterHolding_view State.switches (fun _ _ => rfl) (fun _ _ => rfl) (fun _ _ => rfl) s c
@[simp] theorem enterHolding_brakes (s : State) (c : ChangeCause) : (s.enterHolding c).brakes = s.brakes :=
  enterHolding_view State.brakes (fun _ _ => rfl) (fun _ _ => rfl) (fun _ _ => rfl) s c
@[simp] theorem enterHolding_trapStrays (s : State) (c : ChangeCause) : (s.enterHolding c).trapStrays = s.trapStrays :=
  enterHolding_view State.trapStrays (fun _ _ => rfl) (fun _ _ => rfl) (fun _ _ => rfl) s c
@[simp] theorem enterHolding_points (s : State) (c : ChangeCause) : (s.enterHolding c).points = s.points :=
  enterHolding_view State.points (fun _ _ => rfl) (fun _ _ => rfl) (fun _ _ => rfl) s c
@[simp] theorem enterHolding_channels (s : State) (c : ChangeCause) : (s.enterHolding c).channels = s.channels :=
  enterHolding_view State.channels (fun _ _ => rfl) (fun _ _ => rfl) (fun _ _ => rfl) s c
@[simp] theorem enterHalted_pending (s : State) (c : ChangeCause) : (s.enterHalted c).pending = s.pending :=
  enterHalted_view State.pending (fun _ _ => rfl) (fun _ _ => rfl) (fun _ _ => rfl) (fun _ _ => rfl) (fun _ _ => rfl) s c
@[simp] theorem enterHalted_timeBase (s : State) (c : ChangeCause) : (s.enterHalted c).timeBase = s.timeBase :=
  enterHalted_view State.timeBase (fun _ _ => rfl) (fun _ _ => rfl) (fun _ _ => rfl) (fun _ _ => rfl) (fun _ _ => rfl) s c
@[simp] theorem enterHalted_rate (s : State) (c : ChangeCause) : (s.enterHalted c).rate = s.rate :=
  enterHalted_view State.rate (fun _ _ => rfl) (fun _ _ => rfl) (fun _ _ => rfl) (fun _ _ => rfl) (fun _ _ => rfl) s c
@[simp] theorem enterHalted_ports (s : State) (c : ChangeCause) : (s.enterHalted c).ports = s.ports :=
  enterHalted_view State.ports (fun _ _ => rfl) (fun _ _ => rfl) (fun _ _ => rfl) (fun _ _ => rfl) (fun _ _ => rfl) s c
@[simp] theorem enterHalted_windows (s : State) (c : ChangeCause) : (s.enterHalted c).windows = s.windows :=
  enterHalted_view State.windows (fun _ _ => rfl) (fun _ _ => rfl) (fun _ _ => rfl) (fun _ _ => rfl) (fun _ _ => rfl) s c
@[simp] theorem enterHalted_layout (s : State) (c : ChangeCause) : (s.enterHalted c).layout = s.layout :=
  enterHalted_view State.layout (fun _ _ => rfl) (fun _ _ => rfl) (fun _ _ => rfl) (fun _ _ => rfl) (fun _ _ => rfl) s c
@[simp] theorem enterHalted_passages (s : State) (c : ChangeCause) : (s.enterHalted c).passages = s.passages :=
  enterHalted_view State.passages (fun _ _ => rfl) (fun _ _ => rfl) (fun _ _ => rfl) (fun _ _ => rfl) (fun _ _ => rfl) s c
@[simp] theorem enterHalted_roster (s : State) (c : ChangeCause) : (s.enterHalted c).roster = s.roster :=
  enterHalted_view State.roster (fun _ _ => rfl) (fun _ _ => rfl) (fun _ _ => rfl) (fun _ _ => rfl) (fun _ _ => rfl) s c
@[simp] theorem enterHalted_tagWindows (s : State) (c : ChangeCause) : (s.enterHalted c).tagWindows = s.tagWindows :=
  enterHalted_view State.tagWindows (fun _ _ => rfl) (fun _ _ => rfl) (fun _ _ => rfl) (fun _ _ => rfl) (fun _ _ => rfl) s c
@[simp] theorem enterHalted_tagDiscards (s : State) (c : ChangeCause) : (s.enterHalted c).tagDiscards = s.tagDiscards :=
  enterHalted_view State.tagDiscards (fun _ _ => rfl) (fun _ _ => rfl) (fun _ _ => rfl) (fun _ _ => rfl) (fun _ _ => rfl) s c
@[simp] theorem enterHalted_bays (s : State) (c : ChangeCause) : (s.enterHalted c).bays = s.bays :=
  enterHalted_view State.bays (fun _ _ => rfl) (fun _ _ => rfl) (fun _ _ => rfl) (fun _ _ => rfl) (fun _ _ => rfl) s c
@[simp] theorem enterHalted_nextDispatch (s : State) (c : ChangeCause) : (s.enterHalted c).nextDispatch = s.nextDispatch :=
  enterHalted_view State.nextDispatch (fun _ _ => rfl) (fun _ _ => rfl) (fun _ _ => rfl) (fun _ _ => rfl) (fun _ _ => rfl) s c
@[simp] theorem enterHalted_launches (s : State) (c : ChangeCause) : (s.enterHalted c).launches = s.launches :=
  enterHalted_view State.launches (fun _ _ => rfl) (fun _ _ => rfl) (fun _ _ => rfl) (fun _ _ => rfl) (fun _ _ => rfl) s c
@[simp] theorem enterHalted_arbiters (s : State) (c : ChangeCause) : (s.enterHalted c).arbiters = s.arbiters :=
  enterHalted_view State.arbiters (fun _ _ => rfl) (fun _ _ => rfl) (fun _ _ => rfl) (fun _ _ => rfl) (fun _ _ => rfl) s c
@[simp] theorem enterHalted_brakes (s : State) (c : ChangeCause) : (s.enterHalted c).brakes = s.brakes :=
  enterHalted_view State.brakes (fun _ _ => rfl) (fun _ _ => rfl) (fun _ _ => rfl) (fun _ _ => rfl) (fun _ _ => rfl) s c
@[simp] theorem enterHalted_trapStrays (s : State) (c : ChangeCause) : (s.enterHalted c).trapStrays = s.trapStrays :=
  enterHalted_view State.trapStrays (fun _ _ => rfl) (fun _ _ => rfl) (fun _ _ => rfl) (fun _ _ => rfl) (fun _ _ => rfl) s c
@[simp] theorem enterHalted_points (s : State) (c : ChangeCause) : (s.enterHalted c).points = s.points :=
  enterHalted_view State.points (fun _ _ => rfl) (fun _ _ => rfl) (fun _ _ => rfl) (fun _ _ => rfl) (fun _ _ => rfl) s c
@[simp] theorem enterHalted_channels (s : State) (c : ChangeCause) : (s.enterHalted c).channels = s.channels :=
  enterHalted_view State.channels (fun _ _ => rfl) (fun _ _ => rfl) (fun _ _ => rfl) (fun _ _ => rfl) (fun _ _ => rfl) s c
@[simp] theorem raise_pending (s : State) (k : FaultKind) (b : Option BlockId) (x : Option BoatId) (d : Details) : (s.raise k b x d).pending = s.pending :=
  raise_view State.pending (fun _ _ => rfl) (fun _ _ => rfl) (fun _ _ => rfl) (fun _ _ => rfl) (fun _ _ => rfl) s k b x d
@[simp] theorem raise_timeBase (s : State) (k : FaultKind) (b : Option BlockId) (x : Option BoatId) (d : Details) : (s.raise k b x d).timeBase = s.timeBase :=
  raise_view State.timeBase (fun _ _ => rfl) (fun _ _ => rfl) (fun _ _ => rfl) (fun _ _ => rfl) (fun _ _ => rfl) s k b x d
@[simp] theorem raise_rate (s : State) (k : FaultKind) (b : Option BlockId) (x : Option BoatId) (d : Details) : (s.raise k b x d).rate = s.rate :=
  raise_view State.rate (fun _ _ => rfl) (fun _ _ => rfl) (fun _ _ => rfl) (fun _ _ => rfl) (fun _ _ => rfl) s k b x d
@[simp] theorem raise_ports (s : State) (k : FaultKind) (b : Option BlockId) (x : Option BoatId) (d : Details) : (s.raise k b x d).ports = s.ports :=
  raise_view State.ports (fun _ _ => rfl) (fun _ _ => rfl) (fun _ _ => rfl) (fun _ _ => rfl) (fun _ _ => rfl) s k b x d
@[simp] theorem raise_windows (s : State) (k : FaultKind) (b : Option BlockId) (x : Option BoatId) (d : Details) : (s.raise k b x d).windows = s.windows :=
  raise_view State.windows (fun _ _ => rfl) (fun _ _ => rfl) (fun _ _ => rfl) (fun _ _ => rfl) (fun _ _ => rfl) s k b x d
@[simp] theorem raise_layout (s : State) (k : FaultKind) (b : Option BlockId) (x : Option BoatId) (d : Details) : (s.raise k b x d).layout = s.layout :=
  raise_view State.layout (fun _ _ => rfl) (fun _ _ => rfl) (fun _ _ => rfl) (fun _ _ => rfl) (fun _ _ => rfl) s k b x d
@[simp] theorem raise_passages (s : State) (k : FaultKind) (b : Option BlockId) (x : Option BoatId) (d : Details) : (s.raise k b x d).passages = s.passages :=
  raise_view State.passages (fun _ _ => rfl) (fun _ _ => rfl) (fun _ _ => rfl) (fun _ _ => rfl) (fun _ _ => rfl) s k b x d
@[simp] theorem raise_roster (s : State) (k : FaultKind) (b : Option BlockId) (x : Option BoatId) (d : Details) : (s.raise k b x d).roster = s.roster :=
  raise_view State.roster (fun _ _ => rfl) (fun _ _ => rfl) (fun _ _ => rfl) (fun _ _ => rfl) (fun _ _ => rfl) s k b x d
@[simp] theorem raise_tagWindows (s : State) (k : FaultKind) (b : Option BlockId) (x : Option BoatId) (d : Details) : (s.raise k b x d).tagWindows = s.tagWindows :=
  raise_view State.tagWindows (fun _ _ => rfl) (fun _ _ => rfl) (fun _ _ => rfl) (fun _ _ => rfl) (fun _ _ => rfl) s k b x d
@[simp] theorem raise_tagDiscards (s : State) (k : FaultKind) (b : Option BlockId) (x : Option BoatId) (d : Details) : (s.raise k b x d).tagDiscards = s.tagDiscards :=
  raise_view State.tagDiscards (fun _ _ => rfl) (fun _ _ => rfl) (fun _ _ => rfl) (fun _ _ => rfl) (fun _ _ => rfl) s k b x d
@[simp] theorem raise_bays (s : State) (k : FaultKind) (b : Option BlockId) (x : Option BoatId) (d : Details) : (s.raise k b x d).bays = s.bays :=
  raise_view State.bays (fun _ _ => rfl) (fun _ _ => rfl) (fun _ _ => rfl) (fun _ _ => rfl) (fun _ _ => rfl) s k b x d
@[simp] theorem raise_nextDispatch (s : State) (k : FaultKind) (b : Option BlockId) (x : Option BoatId) (d : Details) : (s.raise k b x d).nextDispatch = s.nextDispatch :=
  raise_view State.nextDispatch (fun _ _ => rfl) (fun _ _ => rfl) (fun _ _ => rfl) (fun _ _ => rfl) (fun _ _ => rfl) s k b x d
@[simp] theorem raise_launches (s : State) (k : FaultKind) (b : Option BlockId) (x : Option BoatId) (d : Details) : (s.raise k b x d).launches = s.launches :=
  raise_view State.launches (fun _ _ => rfl) (fun _ _ => rfl) (fun _ _ => rfl) (fun _ _ => rfl) (fun _ _ => rfl) s k b x d
@[simp] theorem raise_arbiters (s : State) (k : FaultKind) (b : Option BlockId) (x : Option BoatId) (d : Details) : (s.raise k b x d).arbiters = s.arbiters :=
  raise_view State.arbiters (fun _ _ => rfl) (fun _ _ => rfl) (fun _ _ => rfl) (fun _ _ => rfl) (fun _ _ => rfl) s k b x d
@[simp] theorem raise_brakes (s : State) (k : FaultKind) (b : Option BlockId) (x : Option BoatId) (d : Details) : (s.raise k b x d).brakes = s.brakes :=
  raise_view State.brakes (fun _ _ => rfl) (fun _ _ => rfl) (fun _ _ => rfl) (fun _ _ => rfl) (fun _ _ => rfl) s k b x d
@[simp] theorem raise_trapStrays (s : State) (k : FaultKind) (b : Option BlockId) (x : Option BoatId) (d : Details) : (s.raise k b x d).trapStrays = s.trapStrays :=
  raise_view State.trapStrays (fun _ _ => rfl) (fun _ _ => rfl) (fun _ _ => rfl) (fun _ _ => rfl) (fun _ _ => rfl) s k b x d
@[simp] theorem raise_points (s : State) (k : FaultKind) (b : Option BlockId) (x : Option BoatId) (d : Details) : (s.raise k b x d).points = s.points :=
  raise_view State.points (fun _ _ => rfl) (fun _ _ => rfl) (fun _ _ => rfl) (fun _ _ => rfl) (fun _ _ => rfl) s k b x d
@[simp] theorem raise_channels (s : State) (k : FaultKind) (b : Option BlockId) (x : Option BoatId) (d : Details) : (s.raise k b x d).channels = s.channels :=
  raise_view State.channels (fun _ _ => rfl) (fun _ _ => rfl) (fun _ _ => rfl) (fun _ _ => rfl) (fun _ _ => rfl) s k b x d
@[simp] theorem clearReserved_pending (s : State) (bs : List BlockId) : (s.clearReserved bs).pending = s.pending :=
  clearReserved_view State.pending (fun _ _ => rfl) (fun _ _ => rfl) s bs
@[simp] theorem clearReserved_timeBase (s : State) (bs : List BlockId) : (s.clearReserved bs).timeBase = s.timeBase :=
  clearReserved_view State.timeBase (fun _ _ => rfl) (fun _ _ => rfl) s bs
@[simp] theorem clearReserved_rate (s : State) (bs : List BlockId) : (s.clearReserved bs).rate = s.rate :=
  clearReserved_view State.rate (fun _ _ => rfl) (fun _ _ => rfl) s bs
@[simp] theorem clearReserved_ports (s : State) (bs : List BlockId) : (s.clearReserved bs).ports = s.ports :=
  clearReserved_view State.ports (fun _ _ => rfl) (fun _ _ => rfl) s bs
@[simp] theorem clearReserved_windows (s : State) (bs : List BlockId) : (s.clearReserved bs).windows = s.windows :=
  clearReserved_view State.windows (fun _ _ => rfl) (fun _ _ => rfl) s bs
@[simp] theorem clearReserved_layout (s : State) (bs : List BlockId) : (s.clearReserved bs).layout = s.layout :=
  clearReserved_view State.layout (fun _ _ => rfl) (fun _ _ => rfl) s bs
@[simp] theorem clearReserved_passages (s : State) (bs : List BlockId) : (s.clearReserved bs).passages = s.passages :=
  clearReserved_view State.passages (fun _ _ => rfl) (fun _ _ => rfl) s bs
@[simp] theorem clearReserved_roster (s : State) (bs : List BlockId) : (s.clearReserved bs).roster = s.roster :=
  clearReserved_view State.roster (fun _ _ => rfl) (fun _ _ => rfl) s bs
@[simp] theorem clearReserved_tagWindows (s : State) (bs : List BlockId) : (s.clearReserved bs).tagWindows = s.tagWindows :=
  clearReserved_view State.tagWindows (fun _ _ => rfl) (fun _ _ => rfl) s bs
@[simp] theorem clearReserved_tagDiscards (s : State) (bs : List BlockId) : (s.clearReserved bs).tagDiscards = s.tagDiscards :=
  clearReserved_view State.tagDiscards (fun _ _ => rfl) (fun _ _ => rfl) s bs
@[simp] theorem clearReserved_bays (s : State) (bs : List BlockId) : (s.clearReserved bs).bays = s.bays :=
  clearReserved_view State.bays (fun _ _ => rfl) (fun _ _ => rfl) s bs
@[simp] theorem clearReserved_dispatch (s : State) (bs : List BlockId) : (s.clearReserved bs).dispatch = s.dispatch :=
  clearReserved_view State.dispatch (fun _ _ => rfl) (fun _ _ => rfl) s bs
@[simp] theorem clearReserved_nextDispatch (s : State) (bs : List BlockId) : (s.clearReserved bs).nextDispatch = s.nextDispatch :=
  clearReserved_view State.nextDispatch (fun _ _ => rfl) (fun _ _ => rfl) s bs
@[simp] theorem clearReserved_launches (s : State) (bs : List BlockId) : (s.clearReserved bs).launches = s.launches :=
  clearReserved_view State.launches (fun _ _ => rfl) (fun _ _ => rfl) s bs
@[simp] theorem clearReserved_switches (s : State) (bs : List BlockId) : (s.clearReserved bs).switches = s.switches :=
  clearReserved_view State.switches (fun _ _ => rfl) (fun _ _ => rfl) s bs
@[simp] theorem clearReserved_brakes (s : State) (bs : List BlockId) : (s.clearReserved bs).brakes = s.brakes :=
  clearReserved_view State.brakes (fun _ _ => rfl) (fun _ _ => rfl) s bs
@[simp] theorem clearReserved_trapStrays (s : State) (bs : List BlockId) : (s.clearReserved bs).trapStrays = s.trapStrays :=
  clearReserved_view State.trapStrays (fun _ _ => rfl) (fun _ _ => rfl) s bs
@[simp] theorem clearReserved_points (s : State) (bs : List BlockId) : (s.clearReserved bs).points = s.points :=
  clearReserved_view State.points (fun _ _ => rfl) (fun _ _ => rfl) s bs
@[simp] theorem clearReserved_channels (s : State) (bs : List BlockId) : (s.clearReserved bs).channels = s.channels :=
  clearReserved_view State.channels (fun _ _ => rfl) (fun _ _ => rfl) s bs
@[simp] theorem clearReserved_mc (s : State) (bs : List BlockId) : (s.clearReserved bs).mc = s.mc :=
  clearReserved_view State.mc (fun _ _ => rfl) (fun _ _ => rfl) s bs
@[simp] theorem clearReserved_reports (s : State) (bs : List BlockId) : (s.clearReserved bs).reports = s.reports :=
  clearReserved_view State.reports (fun _ _ => rfl) (fun _ _ => rfl) s bs
@[simp] theorem cutPath_pending (s : State) (y : BoatId) (f : BlockId) : (s.cutPath y f).pending = s.pending :=
  cutPath_view State.pending (fun _ _ => rfl) (fun _ _ => rfl) (fun _ _ => rfl) s y f
@[simp] theorem cutPath_timeBase (s : State) (y : BoatId) (f : BlockId) : (s.cutPath y f).timeBase = s.timeBase :=
  cutPath_view State.timeBase (fun _ _ => rfl) (fun _ _ => rfl) (fun _ _ => rfl) s y f
@[simp] theorem cutPath_rate (s : State) (y : BoatId) (f : BlockId) : (s.cutPath y f).rate = s.rate :=
  cutPath_view State.rate (fun _ _ => rfl) (fun _ _ => rfl) (fun _ _ => rfl) s y f
@[simp] theorem cutPath_ports (s : State) (y : BoatId) (f : BlockId) : (s.cutPath y f).ports = s.ports :=
  cutPath_view State.ports (fun _ _ => rfl) (fun _ _ => rfl) (fun _ _ => rfl) s y f
@[simp] theorem cutPath_windows (s : State) (y : BoatId) (f : BlockId) : (s.cutPath y f).windows = s.windows :=
  cutPath_view State.windows (fun _ _ => rfl) (fun _ _ => rfl) (fun _ _ => rfl) s y f
@[simp] theorem cutPath_layout (s : State) (y : BoatId) (f : BlockId) : (s.cutPath y f).layout = s.layout :=
  cutPath_view State.layout (fun _ _ => rfl) (fun _ _ => rfl) (fun _ _ => rfl) s y f
@[simp] theorem cutPath_passages (s : State) (y : BoatId) (f : BlockId) : (s.cutPath y f).passages = s.passages :=
  cutPath_view State.passages (fun _ _ => rfl) (fun _ _ => rfl) (fun _ _ => rfl) s y f
@[simp] theorem cutPath_tagWindows (s : State) (y : BoatId) (f : BlockId) : (s.cutPath y f).tagWindows = s.tagWindows :=
  cutPath_view State.tagWindows (fun _ _ => rfl) (fun _ _ => rfl) (fun _ _ => rfl) s y f
@[simp] theorem cutPath_tagDiscards (s : State) (y : BoatId) (f : BlockId) : (s.cutPath y f).tagDiscards = s.tagDiscards :=
  cutPath_view State.tagDiscards (fun _ _ => rfl) (fun _ _ => rfl) (fun _ _ => rfl) s y f
@[simp] theorem cutPath_bays (s : State) (y : BoatId) (f : BlockId) : (s.cutPath y f).bays = s.bays :=
  cutPath_view State.bays (fun _ _ => rfl) (fun _ _ => rfl) (fun _ _ => rfl) s y f
@[simp] theorem cutPath_dispatch (s : State) (y : BoatId) (f : BlockId) : (s.cutPath y f).dispatch = s.dispatch :=
  cutPath_view State.dispatch (fun _ _ => rfl) (fun _ _ => rfl) (fun _ _ => rfl) s y f
@[simp] theorem cutPath_nextDispatch (s : State) (y : BoatId) (f : BlockId) : (s.cutPath y f).nextDispatch = s.nextDispatch :=
  cutPath_view State.nextDispatch (fun _ _ => rfl) (fun _ _ => rfl) (fun _ _ => rfl) s y f
@[simp] theorem cutPath_launches (s : State) (y : BoatId) (f : BlockId) : (s.cutPath y f).launches = s.launches :=
  cutPath_view State.launches (fun _ _ => rfl) (fun _ _ => rfl) (fun _ _ => rfl) s y f
@[simp] theorem cutPath_switches (s : State) (y : BoatId) (f : BlockId) : (s.cutPath y f).switches = s.switches :=
  cutPath_view State.switches (fun _ _ => rfl) (fun _ _ => rfl) (fun _ _ => rfl) s y f
@[simp] theorem cutPath_brakes (s : State) (y : BoatId) (f : BlockId) : (s.cutPath y f).brakes = s.brakes :=
  cutPath_view State.brakes (fun _ _ => rfl) (fun _ _ => rfl) (fun _ _ => rfl) s y f
@[simp] theorem cutPath_trapStrays (s : State) (y : BoatId) (f : BlockId) : (s.cutPath y f).trapStrays = s.trapStrays :=
  cutPath_view State.trapStrays (fun _ _ => rfl) (fun _ _ => rfl) (fun _ _ => rfl) s y f
@[simp] theorem cutPath_points (s : State) (y : BoatId) (f : BlockId) : (s.cutPath y f).points = s.points :=
  cutPath_view State.points (fun _ _ => rfl) (fun _ _ => rfl) (fun _ _ => rfl) s y f
@[simp] theorem cutPath_channels (s : State) (y : BoatId) (f : BlockId) : (s.cutPath y f).channels = s.channels :=
  cutPath_view State.channels (fun _ _ => rfl) (fun _ _ => rfl) (fun _ _ => rfl) s y f
@[simp] theorem cutPath_mc (s : State) (y : BoatId) (f : BlockId) : (s.cutPath y f).mc = s.mc :=
  cutPath_view State.mc (fun _ _ => rfl) (fun _ _ => rfl) (fun _ _ => rfl) s y f
@[simp] theorem cutPath_reports (s : State) (y : BoatId) (f : BlockId) : (s.cutPath y f).reports = s.reports :=
  cutPath_view State.reports (fun _ _ => rfl) (fun _ _ => rfl) (fun _ _ => rfl) s y f
@[simp] theorem faultBlock_pending (s : State) (b : BlockId) : (s.faultBlock b).pending = s.pending :=
  faultBlock_view State.pending (fun _ _ => rfl) (fun _ _ => rfl) (fun _ _ => rfl) (fun _ _ => rfl) (fun _ _ => rfl) s b
@[simp] theorem faultBlock_timeBase (s : State) (b : BlockId) : (s.faultBlock b).timeBase = s.timeBase :=
  faultBlock_view State.timeBase (fun _ _ => rfl) (fun _ _ => rfl) (fun _ _ => rfl) (fun _ _ => rfl) (fun _ _ => rfl) s b
@[simp] theorem faultBlock_rate (s : State) (b : BlockId) : (s.faultBlock b).rate = s.rate :=
  faultBlock_view State.rate (fun _ _ => rfl) (fun _ _ => rfl) (fun _ _ => rfl) (fun _ _ => rfl) (fun _ _ => rfl) s b
@[simp] theorem faultBlock_ports (s : State) (b : BlockId) : (s.faultBlock b).ports = s.ports :=
  faultBlock_view State.ports (fun _ _ => rfl) (fun _ _ => rfl) (fun _ _ => rfl) (fun _ _ => rfl) (fun _ _ => rfl) s b
@[simp] theorem faultBlock_windows (s : State) (b : BlockId) : (s.faultBlock b).windows = s.windows :=
  faultBlock_view State.windows (fun _ _ => rfl) (fun _ _ => rfl) (fun _ _ => rfl) (fun _ _ => rfl) (fun _ _ => rfl) s b
@[simp] theorem faultBlock_layout (s : State) (b : BlockId) : (s.faultBlock b).layout = s.layout :=
  faultBlock_view State.layout (fun _ _ => rfl) (fun _ _ => rfl) (fun _ _ => rfl) (fun _ _ => rfl) (fun _ _ => rfl) s b
@[simp] theorem faultBlock_passages (s : State) (b : BlockId) : (s.faultBlock b).passages = s.passages :=
  faultBlock_view State.passages (fun _ _ => rfl) (fun _ _ => rfl) (fun _ _ => rfl) (fun _ _ => rfl) (fun _ _ => rfl) s b
@[simp] theorem faultBlock_tagWindows (s : State) (b : BlockId) : (s.faultBlock b).tagWindows = s.tagWindows :=
  faultBlock_view State.tagWindows (fun _ _ => rfl) (fun _ _ => rfl) (fun _ _ => rfl) (fun _ _ => rfl) (fun _ _ => rfl) s b
@[simp] theorem faultBlock_tagDiscards (s : State) (b : BlockId) : (s.faultBlock b).tagDiscards = s.tagDiscards :=
  faultBlock_view State.tagDiscards (fun _ _ => rfl) (fun _ _ => rfl) (fun _ _ => rfl) (fun _ _ => rfl) (fun _ _ => rfl) s b
@[simp] theorem faultBlock_bays (s : State) (b : BlockId) : (s.faultBlock b).bays = s.bays :=
  faultBlock_view State.bays (fun _ _ => rfl) (fun _ _ => rfl) (fun _ _ => rfl) (fun _ _ => rfl) (fun _ _ => rfl) s b
@[simp] theorem faultBlock_dispatch (s : State) (b : BlockId) : (s.faultBlock b).dispatch = s.dispatch :=
  faultBlock_view State.dispatch (fun _ _ => rfl) (fun _ _ => rfl) (fun _ _ => rfl) (fun _ _ => rfl) (fun _ _ => rfl) s b
@[simp] theorem faultBlock_nextDispatch (s : State) (b : BlockId) : (s.faultBlock b).nextDispatch = s.nextDispatch :=
  faultBlock_view State.nextDispatch (fun _ _ => rfl) (fun _ _ => rfl) (fun _ _ => rfl) (fun _ _ => rfl) (fun _ _ => rfl) s b
@[simp] theorem faultBlock_launches (s : State) (b : BlockId) : (s.faultBlock b).launches = s.launches :=
  faultBlock_view State.launches (fun _ _ => rfl) (fun _ _ => rfl) (fun _ _ => rfl) (fun _ _ => rfl) (fun _ _ => rfl) s b
@[simp] theorem faultBlock_trapStrays (s : State) (b : BlockId) : (s.faultBlock b).trapStrays = s.trapStrays :=
  faultBlock_view State.trapStrays (fun _ _ => rfl) (fun _ _ => rfl) (fun _ _ => rfl) (fun _ _ => rfl) (fun _ _ => rfl) s b
@[simp] theorem faultBlock_points (s : State) (b : BlockId) : (s.faultBlock b).points = s.points :=
  faultBlock_view State.points (fun _ _ => rfl) (fun _ _ => rfl) (fun _ _ => rfl) (fun _ _ => rfl) (fun _ _ => rfl) s b
@[simp] theorem faultBlock_channels (s : State) (b : BlockId) : (s.faultBlock b).channels = s.channels :=
  faultBlock_view State.channels (fun _ _ => rfl) (fun _ _ => rfl) (fun _ _ => rfl) (fun _ _ => rfl) (fun _ _ => rfl) s b
@[simp] theorem faultBlock_mc (s : State) (b : BlockId) : (s.faultBlock b).mc = s.mc :=
  faultBlock_view State.mc (fun _ _ => rfl) (fun _ _ => rfl) (fun _ _ => rfl) (fun _ _ => rfl) (fun _ _ => rfl) s b
@[simp] theorem faultBlock_reports (s : State) (b : BlockId) : (s.faultBlock b).reports = s.reports :=
  faultBlock_view State.reports (fun _ _ => rfl) (fun _ _ => rfl) (fun _ _ => rfl) (fun _ _ => rfl) (fun _ _ => rfl) s b
@[simp] theorem cancelEntry_pending (s : State) (e : DispatchEntry) (c : CancelCause) (n : Nat) : (s.cancelEntry e c n).pending = s.pending :=
  cancelEntry_view State.pending (fun _ _ => rfl) (fun _ _ => rfl) s e c n
@[simp] theorem cancelEntry_timeBase (s : State) (e : DispatchEntry) (c : CancelCause) (n : Nat) : (s.cancelEntry e c n).timeBase = s.timeBase :=
  cancelEntry_view State.timeBase (fun _ _ => rfl) (fun _ _ => rfl) s e c n
@[simp] theorem cancelEntry_rate (s : State) (e : DispatchEntry) (c : CancelCause) (n : Nat) : (s.cancelEntry e c n).rate = s.rate :=
  cancelEntry_view State.rate (fun _ _ => rfl) (fun _ _ => rfl) s e c n
@[simp] theorem cancelEntry_ports (s : State) (e : DispatchEntry) (c : CancelCause) (n : Nat) : (s.cancelEntry e c n).ports = s.ports :=
  cancelEntry_view State.ports (fun _ _ => rfl) (fun _ _ => rfl) s e c n
@[simp] theorem cancelEntry_windows (s : State) (e : DispatchEntry) (c : CancelCause) (n : Nat) : (s.cancelEntry e c n).windows = s.windows :=
  cancelEntry_view State.windows (fun _ _ => rfl) (fun _ _ => rfl) s e c n
@[simp] theorem cancelEntry_layout (s : State) (e : DispatchEntry) (c : CancelCause) (n : Nat) : (s.cancelEntry e c n).layout = s.layout :=
  cancelEntry_view State.layout (fun _ _ => rfl) (fun _ _ => rfl) s e c n
@[simp] theorem cancelEntry_table (s : State) (e : DispatchEntry) (c : CancelCause) (n : Nat) : (s.cancelEntry e c n).table = s.table :=
  cancelEntry_view State.table (fun _ _ => rfl) (fun _ _ => rfl) s e c n
@[simp] theorem cancelEntry_passages (s : State) (e : DispatchEntry) (c : CancelCause) (n : Nat) : (s.cancelEntry e c n).passages = s.passages :=
  cancelEntry_view State.passages (fun _ _ => rfl) (fun _ _ => rfl) s e c n
@[simp] theorem cancelEntry_roster (s : State) (e : DispatchEntry) (c : CancelCause) (n : Nat) : (s.cancelEntry e c n).roster = s.roster :=
  cancelEntry_view State.roster (fun _ _ => rfl) (fun _ _ => rfl) s e c n
@[simp] theorem cancelEntry_tagWindows (s : State) (e : DispatchEntry) (c : CancelCause) (n : Nat) : (s.cancelEntry e c n).tagWindows = s.tagWindows :=
  cancelEntry_view State.tagWindows (fun _ _ => rfl) (fun _ _ => rfl) s e c n
@[simp] theorem cancelEntry_tagDiscards (s : State) (e : DispatchEntry) (c : CancelCause) (n : Nat) : (s.cancelEntry e c n).tagDiscards = s.tagDiscards :=
  cancelEntry_view State.tagDiscards (fun _ _ => rfl) (fun _ _ => rfl) s e c n
@[simp] theorem cancelEntry_bays (s : State) (e : DispatchEntry) (c : CancelCause) (n : Nat) : (s.cancelEntry e c n).bays = s.bays :=
  cancelEntry_view State.bays (fun _ _ => rfl) (fun _ _ => rfl) s e c n
@[simp] theorem cancelEntry_nextDispatch (s : State) (e : DispatchEntry) (c : CancelCause) (n : Nat) : (s.cancelEntry e c n).nextDispatch = s.nextDispatch :=
  cancelEntry_view State.nextDispatch (fun _ _ => rfl) (fun _ _ => rfl) s e c n
@[simp] theorem cancelEntry_launches (s : State) (e : DispatchEntry) (c : CancelCause) (n : Nat) : (s.cancelEntry e c n).launches = s.launches :=
  cancelEntry_view State.launches (fun _ _ => rfl) (fun _ _ => rfl) s e c n
@[simp] theorem cancelEntry_arbiters (s : State) (e : DispatchEntry) (c : CancelCause) (n : Nat) : (s.cancelEntry e c n).arbiters = s.arbiters :=
  cancelEntry_view State.arbiters (fun _ _ => rfl) (fun _ _ => rfl) s e c n
@[simp] theorem cancelEntry_switches (s : State) (e : DispatchEntry) (c : CancelCause) (n : Nat) : (s.cancelEntry e c n).switches = s.switches :=
  cancelEntry_view State.switches (fun _ _ => rfl) (fun _ _ => rfl) s e c n
@[simp] theorem cancelEntry_brakes (s : State) (e : DispatchEntry) (c : CancelCause) (n : Nat) : (s.cancelEntry e c n).brakes = s.brakes :=
  cancelEntry_view State.brakes (fun _ _ => rfl) (fun _ _ => rfl) s e c n
@[simp] theorem cancelEntry_trapStrays (s : State) (e : DispatchEntry) (c : CancelCause) (n : Nat) : (s.cancelEntry e c n).trapStrays = s.trapStrays :=
  cancelEntry_view State.trapStrays (fun _ _ => rfl) (fun _ _ => rfl) s e c n
@[simp] theorem cancelEntry_points (s : State) (e : DispatchEntry) (c : CancelCause) (n : Nat) : (s.cancelEntry e c n).points = s.points :=
  cancelEntry_view State.points (fun _ _ => rfl) (fun _ _ => rfl) s e c n
@[simp] theorem cancelEntry_channels (s : State) (e : DispatchEntry) (c : CancelCause) (n : Nat) : (s.cancelEntry e c n).channels = s.channels :=
  cancelEntry_view State.channels (fun _ _ => rfl) (fun _ _ => rfl) s e c n
@[simp] theorem cancelEntry_mc (s : State) (e : DispatchEntry) (c : CancelCause) (n : Nat) : (s.cancelEntry e c n).mc = s.mc :=
  cancelEntry_view State.mc (fun _ _ => rfl) (fun _ _ => rfl) s e c n
@[simp] theorem cancelOfBay_pending (s : State) (b : BlockId) (c : CancelCause) : (s.cancelOfBay b c).pending = s.pending :=
  cancelOfBay_view State.pending (fun _ _ => rfl) (fun _ _ => rfl) s b c
@[simp] theorem cancelOfBay_timeBase (s : State) (b : BlockId) (c : CancelCause) : (s.cancelOfBay b c).timeBase = s.timeBase :=
  cancelOfBay_view State.timeBase (fun _ _ => rfl) (fun _ _ => rfl) s b c
@[simp] theorem cancelOfBay_rate (s : State) (b : BlockId) (c : CancelCause) : (s.cancelOfBay b c).rate = s.rate :=
  cancelOfBay_view State.rate (fun _ _ => rfl) (fun _ _ => rfl) s b c
@[simp] theorem cancelOfBay_ports (s : State) (b : BlockId) (c : CancelCause) : (s.cancelOfBay b c).ports = s.ports :=
  cancelOfBay_view State.ports (fun _ _ => rfl) (fun _ _ => rfl) s b c
@[simp] theorem cancelOfBay_windows (s : State) (b : BlockId) (c : CancelCause) : (s.cancelOfBay b c).windows = s.windows :=
  cancelOfBay_view State.windows (fun _ _ => rfl) (fun _ _ => rfl) s b c
@[simp] theorem cancelOfBay_layout (s : State) (b : BlockId) (c : CancelCause) : (s.cancelOfBay b c).layout = s.layout :=
  cancelOfBay_view State.layout (fun _ _ => rfl) (fun _ _ => rfl) s b c
@[simp] theorem cancelOfBay_table (s : State) (b : BlockId) (c : CancelCause) : (s.cancelOfBay b c).table = s.table :=
  cancelOfBay_view State.table (fun _ _ => rfl) (fun _ _ => rfl) s b c
@[simp] theorem cancelOfBay_passages (s : State) (b : BlockId) (c : CancelCause) : (s.cancelOfBay b c).passages = s.passages :=
  cancelOfBay_view State.passages (fun _ _ => rfl) (fun _ _ => rfl) s b c
@[simp] theorem cancelOfBay_roster (s : State) (b : BlockId) (c : CancelCause) : (s.cancelOfBay b c).roster = s.roster :=
  cancelOfBay_view State.roster (fun _ _ => rfl) (fun _ _ => rfl) s b c
@[simp] theorem cancelOfBay_tagWindows (s : State) (b : BlockId) (c : CancelCause) : (s.cancelOfBay b c).tagWindows = s.tagWindows :=
  cancelOfBay_view State.tagWindows (fun _ _ => rfl) (fun _ _ => rfl) s b c
@[simp] theorem cancelOfBay_tagDiscards (s : State) (b : BlockId) (c : CancelCause) : (s.cancelOfBay b c).tagDiscards = s.tagDiscards :=
  cancelOfBay_view State.tagDiscards (fun _ _ => rfl) (fun _ _ => rfl) s b c
@[simp] theorem cancelOfBay_bays (s : State) (b : BlockId) (c : CancelCause) : (s.cancelOfBay b c).bays = s.bays :=
  cancelOfBay_view State.bays (fun _ _ => rfl) (fun _ _ => rfl) s b c
@[simp] theorem cancelOfBay_nextDispatch (s : State) (b : BlockId) (c : CancelCause) : (s.cancelOfBay b c).nextDispatch = s.nextDispatch :=
  cancelOfBay_view State.nextDispatch (fun _ _ => rfl) (fun _ _ => rfl) s b c
@[simp] theorem cancelOfBay_launches (s : State) (b : BlockId) (c : CancelCause) : (s.cancelOfBay b c).launches = s.launches :=
  cancelOfBay_view State.launches (fun _ _ => rfl) (fun _ _ => rfl) s b c
@[simp] theorem cancelOfBay_arbiters (s : State) (b : BlockId) (c : CancelCause) : (s.cancelOfBay b c).arbiters = s.arbiters :=
  cancelOfBay_view State.arbiters (fun _ _ => rfl) (fun _ _ => rfl) s b c
@[simp] theorem cancelOfBay_switches (s : State) (b : BlockId) (c : CancelCause) : (s.cancelOfBay b c).switches = s.switches :=
  cancelOfBay_view State.switches (fun _ _ => rfl) (fun _ _ => rfl) s b c
@[simp] theorem cancelOfBay_brakes (s : State) (b : BlockId) (c : CancelCause) : (s.cancelOfBay b c).brakes = s.brakes :=
  cancelOfBay_view State.brakes (fun _ _ => rfl) (fun _ _ => rfl) s b c
@[simp] theorem cancelOfBay_trapStrays (s : State) (b : BlockId) (c : CancelCause) : (s.cancelOfBay b c).trapStrays = s.trapStrays :=
  cancelOfBay_view State.trapStrays (fun _ _ => rfl) (fun _ _ => rfl) s b c
@[simp] theorem cancelOfBay_points (s : State) (b : BlockId) (c : CancelCause) : (s.cancelOfBay b c).points = s.points :=
  cancelOfBay_view State.points (fun _ _ => rfl) (fun _ _ => rfl) s b c
@[simp] theorem cancelOfBay_channels (s : State) (b : BlockId) (c : CancelCause) : (s.cancelOfBay b c).channels = s.channels :=
  cancelOfBay_view State.channels (fun _ _ => rfl) (fun _ _ => rfl) s b c
@[simp] theorem cancelOfBay_mc (s : State) (b : BlockId) (c : CancelCause) : (s.cancelOfBay b c).mc = s.mc :=
  cancelOfBay_view State.mc (fun _ _ => rfl) (fun _ _ => rfl) s b c
@[simp] theorem setPhase_pending (s : State) (b : BlockId) (p : Phase) : (s.setPhase b p).pending = s.pending :=
  setPhase_view State.pending (fun _ _ => rfl) (fun _ _ => rfl) s b p
@[simp] theorem setPhase_timeBase (s : State) (b : BlockId) (p : Phase) : (s.setPhase b p).timeBase = s.timeBase :=
  setPhase_view State.timeBase (fun _ _ => rfl) (fun _ _ => rfl) s b p
@[simp] theorem setPhase_rate (s : State) (b : BlockId) (p : Phase) : (s.setPhase b p).rate = s.rate :=
  setPhase_view State.rate (fun _ _ => rfl) (fun _ _ => rfl) s b p
@[simp] theorem setPhase_ports (s : State) (b : BlockId) (p : Phase) : (s.setPhase b p).ports = s.ports :=
  setPhase_view State.ports (fun _ _ => rfl) (fun _ _ => rfl) s b p
@[simp] theorem setPhase_windows (s : State) (b : BlockId) (p : Phase) : (s.setPhase b p).windows = s.windows :=
  setPhase_view State.windows (fun _ _ => rfl) (fun _ _ => rfl) s b p
@[simp] theorem setPhase_layout (s : State) (b : BlockId) (p : Phase) : (s.setPhase b p).layout = s.layout :=
  setPhase_view State.layout (fun _ _ => rfl) (fun _ _ => rfl) s b p
@[simp] theorem setPhase_table (s : State) (b : BlockId) (p : Phase) : (s.setPhase b p).table = s.table :=
  setPhase_view State.table (fun _ _ => rfl) (fun _ _ => rfl) s b p
@[simp] theorem setPhase_passages (s : State) (b : BlockId) (p : Phase) : (s.setPhase b p).passages = s.passages :=
  setPhase_view State.passages (fun _ _ => rfl) (fun _ _ => rfl) s b p
@[simp] theorem setPhase_roster (s : State) (b : BlockId) (p : Phase) : (s.setPhase b p).roster = s.roster :=
  setPhase_view State.roster (fun _ _ => rfl) (fun _ _ => rfl) s b p
@[simp] theorem setPhase_tagWindows (s : State) (b : BlockId) (p : Phase) : (s.setPhase b p).tagWindows = s.tagWindows :=
  setPhase_view State.tagWindows (fun _ _ => rfl) (fun _ _ => rfl) s b p
@[simp] theorem setPhase_tagDiscards (s : State) (b : BlockId) (p : Phase) : (s.setPhase b p).tagDiscards = s.tagDiscards :=
  setPhase_view State.tagDiscards (fun _ _ => rfl) (fun _ _ => rfl) s b p
@[simp] theorem setPhase_dispatch (s : State) (b : BlockId) (p : Phase) : (s.setPhase b p).dispatch = s.dispatch :=
  setPhase_view State.dispatch (fun _ _ => rfl) (fun _ _ => rfl) s b p
@[simp] theorem setPhase_nextDispatch (s : State) (b : BlockId) (p : Phase) : (s.setPhase b p).nextDispatch = s.nextDispatch :=
  setPhase_view State.nextDispatch (fun _ _ => rfl) (fun _ _ => rfl) s b p
@[simp] theorem setPhase_launches (s : State) (b : BlockId) (p : Phase) : (s.setPhase b p).launches = s.launches :=
  setPhase_view State.launches (fun _ _ => rfl) (fun _ _ => rfl) s b p
@[simp] theorem setPhase_arbiters (s : State) (b : BlockId) (p : Phase) : (s.setPhase b p).arbiters = s.arbiters :=
  setPhase_view State.arbiters (fun _ _ => rfl) (fun _ _ => rfl) s b p
@[simp] theorem setPhase_switches (s : State) (b : BlockId) (p : Phase) : (s.setPhase b p).switches = s.switches :=
  setPhase_view State.switches (fun _ _ => rfl) (fun _ _ => rfl) s b p
@[simp] theorem setPhase_brakes (s : State) (b : BlockId) (p : Phase) : (s.setPhase b p).brakes = s.brakes :=
  setPhase_view State.brakes (fun _ _ => rfl) (fun _ _ => rfl) s b p
@[simp] theorem setPhase_trapStrays (s : State) (b : BlockId) (p : Phase) : (s.setPhase b p).trapStrays = s.trapStrays :=
  setPhase_view State.trapStrays (fun _ _ => rfl) (fun _ _ => rfl) s b p
@[simp] theorem setPhase_points (s : State) (b : BlockId) (p : Phase) : (s.setPhase b p).points = s.points :=
  setPhase_view State.points (fun _ _ => rfl) (fun _ _ => rfl) s b p
@[simp] theorem setPhase_channels (s : State) (b : BlockId) (p : Phase) : (s.setPhase b p).channels = s.channels :=
  setPhase_view State.channels (fun _ _ => rfl) (fun _ _ => rfl) s b p
@[simp] theorem setPhase_mc (s : State) (b : BlockId) (p : Phase) : (s.setPhase b p).mc = s.mc :=
  setPhase_view State.mc (fun _ _ => rfl) (fun _ _ => rfl) s b p
@[simp] theorem modBay_pending (s : State) (b : BlockId) (f : Bay → Bay) : (s.modBay b f).pending = s.pending :=
  modBay_view State.pending (fun _ _ => rfl) s b f
@[simp] theorem modBay_timeBase (s : State) (b : BlockId) (f : Bay → Bay) : (s.modBay b f).timeBase = s.timeBase :=
  modBay_view State.timeBase (fun _ _ => rfl) s b f
@[simp] theorem modBay_rate (s : State) (b : BlockId) (f : Bay → Bay) : (s.modBay b f).rate = s.rate :=
  modBay_view State.rate (fun _ _ => rfl) s b f
@[simp] theorem modBay_ports (s : State) (b : BlockId) (f : Bay → Bay) : (s.modBay b f).ports = s.ports :=
  modBay_view State.ports (fun _ _ => rfl) s b f
@[simp] theorem modBay_windows (s : State) (b : BlockId) (f : Bay → Bay) : (s.modBay b f).windows = s.windows :=
  modBay_view State.windows (fun _ _ => rfl) s b f
@[simp] theorem modBay_layout (s : State) (b : BlockId) (f : Bay → Bay) : (s.modBay b f).layout = s.layout :=
  modBay_view State.layout (fun _ _ => rfl) s b f
@[simp] theorem modBay_table (s : State) (b : BlockId) (f : Bay → Bay) : (s.modBay b f).table = s.table :=
  modBay_view State.table (fun _ _ => rfl) s b f
@[simp] theorem modBay_passages (s : State) (b : BlockId) (f : Bay → Bay) : (s.modBay b f).passages = s.passages :=
  modBay_view State.passages (fun _ _ => rfl) s b f
@[simp] theorem modBay_roster (s : State) (b : BlockId) (f : Bay → Bay) : (s.modBay b f).roster = s.roster :=
  modBay_view State.roster (fun _ _ => rfl) s b f
@[simp] theorem modBay_tagWindows (s : State) (b : BlockId) (f : Bay → Bay) : (s.modBay b f).tagWindows = s.tagWindows :=
  modBay_view State.tagWindows (fun _ _ => rfl) s b f
@[simp] theorem modBay_tagDiscards (s : State) (b : BlockId) (f : Bay → Bay) : (s.modBay b f).tagDiscards = s.tagDiscards :=
  modBay_view State.tagDiscards (fun _ _ => rfl) s b f
@[simp] theorem modBay_dispatch (s : State) (b : BlockId) (f : Bay → Bay) : (s.modBay b f).dispatch = s.dispatch :=
  modBay_view State.dispatch (fun _ _ => rfl) s b f
@[simp] theorem modBay_nextDispatch (s : State) (b : BlockId) (f : Bay → Bay) : (s.modBay b f).nextDispatch = s.nextDispatch :=
  modBay_view State.nextDispatch (fun _ _ => rfl) s b f
@[simp] theorem modBay_launches (s : State) (b : BlockId) (f : Bay → Bay) : (s.modBay b f).launches = s.launches :=
  modBay_view State.launches (fun _ _ => rfl) s b f
@[simp] theorem modBay_arbiters (s : State) (b : BlockId) (f : Bay → Bay) : (s.modBay b f).arbiters = s.arbiters :=
  modBay_view State.arbiters (fun _ _ => rfl) s b f
@[simp] theorem modBay_switches (s : State) (b : BlockId) (f : Bay → Bay) : (s.modBay b f).switches = s.switches :=
  modBay_view State.switches (fun _ _ => rfl) s b f
@[simp] theorem modBay_brakes (s : State) (b : BlockId) (f : Bay → Bay) : (s.modBay b f).brakes = s.brakes :=
  modBay_view State.brakes (fun _ _ => rfl) s b f
@[simp] theorem modBay_trapStrays (s : State) (b : BlockId) (f : Bay → Bay) : (s.modBay b f).trapStrays = s.trapStrays :=
  modBay_view State.trapStrays (fun _ _ => rfl) s b f
@[simp] theorem modBay_points (s : State) (b : BlockId) (f : Bay → Bay) : (s.modBay b f).points = s.points :=
  modBay_view State.points (fun _ _ => rfl) s b f
@[simp] theorem modBay_channels (s : State) (b : BlockId) (f : Bay → Bay) : (s.modBay b f).channels = s.channels :=
  modBay_view State.channels (fun _ _ => rfl) s b f
@[simp] theorem modBay_mc (s : State) (b : BlockId) (f : Bay → Bay) : (s.modBay b f).mc = s.mc :=
  modBay_view State.mc (fun _ _ => rfl) s b f
@[simp] theorem modBay_reports (s : State) (b : BlockId) (f : Bay → Bay) : (s.modBay b f).reports = s.reports :=
  modBay_view State.reports (fun _ _ => rfl) s b f
@[simp] theorem startWeigh_pending (s : State) (b : BlockId) (k : WeighKind) : (s.startWeigh b k).pending = s.pending :=
  startWeigh_view State.pending (fun _ _ => rfl) (fun _ _ => rfl) s b k
@[simp] theorem startWeigh_timeBase (s : State) (b : BlockId) (k : WeighKind) : (s.startWeigh b k).timeBase = s.timeBase :=
  startWeigh_view State.timeBase (fun _ _ => rfl) (fun _ _ => rfl) s b k
@[simp] theorem startWeigh_rate (s : State) (b : BlockId) (k : WeighKind) : (s.startWeigh b k).rate = s.rate :=
  startWeigh_view State.rate (fun _ _ => rfl) (fun _ _ => rfl) s b k
@[simp] theorem startWeigh_ports (s : State) (b : BlockId) (k : WeighKind) : (s.startWeigh b k).ports = s.ports :=
  startWeigh_view State.ports (fun _ _ => rfl) (fun _ _ => rfl) s b k
@[simp] theorem startWeigh_windows (s : State) (b : BlockId) (k : WeighKind) : (s.startWeigh b k).windows = s.windows :=
  startWeigh_view State.windows (fun _ _ => rfl) (fun _ _ => rfl) s b k
@[simp] theorem startWeigh_layout (s : State) (b : BlockId) (k : WeighKind) : (s.startWeigh b k).layout = s.layout :=
  startWeigh_view State.layout (fun _ _ => rfl) (fun _ _ => rfl) s b k
@[simp] theorem startWeigh_table (s : State) (b : BlockId) (k : WeighKind) : (s.startWeigh b k).table = s.table :=
  startWeigh_view State.table (fun _ _ => rfl) (fun _ _ => rfl) s b k
@[simp] theorem startWeigh_passages (s : State) (b : BlockId) (k : WeighKind) : (s.startWeigh b k).passages = s.passages :=
  startWeigh_view State.passages (fun _ _ => rfl) (fun _ _ => rfl) s b k
@[simp] theorem startWeigh_roster (s : State) (b : BlockId) (k : WeighKind) : (s.startWeigh b k).roster = s.roster :=
  startWeigh_view State.roster (fun _ _ => rfl) (fun _ _ => rfl) s b k
@[simp] theorem startWeigh_tagWindows (s : State) (b : BlockId) (k : WeighKind) : (s.startWeigh b k).tagWindows = s.tagWindows :=
  startWeigh_view State.tagWindows (fun _ _ => rfl) (fun _ _ => rfl) s b k
@[simp] theorem startWeigh_tagDiscards (s : State) (b : BlockId) (k : WeighKind) : (s.startWeigh b k).tagDiscards = s.tagDiscards :=
  startWeigh_view State.tagDiscards (fun _ _ => rfl) (fun _ _ => rfl) s b k
@[simp] theorem startWeigh_dispatch (s : State) (b : BlockId) (k : WeighKind) : (s.startWeigh b k).dispatch = s.dispatch :=
  startWeigh_view State.dispatch (fun _ _ => rfl) (fun _ _ => rfl) s b k
@[simp] theorem startWeigh_nextDispatch (s : State) (b : BlockId) (k : WeighKind) : (s.startWeigh b k).nextDispatch = s.nextDispatch :=
  startWeigh_view State.nextDispatch (fun _ _ => rfl) (fun _ _ => rfl) s b k
@[simp] theorem startWeigh_launches (s : State) (b : BlockId) (k : WeighKind) : (s.startWeigh b k).launches = s.launches :=
  startWeigh_view State.launches (fun _ _ => rfl) (fun _ _ => rfl) s b k
@[simp] theorem startWeigh_arbiters (s : State) (b : BlockId) (k : WeighKind) : (s.startWeigh b k).arbiters = s.arbiters :=
  startWeigh_view State.arbiters (fun _ _ => rfl) (fun _ _ => rfl) s b k
@[simp] theorem startWeigh_switches (s : State) (b : BlockId) (k : WeighKind) : (s.startWeigh b k).switches = s.switches :=
  startWeigh_view State.switches (fun _ _ => rfl) (fun _ _ => rfl) s b k
@[simp] theorem startWeigh_brakes (s : State) (b : BlockId) (k : WeighKind) : (s.startWeigh b k).brakes = s.brakes :=
  startWeigh_view State.brakes (fun _ _ => rfl) (fun _ _ => rfl) s b k
@[simp] theorem startWeigh_trapStrays (s : State) (b : BlockId) (k : WeighKind) : (s.startWeigh b k).trapStrays = s.trapStrays :=
  startWeigh_view State.trapStrays (fun _ _ => rfl) (fun _ _ => rfl) s b k
@[simp] theorem startWeigh_points (s : State) (b : BlockId) (k : WeighKind) : (s.startWeigh b k).points = s.points :=
  startWeigh_view State.points (fun _ _ => rfl) (fun _ _ => rfl) s b k
@[simp] theorem startWeigh_channels (s : State) (b : BlockId) (k : WeighKind) : (s.startWeigh b k).channels = s.channels :=
  startWeigh_view State.channels (fun _ _ => rfl) (fun _ _ => rfl) s b k
@[simp] theorem startWeigh_mc (s : State) (b : BlockId) (k : WeighKind) : (s.startWeigh b k).mc = s.mc :=
  startWeigh_view State.mc (fun _ _ => rfl) (fun _ _ => rfl) s b k
@[simp] theorem berth_pending (s : State) (b : BlockId) (e : Option PointId) : (s.berth b e).pending = s.pending :=
  berth_view State.pending (fun _ _ => rfl) (fun _ _ => rfl) s b e
@[simp] theorem berth_timeBase (s : State) (b : BlockId) (e : Option PointId) : (s.berth b e).timeBase = s.timeBase :=
  berth_view State.timeBase (fun _ _ => rfl) (fun _ _ => rfl) s b e
@[simp] theorem berth_rate (s : State) (b : BlockId) (e : Option PointId) : (s.berth b e).rate = s.rate :=
  berth_view State.rate (fun _ _ => rfl) (fun _ _ => rfl) s b e
@[simp] theorem berth_ports (s : State) (b : BlockId) (e : Option PointId) : (s.berth b e).ports = s.ports :=
  berth_view State.ports (fun _ _ => rfl) (fun _ _ => rfl) s b e
@[simp] theorem berth_windows (s : State) (b : BlockId) (e : Option PointId) : (s.berth b e).windows = s.windows :=
  berth_view State.windows (fun _ _ => rfl) (fun _ _ => rfl) s b e
@[simp] theorem berth_layout (s : State) (b : BlockId) (e : Option PointId) : (s.berth b e).layout = s.layout :=
  berth_view State.layout (fun _ _ => rfl) (fun _ _ => rfl) s b e
@[simp] theorem berth_table (s : State) (b : BlockId) (e : Option PointId) : (s.berth b e).table = s.table :=
  berth_view State.table (fun _ _ => rfl) (fun _ _ => rfl) s b e
@[simp] theorem berth_passages (s : State) (b : BlockId) (e : Option PointId) : (s.berth b e).passages = s.passages :=
  berth_view State.passages (fun _ _ => rfl) (fun _ _ => rfl) s b e
@[simp] theorem berth_roster (s : State) (b : BlockId) (e : Option PointId) : (s.berth b e).roster = s.roster :=
  berth_view State.roster (fun _ _ => rfl) (fun _ _ => rfl) s b e
@[simp] theorem berth_tagWindows (s : State) (b : BlockId) (e : Option PointId) : (s.berth b e).tagWindows = s.tagWindows :=
  berth_view State.tagWindows (fun _ _ => rfl) (fun _ _ => rfl) s b e
@[simp] theorem berth_tagDiscards (s : State) (b : BlockId) (e : Option PointId) : (s.berth b e).tagDiscards = s.tagDiscards :=
  berth_view State.tagDiscards (fun _ _ => rfl) (fun _ _ => rfl) s b e
@[simp] theorem berth_dispatch (s : State) (b : BlockId) (e : Option PointId) : (s.berth b e).dispatch = s.dispatch :=
  berth_view State.dispatch (fun _ _ => rfl) (fun _ _ => rfl) s b e
@[simp] theorem berth_nextDispatch (s : State) (b : BlockId) (e : Option PointId) : (s.berth b e).nextDispatch = s.nextDispatch :=
  berth_view State.nextDispatch (fun _ _ => rfl) (fun _ _ => rfl) s b e
@[simp] theorem berth_launches (s : State) (b : BlockId) (e : Option PointId) : (s.berth b e).launches = s.launches :=
  berth_view State.launches (fun _ _ => rfl) (fun _ _ => rfl) s b e
@[simp] theorem berth_arbiters (s : State) (b : BlockId) (e : Option PointId) : (s.berth b e).arbiters = s.arbiters :=
  berth_view State.arbiters (fun _ _ => rfl) (fun _ _ => rfl) s b e
@[simp] theorem berth_switches (s : State) (b : BlockId) (e : Option PointId) : (s.berth b e).switches = s.switches :=
  berth_view State.switches (fun _ _ => rfl) (fun _ _ => rfl) s b e
@[simp] theorem berth_brakes (s : State) (b : BlockId) (e : Option PointId) : (s.berth b e).brakes = s.brakes :=
  berth_view State.brakes (fun _ _ => rfl) (fun _ _ => rfl) s b e
@[simp] theorem berth_trapStrays (s : State) (b : BlockId) (e : Option PointId) : (s.berth b e).trapStrays = s.trapStrays :=
  berth_view State.trapStrays (fun _ _ => rfl) (fun _ _ => rfl) s b e
@[simp] theorem berth_points (s : State) (b : BlockId) (e : Option PointId) : (s.berth b e).points = s.points :=
  berth_view State.points (fun _ _ => rfl) (fun _ _ => rfl) s b e
@[simp] theorem berth_channels (s : State) (b : BlockId) (e : Option PointId) : (s.berth b e).channels = s.channels :=
  berth_view State.channels (fun _ _ => rfl) (fun _ _ => rfl) s b e
@[simp] theorem berth_mc (s : State) (b : BlockId) (e : Option PointId) : (s.berth b e).mc = s.mc :=
  berth_view State.mc (fun _ _ => rfl) (fun _ _ => rfl) s b e
@[simp] theorem vacateBay_pending (s : State) (b : BlockId) : (s.vacateBay b).pending = s.pending :=
  vacateBay_view State.pending (fun _ _ => rfl) (fun _ _ => rfl) (fun _ _ => rfl) s b
@[simp] theorem vacateBay_timeBase (s : State) (b : BlockId) : (s.vacateBay b).timeBase = s.timeBase :=
  vacateBay_view State.timeBase (fun _ _ => rfl) (fun _ _ => rfl) (fun _ _ => rfl) s b
@[simp] theorem vacateBay_rate (s : State) (b : BlockId) : (s.vacateBay b).rate = s.rate :=
  vacateBay_view State.rate (fun _ _ => rfl) (fun _ _ => rfl) (fun _ _ => rfl) s b
@[simp] theorem vacateBay_ports (s : State) (b : BlockId) : (s.vacateBay b).ports = s.ports :=
  vacateBay_view State.ports (fun _ _ => rfl) (fun _ _ => rfl) (fun _ _ => rfl) s b
@[simp] theorem vacateBay_windows (s : State) (b : BlockId) : (s.vacateBay b).windows = s.windows :=
  vacateBay_view State.windows (fun _ _ => rfl) (fun _ _ => rfl) (fun _ _ => rfl) s b
@[simp] theorem vacateBay_layout (s : State) (b : BlockId) : (s.vacateBay b).layout = s.layout :=
  vacateBay_view State.layout (fun _ _ => rfl) (fun _ _ => rfl) (fun _ _ => rfl) s b
@[simp] theorem vacateBay_table (s : State) (b : BlockId) : (s.vacateBay b).table = s.table :=
  vacateBay_view State.table (fun _ _ => rfl) (fun _ _ => rfl) (fun _ _ => rfl) s b
@[simp] theorem vacateBay_passages (s : State) (b : BlockId) : (s.vacateBay b).passages = s.passages :=
  vacateBay_view State.passages (fun _ _ => rfl) (fun _ _ => rfl) (fun _ _ => rfl) s b
@[simp] theorem vacateBay_roster (s : State) (b : BlockId) : (s.vacateBay b).roster = s.roster :=
  vacateBay_view State.roster (fun _ _ => rfl) (fun _ _ => rfl) (fun _ _ => rfl) s b
@[simp] theorem vacateBay_tagWindows (s : State) (b : BlockId) : (s.vacateBay b).tagWindows = s.tagWindows :=
  vacateBay_view State.tagWindows (fun _ _ => rfl) (fun _ _ => rfl) (fun _ _ => rfl) s b
@[simp] theorem vacateBay_tagDiscards (s : State) (b : BlockId) : (s.vacateBay b).tagDiscards = s.tagDiscards :=
  vacateBay_view State.tagDiscards (fun _ _ => rfl) (fun _ _ => rfl) (fun _ _ => rfl) s b
@[simp] theorem vacateBay_nextDispatch (s : State) (b : BlockId) : (s.vacateBay b).nextDispatch = s.nextDispatch :=
  vacateBay_view State.nextDispatch (fun _ _ => rfl) (fun _ _ => rfl) (fun _ _ => rfl) s b
@[simp] theorem vacateBay_launches (s : State) (b : BlockId) : (s.vacateBay b).launches = s.launches :=
  vacateBay_view State.launches (fun _ _ => rfl) (fun _ _ => rfl) (fun _ _ => rfl) s b
@[simp] theorem vacateBay_arbiters (s : State) (b : BlockId) : (s.vacateBay b).arbiters = s.arbiters :=
  vacateBay_view State.arbiters (fun _ _ => rfl) (fun _ _ => rfl) (fun _ _ => rfl) s b
@[simp] theorem vacateBay_switches (s : State) (b : BlockId) : (s.vacateBay b).switches = s.switches :=
  vacateBay_view State.switches (fun _ _ => rfl) (fun _ _ => rfl) (fun _ _ => rfl) s b
@[simp] theorem vacateBay_brakes (s : State) (b : BlockId) : (s.vacateBay b).brakes = s.brakes :=
  vacateBay_view State.brakes (fun _ _ => rfl) (fun _ _ => rfl) (fun _ _ => rfl) s b
@[simp] theorem vacateBay_trapStrays (s : State) (b : BlockId) : (s.vacateBay b).trapStrays = s.trapStrays :=
  vacateBay_view State.trapStrays (fun _ _ => rfl) (fun _ _ => rfl) (fun _ _ => rfl) s b
@[simp] theorem vacateBay_points (s : State) (b : BlockId) : (s.vacateBay b).points = s.points :=
  vacateBay_view State.points (fun _ _ => rfl) (fun _ _ => rfl) (fun _ _ => rfl) s b
@[simp] theorem vacateBay_channels (s : State) (b : BlockId) : (s.vacateBay b).channels = s.channels :=
  vacateBay_view State.channels (fun _ _ => rfl) (fun _ _ => rfl) (fun _ _ => rfl) s b
@[simp] theorem vacateBay_mc (s : State) (b : BlockId) : (s.vacateBay b).mc = s.mc :=
  vacateBay_view State.mc (fun _ _ => rfl) (fun _ _ => rfl) (fun _ _ => rfl) s b
@[simp] theorem bayFaulted_pending (s : State) (b : BlockId) : (s.bayFaulted b).pending = s.pending :=
  bayFaulted_view State.pending (fun _ _ => rfl) (fun _ _ => rfl) s b
@[simp] theorem bayFaulted_timeBase (s : State) (b : BlockId) : (s.bayFaulted b).timeBase = s.timeBase :=
  bayFaulted_view State.timeBase (fun _ _ => rfl) (fun _ _ => rfl) s b
@[simp] theorem bayFaulted_rate (s : State) (b : BlockId) : (s.bayFaulted b).rate = s.rate :=
  bayFaulted_view State.rate (fun _ _ => rfl) (fun _ _ => rfl) s b
@[simp] theorem bayFaulted_ports (s : State) (b : BlockId) : (s.bayFaulted b).ports = s.ports :=
  bayFaulted_view State.ports (fun _ _ => rfl) (fun _ _ => rfl) s b
@[simp] theorem bayFaulted_windows (s : State) (b : BlockId) : (s.bayFaulted b).windows = s.windows :=
  bayFaulted_view State.windows (fun _ _ => rfl) (fun _ _ => rfl) s b
@[simp] theorem bayFaulted_layout (s : State) (b : BlockId) : (s.bayFaulted b).layout = s.layout :=
  bayFaulted_view State.layout (fun _ _ => rfl) (fun _ _ => rfl) s b
@[simp] theorem bayFaulted_table (s : State) (b : BlockId) : (s.bayFaulted b).table = s.table :=
  bayFaulted_view State.table (fun _ _ => rfl) (fun _ _ => rfl) s b
@[simp] theorem bayFaulted_passages (s : State) (b : BlockId) : (s.bayFaulted b).passages = s.passages :=
  bayFaulted_view State.passages (fun _ _ => rfl) (fun _ _ => rfl) s b
@[simp] theorem bayFaulted_roster (s : State) (b : BlockId) : (s.bayFaulted b).roster = s.roster :=
  bayFaulted_view State.roster (fun _ _ => rfl) (fun _ _ => rfl) s b
@[simp] theorem bayFaulted_tagWindows (s : State) (b : BlockId) : (s.bayFaulted b).tagWindows = s.tagWindows :=
  bayFaulted_view State.tagWindows (fun _ _ => rfl) (fun _ _ => rfl) s b
@[simp] theorem bayFaulted_tagDiscards (s : State) (b : BlockId) : (s.bayFaulted b).tagDiscards = s.tagDiscards :=
  bayFaulted_view State.tagDiscards (fun _ _ => rfl) (fun _ _ => rfl) s b
@[simp] theorem bayFaulted_dispatch (s : State) (b : BlockId) : (s.bayFaulted b).dispatch = s.dispatch :=
  bayFaulted_view State.dispatch (fun _ _ => rfl) (fun _ _ => rfl) s b
@[simp] theorem bayFaulted_nextDispatch (s : State) (b : BlockId) : (s.bayFaulted b).nextDispatch = s.nextDispatch :=
  bayFaulted_view State.nextDispatch (fun _ _ => rfl) (fun _ _ => rfl) s b
@[simp] theorem bayFaulted_launches (s : State) (b : BlockId) : (s.bayFaulted b).launches = s.launches :=
  bayFaulted_view State.launches (fun _ _ => rfl) (fun _ _ => rfl) s b
@[simp] theorem bayFaulted_arbiters (s : State) (b : BlockId) : (s.bayFaulted b).arbiters = s.arbiters :=
  bayFaulted_view State.arbiters (fun _ _ => rfl) (fun _ _ => rfl) s b
@[simp] theorem bayFaulted_switches (s : State) (b : BlockId) : (s.bayFaulted b).switches = s.switches :=
  bayFaulted_view State.switches (fun _ _ => rfl) (fun _ _ => rfl) s b
@[simp] theorem bayFaulted_brakes (s : State) (b : BlockId) : (s.bayFaulted b).brakes = s.brakes :=
  bayFaulted_view State.brakes (fun _ _ => rfl) (fun _ _ => rfl) s b
@[simp] theorem bayFaulted_trapStrays (s : State) (b : BlockId) : (s.bayFaulted b).trapStrays = s.trapStrays :=
  bayFaulted_view State.trapStrays (fun _ _ => rfl) (fun _ _ => rfl) s b
@[simp] theorem bayFaulted_points (s : State) (b : BlockId) : (s.bayFaulted b).points = s.points :=
  bayFaulted_view State.points (fun _ _ => rfl) (fun _ _ => rfl) s b
@[simp] theorem bayFaulted_channels (s : State) (b : BlockId) : (s.bayFaulted b).channels = s.channels :=
  bayFaulted_view State.channels (fun _ _ => rfl) (fun _ _ => rfl) s b
@[simp] theorem bayFaulted_mc (s : State) (b : BlockId) : (s.bayFaulted b).mc = s.mc :=
  bayFaulted_view State.mc (fun _ _ => rfl) (fun _ _ => rfl) s b
@[simp] theorem bayReturn_pending (s : State) (b : BlockId) : (s.bayReturn b).pending = s.pending :=
  bayReturn_view State.pending (fun _ _ => rfl) (fun _ _ => rfl) s b
@[simp] theorem bayReturn_timeBase (s : State) (b : BlockId) : (s.bayReturn b).timeBase = s.timeBase :=
  bayReturn_view State.timeBase (fun _ _ => rfl) (fun _ _ => rfl) s b
@[simp] theorem bayReturn_rate (s : State) (b : BlockId) : (s.bayReturn b).rate = s.rate :=
  bayReturn_view State.rate (fun _ _ => rfl) (fun _ _ => rfl) s b
@[simp] theorem bayReturn_ports (s : State) (b : BlockId) : (s.bayReturn b).ports = s.ports :=
  bayReturn_view State.ports (fun _ _ => rfl) (fun _ _ => rfl) s b
@[simp] theorem bayReturn_windows (s : State) (b : BlockId) : (s.bayReturn b).windows = s.windows :=
  bayReturn_view State.windows (fun _ _ => rfl) (fun _ _ => rfl) s b
@[simp] theorem bayReturn_layout (s : State) (b : BlockId) : (s.bayReturn b).layout = s.layout :=
  bayReturn_view State.layout (fun _ _ => rfl) (fun _ _ => rfl) s b
@[simp] theorem bayReturn_table (s : State) (b : BlockId) : (s.bayReturn b).table = s.table :=
  bayReturn_view State.table (fun _ _ => rfl) (fun _ _ => rfl) s b
@[simp] theorem bayReturn_passages (s : State) (b : BlockId) : (s.bayReturn b).passages = s.passages :=
  bayReturn_view State.passages (fun _ _ => rfl) (fun _ _ => rfl) s b
@[simp] theorem bayReturn_roster (s : State) (b : BlockId) : (s.bayReturn b).roster = s.roster :=
  bayReturn_view State.roster (fun _ _ => rfl) (fun _ _ => rfl) s b
@[simp] theorem bayReturn_tagWindows (s : State) (b : BlockId) : (s.bayReturn b).tagWindows = s.tagWindows :=
  bayReturn_view State.tagWindows (fun _ _ => rfl) (fun _ _ => rfl) s b
@[simp] theorem bayReturn_tagDiscards (s : State) (b : BlockId) : (s.bayReturn b).tagDiscards = s.tagDiscards :=
  bayReturn_view State.tagDiscards (fun _ _ => rfl) (fun _ _ => rfl) s b
@[simp] theorem bayReturn_dispatch (s : State) (b : BlockId) : (s.bayReturn b).dispatch = s.dispatch :=
  bayReturn_view State.dispatch (fun _ _ => rfl) (fun _ _ => rfl) s b
@[simp] theorem bayReturn_nextDispatch (s : State) (b : BlockId) : (s.bayReturn b).nextDispatch = s.nextDispatch :=
  bayReturn_view State.nextDispatch (fun _ _ => rfl) (fun _ _ => rfl) s b
@[simp] theorem bayReturn_launches (s : State) (b : BlockId) : (s.bayReturn b).launches = s.launches :=
  bayReturn_view State.launches (fun _ _ => rfl) (fun _ _ => rfl) s b
@[simp] theorem bayReturn_arbiters (s : State) (b : BlockId) : (s.bayReturn b).arbiters = s.arbiters :=
  bayReturn_view State.arbiters (fun _ _ => rfl) (fun _ _ => rfl) s b
@[simp] theorem bayReturn_switches (s : State) (b : BlockId) : (s.bayReturn b).switches = s.switches :=
  bayReturn_view State.switches (fun _ _ => rfl) (fun _ _ => rfl) s b
@[simp] theorem bayReturn_brakes (s : State) (b : BlockId) : (s.bayReturn b).brakes = s.brakes :=
  bayReturn_view State.brakes (fun _ _ => rfl) (fun _ _ => rfl) s b
@[simp] theorem bayReturn_trapStrays (s : State) (b : BlockId) : (s.bayReturn b).trapStrays = s.trapStrays :=
  bayReturn_view State.trapStrays (fun _ _ => rfl) (fun _ _ => rfl) s b
@[simp] theorem bayReturn_points (s : State) (b : BlockId) : (s.bayReturn b).points = s.points :=
  bayReturn_view State.points (fun _ _ => rfl) (fun _ _ => rfl) s b
@[simp] theorem bayReturn_channels (s : State) (b : BlockId) : (s.bayReturn b).channels = s.channels :=
  bayReturn_view State.channels (fun _ _ => rfl) (fun _ _ => rfl) s b
@[simp] theorem bayReturn_mc (s : State) (b : BlockId) : (s.bayReturn b).mc = s.mc :=
  bayReturn_view State.mc (fun _ _ => rfl) (fun _ _ => rfl) s b
@[simp] theorem bayGranted_pending (s : State) (b : BlockId) : (s.bayGranted b).pending = s.pending :=
  bayGranted_view State.pending (fun _ _ => rfl) (fun _ _ => rfl) s b
@[simp] theorem bayGranted_timeBase (s : State) (b : BlockId) : (s.bayGranted b).timeBase = s.timeBase :=
  bayGranted_view State.timeBase (fun _ _ => rfl) (fun _ _ => rfl) s b
@[simp] theorem bayGranted_rate (s : State) (b : BlockId) : (s.bayGranted b).rate = s.rate :=
  bayGranted_view State.rate (fun _ _ => rfl) (fun _ _ => rfl) s b
@[simp] theorem bayGranted_ports (s : State) (b : BlockId) : (s.bayGranted b).ports = s.ports :=
  bayGranted_view State.ports (fun _ _ => rfl) (fun _ _ => rfl) s b
@[simp] theorem bayGranted_windows (s : State) (b : BlockId) : (s.bayGranted b).windows = s.windows :=
  bayGranted_view State.windows (fun _ _ => rfl) (fun _ _ => rfl) s b
@[simp] theorem bayGranted_layout (s : State) (b : BlockId) : (s.bayGranted b).layout = s.layout :=
  bayGranted_view State.layout (fun _ _ => rfl) (fun _ _ => rfl) s b
@[simp] theorem bayGranted_table (s : State) (b : BlockId) : (s.bayGranted b).table = s.table :=
  bayGranted_view State.table (fun _ _ => rfl) (fun _ _ => rfl) s b
@[simp] theorem bayGranted_passages (s : State) (b : BlockId) : (s.bayGranted b).passages = s.passages :=
  bayGranted_view State.passages (fun _ _ => rfl) (fun _ _ => rfl) s b
@[simp] theorem bayGranted_roster (s : State) (b : BlockId) : (s.bayGranted b).roster = s.roster :=
  bayGranted_view State.roster (fun _ _ => rfl) (fun _ _ => rfl) s b
@[simp] theorem bayGranted_tagWindows (s : State) (b : BlockId) : (s.bayGranted b).tagWindows = s.tagWindows :=
  bayGranted_view State.tagWindows (fun _ _ => rfl) (fun _ _ => rfl) s b
@[simp] theorem bayGranted_tagDiscards (s : State) (b : BlockId) : (s.bayGranted b).tagDiscards = s.tagDiscards :=
  bayGranted_view State.tagDiscards (fun _ _ => rfl) (fun _ _ => rfl) s b
@[simp] theorem bayGranted_dispatch (s : State) (b : BlockId) : (s.bayGranted b).dispatch = s.dispatch :=
  bayGranted_view State.dispatch (fun _ _ => rfl) (fun _ _ => rfl) s b
@[simp] theorem bayGranted_nextDispatch (s : State) (b : BlockId) : (s.bayGranted b).nextDispatch = s.nextDispatch :=
  bayGranted_view State.nextDispatch (fun _ _ => rfl) (fun _ _ => rfl) s b
@[simp] theorem bayGranted_launches (s : State) (b : BlockId) : (s.bayGranted b).launches = s.launches :=
  bayGranted_view State.launches (fun _ _ => rfl) (fun _ _ => rfl) s b
@[simp] theorem bayGranted_arbiters (s : State) (b : BlockId) : (s.bayGranted b).arbiters = s.arbiters :=
  bayGranted_view State.arbiters (fun _ _ => rfl) (fun _ _ => rfl) s b
@[simp] theorem bayGranted_switches (s : State) (b : BlockId) : (s.bayGranted b).switches = s.switches :=
  bayGranted_view State.switches (fun _ _ => rfl) (fun _ _ => rfl) s b
@[simp] theorem bayGranted_brakes (s : State) (b : BlockId) : (s.bayGranted b).brakes = s.brakes :=
  bayGranted_view State.brakes (fun _ _ => rfl) (fun _ _ => rfl) s b
@[simp] theorem bayGranted_trapStrays (s : State) (b : BlockId) : (s.bayGranted b).trapStrays = s.trapStrays :=
  bayGranted_view State.trapStrays (fun _ _ => rfl) (fun _ _ => rfl) s b
@[simp] theorem bayGranted_points (s : State) (b : BlockId) : (s.bayGranted b).points = s.points :=
  bayGranted_view State.points (fun _ _ => rfl) (fun _ _ => rfl) s b
@[simp] theorem bayGranted_channels (s : State) (b : BlockId) : (s.bayGranted b).channels = s.channels :=
  bayGranted_view State.channels (fun _ _ => rfl) (fun _ _ => rfl) s b
@[simp] theorem bayGranted_mc (s : State) (b : BlockId) : (s.bayGranted b).mc = s.mc :=
  bayGranted_view State.mc (fun _ _ => rfl) (fun _ _ => rfl) s b
@[simp] theorem endWeigh_pending (s : State) (b : BlockId) (w : Weigh) (o : WeighOutcome) (r : Option WeighResult) (i j k : Nat) : (s.endWeigh b w o r i j k).pending = s.pending :=
  endWeigh_view State.pending (fun _ _ => rfl) (fun _ _ => rfl) s b w o r i j k
@[simp] theorem endWeigh_timeBase (s : State) (b : BlockId) (w : Weigh) (o : WeighOutcome) (r : Option WeighResult) (i j k : Nat) : (s.endWeigh b w o r i j k).timeBase = s.timeBase :=
  endWeigh_view State.timeBase (fun _ _ => rfl) (fun _ _ => rfl) s b w o r i j k
@[simp] theorem endWeigh_rate (s : State) (b : BlockId) (w : Weigh) (o : WeighOutcome) (r : Option WeighResult) (i j k : Nat) : (s.endWeigh b w o r i j k).rate = s.rate :=
  endWeigh_view State.rate (fun _ _ => rfl) (fun _ _ => rfl) s b w o r i j k
@[simp] theorem endWeigh_ports (s : State) (b : BlockId) (w : Weigh) (o : WeighOutcome) (r : Option WeighResult) (i j k : Nat) : (s.endWeigh b w o r i j k).ports = s.ports :=
  endWeigh_view State.ports (fun _ _ => rfl) (fun _ _ => rfl) s b w o r i j k
@[simp] theorem endWeigh_windows (s : State) (b : BlockId) (w : Weigh) (o : WeighOutcome) (r : Option WeighResult) (i j k : Nat) : (s.endWeigh b w o r i j k).windows = s.windows :=
  endWeigh_view State.windows (fun _ _ => rfl) (fun _ _ => rfl) s b w o r i j k
@[simp] theorem endWeigh_layout (s : State) (b : BlockId) (w : Weigh) (o : WeighOutcome) (r : Option WeighResult) (i j k : Nat) : (s.endWeigh b w o r i j k).layout = s.layout :=
  endWeigh_view State.layout (fun _ _ => rfl) (fun _ _ => rfl) s b w o r i j k
@[simp] theorem endWeigh_table (s : State) (b : BlockId) (w : Weigh) (o : WeighOutcome) (r : Option WeighResult) (i j k : Nat) : (s.endWeigh b w o r i j k).table = s.table :=
  endWeigh_view State.table (fun _ _ => rfl) (fun _ _ => rfl) s b w o r i j k
@[simp] theorem endWeigh_passages (s : State) (b : BlockId) (w : Weigh) (o : WeighOutcome) (r : Option WeighResult) (i j k : Nat) : (s.endWeigh b w o r i j k).passages = s.passages :=
  endWeigh_view State.passages (fun _ _ => rfl) (fun _ _ => rfl) s b w o r i j k
@[simp] theorem endWeigh_roster (s : State) (b : BlockId) (w : Weigh) (o : WeighOutcome) (r : Option WeighResult) (i j k : Nat) : (s.endWeigh b w o r i j k).roster = s.roster :=
  endWeigh_view State.roster (fun _ _ => rfl) (fun _ _ => rfl) s b w o r i j k
@[simp] theorem endWeigh_tagWindows (s : State) (b : BlockId) (w : Weigh) (o : WeighOutcome) (r : Option WeighResult) (i j k : Nat) : (s.endWeigh b w o r i j k).tagWindows = s.tagWindows :=
  endWeigh_view State.tagWindows (fun _ _ => rfl) (fun _ _ => rfl) s b w o r i j k
@[simp] theorem endWeigh_tagDiscards (s : State) (b : BlockId) (w : Weigh) (o : WeighOutcome) (r : Option WeighResult) (i j k : Nat) : (s.endWeigh b w o r i j k).tagDiscards = s.tagDiscards :=
  endWeigh_view State.tagDiscards (fun _ _ => rfl) (fun _ _ => rfl) s b w o r i j k
@[simp] theorem endWeigh_dispatch (s : State) (b : BlockId) (w : Weigh) (o : WeighOutcome) (r : Option WeighResult) (i j k : Nat) : (s.endWeigh b w o r i j k).dispatch = s.dispatch :=
  endWeigh_view State.dispatch (fun _ _ => rfl) (fun _ _ => rfl) s b w o r i j k
@[simp] theorem endWeigh_nextDispatch (s : State) (b : BlockId) (w : Weigh) (o : WeighOutcome) (r : Option WeighResult) (i j k : Nat) : (s.endWeigh b w o r i j k).nextDispatch = s.nextDispatch :=
  endWeigh_view State.nextDispatch (fun _ _ => rfl) (fun _ _ => rfl) s b w o r i j k
@[simp] theorem endWeigh_launches (s : State) (b : BlockId) (w : Weigh) (o : WeighOutcome) (r : Option WeighResult) (i j k : Nat) : (s.endWeigh b w o r i j k).launches = s.launches :=
  endWeigh_view State.launches (fun _ _ => rfl) (fun _ _ => rfl) s b w o r i j k
@[simp] theorem endWeigh_arbiters (s : State) (b : BlockId) (w : Weigh) (o : WeighOutcome) (r : Option WeighResult) (i j k : Nat) : (s.endWeigh b w o r i j k).arbiters = s.arbiters :=
  endWeigh_view State.arbiters (fun _ _ => rfl) (fun _ _ => rfl) s b w o r i j k
@[simp] theorem endWeigh_switches (s : State) (b : BlockId) (w : Weigh) (o : WeighOutcome) (r : Option WeighResult) (i j k : Nat) : (s.endWeigh b w o r i j k).switches = s.switches :=
  endWeigh_view State.switches (fun _ _ => rfl) (fun _ _ => rfl) s b w o r i j k
@[simp] theorem endWeigh_brakes (s : State) (b : BlockId) (w : Weigh) (o : WeighOutcome) (r : Option WeighResult) (i j k : Nat) : (s.endWeigh b w o r i j k).brakes = s.brakes :=
  endWeigh_view State.brakes (fun _ _ => rfl) (fun _ _ => rfl) s b w o r i j k
@[simp] theorem endWeigh_trapStrays (s : State) (b : BlockId) (w : Weigh) (o : WeighOutcome) (r : Option WeighResult) (i j k : Nat) : (s.endWeigh b w o r i j k).trapStrays = s.trapStrays :=
  endWeigh_view State.trapStrays (fun _ _ => rfl) (fun _ _ => rfl) s b w o r i j k
@[simp] theorem endWeigh_points (s : State) (b : BlockId) (w : Weigh) (o : WeighOutcome) (r : Option WeighResult) (i j k : Nat) : (s.endWeigh b w o r i j k).points = s.points :=
  endWeigh_view State.points (fun _ _ => rfl) (fun _ _ => rfl) s b w o r i j k
@[simp] theorem endWeigh_channels (s : State) (b : BlockId) (w : Weigh) (o : WeighOutcome) (r : Option WeighResult) (i j k : Nat) : (s.endWeigh b w o r i j k).channels = s.channels :=
  endWeigh_view State.channels (fun _ _ => rfl) (fun _ _ => rfl) s b w o r i j k
@[simp] theorem endWeigh_mc (s : State) (b : BlockId) (w : Weigh) (o : WeighOutcome) (r : Option WeighResult) (i j k : Nat) : (s.endWeigh b w o r i j k).mc = s.mc :=
  endWeigh_view State.mc (fun _ _ => rfl) (fun _ _ => rfl) s b w o r i j k
@[simp] theorem firePulse_pending (s : State) (b : BlockId) : (s.firePulse b).pending = s.pending :=
  firePulse_view State.pending (fun _ _ => rfl) s b
@[simp] theorem firePulse_timeBase (s : State) (b : BlockId) : (s.firePulse b).timeBase = s.timeBase :=
  firePulse_view State.timeBase (fun _ _ => rfl) s b
@[simp] theorem firePulse_rate (s : State) (b : BlockId) : (s.firePulse b).rate = s.rate :=
  firePulse_view State.rate (fun _ _ => rfl) s b
@[simp] theorem firePulse_ports (s : State) (b : BlockId) : (s.firePulse b).ports = s.ports :=
  firePulse_view State.ports (fun _ _ => rfl) s b
@[simp] theorem firePulse_windows (s : State) (b : BlockId) : (s.firePulse b).windows = s.windows :=
  firePulse_view State.windows (fun _ _ => rfl) s b
@[simp] theorem firePulse_layout (s : State) (b : BlockId) : (s.firePulse b).layout = s.layout :=
  firePulse_view State.layout (fun _ _ => rfl) s b
@[simp] theorem firePulse_table (s : State) (b : BlockId) : (s.firePulse b).table = s.table :=
  firePulse_view State.table (fun _ _ => rfl) s b
@[simp] theorem firePulse_passages (s : State) (b : BlockId) : (s.firePulse b).passages = s.passages :=
  firePulse_view State.passages (fun _ _ => rfl) s b
@[simp] theorem firePulse_roster (s : State) (b : BlockId) : (s.firePulse b).roster = s.roster :=
  firePulse_view State.roster (fun _ _ => rfl) s b
@[simp] theorem firePulse_tagWindows (s : State) (b : BlockId) : (s.firePulse b).tagWindows = s.tagWindows :=
  firePulse_view State.tagWindows (fun _ _ => rfl) s b
@[simp] theorem firePulse_tagDiscards (s : State) (b : BlockId) : (s.firePulse b).tagDiscards = s.tagDiscards :=
  firePulse_view State.tagDiscards (fun _ _ => rfl) s b
@[simp] theorem firePulse_bays (s : State) (b : BlockId) : (s.firePulse b).bays = s.bays :=
  firePulse_view State.bays (fun _ _ => rfl) s b
@[simp] theorem firePulse_dispatch (s : State) (b : BlockId) : (s.firePulse b).dispatch = s.dispatch :=
  firePulse_view State.dispatch (fun _ _ => rfl) s b
@[simp] theorem firePulse_nextDispatch (s : State) (b : BlockId) : (s.firePulse b).nextDispatch = s.nextDispatch :=
  firePulse_view State.nextDispatch (fun _ _ => rfl) s b
@[simp] theorem firePulse_launches (s : State) (b : BlockId) : (s.firePulse b).launches = s.launches :=
  firePulse_view State.launches (fun _ _ => rfl) s b
@[simp] theorem firePulse_arbiters (s : State) (b : BlockId) : (s.firePulse b).arbiters = s.arbiters :=
  firePulse_view State.arbiters (fun _ _ => rfl) s b
@[simp] theorem firePulse_switches (s : State) (b : BlockId) : (s.firePulse b).switches = s.switches :=
  firePulse_view State.switches (fun _ _ => rfl) s b
@[simp] theorem firePulse_brakes (s : State) (b : BlockId) : (s.firePulse b).brakes = s.brakes :=
  firePulse_view State.brakes (fun _ _ => rfl) s b
@[simp] theorem firePulse_trapStrays (s : State) (b : BlockId) : (s.firePulse b).trapStrays = s.trapStrays :=
  firePulse_view State.trapStrays (fun _ _ => rfl) s b
@[simp] theorem firePulse_points (s : State) (b : BlockId) : (s.firePulse b).points = s.points :=
  firePulse_view State.points (fun _ _ => rfl) s b
@[simp] theorem firePulse_mc (s : State) (b : BlockId) : (s.firePulse b).mc = s.mc :=
  firePulse_view State.mc (fun _ _ => rfl) s b
@[simp] theorem firePulse_reports (s : State) (b : BlockId) : (s.firePulse b).reports = s.reports :=
  firePulse_view State.reports (fun _ _ => rfl) s b
@[simp] theorem bookGrant_pending (s : State) (b : BlockId) (p : List BlockId) : (s.bookGrant b p).pending = s.pending :=
  bookGrant_view State.pending (fun _ _ => rfl) s b p
@[simp] theorem bookGrant_timeBase (s : State) (b : BlockId) (p : List BlockId) : (s.bookGrant b p).timeBase = s.timeBase :=
  bookGrant_view State.timeBase (fun _ _ => rfl) s b p
@[simp] theorem bookGrant_rate (s : State) (b : BlockId) (p : List BlockId) : (s.bookGrant b p).rate = s.rate :=
  bookGrant_view State.rate (fun _ _ => rfl) s b p
@[simp] theorem bookGrant_ports (s : State) (b : BlockId) (p : List BlockId) : (s.bookGrant b p).ports = s.ports :=
  bookGrant_view State.ports (fun _ _ => rfl) s b p
@[simp] theorem bookGrant_windows (s : State) (b : BlockId) (p : List BlockId) : (s.bookGrant b p).windows = s.windows :=
  bookGrant_view State.windows (fun _ _ => rfl) s b p
@[simp] theorem bookGrant_layout (s : State) (b : BlockId) (p : List BlockId) : (s.bookGrant b p).layout = s.layout :=
  bookGrant_view State.layout (fun _ _ => rfl) s b p
@[simp] theorem bookGrant_table (s : State) (b : BlockId) (p : List BlockId) : (s.bookGrant b p).table = s.table :=
  bookGrant_view State.table (fun _ _ => rfl) s b p
@[simp] theorem bookGrant_passages (s : State) (b : BlockId) (p : List BlockId) : (s.bookGrant b p).passages = s.passages :=
  bookGrant_view State.passages (fun _ _ => rfl) s b p
@[simp] theorem bookGrant_roster (s : State) (b : BlockId) (p : List BlockId) : (s.bookGrant b p).roster = s.roster :=
  bookGrant_view State.roster (fun _ _ => rfl) s b p
@[simp] theorem bookGrant_tagWindows (s : State) (b : BlockId) (p : List BlockId) : (s.bookGrant b p).tagWindows = s.tagWindows :=
  bookGrant_view State.tagWindows (fun _ _ => rfl) s b p
@[simp] theorem bookGrant_tagDiscards (s : State) (b : BlockId) (p : List BlockId) : (s.bookGrant b p).tagDiscards = s.tagDiscards :=
  bookGrant_view State.tagDiscards (fun _ _ => rfl) s b p
@[simp] theorem bookGrant_bays (s : State) (b : BlockId) (p : List BlockId) : (s.bookGrant b p).bays = s.bays :=
  bookGrant_view State.bays (fun _ _ => rfl) s b p
@[simp] theorem bookGrant_dispatch (s : State) (b : BlockId) (p : List BlockId) : (s.bookGrant b p).dispatch = s.dispatch :=
  bookGrant_view State.dispatch (fun _ _ => rfl) s b p
@[simp] theorem bookGrant_nextDispatch (s : State) (b : BlockId) (p : List BlockId) : (s.bookGrant b p).nextDispatch = s.nextDispatch :=
  bookGrant_view State.nextDispatch (fun _ _ => rfl) s b p
@[simp] theorem bookGrant_launches (s : State) (b : BlockId) (p : List BlockId) : (s.bookGrant b p).launches = s.launches :=
  bookGrant_view State.launches (fun _ _ => rfl) s b p
@[simp] theorem bookGrant_switches (s : State) (b : BlockId) (p : List BlockId) : (s.bookGrant b p).switches = s.switches :=
  bookGrant_view State.switches (fun _ _ => rfl) s b p
@[simp] theorem bookGrant_brakes (s : State) (b : BlockId) (p : List BlockId) : (s.bookGrant b p).brakes = s.brakes :=
  bookGrant_view State.brakes (fun _ _ => rfl) s b p
@[simp] theorem bookGrant_trapStrays (s : State) (b : BlockId) (p : List BlockId) : (s.bookGrant b p).trapStrays = s.trapStrays :=
  bookGrant_view State.trapStrays (fun _ _ => rfl) s b p
@[simp] theorem bookGrant_points (s : State) (b : BlockId) (p : List BlockId) : (s.bookGrant b p).points = s.points :=
  bookGrant_view State.points (fun _ _ => rfl) s b p
@[simp] theorem bookGrant_channels (s : State) (b : BlockId) (p : List BlockId) : (s.bookGrant b p).channels = s.channels :=
  bookGrant_view State.channels (fun _ _ => rfl) s b p
@[simp] theorem bookGrant_mc (s : State) (b : BlockId) (p : List BlockId) : (s.bookGrant b p).mc = s.mc :=
  bookGrant_view State.mc (fun _ _ => rfl) s b p
@[simp] theorem bookGrant_reports (s : State) (b : BlockId) (p : List BlockId) : (s.bookGrant b p).reports = s.reports :=
  bookGrant_view State.reports (fun _ _ => rfl) s b p
@[simp] theorem reserve_pending (s : State) (x : BoatId) (p : List BlockId) : (s.reserve x p).pending = s.pending :=
  reserve_view State.pending (fun _ _ => rfl) (fun _ _ => rfl) s x p
@[simp] theorem reserve_timeBase (s : State) (x : BoatId) (p : List BlockId) : (s.reserve x p).timeBase = s.timeBase :=
  reserve_view State.timeBase (fun _ _ => rfl) (fun _ _ => rfl) s x p
@[simp] theorem reserve_rate (s : State) (x : BoatId) (p : List BlockId) : (s.reserve x p).rate = s.rate :=
  reserve_view State.rate (fun _ _ => rfl) (fun _ _ => rfl) s x p
@[simp] theorem reserve_ports (s : State) (x : BoatId) (p : List BlockId) : (s.reserve x p).ports = s.ports :=
  reserve_view State.ports (fun _ _ => rfl) (fun _ _ => rfl) s x p
@[simp] theorem reserve_windows (s : State) (x : BoatId) (p : List BlockId) : (s.reserve x p).windows = s.windows :=
  reserve_view State.windows (fun _ _ => rfl) (fun _ _ => rfl) s x p
@[simp] theorem reserve_layout (s : State) (x : BoatId) (p : List BlockId) : (s.reserve x p).layout = s.layout :=
  reserve_view State.layout (fun _ _ => rfl) (fun _ _ => rfl) s x p
@[simp] theorem reserve_passages (s : State) (x : BoatId) (p : List BlockId) : (s.reserve x p).passages = s.passages :=
  reserve_view State.passages (fun _ _ => rfl) (fun _ _ => rfl) s x p
@[simp] theorem reserve_roster (s : State) (x : BoatId) (p : List BlockId) : (s.reserve x p).roster = s.roster :=
  reserve_view State.roster (fun _ _ => rfl) (fun _ _ => rfl) s x p
@[simp] theorem reserve_tagWindows (s : State) (x : BoatId) (p : List BlockId) : (s.reserve x p).tagWindows = s.tagWindows :=
  reserve_view State.tagWindows (fun _ _ => rfl) (fun _ _ => rfl) s x p
@[simp] theorem reserve_tagDiscards (s : State) (x : BoatId) (p : List BlockId) : (s.reserve x p).tagDiscards = s.tagDiscards :=
  reserve_view State.tagDiscards (fun _ _ => rfl) (fun _ _ => rfl) s x p
@[simp] theorem reserve_bays (s : State) (x : BoatId) (p : List BlockId) : (s.reserve x p).bays = s.bays :=
  reserve_view State.bays (fun _ _ => rfl) (fun _ _ => rfl) s x p
@[simp] theorem reserve_dispatch (s : State) (x : BoatId) (p : List BlockId) : (s.reserve x p).dispatch = s.dispatch :=
  reserve_view State.dispatch (fun _ _ => rfl) (fun _ _ => rfl) s x p
@[simp] theorem reserve_nextDispatch (s : State) (x : BoatId) (p : List BlockId) : (s.reserve x p).nextDispatch = s.nextDispatch :=
  reserve_view State.nextDispatch (fun _ _ => rfl) (fun _ _ => rfl) s x p
@[simp] theorem reserve_launches (s : State) (x : BoatId) (p : List BlockId) : (s.reserve x p).launches = s.launches :=
  reserve_view State.launches (fun _ _ => rfl) (fun _ _ => rfl) s x p
@[simp] theorem reserve_switches (s : State) (x : BoatId) (p : List BlockId) : (s.reserve x p).switches = s.switches :=
  reserve_view State.switches (fun _ _ => rfl) (fun _ _ => rfl) s x p
@[simp] theorem reserve_brakes (s : State) (x : BoatId) (p : List BlockId) : (s.reserve x p).brakes = s.brakes :=
  reserve_view State.brakes (fun _ _ => rfl) (fun _ _ => rfl) s x p
@[simp] theorem reserve_trapStrays (s : State) (x : BoatId) (p : List BlockId) : (s.reserve x p).trapStrays = s.trapStrays :=
  reserve_view State.trapStrays (fun _ _ => rfl) (fun _ _ => rfl) s x p
@[simp] theorem reserve_points (s : State) (x : BoatId) (p : List BlockId) : (s.reserve x p).points = s.points :=
  reserve_view State.points (fun _ _ => rfl) (fun _ _ => rfl) s x p
@[simp] theorem reserve_channels (s : State) (x : BoatId) (p : List BlockId) : (s.reserve x p).channels = s.channels :=
  reserve_view State.channels (fun _ _ => rfl) (fun _ _ => rfl) s x p
@[simp] theorem reserve_mc (s : State) (x : BoatId) (p : List BlockId) : (s.reserve x p).mc = s.mc :=
  reserve_view State.mc (fun _ _ => rfl) (fun _ _ => rfl) s x p
@[simp] theorem reserve_reports (s : State) (x : BoatId) (p : List BlockId) : (s.reserve x p).reports = s.reports :=
  reserve_view State.reports (fun _ _ => rfl) (fun _ _ => rfl) s x p
@[simp] theorem writeLaunch_pending (s : State) (b : BlockId) : (s.writeLaunch b).pending = s.pending :=
  writeLaunch_view State.pending (fun _ _ => rfl) s b
@[simp] theorem writeLaunch_timeBase (s : State) (b : BlockId) : (s.writeLaunch b).timeBase = s.timeBase :=
  writeLaunch_view State.timeBase (fun _ _ => rfl) s b
@[simp] theorem writeLaunch_rate (s : State) (b : BlockId) : (s.writeLaunch b).rate = s.rate :=
  writeLaunch_view State.rate (fun _ _ => rfl) s b
@[simp] theorem writeLaunch_ports (s : State) (b : BlockId) : (s.writeLaunch b).ports = s.ports :=
  writeLaunch_view State.ports (fun _ _ => rfl) s b
@[simp] theorem writeLaunch_windows (s : State) (b : BlockId) : (s.writeLaunch b).windows = s.windows :=
  writeLaunch_view State.windows (fun _ _ => rfl) s b
@[simp] theorem writeLaunch_layout (s : State) (b : BlockId) : (s.writeLaunch b).layout = s.layout :=
  writeLaunch_view State.layout (fun _ _ => rfl) s b
@[simp] theorem writeLaunch_table (s : State) (b : BlockId) : (s.writeLaunch b).table = s.table :=
  writeLaunch_view State.table (fun _ _ => rfl) s b
@[simp] theorem writeLaunch_passages (s : State) (b : BlockId) : (s.writeLaunch b).passages = s.passages :=
  writeLaunch_view State.passages (fun _ _ => rfl) s b
@[simp] theorem writeLaunch_roster (s : State) (b : BlockId) : (s.writeLaunch b).roster = s.roster :=
  writeLaunch_view State.roster (fun _ _ => rfl) s b
@[simp] theorem writeLaunch_tagWindows (s : State) (b : BlockId) : (s.writeLaunch b).tagWindows = s.tagWindows :=
  writeLaunch_view State.tagWindows (fun _ _ => rfl) s b
@[simp] theorem writeLaunch_tagDiscards (s : State) (b : BlockId) : (s.writeLaunch b).tagDiscards = s.tagDiscards :=
  writeLaunch_view State.tagDiscards (fun _ _ => rfl) s b
@[simp] theorem writeLaunch_bays (s : State) (b : BlockId) : (s.writeLaunch b).bays = s.bays :=
  writeLaunch_view State.bays (fun _ _ => rfl) s b
@[simp] theorem writeLaunch_dispatch (s : State) (b : BlockId) : (s.writeLaunch b).dispatch = s.dispatch :=
  writeLaunch_view State.dispatch (fun _ _ => rfl) s b
@[simp] theorem writeLaunch_nextDispatch (s : State) (b : BlockId) : (s.writeLaunch b).nextDispatch = s.nextDispatch :=
  writeLaunch_view State.nextDispatch (fun _ _ => rfl) s b
@[simp] theorem writeLaunch_arbiters (s : State) (b : BlockId) : (s.writeLaunch b).arbiters = s.arbiters :=
  writeLaunch_view State.arbiters (fun _ _ => rfl) s b
@[simp] theorem writeLaunch_switches (s : State) (b : BlockId) : (s.writeLaunch b).switches = s.switches :=
  writeLaunch_view State.switches (fun _ _ => rfl) s b
@[simp] theorem writeLaunch_brakes (s : State) (b : BlockId) : (s.writeLaunch b).brakes = s.brakes :=
  writeLaunch_view State.brakes (fun _ _ => rfl) s b
@[simp] theorem writeLaunch_trapStrays (s : State) (b : BlockId) : (s.writeLaunch b).trapStrays = s.trapStrays :=
  writeLaunch_view State.trapStrays (fun _ _ => rfl) s b
@[simp] theorem writeLaunch_points (s : State) (b : BlockId) : (s.writeLaunch b).points = s.points :=
  writeLaunch_view State.points (fun _ _ => rfl) s b
@[simp] theorem writeLaunch_channels (s : State) (b : BlockId) : (s.writeLaunch b).channels = s.channels :=
  writeLaunch_view State.channels (fun _ _ => rfl) s b
@[simp] theorem writeLaunch_mc (s : State) (b : BlockId) : (s.writeLaunch b).mc = s.mc :=
  writeLaunch_view State.mc (fun _ _ => rfl) s b
@[simp] theorem writeLaunch_reports (s : State) (b : BlockId) : (s.writeLaunch b).reports = s.reports :=
  writeLaunch_view State.reports (fun _ _ => rfl) s b
@[simp] theorem grant_pending (s : State) (b : BlockId) (q : Requester) (p : List BlockId) : (s.grant b q p).pending = s.pending :=
  grant_view State.pending (fun _ _ => rfl) (fun _ _ => rfl) (fun _ _ => rfl) (fun _ _ => rfl) (fun _ _ => rfl) (fun _ _ => rfl) (fun _ _ => rfl) (fun _ _ => rfl) (fun _ _ => rfl) s b q p
@[simp] theorem grant_timeBase (s : State) (b : BlockId) (q : Requester) (p : List BlockId) : (s.grant b q p).timeBase = s.timeBase :=
  grant_view State.timeBase (fun _ _ => rfl) (fun _ _ => rfl) (fun _ _ => rfl) (fun _ _ => rfl) (fun _ _ => rfl) (fun _ _ => rfl) (fun _ _ => rfl) (fun _ _ => rfl) (fun _ _ => rfl) s b q p
@[simp] theorem grant_rate (s : State) (b : BlockId) (q : Requester) (p : List BlockId) : (s.grant b q p).rate = s.rate :=
  grant_view State.rate (fun _ _ => rfl) (fun _ _ => rfl) (fun _ _ => rfl) (fun _ _ => rfl) (fun _ _ => rfl) (fun _ _ => rfl) (fun _ _ => rfl) (fun _ _ => rfl) (fun _ _ => rfl) s b q p
@[simp] theorem grant_ports (s : State) (b : BlockId) (q : Requester) (p : List BlockId) : (s.grant b q p).ports = s.ports :=
  grant_view State.ports (fun _ _ => rfl) (fun _ _ => rfl) (fun _ _ => rfl) (fun _ _ => rfl) (fun _ _ => rfl) (fun _ _ => rfl) (fun _ _ => rfl) (fun _ _ => rfl) (fun _ _ => rfl) s b q p
@[simp] theorem grant_windows (s : State) (b : BlockId) (q : Requester) (p : List BlockId) : (s.grant b q p).windows = s.windows :=
  grant_view State.windows (fun _ _ => rfl) (fun _ _ => rfl) (fun _ _ => rfl) (fun _ _ => rfl) (fun _ _ => rfl) (fun _ _ => rfl) (fun _ _ => rfl) (fun _ _ => rfl) (fun _ _ => rfl) s b q p
@[simp] theorem grant_layout (s : State) (b : BlockId) (q : Requester) (p : List BlockId) : (s.grant b q p).layout = s.layout :=
  grant_view State.layout (fun _ _ => rfl) (fun _ _ => rfl) (fun _ _ => rfl) (fun _ _ => rfl) (fun _ _ => rfl) (fun _ _ => rfl) (fun _ _ => rfl) (fun _ _ => rfl) (fun _ _ => rfl) s b q p
@[simp] theorem grant_passages (s : State) (b : BlockId) (q : Requester) (p : List BlockId) : (s.grant b q p).passages = s.passages :=
  grant_view State.passages (fun _ _ => rfl) (fun _ _ => rfl) (fun _ _ => rfl) (fun _ _ => rfl) (fun _ _ => rfl) (fun _ _ => rfl) (fun _ _ => rfl) (fun _ _ => rfl) (fun _ _ => rfl) s b q p
@[simp] theorem grant_tagWindows (s : State) (b : BlockId) (q : Requester) (p : List BlockId) : (s.grant b q p).tagWindows = s.tagWindows :=
  grant_view State.tagWindows (fun _ _ => rfl) (fun _ _ => rfl) (fun _ _ => rfl) (fun _ _ => rfl) (fun _ _ => rfl) (fun _ _ => rfl) (fun _ _ => rfl) (fun _ _ => rfl) (fun _ _ => rfl) s b q p
@[simp] theorem grant_tagDiscards (s : State) (b : BlockId) (q : Requester) (p : List BlockId) : (s.grant b q p).tagDiscards = s.tagDiscards :=
  grant_view State.tagDiscards (fun _ _ => rfl) (fun _ _ => rfl) (fun _ _ => rfl) (fun _ _ => rfl) (fun _ _ => rfl) (fun _ _ => rfl) (fun _ _ => rfl) (fun _ _ => rfl) (fun _ _ => rfl) s b q p
@[simp] theorem grant_nextDispatch (s : State) (b : BlockId) (q : Requester) (p : List BlockId) : (s.grant b q p).nextDispatch = s.nextDispatch :=
  grant_view State.nextDispatch (fun _ _ => rfl) (fun _ _ => rfl) (fun _ _ => rfl) (fun _ _ => rfl) (fun _ _ => rfl) (fun _ _ => rfl) (fun _ _ => rfl) (fun _ _ => rfl) (fun _ _ => rfl) s b q p
@[simp] theorem grant_switches (s : State) (b : BlockId) (q : Requester) (p : List BlockId) : (s.grant b q p).switches = s.switches :=
  grant_view State.switches (fun _ _ => rfl) (fun _ _ => rfl) (fun _ _ => rfl) (fun _ _ => rfl) (fun _ _ => rfl) (fun _ _ => rfl) (fun _ _ => rfl) (fun _ _ => rfl) (fun _ _ => rfl) s b q p
@[simp] theorem grant_trapStrays (s : State) (b : BlockId) (q : Requester) (p : List BlockId) : (s.grant b q p).trapStrays = s.trapStrays :=
  grant_view State.trapStrays (fun _ _ => rfl) (fun _ _ => rfl) (fun _ _ => rfl) (fun _ _ => rfl) (fun _ _ => rfl) (fun _ _ => rfl) (fun _ _ => rfl) (fun _ _ => rfl) (fun _ _ => rfl) s b q p
@[simp] theorem grant_points (s : State) (b : BlockId) (q : Requester) (p : List BlockId) : (s.grant b q p).points = s.points :=
  grant_view State.points (fun _ _ => rfl) (fun _ _ => rfl) (fun _ _ => rfl) (fun _ _ => rfl) (fun _ _ => rfl) (fun _ _ => rfl) (fun _ _ => rfl) (fun _ _ => rfl) (fun _ _ => rfl) s b q p
@[simp] theorem grant_mc (s : State) (b : BlockId) (q : Requester) (p : List BlockId) : (s.grant b q p).mc = s.mc :=
  grant_view State.mc (fun _ _ => rfl) (fun _ _ => rfl) (fun _ _ => rfl) (fun _ _ => rfl) (fun _ _ => rfl) (fun _ _ => rfl) (fun _ _ => rfl) (fun _ _ => rfl) (fun _ _ => rfl) s b q p
@[simp] theorem stall_pending (s : State) (b : BlockId) : (s.stall b).pending = s.pending :=
  stall_view State.pending (fun _ _ => rfl) (fun _ _ => rfl) (fun _ _ => rfl) (fun _ _ => rfl) (fun _ _ => rfl) (fun _ _ => rfl) (fun _ _ => rfl) (fun _ _ => rfl) (fun _ _ => rfl) s b
@[simp] theorem stall_timeBase (s : State) (b : BlockId) : (s.stall b).timeBase = s.timeBase :=
  stall_view State.timeBase (fun _ _ => rfl) (fun _ _ => rfl) (fun _ _ => rfl) (fun _ _ => rfl) (fun _ _ => rfl) (fun _ _ => rfl) (fun _ _ => rfl) (fun _ _ => rfl) (fun _ _ => rfl) s b
@[simp] theorem stall_rate (s : State) (b : BlockId) : (s.stall b).rate = s.rate :=
  stall_view State.rate (fun _ _ => rfl) (fun _ _ => rfl) (fun _ _ => rfl) (fun _ _ => rfl) (fun _ _ => rfl) (fun _ _ => rfl) (fun _ _ => rfl) (fun _ _ => rfl) (fun _ _ => rfl) s b
@[simp] theorem stall_ports (s : State) (b : BlockId) : (s.stall b).ports = s.ports :=
  stall_view State.ports (fun _ _ => rfl) (fun _ _ => rfl) (fun _ _ => rfl) (fun _ _ => rfl) (fun _ _ => rfl) (fun _ _ => rfl) (fun _ _ => rfl) (fun _ _ => rfl) (fun _ _ => rfl) s b
@[simp] theorem stall_windows (s : State) (b : BlockId) : (s.stall b).windows = s.windows :=
  stall_view State.windows (fun _ _ => rfl) (fun _ _ => rfl) (fun _ _ => rfl) (fun _ _ => rfl) (fun _ _ => rfl) (fun _ _ => rfl) (fun _ _ => rfl) (fun _ _ => rfl) (fun _ _ => rfl) s b
@[simp] theorem stall_layout (s : State) (b : BlockId) : (s.stall b).layout = s.layout :=
  stall_view State.layout (fun _ _ => rfl) (fun _ _ => rfl) (fun _ _ => rfl) (fun _ _ => rfl) (fun _ _ => rfl) (fun _ _ => rfl) (fun _ _ => rfl) (fun _ _ => rfl) (fun _ _ => rfl) s b
@[simp] theorem stall_passages (s : State) (b : BlockId) : (s.stall b).passages = s.passages :=
  stall_view State.passages (fun _ _ => rfl) (fun _ _ => rfl) (fun _ _ => rfl) (fun _ _ => rfl) (fun _ _ => rfl) (fun _ _ => rfl) (fun _ _ => rfl) (fun _ _ => rfl) (fun _ _ => rfl) s b
@[simp] theorem stall_tagWindows (s : State) (b : BlockId) : (s.stall b).tagWindows = s.tagWindows :=
  stall_view State.tagWindows (fun _ _ => rfl) (fun _ _ => rfl) (fun _ _ => rfl) (fun _ _ => rfl) (fun _ _ => rfl) (fun _ _ => rfl) (fun _ _ => rfl) (fun _ _ => rfl) (fun _ _ => rfl) s b
@[simp] theorem stall_tagDiscards (s : State) (b : BlockId) : (s.stall b).tagDiscards = s.tagDiscards :=
  stall_view State.tagDiscards (fun _ _ => rfl) (fun _ _ => rfl) (fun _ _ => rfl) (fun _ _ => rfl) (fun _ _ => rfl) (fun _ _ => rfl) (fun _ _ => rfl) (fun _ _ => rfl) (fun _ _ => rfl) s b
@[simp] theorem stall_nextDispatch (s : State) (b : BlockId) : (s.stall b).nextDispatch = s.nextDispatch :=
  stall_view State.nextDispatch (fun _ _ => rfl) (fun _ _ => rfl) (fun _ _ => rfl) (fun _ _ => rfl) (fun _ _ => rfl) (fun _ _ => rfl) (fun _ _ => rfl) (fun _ _ => rfl) (fun _ _ => rfl) s b
@[simp] theorem stall_launches (s : State) (b : BlockId) : (s.stall b).launches = s.launches :=
  stall_view State.launches (fun _ _ => rfl) (fun _ _ => rfl) (fun _ _ => rfl) (fun _ _ => rfl) (fun _ _ => rfl) (fun _ _ => rfl) (fun _ _ => rfl) (fun _ _ => rfl) (fun _ _ => rfl) s b
@[simp] theorem stall_trapStrays (s : State) (b : BlockId) : (s.stall b).trapStrays = s.trapStrays :=
  stall_view State.trapStrays (fun _ _ => rfl) (fun _ _ => rfl) (fun _ _ => rfl) (fun _ _ => rfl) (fun _ _ => rfl) (fun _ _ => rfl) (fun _ _ => rfl) (fun _ _ => rfl) (fun _ _ => rfl) s b
@[simp] theorem stall_points (s : State) (b : BlockId) : (s.stall b).points = s.points :=
  stall_view State.points (fun _ _ => rfl) (fun _ _ => rfl) (fun _ _ => rfl) (fun _ _ => rfl) (fun _ _ => rfl) (fun _ _ => rfl) (fun _ _ => rfl) (fun _ _ => rfl) (fun _ _ => rfl) s b
@[simp] theorem stall_channels (s : State) (b : BlockId) : (s.stall b).channels = s.channels :=
  stall_view State.channels (fun _ _ => rfl) (fun _ _ => rfl) (fun _ _ => rfl) (fun _ _ => rfl) (fun _ _ => rfl) (fun _ _ => rfl) (fun _ _ => rfl) (fun _ _ => rfl) (fun _ _ => rfl) s b
@[simp] theorem settle_pending (s : State) : (s.settle).pending = s.pending :=
  settle_view State.pending (fun _ _ => rfl) (fun _ _ => rfl) (fun _ _ => rfl) s
@[simp] theorem settle_timeBase (s : State) : (s.settle).timeBase = s.timeBase :=
  settle_view State.timeBase (fun _ _ => rfl) (fun _ _ => rfl) (fun _ _ => rfl) s
@[simp] theorem settle_rate (s : State) : (s.settle).rate = s.rate :=
  settle_view State.rate (fun _ _ => rfl) (fun _ _ => rfl) (fun _ _ => rfl) s
@[simp] theorem settle_ports (s : State) : (s.settle).ports = s.ports :=
  settle_view State.ports (fun _ _ => rfl) (fun _ _ => rfl) (fun _ _ => rfl) s
@[simp] theorem settle_windows (s : State) : (s.settle).windows = s.windows :=
  settle_view State.windows (fun _ _ => rfl) (fun _ _ => rfl) (fun _ _ => rfl) s
@[simp] theorem settle_layout (s : State) : (s.settle).layout = s.layout :=
  settle_view State.layout (fun _ _ => rfl) (fun _ _ => rfl) (fun _ _ => rfl) s
@[simp] theorem settle_table (s : State) : (s.settle).table = s.table :=
  settle_view State.table (fun _ _ => rfl) (fun _ _ => rfl) (fun _ _ => rfl) s
@[simp] theorem settle_passages (s : State) : (s.settle).passages = s.passages :=
  settle_view State.passages (fun _ _ => rfl) (fun _ _ => rfl) (fun _ _ => rfl) s
@[simp] theorem settle_roster (s : State) : (s.settle).roster = s.roster :=
  settle_view State.roster (fun _ _ => rfl) (fun _ _ => rfl) (fun _ _ => rfl) s
@[simp] theorem settle_tagWindows (s : State) : (s.settle).tagWindows = s.tagWindows :=
  settle_view State.tagWindows (fun _ _ => rfl) (fun _ _ => rfl) (fun _ _ => rfl) s
@[simp] theorem settle_tagDiscards (s : State) : (s.settle).tagDiscards = s.tagDiscards :=
  settle_view State.tagDiscards (fun _ _ => rfl) (fun _ _ => rfl) (fun _ _ => rfl) s
@[simp] theorem settle_bays (s : State) : (s.settle).bays = s.bays :=
  settle_view State.bays (fun _ _ => rfl) (fun _ _ => rfl) (fun _ _ => rfl) s
@[simp] theorem settle_nextDispatch (s : State) : (s.settle).nextDispatch = s.nextDispatch :=
  settle_view State.nextDispatch (fun _ _ => rfl) (fun _ _ => rfl) (fun _ _ => rfl) s
@[simp] theorem settle_launches (s : State) : (s.settle).launches = s.launches :=
  settle_view State.launches (fun _ _ => rfl) (fun _ _ => rfl) (fun _ _ => rfl) s
@[simp] theorem settle_arbiters (s : State) : (s.settle).arbiters = s.arbiters :=
  settle_view State.arbiters (fun _ _ => rfl) (fun _ _ => rfl) (fun _ _ => rfl) s
@[simp] theorem settle_switches (s : State) : (s.settle).switches = s.switches :=
  settle_view State.switches (fun _ _ => rfl) (fun _ _ => rfl) (fun _ _ => rfl) s
@[simp] theorem settle_brakes (s : State) : (s.settle).brakes = s.brakes :=
  settle_view State.brakes (fun _ _ => rfl) (fun _ _ => rfl) (fun _ _ => rfl) s
@[simp] theorem settle_trapStrays (s : State) : (s.settle).trapStrays = s.trapStrays :=
  settle_view State.trapStrays (fun _ _ => rfl) (fun _ _ => rfl) (fun _ _ => rfl) s
@[simp] theorem settle_points (s : State) : (s.settle).points = s.points :=
  settle_view State.points (fun _ _ => rfl) (fun _ _ => rfl) (fun _ _ => rfl) s
@[simp] theorem settle_channels (s : State) : (s.settle).channels = s.channels :=
  settle_view State.channels (fun _ _ => rfl) (fun _ _ => rfl) (fun _ _ => rfl) s
@[simp] theorem finish_pending (s : State) : (s.finish).pending = s.pending :=
  finish_view State.pending (fun _ _ => rfl) (fun _ _ => rfl) (fun _ _ => rfl) (fun _ _ => rfl) (fun _ _ => rfl) (fun _ _ => rfl) (fun _ _ => rfl) (fun _ _ => rfl) (fun _ _ => rfl) (fun _ _ => rfl) (fun _ _ => rfl) s
@[simp] theorem finish_timeBase (s : State) : (s.finish).timeBase = s.timeBase :=
  finish_view State.timeBase (fun _ _ => rfl) (fun _ _ => rfl) (fun _ _ => rfl) (fun _ _ => rfl) (fun _ _ => rfl) (fun _ _ => rfl) (fun _ _ => rfl) (fun _ _ => rfl) (fun _ _ => rfl) (fun _ _ => rfl) (fun _ _ => rfl) s
@[simp] theorem finish_rate (s : State) : (s.finish).rate = s.rate :=
  finish_view State.rate (fun _ _ => rfl) (fun _ _ => rfl) (fun _ _ => rfl) (fun _ _ => rfl) (fun _ _ => rfl) (fun _ _ => rfl) (fun _ _ => rfl) (fun _ _ => rfl) (fun _ _ => rfl) (fun _ _ => rfl) (fun _ _ => rfl) s
@[simp] theorem finish_ports (s : State) : (s.finish).ports = s.ports :=
  finish_view State.ports (fun _ _ => rfl) (fun _ _ => rfl) (fun _ _ => rfl) (fun _ _ => rfl) (fun _ _ => rfl) (fun _ _ => rfl) (fun _ _ => rfl) (fun _ _ => rfl) (fun _ _ => rfl) (fun _ _ => rfl) (fun _ _ => rfl) s
@[simp] theorem finish_windows (s : State) : (s.finish).windows = s.windows :=
  finish_view State.windows (fun _ _ => rfl) (fun _ _ => rfl) (fun _ _ => rfl) (fun _ _ => rfl) (fun _ _ => rfl) (fun _ _ => rfl) (fun _ _ => rfl) (fun _ _ => rfl) (fun _ _ => rfl) (fun _ _ => rfl) (fun _ _ => rfl) s
@[simp] theorem finish_layout (s : State) : (s.finish).layout = s.layout :=
  finish_view State.layout (fun _ _ => rfl) (fun _ _ => rfl) (fun _ _ => rfl) (fun _ _ => rfl) (fun _ _ => rfl) (fun _ _ => rfl) (fun _ _ => rfl) (fun _ _ => rfl) (fun _ _ => rfl) (fun _ _ => rfl) (fun _ _ => rfl) s
@[simp] theorem finish_passages (s : State) : (s.finish).passages = s.passages :=
  finish_view State.passages (fun _ _ => rfl) (fun _ _ => rfl) (fun _ _ => rfl) (fun _ _ => rfl) (fun _ _ => rfl) (fun _ _ => rfl) (fun _ _ => rfl) (fun _ _ => rfl) (fun _ _ => rfl) (fun _ _ => rfl) (fun _ _ => rfl) s
@[simp] theorem finish_tagWindows (s : State) : (s.finish).tagWindows = s.tagWindows :=
  finish_view State.tagWindows (fun _ _ => rfl) (fun _ _ => rfl) (fun _ _ => rfl) (fun _ _ => rfl) (fun _ _ => rfl) (fun _ _ => rfl) (fun _ _ => rfl) (fun _ _ => rfl) (fun _ _ => rfl) (fun _ _ => rfl) (fun _ _ => rfl) s
@[simp] theorem finish_tagDiscards (s : State) : (s.finish).tagDiscards = s.tagDiscards :=
  finish_view State.tagDiscards (fun _ _ => rfl) (fun _ _ => rfl) (fun _ _ => rfl) (fun _ _ => rfl) (fun _ _ => rfl) (fun _ _ => rfl) (fun _ _ => rfl) (fun _ _ => rfl) (fun _ _ => rfl) (fun _ _ => rfl) (fun _ _ => rfl) s
@[simp] theorem finish_nextDispatch (s : State) : (s.finish).nextDispatch = s.nextDispatch :=
  finish_view State.nextDispatch (fun _ _ => rfl) (fun _ _ => rfl) (fun _ _ => rfl) (fun _ _ => rfl) (fun _ _ => rfl) (fun _ _ => rfl) (fun _ _ => rfl) (fun _ _ => rfl) (fun _ _ => rfl) (fun _ _ => rfl) (fun _ _ => rfl) s
@[simp] theorem finish_trapStrays (s : State) : (s.finish).trapStrays = s.trapStrays :=
  finish_view State.trapStrays (fun _ _ => rfl) (fun _ _ => rfl) (fun _ _ => rfl) (fun _ _ => rfl) (fun _ _ => rfl) (fun _ _ => rfl) (fun _ _ => rfl) (fun _ _ => rfl) (fun _ _ => rfl) (fun _ _ => rfl) (fun _ _ => rfl) s
@[simp] theorem finish_points (s : State) : (s.finish).points = s.points :=
  finish_view State.points (fun _ _ => rfl) (fun _ _ => rfl) (fun _ _ => rfl) (fun _ _ => rfl) (fun _ _ => rfl) (fun _ _ => rfl) (fun _ _ => rfl) (fun _ _ => rfl) (fun _ _ => rfl) (fun _ _ => rfl) (fun _ _ => rfl) s
@[simp] theorem trapFails_pending (s : State) (b : BlockId) (r : BrakeSection) (p : Passage) (g : Bool) : (s.trapFails b r p g).pending = s.pending :=
  trapFails_view State.pending (fun _ _ => rfl) (fun _ _ => rfl) (fun _ _ => rfl) (fun _ _ => rfl) (fun _ _ => rfl) (fun _ _ => rfl) s b r p g
@[simp] theorem trapFails_timeBase (s : State) (b : BlockId) (r : BrakeSection) (p : Passage) (g : Bool) : (s.trapFails b r p g).timeBase = s.timeBase :=
  trapFails_view State.timeBase (fun _ _ => rfl) (fun _ _ => rfl) (fun _ _ => rfl) (fun _ _ => rfl) (fun _ _ => rfl) (fun _ _ => rfl) s b r p g
@[simp] theorem trapFails_rate (s : State) (b : BlockId) (r : BrakeSection) (p : Passage) (g : Bool) : (s.trapFails b r p g).rate = s.rate :=
  trapFails_view State.rate (fun _ _ => rfl) (fun _ _ => rfl) (fun _ _ => rfl) (fun _ _ => rfl) (fun _ _ => rfl) (fun _ _ => rfl) s b r p g
@[simp] theorem trapFails_ports (s : State) (b : BlockId) (r : BrakeSection) (p : Passage) (g : Bool) : (s.trapFails b r p g).ports = s.ports :=
  trapFails_view State.ports (fun _ _ => rfl) (fun _ _ => rfl) (fun _ _ => rfl) (fun _ _ => rfl) (fun _ _ => rfl) (fun _ _ => rfl) s b r p g
@[simp] theorem trapFails_windows (s : State) (b : BlockId) (r : BrakeSection) (p : Passage) (g : Bool) : (s.trapFails b r p g).windows = s.windows :=
  trapFails_view State.windows (fun _ _ => rfl) (fun _ _ => rfl) (fun _ _ => rfl) (fun _ _ => rfl) (fun _ _ => rfl) (fun _ _ => rfl) s b r p g
@[simp] theorem trapFails_layout (s : State) (b : BlockId) (r : BrakeSection) (p : Passage) (g : Bool) : (s.trapFails b r p g).layout = s.layout :=
  trapFails_view State.layout (fun _ _ => rfl) (fun _ _ => rfl) (fun _ _ => rfl) (fun _ _ => rfl) (fun _ _ => rfl) (fun _ _ => rfl) s b r p g
@[simp] theorem trapFails_passages (s : State) (b : BlockId) (r : BrakeSection) (p : Passage) (g : Bool) : (s.trapFails b r p g).passages = s.passages :=
  trapFails_view State.passages (fun _ _ => rfl) (fun _ _ => rfl) (fun _ _ => rfl) (fun _ _ => rfl) (fun _ _ => rfl) (fun _ _ => rfl) s b r p g
@[simp] theorem trapFails_roster (s : State) (b : BlockId) (r : BrakeSection) (p : Passage) (g : Bool) : (s.trapFails b r p g).roster = s.roster :=
  trapFails_view State.roster (fun _ _ => rfl) (fun _ _ => rfl) (fun _ _ => rfl) (fun _ _ => rfl) (fun _ _ => rfl) (fun _ _ => rfl) s b r p g
@[simp] theorem trapFails_tagWindows (s : State) (b : BlockId) (r : BrakeSection) (p : Passage) (g : Bool) : (s.trapFails b r p g).tagWindows = s.tagWindows :=
  trapFails_view State.tagWindows (fun _ _ => rfl) (fun _ _ => rfl) (fun _ _ => rfl) (fun _ _ => rfl) (fun _ _ => rfl) (fun _ _ => rfl) s b r p g
@[simp] theorem trapFails_tagDiscards (s : State) (b : BlockId) (r : BrakeSection) (p : Passage) (g : Bool) : (s.trapFails b r p g).tagDiscards = s.tagDiscards :=
  trapFails_view State.tagDiscards (fun _ _ => rfl) (fun _ _ => rfl) (fun _ _ => rfl) (fun _ _ => rfl) (fun _ _ => rfl) (fun _ _ => rfl) s b r p g
@[simp] theorem trapFails_bays (s : State) (b : BlockId) (r : BrakeSection) (p : Passage) (g : Bool) : (s.trapFails b r p g).bays = s.bays :=
  trapFails_view State.bays (fun _ _ => rfl) (fun _ _ => rfl) (fun _ _ => rfl) (fun _ _ => rfl) (fun _ _ => rfl) (fun _ _ => rfl) s b r p g
@[simp] theorem trapFails_nextDispatch (s : State) (b : BlockId) (r : BrakeSection) (p : Passage) (g : Bool) : (s.trapFails b r p g).nextDispatch = s.nextDispatch :=
  trapFails_view State.nextDispatch (fun _ _ => rfl) (fun _ _ => rfl) (fun _ _ => rfl) (fun _ _ => rfl) (fun _ _ => rfl) (fun _ _ => rfl) s b r p g
@[simp] theorem trapFails_launches (s : State) (b : BlockId) (r : BrakeSection) (p : Passage) (g : Bool) : (s.trapFails b r p g).launches = s.launches :=
  trapFails_view State.launches (fun _ _ => rfl) (fun _ _ => rfl) (fun _ _ => rfl) (fun _ _ => rfl) (fun _ _ => rfl) (fun _ _ => rfl) s b r p g
@[simp] theorem trapFails_arbiters (s : State) (b : BlockId) (r : BrakeSection) (p : Passage) (g : Bool) : (s.trapFails b r p g).arbiters = s.arbiters :=
  trapFails_view State.arbiters (fun _ _ => rfl) (fun _ _ => rfl) (fun _ _ => rfl) (fun _ _ => rfl) (fun _ _ => rfl) (fun _ _ => rfl) s b r p g
@[simp] theorem trapFails_trapStrays (s : State) (b : BlockId) (r : BrakeSection) (p : Passage) (g : Bool) : (s.trapFails b r p g).trapStrays = s.trapStrays :=
  trapFails_view State.trapStrays (fun _ _ => rfl) (fun _ _ => rfl) (fun _ _ => rfl) (fun _ _ => rfl) (fun _ _ => rfl) (fun _ _ => rfl) s b r p g
@[simp] theorem trapFails_points (s : State) (b : BlockId) (r : BrakeSection) (p : Passage) (g : Bool) : (s.trapFails b r p g).points = s.points :=
  trapFails_view State.points (fun _ _ => rfl) (fun _ _ => rfl) (fun _ _ => rfl) (fun _ _ => rfl) (fun _ _ => rfl) (fun _ _ => rfl) s b r p g
@[simp] theorem trapFails_channels (s : State) (b : BlockId) (r : BrakeSection) (p : Passage) (g : Bool) : (s.trapFails b r p g).channels = s.channels :=
  trapFails_view State.channels (fun _ _ => rfl) (fun _ _ => rfl) (fun _ _ => rfl) (fun _ _ => rfl) (fun _ _ => rfl) (fun _ _ => rfl) s b r p g
@[simp] theorem faultAt_pending (s : State) (k : FaultKind) (b : BlockId) (x : Option BoatId) (d : Details) : (s.faultAt k b x d).pending = s.pending :=
  faultAt_view State.pending (fun _ _ => rfl) (fun _ _ => rfl) (fun _ _ => rfl) (fun _ _ => rfl) (fun _ _ => rfl) (fun _ _ => rfl) (fun _ _ => rfl) (fun _ _ => rfl) (fun _ _ => rfl) s k b x d
@[simp] theorem faultAt_timeBase (s : State) (k : FaultKind) (b : BlockId) (x : Option BoatId) (d : Details) : (s.faultAt k b x d).timeBase = s.timeBase :=
  faultAt_view State.timeBase (fun _ _ => rfl) (fun _ _ => rfl) (fun _ _ => rfl) (fun _ _ => rfl) (fun _ _ => rfl) (fun _ _ => rfl) (fun _ _ => rfl) (fun _ _ => rfl) (fun _ _ => rfl) s k b x d
@[simp] theorem faultAt_rate (s : State) (k : FaultKind) (b : BlockId) (x : Option BoatId) (d : Details) : (s.faultAt k b x d).rate = s.rate :=
  faultAt_view State.rate (fun _ _ => rfl) (fun _ _ => rfl) (fun _ _ => rfl) (fun _ _ => rfl) (fun _ _ => rfl) (fun _ _ => rfl) (fun _ _ => rfl) (fun _ _ => rfl) (fun _ _ => rfl) s k b x d
@[simp] theorem faultAt_ports (s : State) (k : FaultKind) (b : BlockId) (x : Option BoatId) (d : Details) : (s.faultAt k b x d).ports = s.ports :=
  faultAt_view State.ports (fun _ _ => rfl) (fun _ _ => rfl) (fun _ _ => rfl) (fun _ _ => rfl) (fun _ _ => rfl) (fun _ _ => rfl) (fun _ _ => rfl) (fun _ _ => rfl) (fun _ _ => rfl) s k b x d
@[simp] theorem faultAt_windows (s : State) (k : FaultKind) (b : BlockId) (x : Option BoatId) (d : Details) : (s.faultAt k b x d).windows = s.windows :=
  faultAt_view State.windows (fun _ _ => rfl) (fun _ _ => rfl) (fun _ _ => rfl) (fun _ _ => rfl) (fun _ _ => rfl) (fun _ _ => rfl) (fun _ _ => rfl) (fun _ _ => rfl) (fun _ _ => rfl) s k b x d
@[simp] theorem faultAt_layout (s : State) (k : FaultKind) (b : BlockId) (x : Option BoatId) (d : Details) : (s.faultAt k b x d).layout = s.layout :=
  faultAt_view State.layout (fun _ _ => rfl) (fun _ _ => rfl) (fun _ _ => rfl) (fun _ _ => rfl) (fun _ _ => rfl) (fun _ _ => rfl) (fun _ _ => rfl) (fun _ _ => rfl) (fun _ _ => rfl) s k b x d
@[simp] theorem faultAt_passages (s : State) (k : FaultKind) (b : BlockId) (x : Option BoatId) (d : Details) : (s.faultAt k b x d).passages = s.passages :=
  faultAt_view State.passages (fun _ _ => rfl) (fun _ _ => rfl) (fun _ _ => rfl) (fun _ _ => rfl) (fun _ _ => rfl) (fun _ _ => rfl) (fun _ _ => rfl) (fun _ _ => rfl) (fun _ _ => rfl) s k b x d
@[simp] theorem faultAt_tagWindows (s : State) (k : FaultKind) (b : BlockId) (x : Option BoatId) (d : Details) : (s.faultAt k b x d).tagWindows = s.tagWindows :=
  faultAt_view State.tagWindows (fun _ _ => rfl) (fun _ _ => rfl) (fun _ _ => rfl) (fun _ _ => rfl) (fun _ _ => rfl) (fun _ _ => rfl) (fun _ _ => rfl) (fun _ _ => rfl) (fun _ _ => rfl) s k b x d
@[simp] theorem faultAt_tagDiscards (s : State) (k : FaultKind) (b : BlockId) (x : Option BoatId) (d : Details) : (s.faultAt k b x d).tagDiscards = s.tagDiscards :=
  faultAt_view State.tagDiscards (fun _ _ => rfl) (fun _ _ => rfl) (fun _ _ => rfl) (fun _ _ => rfl) (fun _ _ => rfl) (fun _ _ => rfl) (fun _ _ => rfl) (fun _ _ => rfl) (fun _ _ => rfl) s k b x d
@[simp] theorem faultAt_nextDispatch (s : State) (k : FaultKind) (b : BlockId) (x : Option BoatId) (d : Details) : (s.faultAt k b x d).nextDispatch = s.nextDispatch :=
  faultAt_view State.nextDispatch (fun _ _ => rfl) (fun _ _ => rfl) (fun _ _ => rfl) (fun _ _ => rfl) (fun _ _ => rfl) (fun _ _ => rfl) (fun _ _ => rfl) (fun _ _ => rfl) (fun _ _ => rfl) s k b x d
@[simp] theorem faultAt_launches (s : State) (k : FaultKind) (b : BlockId) (x : Option BoatId) (d : Details) : (s.faultAt k b x d).launches = s.launches :=
  faultAt_view State.launches (fun _ _ => rfl) (fun _ _ => rfl) (fun _ _ => rfl) (fun _ _ => rfl) (fun _ _ => rfl) (fun _ _ => rfl) (fun _ _ => rfl) (fun _ _ => rfl) (fun _ _ => rfl) s k b x d
@[simp] theorem faultAt_trapStrays (s : State) (k : FaultKind) (b : BlockId) (x : Option BoatId) (d : Details) : (s.faultAt k b x d).trapStrays = s.trapStrays :=
  faultAt_view State.trapStrays (fun _ _ => rfl) (fun _ _ => rfl) (fun _ _ => rfl) (fun _ _ => rfl) (fun _ _ => rfl) (fun _ _ => rfl) (fun _ _ => rfl) (fun _ _ => rfl) (fun _ _ => rfl) s k b x d
@[simp] theorem faultAt_points (s : State) (k : FaultKind) (b : BlockId) (x : Option BoatId) (d : Details) : (s.faultAt k b x d).points = s.points :=
  faultAt_view State.points (fun _ _ => rfl) (fun _ _ => rfl) (fun _ _ => rfl) (fun _ _ => rfl) (fun _ _ => rfl) (fun _ _ => rfl) (fun _ _ => rfl) (fun _ _ => rfl) (fun _ _ => rfl) s k b x d
@[simp] theorem faultAt_channels (s : State) (k : FaultKind) (b : BlockId) (x : Option BoatId) (d : Details) : (s.faultAt k b x d).channels = s.channels :=
  faultAt_view State.channels (fun _ _ => rfl) (fun _ _ => rfl) (fun _ _ => rfl) (fun _ _ => rfl) (fun _ _ => rfl) (fun _ _ => rfl) (fun _ _ => rfl) (fun _ _ => rfl) (fun _ _ => rfl) s k b x d

/-! ### The surroundings -/

@[simp] theorem setSlot_surroundings (s : State) (x : BoatId) (t : Slot) : (s.setSlot x t).surroundings = s.surroundings :=
  setSlot_view State.surroundings (fun _ _ => rfl) s x t
@[simp] theorem modBoat_surroundings (s : State) (x : BoatId) (f : Boat → Boat) : (s.modBoat x f).surroundings = s.surroundings :=
  modBoat_view State.surroundings (fun _ _ => rfl) s x f
@[simp] theorem setPath_surroundings (s : State) (x : BoatId) (p : List BlockId) : (s.setPath x p).surroundings = s.surroundings :=
  setPath_view State.surroundings (fun _ _ => rfl) s x p
@[simp] theorem setBay_surroundings (s : State) (b : BlockId) (y : Bay) : (s.setBay b y).surroundings = s.surroundings :=
  setBay_view State.surroundings (fun _ _ => rfl) s b y
@[simp] theorem modBrake_surroundings (s : State) (b : BlockId) (f : Brake → Brake) : (s.modBrake b f).surroundings = s.surroundings :=
  modBrake_view State.surroundings (fun _ _ => rfl) s b f
@[simp] theorem modSwitch_surroundings (s : State) (b : BlockId) (f : SwitchRecord → SwitchRecord) : (s.modSwitch b f).surroundings = s.surroundings :=
  modSwitch_view State.surroundings (fun _ _ => rfl) s b f
@[simp] theorem setChannel_surroundings (s : State) (c : ChannelId) (x : Channel) : (s.setChannel c x).surroundings = s.surroundings :=
  setChannel_view State.surroundings (fun _ _ => rfl) s c x
@[simp] theorem setReader_surroundings (s : State) (l : Link) (r : Reader) : (s.setReader l r).surroundings = s.surroundings :=
  setReader_view State.surroundings (fun _ _ => rfl) s l r
@[simp] theorem setMc_surroundings (s : State) (c : ModeController) : (s.setMc c).surroundings = s.surroundings :=
  setMc_view State.surroundings (fun _ _ => rfl) s c
@[simp] theorem setTagWindow_surroundings (s : State) (p : PortId) (w : Option TagWindow) : (s.setTagWindow p w).surroundings = s.surroundings :=
  setTagWindow_view State.surroundings (fun _ _ => rfl) s p w
@[simp] theorem removeEntry_surroundings (s : State) (e : DispatchEntry) : (s.removeEntry e).surroundings = s.surroundings :=
  removeEntry_view State.surroundings (fun _ _ => rfl) s e
@[simp] theorem mapReaders_surroundings (s : State) (f : Link → Reader → Reader) : (s.mapReaders f).surroundings = s.surroundings :=
  mapReaders_view State.surroundings (fun _ _ => rfl) s f
@[simp] theorem evaluateAll_surroundings (s : State) : (s.evaluateAll).surroundings = s.surroundings :=
  evaluateAll_view State.surroundings (fun _ _ => rfl) s
@[simp] theorem freeEntries_surroundings (s : State) : (s.freeEntries).surroundings = s.surroundings :=
  freeEntries_view State.surroundings (fun _ _ => rfl) s
@[simp] theorem dropOldest_surroundings (s : State) : (s.dropOldest).surroundings = s.surroundings :=
  dropOldest_view State.surroundings (fun _ _ => rfl) s
@[simp] theorem pushReport_surroundings (s : State) (k : ReportKind) (f : Option (FaultKind × FaultClass)) (b : Option BlockId) (x : Option BoatId) (d : Details) : (s.pushReport k f b x d).surroundings = s.surroundings :=
  pushReport_view State.surroundings (fun _ _ => rfl) s k f b x d
@[simp] theorem putEntry_surroundings (s : State) (e : DispatchEntry) : (s.putEntry e).surroundings = s.surroundings :=
  putEntry_view State.surroundings (fun _ _ => rfl) s e
@[simp] theorem refreshBrakes_surroundings (s : State) : (s.refreshBrakes).surroundings = s.surroundings :=
  refreshBrakes_view State.surroundings (fun _ _ => rfl) s
@[simp] theorem refreshSwitches_surroundings (s : State) : (s.refreshSwitches).surroundings = s.surroundings :=
  refreshSwitches_view State.surroundings (fun _ _ => rfl) s
@[simp] theorem refreshChannels_surroundings (s : State) : (s.refreshChannels).surroundings = s.surroundings :=
  refreshChannels_view State.surroundings (fun _ _ => rfl) s
@[simp] theorem strayTrap_surroundings (s : State) : (s.strayTrap).surroundings = s.surroundings :=
  strayTrap_view State.surroundings (fun _ _ => rfl) s
@[simp] theorem discardTag_surroundings (s : State) : (s.discardTag).surroundings = s.surroundings :=
  discardTag_view State.surroundings (fun _ _ => rfl) s
@[simp] theorem endHeadway_surroundings (s : State) (b : BlockId) : (s.endHeadway b).surroundings = s.surroundings :=
  endHeadway_view State.surroundings (fun _ _ => rfl) s b
@[simp] theorem engageHold_surroundings (s : State) (b : BlockId) : (s.engageHold b).surroundings = s.surroundings :=
  engageHold_view State.surroundings (fun _ _ => rfl) s b
@[simp] theorem setupTable_surroundings (s : State) : (s.setupTable).surroundings = s.surroundings :=
  setupTable_view State.surroundings (fun _ _ => rfl) s
@[simp] theorem takeBays_surroundings (s : State) : (s.takeBays).surroundings = s.surroundings :=
  takeBays_view State.surroundings (fun _ _ => rfl) s
@[simp] theorem takeLaunches_surroundings (s : State) : (s.takeLaunches).surroundings = s.surroundings :=
  takeLaunches_view State.surroundings (fun _ _ => rfl) s
@[simp] theorem takeArbiters_surroundings (s : State) : (s.takeArbiters).surroundings = s.surroundings :=
  takeArbiters_view State.surroundings (fun _ _ => rfl) s
@[simp] theorem takeSwitches_surroundings (s : State) : (s.takeSwitches).surroundings = s.surroundings :=
  takeSwitches_view State.surroundings (fun _ _ => rfl) s
@[simp] theorem takeBrakes_surroundings (s : State) : (s.takeBrakes).surroundings = s.surroundings :=
  takeBrakes_view State.surroundings (fun _ _ => rfl) s
@[simp] theorem takeChannels_surroundings (s : State) : (s.takeChannels).surroundings = s.surroundings :=
  takeChannels_view State.surroundings (fun _ _ => rfl) s
@[simp] theorem placePassage_surroundings (s : State) (b : BlockId) (x : BoatId) : (s.placePassage b x).surroundings = s.surroundings :=
  placePassage_view State.surroundings (fun _ _ => rfl) s b x
@[simp] theorem setEntry_surroundings (s : State) (b : BlockId) (e : Entry) : (s.setEntry b e).surroundings = s.surroundings :=
  setEntry_view State.surroundings (fun _ _ => rfl) (fun _ _ => rfl) s b e
@[simp] theorem modEntry_surroundings (s : State) (b : BlockId) (f : Entry → Entry) : (s.modEntry b f).surroundings = s.surroundings :=
  modEntry_view State.surroundings (fun _ _ => rfl) (fun _ _ => rfl) s b f
@[simp] theorem append_surroundings (s : State) (k : ReportKind) (f : Option (FaultKind × FaultClass)) (b : Option BlockId) (x : Option BoatId) (d : Details) : (s.append k f b x d).surroundings = s.surroundings :=
  append_view State.surroundings (fun _ _ => rfl) s k f b x d
@[simp] theorem dispatchReport_surroundings (s : State) (e : DispatchEntry) (ev : DispatchEvent) (i j : Nat) : (s.dispatchReport e ev i j).surroundings = s.surroundings :=
  dispatchReport_view State.surroundings (fun _ _ => rfl) s e ev i j
@[simp] theorem voidReport_surroundings (s : State) (c : VoidCause) (e : DispatchEntry) : (s.voidReport c e).surroundings = s.surroundings :=
  voidReport_view State.surroundings (fun _ _ => rfl) s c e
@[simp] theorem modeReport_surroundings (s : State) (ev : ModeEvent) (i j k : Nat) : (s.modeReport ev i j k).surroundings = s.surroundings :=
  modeReport_view State.surroundings (fun _ _ => rfl) s ev i j k
@[simp] theorem passageReport_surroundings (s : State) (b : BlockId) (x : Option BoatId) (i j : Nat) (p : BlockId) (n : Nat) : (s.passageReport b x i j p n).surroundings = s.surroundings :=
  passageReport_view State.surroundings (fun _ _ => rfl) s b x i j p n
@[simp] theorem linkReport_surroundings (s : State) (l : Link) (i j : Nat) : (s.linkReport l i j).surroundings = s.surroundings :=
  linkReport_view State.surroundings (fun _ _ => rfl) s l i j
@[simp] theorem voidAll_surroundings (s : State) (c : VoidCause) : (s.voidAll c).surroundings = s.surroundings :=
  voidAll_view State.surroundings (fun _ _ => rfl) (fun _ _ => rfl) s c
@[simp] theorem discardSlot_surroundings (s : State) (n : Nat) : (s.discardSlot n).surroundings = s.surroundings :=
  discardSlot_view State.surroundings (fun _ _ => rfl) (fun _ _ => rfl) s n
@[simp] theorem changeMode_surroundings (s : State) (m : Mode) (c : ChangeCause) : (s.changeMode m c).surroundings = s.surroundings :=
  changeMode_view State.surroundings (fun _ _ => rfl) (fun _ _ => rfl) (fun _ _ => rfl) s m c
@[simp] theorem enterHolding_surroundings (s : State) (c : ChangeCause) : (s.enterHolding c).surroundings = s.surroundings :=
  enterHolding_view State.surroundings (fun _ _ => rfl) (fun _ _ => rfl) (fun _ _ => rfl) s c
@[simp] theorem enterHalted_surroundings (s : State) (c : ChangeCause) : (s.enterHalted c).surroundings = s.surroundings :=
  enterHalted_view State.surroundings (fun _ _ => rfl) (fun _ _ => rfl) (fun _ _ => rfl) (fun _ _ => rfl) (fun _ _ => rfl) s c
@[simp] theorem applyClass_surroundings (s : State) (c : FaultClass) : (s.applyClass c).surroundings = s.surroundings :=
  applyClass_view State.surroundings (fun _ _ => rfl) (fun _ _ => rfl) (fun _ _ => rfl) (fun _ _ => rfl) (fun _ _ => rfl) s c
@[simp] theorem raise_surroundings (s : State) (k : FaultKind) (b : Option BlockId) (x : Option BoatId) (d : Details) : (s.raise k b x d).surroundings = s.surroundings :=
  raise_view State.surroundings (fun _ _ => rfl) (fun _ _ => rfl) (fun _ _ => rfl) (fun _ _ => rfl) (fun _ _ => rfl) s k b x d
@[simp] theorem clearReserved_surroundings (s : State) (bs : List BlockId) : (s.clearReserved bs).surroundings = s.surroundings :=
  clearReserved_view State.surroundings (fun _ _ => rfl) (fun _ _ => rfl) s bs
@[simp] theorem cutPath_surroundings (s : State) (y : BoatId) (f : BlockId) : (s.cutPath y f).surroundings = s.surroundings :=
  cutPath_view State.surroundings (fun _ _ => rfl) (fun _ _ => rfl) (fun _ _ => rfl) s y f
@[simp] theorem faultBlock_surroundings (s : State) (b : BlockId) : (s.faultBlock b).surroundings = s.surroundings :=
  faultBlock_view State.surroundings (fun _ _ => rfl) (fun _ _ => rfl) (fun _ _ => rfl) (fun _ _ => rfl) (fun _ _ => rfl) s b
@[simp] theorem cancelEntry_surroundings (s : State) (e : DispatchEntry) (c : CancelCause) (n : Nat) : (s.cancelEntry e c n).surroundings = s.surroundings :=
  cancelEntry_view State.surroundings (fun _ _ => rfl) (fun _ _ => rfl) s e c n
@[simp] theorem cancelOfBay_surroundings (s : State) (b : BlockId) (c : CancelCause) : (s.cancelOfBay b c).surroundings = s.surroundings :=
  cancelOfBay_view State.surroundings (fun _ _ => rfl) (fun _ _ => rfl) s b c
@[simp] theorem setPhase_surroundings (s : State) (b : BlockId) (p : Phase) : (s.setPhase b p).surroundings = s.surroundings :=
  setPhase_view State.surroundings (fun _ _ => rfl) (fun _ _ => rfl) s b p
@[simp] theorem modBay_surroundings (s : State) (b : BlockId) (f : Bay → Bay) : (s.modBay b f).surroundings = s.surroundings :=
  modBay_view State.surroundings (fun _ _ => rfl) s b f
@[simp] theorem startWeigh_surroundings (s : State) (b : BlockId) (k : WeighKind) : (s.startWeigh b k).surroundings = s.surroundings :=
  startWeigh_view State.surroundings (fun _ _ => rfl) (fun _ _ => rfl) s b k
@[simp] theorem endBerthed_surroundings (s : State) (b : BlockId) : (s.endBerthed b).surroundings = s.surroundings :=
  endBerthed_view State.surroundings (fun _ _ => rfl) (fun _ _ => rfl) s b
@[simp] theorem berth_surroundings (s : State) (b : BlockId) (e : Option PointId) : (s.berth b e).surroundings = s.surroundings :=
  berth_view State.surroundings (fun _ _ => rfl) (fun _ _ => rfl) s b e
@[simp] theorem vacateBay_surroundings (s : State) (b : BlockId) : (s.vacateBay b).surroundings = s.surroundings :=
  vacateBay_view State.surroundings (fun _ _ => rfl) (fun _ _ => rfl) (fun _ _ => rfl) s b
@[simp] theorem bayFaulted_surroundings (s : State) (b : BlockId) : (s.bayFaulted b).surroundings = s.surroundings :=
  bayFaulted_view State.surroundings (fun _ _ => rfl) (fun _ _ => rfl) s b
@[simp] theorem bayReturn_surroundings (s : State) (b : BlockId) : (s.bayReturn b).surroundings = s.surroundings :=
  bayReturn_view State.surroundings (fun _ _ => rfl) (fun _ _ => rfl) s b
@[simp] theorem bayGranted_surroundings (s : State) (b : BlockId) : (s.bayGranted b).surroundings = s.surroundings :=
  bayGranted_view State.surroundings (fun _ _ => rfl) (fun _ _ => rfl) s b
@[simp] theorem entryCleared_surroundings (s : State) (p : PointId) : (s.entryCleared p).surroundings = s.surroundings :=
  entryCleared_view State.surroundings (fun _ _ => rfl) (fun _ _ => rfl) s p
@[simp] theorem endWeigh_surroundings (s : State) (b : BlockId) (w : Weigh) (o : WeighOutcome) (r : Option WeighResult) (i j k : Nat) : (s.endWeigh b w o r i j k).surroundings = s.surroundings :=
  endWeigh_view State.surroundings (fun _ _ => rfl) (fun _ _ => rfl) s b w o r i j k
@[simp] theorem tareResult_surroundings (s : State) (b : BlockId) (w : Weigh) : (s.tareResult b w).surroundings = s.surroundings :=
  tareResult_view State.surroundings (fun _ _ => rfl) (fun _ _ => rfl) (fun _ _ => rfl) (fun _ _ => rfl) (fun _ _ => rfl) (fun _ _ => rfl) (fun _ _ => rfl) s b w
@[simp] theorem loadResult_surroundings (s : State) (b : BlockId) (w : Weigh) : (s.loadResult b w).surroundings = s.surroundings :=
  loadResult_view State.surroundings (fun _ _ => rfl) (fun _ _ => rfl) (fun _ _ => rfl) s b w
@[simp] theorem weighFails_surroundings (s : State) (b : BlockId) (w : Weigh) (n : Nat) : (s.weighFails b w n).surroundings = s.surroundings :=
  weighFails_view State.surroundings (fun _ _ => rfl) (fun _ _ => rfl) (fun _ _ => rfl) (fun _ _ => rfl) (fun _ _ => rfl) (fun _ _ => rfl) s b w n
@[simp] theorem closeWindow_surroundings (s : State) (b : BlockId) (w : Weigh) : (s.closeWindow b w).surroundings = s.surroundings :=
  closeWindow_view State.surroundings (fun _ _ => rfl) (fun _ _ => rfl) (fun _ _ => rfl) (fun _ _ => rfl) (fun _ _ => rfl) (fun _ _ => rfl) (fun _ _ => rfl) s b w
@[simp] theorem firePulse_surroundings (s : State) (b : BlockId) : (s.firePulse b).surroundings = s.surroundings :=
  firePulse_view State.surroundings (fun _ _ => rfl) s b
@[simp] theorem bookGrant_surroundings (s : State) (b : BlockId) (p : List BlockId) : (s.bookGrant b p).surroundings = s.surroundings :=
  bookGrant_view State.surroundings (fun _ _ => rfl) s b p
@[simp] theorem reserve_surroundings (s : State) (x : BoatId) (p : List BlockId) : (s.reserve x p).surroundings = s.surroundings :=
  reserve_view State.surroundings (fun _ _ => rfl) (fun _ _ => rfl) s x p
@[simp] theorem writeLaunch_surroundings (s : State) (b : BlockId) : (s.writeLaunch b).surroundings = s.surroundings :=
  writeLaunch_view State.surroundings (fun _ _ => rfl) s b
@[simp] theorem tellRequester_surroundings (s : State) (b : BlockId) (q : Requester) (p : List BlockId) : (s.tellRequester b q p).surroundings = s.surroundings :=
  tellRequester_view State.surroundings (fun _ _ => rfl) (fun _ _ => rfl) s b q p
@[simp] theorem grant_surroundings (s : State) (b : BlockId) (q : Requester) (p : List BlockId) : (s.grant b q p).surroundings = s.surroundings :=
  grant_view State.surroundings (fun _ _ => rfl) (fun _ _ => rfl) (fun _ _ => rfl) (fun _ _ => rfl) (fun _ _ => rfl) (fun _ _ => rfl) (fun _ _ => rfl) (fun _ _ => rfl) (fun _ _ => rfl) s b q p
@[simp] theorem askAll_surroundings (s : State) : (s.askAll).surroundings = s.surroundings :=
  askAll_view State.surroundings (fun _ _ => rfl) (fun _ _ => rfl) (fun _ _ => rfl) (fun _ _ => rfl) (fun _ _ => rfl) (fun _ _ => rfl) (fun _ _ => rfl) (fun _ _ => rfl) (fun _ _ => rfl) s
@[simp] theorem stall_surroundings (s : State) (b : BlockId) : (s.stall b).surroundings = s.surroundings :=
  stall_view State.surroundings (fun _ _ => rfl) (fun _ _ => rfl) (fun _ _ => rfl) (fun _ _ => rfl) (fun _ _ => rfl) (fun _ _ => rfl) (fun _ _ => rfl) (fun _ _ => rfl) (fun _ _ => rfl) s b
@[simp] theorem resumeRelease_surroundings (s : State) (b : BlockId) : (s.resumeRelease b).surroundings = s.surroundings :=
  resumeRelease_view State.surroundings (fun _ _ => rfl) (fun _ _ => rfl) (fun _ _ => rfl) (fun _ _ => rfl) (fun _ _ => rfl) (fun _ _ => rfl) (fun _ _ => rfl) (fun _ _ => rfl) (fun _ _ => rfl) (fun _ _ => rfl) s b
@[simp] theorem resumeFrozen_surroundings (s : State) : (s.resumeFrozen).surroundings = s.surroundings :=
  resumeFrozen_view State.surroundings (fun _ _ => rfl) (fun _ _ => rfl) (fun _ _ => rfl) (fun _ _ => rfl) (fun _ _ => rfl) (fun _ _ => rfl) (fun _ _ => rfl) (fun _ _ => rfl) (fun _ _ => rfl) (fun _ _ => rfl) s
@[simp] theorem settle_surroundings (s : State) : (s.settle).surroundings = s.surroundings :=
  settle_view State.surroundings (fun _ _ => rfl) (fun _ _ => rfl) (fun _ _ => rfl) s
@[simp] theorem finish_surroundings (s : State) : (s.finish).surroundings = s.surroundings :=
  finish_view State.surroundings (fun _ _ => rfl) (fun _ _ => rfl) (fun _ _ => rfl) (fun _ _ => rfl) (fun _ _ => rfl) (fun _ _ => rfl) (fun _ _ => rfl) (fun _ _ => rfl) (fun _ _ => rfl) (fun _ _ => rfl) (fun _ _ => rfl) s
@[simp] theorem trapEye1_surroundings (s : State) (b : BlockId) : (s.trapEye1 b).surroundings = s.surroundings :=
  trapEye1_view State.surroundings (fun _ _ => rfl) (fun _ _ => rfl) s b
@[simp] theorem raiseSpeedClamp_surroundings (s : State) (b : BlockId) (x : BoatId) (r : BrakeResult) (n : Nat) : (s.raiseSpeedClamp b x r n).surroundings = s.surroundings :=
  raiseSpeedClamp_view State.surroundings (fun _ _ => rfl) (fun _ _ => rfl) (fun _ _ => rfl) (fun _ _ => rfl) (fun _ _ => rfl) s b x r n
@[simp] theorem raiseMargin_surroundings (s : State) (b : BlockId) (x : BoatId) (r : BrakeResult) : (s.raiseMargin b x r).surroundings = s.surroundings :=
  raiseMargin_view State.surroundings (fun _ _ => rfl) (fun _ _ => rfl) (fun _ _ => rfl) (fun _ _ => rfl) (fun _ _ => rfl) s b x r
@[simp] theorem brakeEvent_surroundings (s : State) (b : BlockId) (r : BrakeSection) (p : Passage) (t : Time) : (s.brakeEvent b r p t).surroundings = s.surroundings :=
  brakeEvent_view State.surroundings (fun _ _ => rfl) (fun _ _ => rfl) (fun _ _ => rfl) (fun _ _ => rfl) (fun _ _ => rfl) (fun _ _ => rfl) (fun _ _ => rfl) s b r p t
@[simp] theorem trapEye2_surroundings (s : State) (b : BlockId) : (s.trapEye2 b).surroundings = s.surroundings :=
  trapEye2_view State.surroundings (fun _ _ => rfl) (fun _ _ => rfl) (fun _ _ => rfl) (fun _ _ => rfl) (fun _ _ => rfl) (fun _ _ => rfl) (fun _ _ => rfl) (fun _ _ => rfl) s b
@[simp] theorem trapFails_surroundings (s : State) (b : BlockId) (r : BrakeSection) (p : Passage) (g : Bool) : (s.trapFails b r p g).surroundings = s.surroundings :=
  trapFails_view State.surroundings (fun _ _ => rfl) (fun _ _ => rfl) (fun _ _ => rfl) (fun _ _ => rfl) (fun _ _ => rfl) (fun _ _ => rfl) s b r p g
@[simp] theorem trapUnmeasured_surroundings (s : State) (b : BlockId) : (s.trapUnmeasured b).surroundings = s.surroundings :=
  trapUnmeasured_view State.surroundings (fun _ _ => rfl) (fun _ _ => rfl) (fun _ _ => rfl) (fun _ _ => rfl) (fun _ _ => rfl) (fun _ _ => rfl) s b
@[simp] theorem openPassage_surroundings (s : State) (b : BlockId) (x : BoatId) : (s.openPassage b x).surroundings = s.surroundings :=
  openPassage_view State.surroundings (fun _ _ => rfl) s b x
@[simp] theorem openTagWindow_surroundings (s : State) (b : BlockId) (g : Leg) (x : BoatId) : (s.openTagWindow b g x).surroundings = s.surroundings :=
  openTagWindow_view State.surroundings (fun _ _ => rfl) s b g x
@[simp] theorem endTagWindow_surroundings (s : State) (b : BlockId) (g : Leg) : (s.endTagWindow b g).surroundings = s.surroundings :=
  endTagWindow_view State.surroundings (fun _ _ => rfl) (fun _ _ => rfl) (fun _ _ => rfl) (fun _ _ => rfl) (fun _ _ => rfl) (fun _ _ => rfl) s b g
@[simp] theorem takeTag_surroundings (s : State) (p : PortId) (n : Nat) : (s.takeTag p n).surroundings = s.surroundings :=
  takeTag_view State.surroundings (fun _ _ => rfl) (fun _ _ => rfl) (fun _ _ => rfl) (fun _ _ => rfl) (fun _ _ => rfl) (fun _ _ => rfl) (fun _ _ => rfl) s p n
@[simp] theorem faultAt_surroundings (s : State) (k : FaultKind) (b : BlockId) (x : Option BoatId) (d : Details) : (s.faultAt k b x d).surroundings = s.surroundings :=
  faultAt_view State.surroundings (fun _ _ => rfl) (fun _ _ => rfl) (fun _ _ => rfl) (fun _ _ => rfl) (fun _ _ => rfl) (fun _ _ => rfl) (fun _ _ => rfl) (fun _ _ => rfl) (fun _ _ => rfl) s k b x d
@[simp] theorem endFaultedRecord_surroundings (s : State) (b : BlockId) : (s.endFaultedRecord b).surroundings = s.surroundings :=
  endFaultedRecord_view State.surroundings (fun _ _ => rfl) (fun _ _ => rfl) (fun _ _ => rfl) (fun _ _ => rfl) (fun _ _ => rfl) s b
@[simp] theorem moveNose_surroundings (s : State) (p n : BlockId) (x : BoatId) : (s.moveNose p n x).surroundings = s.surroundings :=
  moveNose_view State.surroundings (fun _ _ => rfl) (fun _ _ => rfl) (fun _ _ => rfl) s p n x
@[simp] theorem normalArrival_surroundings (s : State) (p n : BlockId) (g : Leg) (q : PointId) (x : BoatId) : (s.normalArrival p n g q x).surroundings = s.surroundings :=
  normalArrival_view State.surroundings (fun _ _ => rfl) (fun _ _ => rfl) (fun _ _ => rfl) (fun _ _ => rfl) (fun _ _ => rfl) (fun _ _ => rfl) (fun _ _ => rfl) (fun _ _ => rfl) (fun _ _ => rfl) s p n g q x
@[simp] theorem noseArrival_surroundings (s : State) (b : BlockId) (g : Leg) (q : PointId) : (s.noseArrival b g q).surroundings = s.surroundings :=
  noseArrival_view State.surroundings (fun _ _ => rfl) (fun _ _ => rfl) (fun _ _ => rfl) (fun _ _ => rfl) (fun _ _ => rfl) (fun _ _ => rfl) (fun _ _ => rfl) (fun _ _ => rfl) (fun _ _ => rfl) (fun _ _ => rfl) (fun _ _ => rfl) s b g q
@[simp] theorem tailClearance_surroundings (s : State) (b : BlockId) (g : Leg) (q : PointId) : (s.tailClearance b g q).surroundings = s.surroundings :=
  tailClearance_view State.surroundings (fun _ _ => rfl) (fun _ _ => rfl) (fun _ _ => rfl) (fun _ _ => rfl) (fun _ _ => rfl) (fun _ _ => rfl) (fun _ _ => rfl) (fun _ _ => rfl) (fun _ _ => rfl) s b g q
@[simp] theorem transitEvent_surroundings (s : State) (b : BlockId) (d : Time) : (s.transitEvent b d).surroundings = s.surroundings :=
  transitEvent_view State.surroundings (fun _ _ => rfl) (fun _ _ => rfl) (fun _ _ => rfl) (fun _ _ => rfl) (fun _ _ => rfl) (fun _ _ => rfl) (fun _ _ => rfl) (fun _ _ => rfl) (fun _ _ => rfl) (fun _ _ => rfl) s b d
@[simp] theorem positionEdge_surroundings (s : State) (b : BlockId) : (s.positionEdge b).surroundings = s.surroundings :=
  positionEdge_view State.surroundings (fun _ _ => rfl) s b
@[simp] theorem deliverEdge_surroundings (s : State) (q : PointId) (on : Bool) : (s.deliverEdge q on).surroundings = s.surroundings :=
  deliverEdge_view State.surroundings (fun _ _ => rfl) (fun _ _ => rfl) (fun _ _ => rfl) (fun _ _ => rfl) (fun _ _ => rfl) (fun _ _ => rfl) (fun _ _ => rfl) (fun _ _ => rfl) (fun _ _ => rfl) (fun _ _ => rfl) (fun _ _ => rfl) (fun _ _ => rfl) s q on
@[simp] theorem driveFault_surroundings (s : State) (k : FaultKind) (b : BlockId) (d : Details) : (s.driveFault k b d).surroundings = s.surroundings :=
  driveFault_view State.surroundings (fun _ _ => rfl) (fun _ _ => rfl) (fun _ _ => rfl) (fun _ _ => rfl) (fun _ _ => rfl) (fun _ _ => rfl) (fun _ _ => rfl) (fun _ _ => rfl) (fun _ _ => rfl) s k b d

end Sys2Proof.Machine
end

