-- ==== Sys2Proof/Laws/Modes.lean ====
section
/-! SUPPORT. What a mode change, a voiding, a fault and the end of an event leave in the Mode Controller, the dispatch
list and the block table. -/

set_option Elab.async false

namespace Sys2Proof.Machine

open Sys2Proof

/-! ### The pending slot and the mode (R178, R179, R184) -/

theorem discardSlot_mc (s : State) (n : Nat) : (s.discardSlot n).mc = { s.mc with slot := none } := by
  unfold State.discardSlot
  split
  · rename_i h
    rw [← h]
  · simp

/-- A change of mode sets mode, run mode and permit and empties the slot; the rest of the Mode Controller stays. -/
theorem changeMode_mc (s : State) (m : Mode) (c : ChangeCause) :
    (s.changeMode m c).mc =
      { s.mc with mode := m, runMode := runModeAfter m s.mc.runMode, permit := permitOf m, slot := none } := by
  simp [State.changeMode, discardSlot_mc]

theorem changeMode_dispatch (s : State) (m : Mode) (c : ChangeCause) :
    (s.changeMode m c).dispatch = s.dispatch.map fun e => e.retime s.timeBase s.mode m := by
  simp [State.changeMode]

theorem voidAll_dispatch (s : State) (c : VoidCause) :
    (s.voidAll c).dispatch = s.dispatch.map fun e => e.voided s.timeBase s.layout.settings.consentWindow := by
  unfold State.voidAll
  exact foldl_keeps State.dispatch _ (fun t e => by simp) _ _

/-- A voided entry is the same whatever its timer was. -/
@[simp] theorem voided_retime (e : DispatchEntry) (now t : Time) (m n : Mode) (w : Nat) :
    (e.retime t m n).voided now w = e.voided now w := by
  unfold DispatchEntry.retime DispatchEntry.voided
  repeat' split
  all_goals rfl

theorem enterHolding_mc (s : State) (c : ChangeCause) :
    (s.enterHolding c).mc = { s.mc with mode := .holding, permit := true, slot := none } := by
  simp [State.enterHolding, changeMode_mc, runModeAfter, permitOf]

theorem enterHolding_dispatch (s : State) (c : ChangeCause) :
    (s.enterHolding c).dispatch =
      s.dispatch.map fun e => e.voided s.timeBase s.layout.settings.consentWindow := by
  simp [State.enterHolding, voidAll_dispatch, changeMode_dispatch]

theorem enterHalted_mc (s : State) (c : ChangeCause) :
    (s.enterHalted c).mc = { s.mc with mode := .halted, permit := false, slot := none } := by
  simp [State.enterHalted, changeMode_mc, runModeAfter, permitOf]

theorem enterHalted_dispatch (s : State) (c : ChangeCause) :
    (s.enterHalted c).dispatch =
      s.dispatch.map fun e => e.voided s.timeBase s.layout.settings.consentWindow := by
  simp [State.enterHalted, voidAll_dispatch, changeMode_dispatch]

theorem enterHalted_table (s : State) (c : ChangeCause) :
    (s.enterHalted c).table = vmap (fun _ (e : Entry) => e.freeze) s.table := by
  simp [State.enterHalted]

theorem enterHalted_switches (s : State) (c : ChangeCause) :
    (s.enterHalted c).switches = vmap (fun _ (w : Option SwitchRecord) => w.map SwitchRecord.dropMove) s.switches := by
  simp [State.enterHalted]

/-- The freezing of the meanings is the one the statements speak of (R55). -/
theorem freeze_eq_halted (e : Entry) : e.freeze = e.halted := by
  obtain ⟨st, oc, ho, no, tr, cl, re⟩ := e
  cases re <;> cases st <;> cases no <;> rfl

@[simp] theorem freeze_state (e : Entry) : e.freeze.state = e.state := by
  unfold Entry.freeze
  split
  · split <;> rfl
  · rfl

@[simp] theorem freeze_occupant (e : Entry) : e.freeze.occupant = e.occupant := by
  unfold Entry.freeze
  split
  · split <;> rfl
  · rfl

/-- Freezing twice is freezing once. -/
@[simp] theorem freeze_freeze (e : Entry) : e.freeze.freeze = e.freeze := by
  obtain ⟨st, oc, ho, no, tr, cl, re⟩ := e
  cases re <;> cases st <;> cases no <;> rfl

/-! ### Faults (R196, R197) -/

/-- The fault record and count after a fault. -/
theorem recordFault_keeps (c : ModeController) (k : FaultKind) (b : Option BlockId) (x : Option BoatId) (t : Time) :
    c.recordFault k b x t =
      { c with fault := (c.recordFault k b x t).fault, further := (c.recordFault k b x t).further } := by
  unfold ModeController.recordFault
  split <;> rfl

/-- Applying a class leaves the fault record alone and sets the mode, the permit and the slot by the mode found. -/
theorem applyClass_mc (s : State) (c : FaultClass) :
    (s.applyClass c).mc =
      if modeAfterFault c s.mode = s.mode then s.mc
      else { s.mc with mode := modeAfterFault c s.mode, permit := permitOf (modeAfterFault c s.mode), slot := none } := by
  unfold State.applyClass
  cases c <;> cases hm : s.mode <;> simp [enterHalted_mc, enterHolding_mc, modeAfterFault, permitOf]

theorem applyClass_table (s : State) (c : FaultClass) :
    (s.applyClass c).table =
      if c = .halt ∧ s.mode.moves = true then vmap (fun _ (e : Entry) => e.freeze) s.table else s.table := by
  unfold State.applyClass
  cases c <;> cases hm : s.mode <;> simp [enterHalted_table, Mode.moves]

theorem applyClass_switches (s : State) (c : FaultClass) :
    (s.applyClass c).switches =
      if c = .halt ∧ s.mode.moves = true then
        vmap (fun _ (w : Option SwitchRecord) => w.map SwitchRecord.dropMove) s.switches
      else s.switches := by
  unfold State.applyClass
  cases c <;> cases hm : s.mode <;> simp [enterHalted_switches, Mode.moves]

theorem applyClass_dispatch (s : State) (c : FaultClass) :
    (s.applyClass c).dispatch =
      if modeAfterFault c s.mode = s.mode then s.dispatch
      else s.dispatch.map fun e => e.voided s.timeBase s.layout.settings.consentWindow := by
  unfold State.applyClass
  cases c <;> cases hm : s.mode <;> simp [enterHalted_dispatch, enterHolding_dispatch, modeAfterFault]

/-- The Mode Controller after a fault: record and count by R197, mode, permit and slot by R196. -/
theorem raise_mc (s : State) (k : FaultKind) (b : Option BlockId) (x : Option BoatId) (d : Details) :
    (s.raise k b x d).mc =
      let c := s.mc.recordFault k b x s.timeBase
      if modeAfterFault k.cls s.mode = s.mode then c
      else { c with mode := modeAfterFault k.cls s.mode, permit := permitOf (modeAfterFault k.cls s.mode),
                    slot := none } := by
  have h : (s.mc.recordFault k b x s.timeBase).mode = s.mc.mode := by
    rw [recordFault_keeps]
  simp only [State.raise, applyClass_mc, State.mode, append_mc, setMc_mc, h]
  split <;> simp [*]

theorem raise_table (s : State) (k : FaultKind) (b : Option BlockId) (x : Option BoatId) (d : Details) :
    (s.raise k b x d).table =
      if k.cls = .halt ∧ s.mode.moves = true then vmap (fun _ (e : Entry) => e.freeze) s.table else s.table := by
  have h : (s.mc.recordFault k b x s.timeBase).mode = s.mc.mode := by
    rw [recordFault_keeps]
  simp only [State.raise, applyClass_table, State.mode, append_mc, setMc_mc, append_table, setMc_table, h]
  split <;> simp [*]

theorem raise_switches (s : State) (k : FaultKind) (b : Option BlockId) (x : Option BoatId) (d : Details) :
    (s.raise k b x d).switches =
      if k.cls = .halt ∧ s.mode.moves = true then
        vmap (fun _ (w : Option SwitchRecord) => w.map SwitchRecord.dropMove) s.switches
      else s.switches := by
  have h : (s.mc.recordFault k b x s.timeBase).mode = s.mc.mode := by
    rw [recordFault_keeps]
  simp only [State.raise, applyClass_switches, State.mode, append_mc, setMc_mc, append_switches, setMc_switches, h]
  split <;> simp [*]

theorem raise_dispatch (s : State) (k : FaultKind) (b : Option BlockId) (x : Option BoatId) (d : Details) :
    (s.raise k b x d).dispatch =
      if modeAfterFault k.cls s.mode = s.mode then s.dispatch
      else s.dispatch.map fun e => e.voided s.timeBase s.layout.settings.consentWindow := by
  have h : (s.mc.recordFault k b x s.timeBase).mode = s.mc.mode := by
    rw [recordFault_keeps]
  simp only [State.raise, applyClass_dispatch, State.mode, append_mc, setMc_mc, append_dispatch, setMc_dispatch,
    append_timeBase, setMc_timeBase, append_layout, setMc_layout, h]
  split <;> simp [*]

/-- The mode after a fault is the one its class leaves. -/
theorem raise_mode (s : State) (k : FaultKind) (b : Option BlockId) (x : Option BoatId) (d : Details) :
    (s.raise k b x d).mode = modeAfterFault k.cls s.mode := by
  have h : (s.mc.recordFault k b x s.timeBase).mode = s.mc.mode := by
    rw [recordFault_keeps]
  rw [State.mode, raise_mc]
  dsimp only
  split
  · rename_i g
    rw [h, g, State.mode]
  · rfl

/-- Every fault is taken into the fault record or the count. -/
theorem raise_taken (s : State) (k : FaultKind) (b : Option BlockId) (x : Option BoatId) (d : Details) :
    (s.raise k b x d).mc.fault = (s.mc.recordFault k b x s.timeBase).fault ∧
    (s.raise k b x d).mc.further = (s.mc.recordFault k b x s.timeBase).further := by
  rw [raise_mc]
  dsimp only
  split <;> exact ⟨rfl, rfl⟩

/-! ### The end of an event -/

/-- Outside HOLDING nothing settles; in it, HOLDING becomes HELD at the moment nothing moves (R189). -/
theorem settle_of_ne (s : State) (h : s.mode ≠ .holding) : s.settle = s := by
  simp [State.settle, h]

/-- In CONFIGURE an event ends with nothing more. -/
theorem finish_configure (s : State) (h : s.mode = .configure) : s.finish = s := by
  simp [State.finish, h]

/-- Outside CONFIGURE, RUN and HOLDING an event ends with switches, brakes and channels derived afresh. -/
theorem finish_still (s : State) (h1 : s.mode ≠ .configure) (h2 : s.mode ≠ .run) (h3 : s.mode ≠ .holding) :
    s.finish = s.refreshSwitches.refreshBrakes.refreshChannels := by
  have h2' : s.refreshSwitches.mode ≠ .run := h2
  have h3' : s.refreshSwitches.refreshBrakes.refreshChannels.mode ≠ .holding := h3
  rw [State.finish, if_neg h1, State.askAll, if_neg h2', settle_of_ne _ h3']

/-- In HOLDING an event ends with switches, brakes and channels derived afresh and the mode settled. -/
theorem finish_holding (s : State) (h : s.mode = .holding) :
    s.finish = s.refreshSwitches.refreshBrakes.refreshChannels.settle := by
  have h1 : s.mode ≠ .configure := by rw [h]; decide
  have h2 : s.refreshSwitches.mode ≠ .run := by
    show s.mode ≠ .run
    rw [h]; decide
  rw [State.finish, if_neg h1, State.askAll, if_neg h2]

/-- In RUN an event ends with the grants asked for, then brakes and channels derived afresh. -/
theorem finish_run (s : State) (h : s.mode = .run) :
    s.finish = (grantLoop 32 s.refreshSwitches).refreshBrakes.refreshChannels := by
  have h1 : s.mode ≠ .configure := by rw [h]; decide
  have h2 : s.refreshSwitches.mode = .run := h
  have h3 : (grantLoop 32 s.refreshSwitches).refreshBrakes.refreshChannels.mode ≠ .holding := by
    show (grantLoop 32 s.refreshSwitches).mc.mode ≠ .holding
    rw [grantLoop_view State.mc (fun _ _ => rfl) (fun _ _ => rfl) (fun _ _ => rfl) (fun _ _ => rfl)
      (fun _ _ => rfl) (fun _ _ => rfl) (fun _ _ => rfl) (fun _ _ => rfl) (fun _ _ => rfl)]
    show s.mode ≠ .holding
    rw [h]; decide
  rw [State.finish, if_neg h1, State.askAll, if_pos h2, settle_of_ne _ h3]

/-- The end of an event changes the mode from HOLDING to HELD alone, and the rest of the Mode Controller never but for
the slot that change discards. -/
theorem finish_mc (s : State) :
    s.finish.mc = s.mc ∨
    s.mode = .holding ∧ s.finish.mc = { s.mc with mode := .held, permit := true, slot := none } := by
  by_cases h1 : s.mode = .configure
  · rw [finish_configure s h1]
    exact .inl rfl
  · by_cases h2 : s.mode = .run
    · rw [finish_run s h2]
      exact .inl ((grantLoop_view State.mc (fun _ _ => rfl) (fun _ _ => rfl) (fun _ _ => rfl) (fun _ _ => rfl)
        (fun _ _ => rfl) (fun _ _ => rfl) (fun _ _ => rfl) (fun _ _ => rfl) (fun _ _ => rfl) _ _).trans rfl)
    · by_cases h3 : s.mode = .holding
      · rw [finish_holding s h3, State.settle]
        split
        · right
          refine ⟨h3, ?_⟩
          rw [changeMode_mc]
          rfl
        · exact .inl rfl
      · rw [finish_still s h1 h2 h3]
        exact .inl rfl

/-- Outside RUN the end of an event keeps the block table, the roster, the bays and the launches. -/
theorem finish_kept (s : State) (h : s.mode ≠ .run) :
    s.finish.table = s.table ∧ s.finish.roster = s.roster ∧ s.finish.bays = s.bays ∧
    s.finish.launches = s.launches ∧ s.finish.arbiters = s.arbiters := by
  by_cases h1 : s.mode = .configure
  · rw [finish_configure s h1]
    exact ⟨rfl, rfl, rfl, rfl, rfl⟩
  · by_cases h3 : s.mode = .holding
    · rw [finish_holding s h3]
      simp [State.refreshChannels, State.refreshBrakes, State.refreshSwitches]
    · rw [finish_still s h1 h h3]
      exact ⟨rfl, rfl, rfl, rfl, rfl⟩

end Sys2Proof.Machine
end

