-- ==== Sys2Proof/Laws/Reports.lean ====
section
/-! SUPPORT. Reports of one event: how the lists of `ReportsAdded` join, what it depends on, when an arrival is the one
a boat's path waits for, and what the loss of a link does before its reports. -/

set_option Elab.async false

namespace Sys2Proof.Machine
open Sys2Proof

theorem expects_iff (s : State) (p n : BlockId) (x : BoatId) :
    s.expects p n x = true ↔ (s.entry n).state = .reserved ∧ (s.entry n).holder = some x ∧
      (s.slot x).position = some p ∧ (s.pathOf x).head? = some n := by
  simp [State.expects, and_assoc]

@[simp] theorem length_numbered (now : Time) (seq : BitVec 16) (rs : List Told) :
    (numbered now seq rs).length = rs.length := by
  induction rs generalizing seq with
  | nil => rfl
  | cons r rs ih => simp [numbered, ih]

theorem numbered_append (now : Time) (seq : BitVec 16) (xs ys : List Told) :
    numbered now seq (xs ++ ys) = numbered now seq xs ++ numbered now (seq + BitVec.ofNat 16 xs.length) ys := by
  induction xs generalizing seq with
  | nil => simp [numbered]
  | cons x xs ih =>
    have h : seq + 1#16 + BitVec.ofNat 16 xs.length = seq + BitVec.ofNat 16 (xs.length + 1) := by
      rw [BitVec.add_assoc, BitVec.add_comm 1#16, BitVec.ofNat_add]
    simp [numbered, ih, h]

theorem newest64_of_short {es : List Report} (h : es.length ≤ 64) : newest64 es = es := by
  simp [newest64, Nat.sub_eq_zero_of_le h]

theorem length_newest64 (es : List Report) : (newest64 es).length = min es.length 64 := by
  rw [newest64, List.length_drop]
  omega

/-- The newest 64 of what follows the newest 64. -/
theorem newest64_append (es fs : List Report) : newest64 (newest64 es ++ fs) = newest64 (es ++ fs) := by
  have h : newest64 es ++ fs = (es ++ fs).drop (es.length - 64) := by
    rw [newest64, List.drop_append_of_le_length (by omega)]
  have n : (newest64 es ++ fs).length = min es.length 64 + fs.length := by rw [List.length_append, length_newest64]
  rw [newest64, n, h, List.drop_drop, newest64, List.length_append]
  congr 1
  omega

/-- No report: the ring and the readers stay. -/
theorem ReportsAdded.nil {s t : State} (h : t.reports = s.reports) : ReportsAdded s t [] := by
  intro ⟨hl, he, hr⟩
  have n : newest64 s.reports.ring = s.reports.ring := newest64_of_short hl
  have m : ∀ l, (s.unread l).length ≤ 64 := fun l => by
    rw [State.unread, List.length_drop]
    omega
  refine ⟨by simp [h], fun _ => by simp [h, numbered, n], fun hd => h ▸ he hd, fun l _ => ?_, fun l hd => ?_, fun l => ?_⟩
  · refine ⟨?_, ?_⟩
    · simp only [numbered, List.append_nil]
      rw [newest64_of_short (m l)]
      simp [State.unread, State.reader, h]
    · have := m l
      have := (hr l).2.1
      simp only [State.reader, h, List.length_nil]
      simp only [State.reader] at this
      omega
  · exact ⟨by simpa [State.reader, h] using (hr l).2.2 hd, by simp [State.reader, h]⟩
  · simp [State.reader, h]

/-- Reports added in two portions are added in one. -/
theorem ReportsAdded.append {s t u : State} {xs ys : List Told} (h1 : ReportsAdded s t xs) (h2 : ReportsAdded t u ys)
    (sound : s.ringSound → t.ringSound) (up : ∀ l, t.up l = s.up l) (now : t.timeBase = s.timeBase) :
    ReportsAdded s u (xs ++ ys) := by
  intro hs
  obtain ⟨a1, a2, a3, a4, a5, a6⟩ := h1 hs
  obtain ⟨b1, b2, b3, b4, b5, b6⟩ := h2 (sound hs)
  simp only [up, now, a1] at b1 b2 b3 b4 b5 b6
  refine ⟨?_, fun hu => ?_, b3, fun l hl => ⟨?_, ?_⟩, fun l hl => ⟨(b5 l hl).1, (b5 l hl).2.trans (a5 l hl).2⟩,
    fun l => ⟨(b6 l).1.trans (a6 l).1, (b6 l).2.trans (a6 l).2⟩⟩
  · rw [b1, List.length_append, BitVec.ofNat_add, BitVec.add_assoc]
  · rw [b2 hu, a2 hu, newest64_append, numbered_append, List.append_assoc]
  · rw [(b4 l hl).1, (a4 l hl).1, newest64_append, numbered_append, List.append_assoc]
  · have n : (t.unread l).length = min ((s.unread l).length + xs.length) 64 := by
      rw [(a4 l hl).1, length_newest64, List.length_append, length_numbered]
    rw [(b4 l hl).2, (a4 l hl).2, n, List.length_append]
    omega

/-- Only the Report Queue of the state after counts. -/
theorem ReportsAdded.congr_right {s t u : State} {rs : List Told} (h : u.reports = t.reports) :
    ReportsAdded s u rs ↔ ReportsAdded s t rs := by
  simp only [ReportsAdded, State.unread, State.reader, h]

/-- Of the state before, the Report Queue, the links that are UP and the Time Base count. -/
theorem ReportsAdded.congr_left {s t u : State} {rs : List Told} (h : u.reports = s.reports)
    (up : ∀ l, u.up l = s.up l) (now : u.timeBase = s.timeBase) : ReportsAdded u t rs ↔ ReportsAdded s t rs := by
  simp only [ReportsAdded, State.ringSound, State.unread, State.reader, h, up, now]

/-! ### The loss of a link -/

/-- Only the port and the Report Queue change before a link's loss is reported. -/
theorem silenced_eq (s : State) (l : Link) :
    s.silenced l = { s with ports := s.ports.put l { s.port l with supervision := none },
                            reports := (s.silenced l).reports } := rfl

/-- The link going DOWN is its silence and then the LINK report. -/
theorem dropLink_eq {s : State} {l : Link} {v : Supervision} (h : (s.port l).supervision = some v) :
    s.dropLink l = (s.silenced l).linkReport l 1 v.timeout := by
  simp only [State.dropLink, h, Option.map_some, Option.getD_some]
  rfl

/-- Outside RUN and MANUAL an entry that loses a consent is as `State.takenBack` says. -/
theorem withdrawn_eq_takenBack {s : State} (c : ControlLink) (e : DispatchEntry) (h : isRunMode s.mode = false) :
    (if e.given c then s.withdrawn c e else e) = s.takenBack c e := by
  cases c <;> simp [State.withdrawn, State.takenBack, State.freshTimer, DispatchEntry.consented, h]

end Sys2Proof.Machine
end

