-- ==== Sys2Proof/Laws/Requests.lean ====
section
/-! SUPPORT. How a request runs: presented, checked and decided, and how its argument bytes are read back from the bytes
they were written as. Each fact is about one shared operation. -/

set_option Elab.async false

namespace Sys2Proof.Machine

open Sys2Proof

/-! ### Presenting and deciding a request (R208, R212) -/

theorem exec_requestCommand (r : Req) (l : Link) (tag : Byte) (args : List Byte) (s : State) :
    exec (requestCommand r l tag args) s = .next (s.present l r tag args) := by
  cases r <;> rfl

theorem present_idle {s : State} {l : Link} (h : (s.port l).sending = none) (r : Req) (tag : Byte) (args : List Byte) :
    s.present l r tag args = s.serve l r tag args := by
  simp [State.present, h]

theorem serve_eq (s : State) (l : Link) (r : Req) (tag : Byte) (args : List Byte) :
    s.serve l r tag args =
      (s.decide l r args).2.replies l r tag (s.decide l r args).1.status (s.decide l r args).1.data := rfl

/-- A request presented while nothing is being sent is decided at once. -/
theorem exec_idle {s : State} {l : Link} (h : (s.port l).sending = none) (r : Req) (tag : Byte) (args : List Byte) :
    exec (requestCommand r l tag args) s =
      .next ((s.decide l r args).2.replies l r tag (s.decide l r args).1.status (s.decide l r args).1.data) := by
  rw [exec_requestCommand, present_idle h, serve_eq]

/-- A request that passes every check is decided by its owner. -/
theorem decide_own {s : State} {l : Link} {r : Req} {args : List Byte} {c : Call} (h1 : roleAllows l r = true)
    (h2 : readArgs r args = .ok c) (h3 : takenIn r s.mode = true) (h4 : s.inWindow l c = true) :
    s.decide l r args = s.own l c := by
  simp [State.decide, h1, h2, h3, h4]

theorem exec_own {s : State} {l : Link} {r : Req} (tag : Byte) {args : List Byte} {c : Call} (h : s.admits l r)
    (h2 : readArgs r args = .ok c) (h4 : s.inWindow l c = true) :
    exec (requestCommand r l tag args) s =
      .next ((s.own l c).2.replies l r tag (s.own l c).1.status (s.own l c).1.data) := by
  rw [exec_idle h.1, decide_own h.2.1 h2 h.2.2 h4]

/-- The same for a request that addresses no block. -/
theorem exec_own_anywhere {s : State} {l : Link} {r : Req} (tag : Byte) {args : List Byte} {c : Call}
    (h : s.admits l r) (h2 : readArgs r args = .ok c) (h4 : s.windowBlock c = none) :
    exec (requestCommand r l tag args) s =
      .next ((s.own l c).2.replies l r tag (s.own l c).1.status (s.own l c).1.data) :=
  exec_own tag h h2 (by simp [State.inWindow, h4])

/-- The same for a request that addresses a block in the link's windows. -/
theorem exec_own_window {s : State} {l : Link} {r : Req} (tag : Byte) {args : List Byte} {c : Call} {b : BlockId}
    (h : s.admits l r) (h2 : readArgs r args = .ok c) (h4 : s.windowBlock c = some b)
    (h5 : (s.windows.get l).holds b = true) :
    exec (requestCommand r l tag args) s =
      .next ((s.own l c).2.replies l r tag (s.own l c).1.status (s.own l c).1.data) :=
  exec_own tag h h2 (by simp [State.inWindow, h4, h5])

/-- Two states with the same surroundings have them after the same response. -/
theorem replies_surroundings {u s : State} (h : u.surroundings = s.surroundings) (l : Link) (r : Req) (tag : Byte)
    (st : Status) (d : List Byte) :
    (u.replies l r tag st d).surroundings = (s.replies l r tag st d).surroundings := by
  simp only [State.surroundings, Prod.mk.injEq] at h
  obtain ⟨a, b, c, d, e, f, g⟩ := h
  simp [State.surroundings, State.replies, State.sends, State.port, a, b, c, d, e, f, g]

/-! ### Deadlines -/

theorem due_iff {now : Time} {o : Option Time} : due now o = true ↔ ∃ d, o = some d ∧ reached now d = true := by
  cases o <;> simp [due]

/-! ### Reading one argument -/

theorem argFin_eq {n : Nat} {args : List Byte} {i : Nat} {x : Fin n} (h : arg1 args i = x.val) :
    argFin n args i = .ok x := by
  simp [argFin, h]

theorem argBool_eq {args : List Byte} {i : Nat} {v : Bool} (h : arg1 args i = v.toNat) : argBool args i = .ok v := by
  cases v <;> simp_all [argBool]

theorem argIn_eq {v lo hi i : Nat} (h1 : lo ≤ v) (h2 : v ≤ hi) : argIn v lo hi i = .ok v := by
  simp [argIn, h1, h2]

theorem optFin_eq {n : Nat} [NeZero n] (hn : n ≤ 255) {args : List Byte} {i : Nat} {o : Option (Fin n)}
    (h : arg1 args i = (o.map (·.val)).getD 255) : optFin n args i = o := by
  cases o with
  | none => simp [optFin, h]
  | some x =>
    have := x.isLt
    simp at h
    have h2 : ¬(x.val = 255) := by omega
    simp [optFin, h, h2]

theorem optVal_mod {n : Nat} (h : n ≤ 255) (o : Option (Fin n)) :
    (o.map (·.val)).getD 255 % 256 = (o.map (·.val)).getD 255 := by
  cases o <;> simp
  omega

@[simp] theorem except_bind_ok {ε α β : Type} (a : α) (f : α → Except ε β) :
    ((Except.ok a : Except ε α) >>= f) = f a := rfl

@[simp] theorem except_pure {ε α : Type} (a : α) : (pure a : Except ε α) = .ok a := rfl

theorem arg1_b1 (n : Nat) (l : List Byte) (h : n < 256) : arg1 (b1 n ++ l) 0 = n := by
  simp [arg1, b1]
  omega

theorem boolNat_mod (v : Bool) : v.toNat % 256 = v.toNat := by cases v <;> rfl

/-! ### Reading the arguments of a request -/

theorem readOneBlock_b1 (b : BlockId) : readOneBlock (b1 b.val) = .ok b := by
  have : arg1 (b1 b.val) 0 = b.val := by
    simp [arg1, b1]
    omega
  unfold readOneBlock
  rw [argFin_eq this]
  rfl

theorem readOneSlot_b1 (b : BoatId) : readOneSlot (b1 b.val) = .ok b := by
  have : arg1 (b1 b.val) 0 = b.val := by
    simp [arg1, b1]
    omega
  unfold readOneSlot
  rw [argFin_eq this]
  rfl

theorem readOneSeq_one (b : Byte) : readOneSeq [b] = .ok b := by
  simp [readOneSeq, argLength]

theorem readArgs_blockFlag (b : BlockId) (v : Bool) :
    readArgs .setService (b1 b.val ++ flagByte v) = .ok (.setService b v) ∧
    readArgs .dispatch (b1 b.val ++ flagByte v) = .ok (.dispatch b v) := by
  have h0 : arg1 (b1 b.val ++ flagByte v) 0 = b.val := by
    simp [arg1, b1, flagByte]
    omega
  have h1 : arg1 (b1 b.val ++ flagByte v) 1 = v.toNat := by simp [arg1, b1, flagByte, boolNat_mod]
  simp [readArgs, argLength, argFin_eq h0, argBool_eq h1]
  simp [b1, flagByte]

/-- The 47 bytes of a block record, one by one (R5, R16). -/
theorem recordBytes_at (b : BlockId) (r : BlockRecord) : (recordBytes b r).length = 47 ∧
  arg1 (recordBytes b r) 0 = (b.val) % 256 ∧
  arg1 (recordBytes b r) 1 = (r.kind.code) % 256 ∧
  arg1 (recordBytes b r) 2 = (r.inService.toNat) % 256 ∧
  arg1 (recordBytes b r) 3 = (r.mainSuccessor.val) % 256 ∧
  arg1 (recordBytes b r) 4 = (((r.switch).map (fun x => x.spurSuccessor.val)).getD 0) % 256 ∧
  arg1 (recordBytes b r) 5 = (r.mainEye.val) % 256 ∧
  arg1 (recordBytes b r) 6 = (((r.switch).map (fun x => x.spurEye.val)).getD 0) % 256 ∧
  arg1 (recordBytes b r) 7 = ((r.tagPort.map (fun x => x.val)).getD 255) % 256 ∧
  arg1 (recordBytes b r) 8 = (((r.drive).map (fun x => x.channel.val)).getD 0) % 256 ∧
  arg1 (recordBytes b r) 9 = (((r.drive).map (fun d => (d.feedback.map (fun x => x.val)).getD 255)).getD 0) % 256 ∧
  arg1 (recordBytes b r) 10 = (((r.switch).map (fun x => x.mainPosition.val)).getD 0) % 256 ∧
  arg1 (recordBytes b r) 11 = (((r.switch).map (fun x => x.spurPosition.val)).getD 0) % 256 ∧
  arg1 (recordBytes b r) 12 = (r.transitLimit) / 256 % 256 ∧
  arg1 (recordBytes b r) 13 = (r.transitLimit) % 256 ∧
  arg1 (recordBytes b r) 14 = (r.clearanceLimit) / 256 % 256 ∧
  arg1 (recordBytes b r) 15 = (r.clearanceLimit) % 256 ∧
  arg1 (recordBytes b r) 16 = (((r.drive).map (fun x => x.checkTime)).getD 0) / 256 % 256 ∧
  arg1 (recordBytes b r) 17 = (((r.drive).map (fun x => x.checkTime)).getD 0) % 256 ∧
  arg1 (recordBytes b r) 18 = (r.park.toNat) % 256 ∧
  arg1 (recordBytes b r) 19 = (((r.launch).map (fun x => x.headway)).getD 0) % 256 ∧
  arg1 (recordBytes b r) 20 = (((r.launch).map (fun x => x.kickRetries)).getD 0) % 256 ∧
  arg1 (recordBytes b r) 21 = (((r.launch).map (fun x => x.kickPulse)).getD 0) / 256 % 256 ∧
  arg1 (recordBytes b r) 22 = (((r.launch).map (fun x => x.kickPulse)).getD 0) % 256 ∧
  arg1 (recordBytes b r) 23 = (((r.switch).map (fun x => x.travelLimit)).getD 0) / 256 % 256 ∧
  arg1 (recordBytes b r) 24 = (((r.switch).map (fun x => x.travelLimit)).getD 0) % 256 ∧
  arg1 (recordBytes b r) 25 = (((r.brake).map (fun x => x.eye1.val)).getD 0) % 256 ∧
  arg1 (recordBytes b r) 26 = (((r.brake).map (fun x => x.eye2.val)).getD 0) % 256 ∧
  arg1 (recordBytes b r) 27 = (((r.brake).map (fun x => x.trapLength)).getD 0) / 256 % 256 ∧
  arg1 (recordBytes b r) 28 = (((r.brake).map (fun x => x.trapLength)).getD 0) % 256 ∧
  arg1 (recordBytes b r) 29 = (((r.brake).map (fun x => x.targetSpeed)).getD 0) / 256 % 256 ∧
  arg1 (recordBytes b r) 30 = (((r.brake).map (fun x => x.targetSpeed)).getD 0) % 256 ∧
  arg1 (recordBytes b r) 31 = (((r.brake).map (fun x => x.brakeLength)).getD 0) / 256 % 256 ∧
  arg1 (recordBytes b r) 32 = (((r.brake).map (fun x => x.brakeLength)).getD 0) % 256 ∧
  arg1 (recordBytes b r) 33 = (((r.brake).map (fun x => x.forceStep)).getD 0) / 256 % 256 ∧
  arg1 (recordBytes b r) 34 = (((r.brake).map (fun x => x.forceStep)).getD 0) % 256 ∧
  arg1 (recordBytes b r) 35 = (((r.brake).map (fun x => x.idleLevel)).getD 0) % 256 ∧
  arg1 (recordBytes b r) 36 = (((r.brake).map (fun x => x.minimumLevel)).getD 0) % 256 ∧
  arg1 (recordBytes b r) 37 = (((r.brake).map (fun x => x.trapTimeout)).getD 0) / 256 % 256 ∧
  arg1 (recordBytes b r) 38 = (((r.brake).map (fun x => x.trapTimeout)).getD 0) % 256 ∧
  arg1 (recordBytes b r) 39 = (r.stopDelay.getD 0) / 256 % 256 ∧
  arg1 (recordBytes b r) 40 = (r.stopDelay.getD 0) % 256 ∧
  arg1 (recordBytes b r) 41 = (((r.brake).map (fun x => x.zoneMode.code)).getD 0) % 256 ∧
  arg1 (recordBytes b r) 42 = (((r.bay).map (fun x => x.role.code)).getD 0) % 256 ∧
  arg1 (recordBytes b r) 43 = (((r.bay).map (fun x => x.frontCell.val)).getD 0) % 256 ∧
  arg1 (recordBytes b r) 44 = (((r.bay).map (fun x => x.rearCell.val)).getD 0) % 256 ∧
  arg1 (recordBytes b r) 45 = (((r.bay).map (fun x => x.maxLoad)).getD 0) / 256 % 256 ∧
  arg1 (recordBytes b r) 46 = (((r.bay).map (fun x => x.maxLoad)).getD 0) % 256 := by
  delta recordBytes n1 n2 o1 b1 b2
  simp only [List.cons_append, List.nil_append]
  simp only [arg1, List.getD_cons_succ, List.getD_cons_zero, BitVec.toNat_ofNat, List.length_cons, List.length_nil, Nat.reducePow, Nat.reduceAdd, and_self]

/-! ### Mode requests (R180, R182) -/

theorem takenIn_modes (m : ModeReq) (x : Mode) : takenIn m.req x = decide (x ∈ m.modes) := by
  cases m <;> cases x <;> rfl

theorem roleAllows_mode (m : ModeReq) (c : ControlLink) : roleAllows c.link m.req = true := by
  cases c <;> rfl

theorem controlLink_link (c : ControlLink) : controlLink c.link = some c := by cases c <;> rfl

theorem readArgs_mode (m : ModeReq) (g : Nat) (h : g < 65536) :
    readArgs m.req (m.argBytes g) = .ok (.modeRequest m (m.quotes g)) := by
  cases m <;> try rfl
  have : arg2 (ModeReq.argBytes .enterStandby g) 0 = g := by
    simp only [ModeReq.argBytes, arg2, arg1, List.getD_cons_zero, List.getD_cons_succ, BitVec.toNat_ofNat]
    omega
  show (do argLength _ 2; return Call.modeRequest .enterStandby (some (arg2 (ModeReq.argBytes .enterStandby g) 0)) :
    ArgResult Call) = _
  rw [this]
  rfl

theorem admits_mode {s : State} {m : ModeReq} {c : ControlLink} (h : s.admits c.link m.req) : s.mode ∈ m.modes := by
  have := h.2.2
  rw [takenIn_modes] at this
  simpa using this

theorem exec_mode {s : State} {m : ModeReq} {c : ControlLink} (tag : Byte) {g : Nat}
    (hs : (s.port c.link).sending = none) (hg : g < 65536) (hm : s.mode ∈ m.modes) :
    exec (requestCommand m.req c.link tag (m.argBytes g)) s =
      .next ((s.modeRequest c.link m (m.quotes g)).2.replies c.link m.req tag
        (s.modeRequest c.link m (m.quotes g)).1.status (s.modeRequest c.link m (m.quotes g)).1.data) :=
  exec_own tag (c := .modeRequest m (m.quotes g))
    ⟨hs, roleAllows_mode m c, by rw [takenIn_modes]; simpa using hm⟩ (readArgs_mode m g hg) rfl

theorem modeRequest_refused {s : State} {m : ModeReq} {c : ControlLink} {g : Option Nat} {r : Reply}
    (h : s.modeRefusal m g = some r) : s.modeRequest c.link m g = (r, s) := by
  simp [State.modeRequest, controlLink_link, h]

theorem modeRequest_decided {s : State} {m : ModeReq} {c : ControlLink} {g : Option Nat}
    (h : s.modeRefusal m g = none) : s.modeRequest c.link m g = s.decideSlot c m g := by
  simp [State.modeRequest, controlLink_link, h]

/-- Details below the ceiling of three bytes are kept as they are. -/
theorem detail_small (a b c d : Nat) (h1 : a ≤ 16777215) (h2 : b ≤ 16777215) (h3 : c ≤ 16777215)
    (h4 : d ≤ 16777215) : detail a b c d = { d1 := a, d2 := b, d3 := c, d4 := d } := by
  simp [detail, Config.detailCeiling, Nat.min_eq_left, *]

/-- The matching request of the other link carries the change out. -/
theorem exec_matched {s : State} {m : ModeReq} {c other : ControlLink} {tag : Byte} {g : Nat} {d : Time}
    (ha : s.admits c.link m.req) (hg : g < 65536) (hr : s.modeRefusal m (m.quotes g) = none) (hne : other ≠ c)
    (hsl : s.mc.slot = some { request := m, generation := m.quotes g, link := other, deadline := d }) :
    exec (requestCommand m.req c.link tag (m.argBytes g)) s =
      .next ((s.carryOut m).replies c.link m.req tag .ok (b1 (m.target s.mode s.mc.runMode).code)) := by
  rw [exec_mode tag ha.1 hg (admits_mode ha), modeRequest_decided hr]
  simp only [State.decideSlot, hsl, hne, if_false, and_self, decide_true, if_true, Reply.okWith]

/-- The first block of the table with a property. -/
theorem find_first {p : BlockId → Bool} {b : BlockId} (hb : p b = true) (hmin : ∀ a : BlockId, a < b → p a = false) :
    allBlocks.find? p = some b := by
  simp only [allBlocks]
  rw [List.find?_eq_some_iff_append]
  refine ⟨hb, (List.finRange 32).take b.val, (List.finRange 32).drop (b.val + 1), ?_, ?_⟩
  · conv => lhs; rw [← List.take_append_drop b.val (List.finRange 32)]
    congr 1
    rw [List.drop_eq_getElem_cons (by simp)]
    simp
  · intro a ha
    have : a < b := by
      rw [List.mem_take_iff_getElem] at ha
      obtain ⟨i, hi, rfl⟩ := ha
      simp at hi ⊢
      exact Fin.lt_def.mpr (by simpa using hi)
    simp [hmin a this]

end Sys2Proof.Machine
end

