-- ==== Sys2Proof/Laws/Units.lean ====
section
/-! SUPPORT. What setting the units up, a bay's phase change and the deriving of channels leave in the units, and what a
path is. -/

set_option Elab.async false

namespace Sys2Proof.Machine

open Sys2Proof

/-! ### The derived state (R29) -/

theorem Rederived.keeps_dispatch {u t : State} (h : Rederived u t) : t.dispatch = u.dispatch := by
  unfold Rederived at h
  rw [h]

theorem Rederived.keeps_nextDispatch {u t : State} (h : Rederived u t) : t.nextDispatch = u.nextDispatch := by
  unfold Rederived at h
  rw [h]

theorem Rederived.keeps_reports {u t : State} (h : Rederived u t) : t.reports = u.reports := by
  unfold Rederived at h
  rw [h]

theorem Rederived.keeps_mc {u t : State} (h : Rederived u t) : t.mc = u.mc := by
  unfold Rederived at h
  rw [h]

theorem Rederived.keeps_table {u t : State} (h : Rederived u t) : t.table = u.table := by
  unfold Rederived at h
  rw [h]

theorem Rederived.keeps_roster {u t : State} (h : Rederived u t) : t.roster = u.roster := by
  unfold Rederived at h
  rw [h]

theorem Rederived.keeps_tagWindows {u t : State} (h : Rederived u t) : t.tagWindows = u.tagWindows := by
  unfold Rederived at h
  rw [h]

theorem Rederived.keeps_bays {u t : State} (h : Rederived u t) : t.bays = u.bays := by
  unfold Rederived at h
  rw [h]

theorem Rederived.keeps_launches {u t : State} (h : Rederived u t) : t.launches = u.launches := by
  unfold Rederived at h
  rw [h]

theorem Rederived.keeps_arbiters {u t : State} (h : Rederived u t) : t.arbiters = u.arbiters := by
  unfold Rederived at h
  rw [h]

theorem Rederived.keeps_passages {u t : State} (h : Rederived u t) : t.passages = u.passages := by
  unfold Rederived at h
  rw [h]

theorem finish_mc_of_ne {s : State} (h : s.mode ≠ .holding) : s.finish.mc = s.mc := by
  rcases finish_mc s with h' | ⟨h', _⟩
  · exact h'
  · exact absurd h' h

theorem moving_iff (s : State) :
    s.moving = true ↔ ∃ b, (s.entry b).state = .reserved ∨ (s.entry b).state = .releasing := by
  simp [State.moving, allBlocks]

theorem moving_false (s : State) (h : ∀ b, (s.entry b).state ≠ .reserved ∧ (s.entry b).state ≠ .releasing) :
    s.moving = false := by
  cases hm : s.moving with
  | false => rfl
  | true =>
    obtain ⟨b, hb⟩ := (moving_iff s).1 hm
    rcases hb with hb | hb
    · exact absurd hb (h b).1
    · exact absurd hb (h b).2

theorem refreshChannel_owner (s : State) (c : Channel) : (s.refreshChannel c).owner = c.owner := by
  unfold State.refreshChannel; split
  · rfl
  · split
    · rfl
    · split <;> rfl

theorem refreshChannel_safe {s : State} (h : s.mode = .halted) {c : Channel} {b : BlockId}
    {r : BlockRecord} {d : DriveSection} (h1 : c.owner = some b) (h2 : s.record b = some r) (h3 : r.drive = some d) :
    (s.refreshChannel c).command = safeCommand r.kind ∧ (s.refreshChannel c).pulse = none := by
  simp [State.refreshChannel, h1, h2, h3, h, State.commandOf]

theorem finish_halted {s : State} (h : s.mode = .halted) : s.finish = s.refreshSwitches.refreshBrakes.refreshChannels :=
  finish_still s (by rw [h]; simp) (by rw [h]; simp) (by rw [h]; simp)

/-! ### Bays (R80, R82) -/

theorem setPhase_bay_self (s : State) (b : BlockId) (p : Phase) :
    (s.setPhase b p).bay b = (s.bay b).map fun y => { y with phase := p } := by
  unfold State.setPhase
  cases h : s.bay b with
  | none => simp [h]
  | some y =>
    simp
    split
    · rename_i hp; subst hp; simp [h]
    · simp [State.bay]

theorem setPhase_bay_ne (s : State) {b c : BlockId} (p : Phase) (hc : c ≠ b) :
    (s.setPhase b p).bay c = s.bay c := by
  unfold State.setPhase
  cases h : s.bay b with
  | none => simp
  | some y =>
    simp
    split
    · rfl
    · simp [State.bay, vget_vput_ne _ _ hc]

theorem setPhase_bay (s : State) (b c : BlockId) (p : Phase) :
    (s.setPhase b p).bay c = if c = b then (s.bay b).map fun y => { y with phase := p } else s.bay c := by
  split
  · rename_i h; subst h; exact setPhase_bay_self _ _ _
  · rename_i h; exact setPhase_bay_ne _ _ h

/-! ### Setting the units up (R186) -/

theorem setUp_view {γ : Type} (v : State → γ) (h1 : ∀ t x, v { t with table := x } = v t)
    (h2 : ∀ t x, v { t with bays := x } = v t) (h3 : ∀ t x, v { t with launches := x } = v t)
    (h4 : ∀ t x, v { t with arbiters := x } = v t) (h5 : ∀ t x, v { t with switches := x } = v t)
    (h6 : ∀ t x, v { t with brakes := x } = v t) (h7 : ∀ t x, v { t with channels := x } = v t) (s : State) :
    v s.setUp = v s := by
  unfold State.setUp
  rw [takeChannels_view v h7, takeBrakes_view v h6, takeSwitches_view v h5,
    takeArbiters_view v h4, takeLaunches_view v h3, takeBays_view v h2, setupTable_view v h1]
theorem setUp_roster (s : State) : s.setUp.roster = s.roster := by
  apply setUp_view State.roster <;> intros <;> rfl

theorem setUp_mc (s : State) : s.setUp.mc = s.mc := by
  apply setUp_view State.mc <;> intros <;> rfl

theorem setUp_dispatch (s : State) : s.setUp.dispatch = s.dispatch := by
  apply setUp_view State.dispatch <;> intros <;> rfl

theorem setUp_nextDispatch (s : State) : s.setUp.nextDispatch = s.nextDispatch := by
  apply setUp_view State.nextDispatch <;> intros <;> rfl

theorem setUp_layout (s : State) : s.setUp.layout = s.layout := by
  apply setUp_view State.layout <;> intros <;> rfl

theorem setUp_surroundings (s : State) : s.setUp.surroundings = s.surroundings := by
  apply setUp_view State.surroundings <;> intros <;> rfl

theorem setUp_table (s : State) : s.setUp.table = vmap (fun b _ => Entry.bare (s.layout.setupState b)) s.table := rfl
theorem setUp_bays (s : State) : s.setUp.bays = s.setupTable.takeBays.bays := rfl
theorem setUp_launches (s : State) : s.setUp.launches = s.takeLaunches.launches := rfl
theorem setUp_arbiters (s : State) : s.setUp.arbiters = s.takeArbiters.arbiters := rfl
theorem setUp_switches (s : State) : s.setUp.switches = s.takeSwitches.switches := rfl
theorem setUp_brakes (s : State) : s.setUp.brakes = s.takeBrakes.brakes := rfl
theorem setUp_channels (s : State) : s.setUp.channels = s.takeChannels.channels := rfl

theorem ownerOf_some {L : LayoutStore} {ch : ChannelId} {b : BlockId} (h : L.ownerOf ch = some b) :
    ∃ r dr, L.record b = some r ∧ r.drive = some dr ∧ dr.channel = ch := by
  unfold LayoutStore.ownerOf at h
  have := List.find?_some h
  cases hr : L.record b with
  | none => simp [hr] at this
  | some r =>
    cases hd : r.drive with
    | none => simp [hr, hd] at this
    | some x => exact ⟨r, x, rfl, hd, by simpa [hr, hd] using this⟩

theorem ownerOf_isSome {L : LayoutStore} {b : BlockId} {r dr} (h : L.record b = some r) (h2 : r.drive = some dr) :
    (L.ownerOf dr.channel).isSome = true := by
  unfold LayoutStore.ownerOf
  rw [List.find?_isSome]
  exact ⟨b, List.mem_finRange b, by simp [h, h2]⟩

/-! ### Paths (R30) -/

theorem walk_succ {L : LayoutStore} {n : Nat} {b : BlockId} {p : List BlockId} (h : L.walk n b = some p) :
    L.walk (n + 1) b = some p := by
  induction n generalizing b p with
  | zero => simp [LayoutStore.walk] at h
  | succ n ih =>
    rw [LayoutStore.walk] at h ⊢
    split at h
    · cases h
    · next r hr =>
      split at h
      · simp [*, Option.some.inj h]
      · next hk =>
        obtain ⟨q, hq, rfl⟩ := Option.map_eq_some_iff.mp h
        simp [hk, ih hq]

/-- From a block of a path the walk goes on along the rest of it. -/
theorem walk_of_mem {L : LayoutStore} {n : Nat} {b : BlockId} {p : List BlockId} (h : L.walk n b = some p) {c : BlockId}
    (hc : c ∈ p) : ∃ q, L.walk n c = some q ∧ q.length ≤ p.length := by
  induction n generalizing b p with
  | zero => simp [LayoutStore.walk] at h
  | succ n ih =>
    have h' := h
    rw [LayoutStore.walk] at h
    split at h
    · cases h
    · split at h
      · cases h
        rw [List.mem_singleton.mp hc]
        exact ⟨_, h', Nat.le_refl _⟩
      · obtain ⟨q, hq, rfl⟩ := Option.map_eq_some_iff.mp h
        rcases List.mem_cons.mp hc with rfl | hm
        · exact ⟨_, h', Nat.le_refl _⟩
        · obtain ⟨r, hr, hl⟩ := ih hq hm
          exact ⟨r, walk_succ hr, Nat.le_trans hl (Nat.le_succ _)⟩

/-- A path holds 1 to as many blocks as the walk may take, none twice. -/
theorem walk_sound {L : LayoutStore} {n : Nat} {b : BlockId} {p : List BlockId} (h : L.walk n b = some p) :
    p ≠ [] ∧ p.length ≤ n ∧ p.Nodup := by
  induction n generalizing b p with
  | zero => simp [LayoutStore.walk] at h
  | succ n ih =>
    have h' := h
    rw [LayoutStore.walk] at h
    split at h
    · cases h
    · split at h
      · cases h
        simp
      · obtain ⟨q, hq, rfl⟩ := Option.map_eq_some_iff.mp h
        obtain ⟨_, hl, hd⟩ := ih hq
        refine ⟨by simp, Nat.succ_le_succ hl, List.nodup_cons.mpr ⟨fun hb => ?_, hd⟩⟩
        obtain ⟨r, hr, hle⟩ := walk_of_mem hq hb
        have e := (walk_succ hr).symm.trans h'
        have := congrArg List.length (Option.some.inj e)
        simp only [List.length_cons] at this
        omega

theorem pathFrom_sound {s : State} {b : BlockId} {p : List BlockId} (h : s.pathFrom b = some p) :
    p ≠ [] ∧ p.length ≤ 8 ∧ p.Nodup := by
  rw [State.pathFrom, LayoutStore.path, Option.bind_eq_some_iff] at h
  obtain ⟨c, _, hw⟩ := h
  exact walk_sound hw

end Sys2Proof.Machine
end

