-- ==== Sys2Proof/Tests/Slice0.lean ====
section
/-! SUPPORT. Tests: ill-formed commands are turned down, a few numbers of the spec's own examples, and for every statement
with hypotheses a state and operands that meet them, clause by clause, at the ends of their ranges. -/

set_option Elab.async false

namespace Sys2Proof.Tests

open Sys2Proof Sys2Proof.Machine

/-! ### Well-formed commands -/

theorem test_argumentsBeyondAFrame_illFormed :
    (Instr.readStatus .a 0 (List.replicate 48 0)).wellFormed = true ∧
    (Instr.readStatus .a 0 (List.replicate 49 0)).wellFormed = false := by decide

theorem test_knownOrHighCode_illFormed :
    (Instr.unknownRequest .a 127 0 []).wellFormed = true ∧
    (Instr.unknownRequest .a (BitVec.ofNat 8 Req.hold.code) 0 []).wellFormed = false ∧
    (Instr.unknownRequest .a 128 0 []).wellFormed = false := by decide

theorem test_tagCodeOutOfRange_illFormed :
    (Instr.tagRead 0 0).wellFormed = false ∧ (Instr.tagRead 0 1).wellFormed = true ∧
    (Instr.tagRead 0 16777215).wellFormed = true ∧ (Instr.tagRead 0 16777216).wellFormed = false := by decide

theorem test_sampleOfOneCell_illFormed :
    (Instr.weighSample 1 1 0 0).wellFormed = false ∧ (Instr.weighSample 1 2 2000 2000).wellFormed = true ∧
    (Instr.weighSample 1 2 2001 0).wellFormed = false ∧ (Instr.weighSample 1 2 0 2001).wellFormed = false := by decide

theorem test_pointNamedTwice_illFormed :
    (Instr.powerOnReset 0 false false [3, 95, 3]).wellFormed = false ∧
    (Instr.powerOnReset 0 false false [3, 95]).wellFormed = true := by decide

/-! ### A small ride -/

def drive (c : ChannelId) (f : Option PointId) : DriveSection := { channel := c, feedback := f, checkTime := 500 }

def brakeSection (e1 e2 : PointId) (z : ZoneMode) : BrakeSection :=
  { eye1 := e1, eye2 := e2, trapLength := 500, targetSpeed := 1000, brakeLength := 5000, forceStep := 100,
    idleLevel := 2, minimumLevel := 1, trapTimeout := 2000, zoneMode := z }

def blockRec (next : BlockId) (eye : PointId) (tag : Option PortId) (f : KindFields) : BlockRecord :=
  { inService := true, mainSuccessor := next, mainEye := eye, tagPort := tag, transitLimit := 5000,
    clearanceLimit := 3000, fields := f }

/-- One block of every kind, two bays, one merge. -/
def recordAt (b : BlockId) : Option BlockRecord :=
  match b.val with
  | 0 => some (blockRec 1 0 (some 0)
      (.bay (drive 0 (some 40)) { role := .both, frontCell := 0, rearCell := 1, maxLoad := 600 }))
  | 1 => some (blockRec 2 1 none (.queue (drive 1 none) false))
  | 2 => some (blockRec 3 2 none (.launch (drive 2 (some 42)) { headway := 5, kickRetries := 1, kickPulse := 300 }))
  | 3 => some (blockRec 4 3 (some 1) .run)
  | 4 => some (blockRec 5 4 none (.trim (drive 4 (some 44)) (brakeSection 60 61 .perPassage)))
  | 5 => some (blockRec 6 5 none (.switch (drive 5 (some 45))
      { spurSuccessor := 8, spurEye := 15, mainPosition := 70, spurPosition := 71, travelLimit := 1000 }))
  | 6 => some (blockRec 9 6 none (.lift (drive 6 (some 46))))
  | 8 => some (blockRec 9 8 none (.queue (drive 8 none) true))
  | 9 => some (blockRec 10 9 none (.runout (drive 9 (some 49)) (brakeSection 62 63 .accumulate) 200))
  | 10 => some (blockRec 0 10 (some 2)
      (.bay (drive 10 none) { role := .unload, frontCell := 2, rearCell := 3, maxLoad := 600 }))
  | _ => none

def merge : MergeRecord :=
  { mergeBlock := 9, input0 := 6, input1 := 8, feeder0 := [6, 5], feeder1 := [8], tLow := 1, tHigh := 2, burst := 2,
    preferred := .in0 }

def track : LayoutStore :=
  { blocks := vmap (fun b _ => recordAt b) State.reset.layout.blocks
    merges := vput State.reset.layout.merges 0 (some merge)
    settings := .default
    generation := 12 }

def boat (x : BoatId) : Boat :=
  { tagCode := 101 + x.val, tare := 300, load := none, guests := false, route := .station, check := false,
    expedite := false, laps := 0, lastSpeed := none }

/-- The ride ten seconds after power-on in a mode, its units set up, every defined block CLEAR, boats 0 and 1 ABSENT. -/
def ride (m : Mode) : State :=
  let s := ({ State.reset with layout := track } : State).setUp
  { s with
    timeBase := 10000000
    table := vmap (fun b _ => .bare (if (recordAt b).isSome then .clear else .outOfService)) s.table
    roster := vput (vput s.roster 0 (.absent (boat 0))) 1 (.absent (boat 1))
    mc := { s.mc with mode := m, permit := permitOf m } }

/-- A deadline that the ride's Time Base has just reached. -/
def now : Time := 10000000

def at_ (s : State) (b : BlockId) (e : Entry) : State := { s with table := vput s.table b e }

/-- A boat held in a block. -/
def held (s : State) (x : BoatId) (b : BlockId) : State :=
  { at_ s b { Entry.bare .occupied with occupant := some x } with roster := vput s.roster x (.onTrack (boat x) b []) }

/-- A boat on its way out of a block along a path whose blocks are RESERVED. -/
def released (s : State) (x : BoatId) (b : BlockId) (p : List BlockId) : State :=
  let s := at_ s b { Entry.bare .releasing with
    occupant := some x, transit := some now, release := some { path := p, retries := 0, frozen := false } }
  { p.foldl (fun t c => at_ t c { Entry.bare .reserved with holder := some x }) s with
    roster := vput s.roster x (.onTrack (boat x) b p) }

/-- A point whose pending change is due, toward ON or OFF. -/
def edge (s : State) (p : PointId) (on : Bool) : State :=
  { s with points := vput s.points p { s.point p with raw := on, level := !on, pending := some now } }

def inPhase (s : State) (b : BlockId) (p : Phase) (w : Option Weigh) : State :=
  { s with bays := vput s.bays b (some { Bay.vacant 0 0 with phase := p, weigh := w }) }

def weigh (kind : WeighKind) (attempt count totals fronts least greatest : Nat) : Weigh :=
  { kind, boat := 1, attempt, deadline := now, spreadTolerance := 8, tareTolerance := 25, minimumGuestLoad := 20,
    settleTime := 1500, count, sumTotals := totals, sumFronts := fronts, least := some least,
    greatest := some greatest }

def slotOf (s : State) (m : ModeReq) (g : Option Nat) (l : ControlLink) : State :=
  { s with mc := { s.mc with slot := some { request := m, generation := g, link := l, deadline := now } } }

def entryOf (seq : Byte) (bay : BlockId) (x : BoatId) (t : ConsentTimer) : DispatchEntry :=
  { seq := seq, bay := bay, boat := x, afterPrevious := false, consentA := false, consentB := false, timerStart := 0,
    timer := t }

def response : Response := { code := 128, tag := 0, status := .ok, data := [] }

def withPort (s : State) (l : Link) (p : LinkPort) : State := s.setPort l p

theorem test_trackPassesValidation : track.validate = none := by decide +kernel


/-! ### The hypotheses of the statements are met -/

theorem test_StepRunsTheFrontCommand_met :
    ({ ride .run with pending := [.slotDeadline] } : State).pending = .slotDeadline :: [] := rfl

/-- Link A with a supervision deadline just reached. -/
def lateLink : State :=
  withPort (ride .run) .a { LinkPort.initial with supervision := some { deadline := now, timeout := 250 } }

theorem test_TimeRuns_met :
    (ride .run).pending = [] ∧ (ride .run).dueCommands = [] ∧ lateLink.pending = [] ∧
    lateLink.dueCommands = [.supervisionDeadline .a] := by decide +kernel

theorem test_TimeRuns_deadlinesAbsent_met :
    ∀ c ∈ ([.supervisionDeadline .a, .holdOffDeadline .s, .inputAcceptance 95, .weighWindowDeadline 0,
      .holdableTransitDeadline 0, .lostBoat 31, .stuckAtBoundary 31, .consentDeadline 255, .slotDeadline,
      .headwayDeadline 2, .switchTravel 5, .trapDeadline 4, .stopDelayDeadline 9, .pulseDeadline 31, .checkDeadline 31,
      .positionDeadline 31] : List Instr), isDeadline c = true ∧ (ride .run).hasReached c = false := by decide +kernel

theorem test_RequestsPassTheChecksInOrder_met :
    ((ride .run).port .a).sending = none ∧ roleAllows .s .writeBlock = false ∧ roleAllows .a .verifyClear = true ∧
    takenIn .verifyClear (ride .run).mode = false ∧
    takenIn .verifyClear (ride .held).mode = true ∧ (ride .held).inWindow .s (.verifyClear 31) = false ∧
    (ride .held).inWindow .a (.verifyClear 31) = true ∧
    ((ride .held).own .a (.verifyClear 31)).1.status = .state ∧
    (Instr.unknownRequest .a 127 0 []).wellFormed = true := by decide +kernel

theorem test_RequestsPassTheChecksInOrder_arguments_met :
    readArgs .verifyClear [] = .error none ∧ readArgs .verifyClear (b1 32) = .error (some 0) ∧
    readArgs .verifyClear (b1 31) = .ok (.verifyClear 31) := ⟨rfl, rfl, rfl⟩

theorem test_RequestsPassTheChecksInOrder_wait_met :
    let s := withPort (ride .run) .a
      { LinkPort.initial with sending := some response, queue := [{ code := 1, tag := 0, args := [] }] }
    let t := withPort s .a { s.port .a with queue := (s.port .a).queue ++ (s.port .a).queue }
    (s.port .a).sending ≠ none ∧ (s.port .a).queue.length < 2 ∧ (t.port .a).sending ≠ none ∧
      2 ≤ (t.port .a).queue.length := by decide +kernel

theorem test_LinkRoles_met :
    ((ride .run).port .s).sending = none ∧
    Req.writeBlock ∉ [Req.unloaded, .loaded, .dispatch, .cancel, .setExpedite, .hold, .halt, .setAttention,
      .readLayout, .readStatus, .readBlock, .readBoat, .readQueue, .readReports, .readCounters] := by decide +kernel

theorem test_WriteBlock_met :
    let s := ride .configure
    let t := { s with layout := { s.layout with generation := 65535 } }
    s.admits .a .writeBlock ∧ t.admits .a .writeBlock ∧ (s.windows.get .a).holds 0 = true ∧
      (s.windows.get .a).holds 31 = true ∧ (t.windows.get .a).holds 31 = true := by
  unfold State.admits
  decide +kernel

theorem test_recordsInRange :
    (∀ b : BlockId, ((recordAt b).map (·.inRange)).getD true = true) ∧ merge.inRange = true ∧
    Settings.default.inRange = true := by decide +kernel

theorem test_LayoutWrites_mergeAndSettings_met :
    (ride .configure).admits .a .writeMerge ∧ (ride .configure).admits .b .writeSettings ∧
    ({ mergeBlock := 9, input0 := 6, input1 := 8, feeder0 := [6, 5, 4, 3], feeder1 := [8], tLow := 4, tHigh := 4,
       burst := 4, preferred := .in1 } : MergeRecord).inRange = true := by
  unfold State.admits
  decide +kernel

theorem test_LayoutWrites_windowAndPoint_met :
    (ride .configure).admits .a .writeWindow ∧ (ride .configure).admits .a .writePoint ∧
    ({ base := 0, size := 0 } : Window).allowed = true ∧ ({ base := 0, size := 32 } : Window).allowed = true ∧
    ({ base := 31, size := 1 } : Window).allowed = true ∧ ({ base := 24, size := 8 } : Window).allowed = true ∧
    ({ base := 1, size := 2 } : Window).allowed = false ∧ 50 ≤ 50 := by
  unfold State.admits
  decide +kernel

theorem test_Reads_met :
    ((ride .run).port .s).sending = none ∧ (0 ≤ 1 ∧ 1 ≤ 1) ∧ (0 ≤ 5 ∧ 5 ≤ 5) := by decide +kernel

/-! Ride modes. -/

def stopped (s : State) : State := { s with mc := { s.mc with contact1Open := true, stopActive := true } }

/-- A layout whose one block points to a block that is not defined. -/
def broken : State :=
  { ride .configure with layout := { State.reset.layout with
      blocks := vput State.reset.layout.blocks 0 (recordAt 0), generation := 12 } }

theorem test_ModeRequestPreconditions_met :
    let s := at_ (at_ (ride .held) 3 (.bare .unverified)) 8 (.bare .unverified)
    ((ride .run).port .a).sending = none ∧ (ride .run).mode ∉ ModeReq.enterStandby.modes ∧
    (ride .configure).mode = .configure ∧ 65535 ≠ (ride .configure).layout.generation ∧
    broken.mode = .configure ∧ 12 = broken.layout.generation ∧ broken.layout.validate = some (1, 0) ∧
    (stopped (ride .held)).mode ∈ ModeReq.resume.modes ∧ (stopped (ride .held)).mc.stopActive = true ∧
    s.mode ∈ ModeReq.enterManual.modes ∧ s.mc.stopActive = false ∧ (s.entry 3).state = .unverified ∧
    (∀ a : BlockId, a < 3 → (s.entry a).state ≠ .unverified) := by decide +kernel

theorem test_ModeRequestsHoldTheSlot_met :
    (ride .standby).admits .a .enterRun ∧ (ride .standby).modeRefusal .enterRun none = none ∧
    (ride .standby).mc.slot = none ∧
    (ride .configure).admits .b .enterStandby ∧ (ride .configure).modeRefusal .enterStandby (some 12) = none ∧
    (slotOf (ride .standby) .restart none .a).admits .a .enterRun ∧
    (slotOf (ride .standby) .restart none .a).modeRefusal .enterRun none = none ∧
    (slotOf (ride .standby) .enterRun none .a).modeRefusal .enterRun none = none := by
  unfold State.admits
  decide +kernel

theorem test_ModeRequestsHoldTheSlot_ends_met :
    (slotOf (ride .standby) .restart none .b).admits .a .enterRun ∧
    (slotOf (ride .standby) .restart none .b).modeRefusal .enterRun none = none ∧
    (slotOf (ride .configure) .enterStandby (some 11) .b).admits .a .enterStandby ∧
    (slotOf (ride .configure) .enterStandby (some 11) .b).modeRefusal .enterStandby (some 12) = none ∧
    reached (slotOf (ride .standby) .restart none .b).timeBase now = true := by
  unfold State.admits
  decide +kernel

/-- Ready for the matching request of Link A. -/
def canStart (s : State) (m : ModeReq) : Prop :=
  (slotOf s m none .b).admits .a m.req ∧ (slotOf s m none .b).mc.stopActive = false ∧
  ∀ b, ((slotOf s m none .b).entry b).state ≠ .unverified

theorem test_MatchedRequestsStartTheRide_met :
    canStart (ride .standby) .enterRun ∧ canStart (ride .held) .enterRun ∧ canStart (ride .run) .enterManual ∧
    canStart (ride .held) .resume ∧ canStart (ride .halted) .resume := by
  unfold canStart State.admits
  decide +kernel

theorem test_MatchedEnterStandby_met :
    let s := slotOf (ride .configure) .enterStandby (some 12) .b
    s.admits .a .enterStandby ∧ s.layout.generation = 12 ∧ s.layout.validate = none := by
  unfold State.admits
  decide +kernel

theorem test_MatchedRestartAndConfigure_met :
    (slotOf (released (ride .run) 1 1 [2]) .restart none .b).admits .a .restart ∧
    (slotOf (ride .halted) .restart none .b).admits .a .restart ∧
    (slotOf (ride .halted) .enterConfigure none .b).admits .a .enterConfigure ∧
    (slotOf (ride .standby) .enterConfigure none .b).admits .a .enterConfigure := by
  unfold State.admits
  decide +kernel

theorem test_Hold_met :
    ((ride .manual).port .s).sending = none ∧ (ride .manual).mode = .manual ∧
    ((released (ride .run) 1 1 [2]).entry 2).state = .reserved ∧ (released (ride .run) 1 1 [2]).mode = .run ∧
    (∀ b, ((ride .run).entry b).state ≠ .reserved ∧ ((ride .run).entry b).state ≠ .releasing) ∧
    (ride .halted).mode ≠ .run ∧ (ride .halted).mode ≠ .manual := by decide +kernel

theorem test_Halt_met :
    ((ride .held).port .s).sending = none ∧ (ride .held).mode.moves = true ∧ (ride .halted).mode.moves = false ∧
    ((ride .held).channel 4).owner = some 4 ∧ (((ride .held).record 4).bind (·.drive)).isSome = true := by
  decide +kernel

theorem test_StopLine_met :
    (ride .run).mc.stopActive = false ∧ (stopped (ride .run)).mc.stopActive = true := by decide +kernel

theorem test_ClearRequests_met :
    (ride .run).admits .a .clearFault ∧ (ride .run).admits .a .clearZoneCondition ∧
    (ride .run).admits .a .clearCounters ∧ ((ride .run).windows.get .a).holds 4 = true ∧
    (ride .run).brake 31 = none ∧ ((ride .run).brake 4).isSome = true := by
  unfold State.admits
  decide +kernel

/-! Census, recovery, roster. -/

theorem test_BlockRequests_met :
    let s := held (at_ (at_ (ride .held) 3 (.bare .unverified)) 4 (.bare .faulted)) 1 1
    s.admits .a .verifyClear ∧ s.admits .a .restoreBlock ∧ s.admits .a .setService ∧
    (s.windows.get .a).holds 31 = true ∧ (s.entry 3).state = .unverified ∧ (s.entry 0).state = .clear ∧
    (s.entry 1).state = .occupied ∧ (s.entry 4).state = .faulted ∧ (s.entry 4).occupant = none ∧
    (s.entry 31).state = .outOfService ∧ s.record 31 = none ∧ s.record 3 ≠ none ∧
    ((at_ s 3 (.bare .outOfService)).entry 3).state = .outOfService := by
  unfold State.admits
  decide +kernel

theorem test_PlaceBoat_met :
    let s := at_ (ride .standby) 1 (.bare .unverified)
    s.admits .a .placeBoat ∧ (s.windows.get .a).holds 1 = true ∧ s.slot 1 = .absent (boat 1) ∧
    s.layout.holdable 1 = true ∧ s.layout.holdable 9 = true ∧ (s.entry 1).state = .unverified ∧
    (s.entry 9).state = .clear ∧ s.layout.holdable 3 = false ∧ s.slot 23 = .unused ∧
    (s.entry 31).state = .outOfService := by
  unfold State.admits
  decide +kernel

theorem test_RemoveBoat_met :
    let s := released (ride .held) 1 1 [2]
    s.admits .a .removeBoat ∧ s.slot 1 = .onTrack (boat 1) 1 [2] ∧ (s.windows.get .a).holds 1 = true ∧
    s.slot 0 = .absent (boat 0) ∧ s.slot 23 = .unused := by
  unfold State.admits
  decide +kernel

theorem test_RosterRequests_slot_met :
    let s := ride .standby
    s.admits .a .enroll ∧ s.admits .a .retire ∧ s.slot 23 = .unused ∧ s.slot 0 = .absent (boat 0) ∧
    (∀ y, (s.boat y).map (·.tagCode) ≠ some 1) ∧ (∀ y, (s.boat y).map (·.tagCode) ≠ some 16777215) ∧
    s.boat 0 = some (boat 0) ∧ (boat 0).tagCode = 101 ∧
    (∀ z, (s.boat z).map (·.tagCode) = some 101 → z = 0) := by
  unfold State.admits
  decide +kernel

theorem test_RosterRequests_field_met :
    (ride .run).admits .a .setRoute ∧ (ride .configure).admits .s .setExpedite ∧
    (ride .halted).admits .b .clearCheck ∧ (ride .run).boat 1 = some (boat 1) ∧ (ride .run).boat 23 = none := by
  unfold State.admits
  decide +kernel

/-! Station. -/

/-- Boat 1 held in bay 0 in a phase. -/
def inBay (m : Mode) (p : Phase) (w : Option Weigh) : State := inPhase (held (ride m) 1 0) 0 p w

theorem test_WeighsStart_met :
    let s := inBay .run .unloading none
    let t := inBay .standby .loading none
    let u := inBay .halted .loadWeigh none
    s.admits .a .unloaded ∧ t.admits .a .loaded ∧ u.admits .b .unloaded ∧ (s.windows.get .a).holds 0 = true ∧
    (s.bay 0).map (·.phase) = some WeighKind.tare.fromPhase ∧ (s.entry 0).occupant = some 1 ∧
    (s.entry 0).state ≠ .faulted ∧ (t.bay 0).map (·.phase) = some WeighKind.load.fromPhase ∧
    (t.entry 0).occupant = some 1 ∧ (t.entry 0).state ≠ .faulted ∧ (u.bay 0).map (·.phase) = some .loadWeigh ∧
    (u.entry 0).state ≠ .faulted ∧ s.bay 31 = none ∧ (s.windows.get .a).holds 31 = true ∧
    ((at_ s 0 (.bare .faulted)).entry 0).state = .faulted ∧
    ((inBay .run .ready none).bay 0).map (·.phase) = some .ready := by
  unfold State.admits
  decide +kernel

theorem test_WeighsTakeSamples_met :
    let w := weigh .tare 1 0 0 0 0 0
    let s := inBay .run .tareWeigh (some w)
    s.mode ≠ .configure ∧
    (s.record 0).map (fun r => r.bay.map fun z => (z.frontCell, z.rearCell)) = some (some (0, 1)) ∧
    (∀ c, (s.record c).map (fun r => r.bay.map fun z => (z.frontCell, z.rearCell)) = some (some (0, 1)) → c = 0) ∧
    (s.bay 0).map (·.weigh) = some (some w) ∧ ((inBay .run .ready none).bay 0).map (·.weigh) = some none ∧
    (ride .configure).mode = .configure ∧
    (∀ c, (s.record c).map (fun r => r.bay.map fun z => (z.frontCell, z.rearCell)) ≠ some (some (6, 7))) ∧
    2000 ≤ 2000 := by decide +kernel

/-- The tests of R97 that a window fails: too few samples, too wide a spread, a sum of 0; at attempts 1, 2 and 3. -/
theorem test_FailedAttempts_met :
    let w := weigh .tare 1 3 960 480 320 320
    let x := weigh .load 2 4 1280 640 310 319
    let y := weigh .load 3 4 0 0 0 0
    let s := inBay .run .tareWeigh (some w)
    (s.bay 0).map (·.weigh) = some (some w) ∧ reached s.timeBase w.deadline = true ∧ w.count < 4 ∧ w.attempt < 3 ∧
    ((inBay .run .loadWeigh (some x)).bay 0).map (·.weigh) = some (some x) ∧
    x.spreadTolerance < x.greatest.getD 0 - x.least.getD 0 ∧ x.attempt < 3 ∧
    ((inBay .run .loadWeigh (some y)).bay 0).map (·.weigh) = some (some y) ∧ y.sumTotals = 0 ∧ 3 ≤ y.attempt := by
  decide +kernel

/-- Boat 1 weighs 300 kg: a deviation of 25 is within tolerance and 26 is not; a load of 20 is a guest; 600 is the most
the bay takes; shares of 35 and 65 are balanced. -/
theorem test_PassingAttempts_met :
    let w := weigh .tare 1 4 1300 650 321 329
    let s := inBay .run .tareWeigh (some w)
    (s.bay 0).map (·.weigh) = some (some w) ∧ reached s.timeBase w.deadline = true ∧ s.boat w.boat = some (boat 1) ∧
    ((s.record 0).bind (·.bay)).isSome = true ∧ 4 ≤ w.count ∧
    w.greatest.getD 0 - w.least.getD 0 ≤ w.spreadTolerance ∧ 0 < w.sumTotals ∧
    tareDeviation (meanTotal w) 300 = w.tareTolerance ∧
    w.tareTolerance < tareDeviation (meanTotal (weigh .tare 3 4 1304 652 322 330)) 300 ∧
    computedLoad (meanTotal (weigh .load 1 4 1280 640 320 320)) 300 = w.minimumGuestLoad ∧
    loadOutcome 600 35 600 = .ok ∧ loadOutcome 601 50 600 = .overweight ∧ loadOutcome 600 34 600 = .unbalanced ∧
    loadOutcome 600 65 600 = .ok ∧ loadOutcome 600 66 600 = .unbalanced := by decide +kernel

/-- The tare weigh of section 4.10: 1,318 kg in 4 samples with 660 kg in front. -/
theorem test_WeighAndBrakeArithmetic_weigh_met :
    let w := weigh .tare 2 4 1318 660 328 331
    0 < w.count ∧ w.sumTotals ≤ 4000 * w.count ∧ 0 < w.sumTotals ∧ w.sumFronts ≤ w.sumTotals ∧ meanTotal w = 330 ∧
    frontShare w = 50 ∧ tareDeviation (meanTotal w) 295 = 35 ∧ meanTotal (weigh .load 1 4 16000 0 0 0) = 4000 := by
  decide +kernel

/-! Dispatch. -/

def queued (s : State) (es : List DispatchEntry) (next : Byte) : State := { s with dispatch := es, nextDispatch := next }

theorem test_Dispatch_met :
    let s := inBay .run .ready none
    let full := queued s (List.replicate 8 (entryOf 0 10 0 .stopped)) 1
    s.admits .a .dispatch ∧ full.admits .a .dispatch ∧ (s.windows.get .a).holds 0 = true ∧ s.bay 31 = none ∧
    (s.windows.get .a).holds 31 = true ∧ (s.bay 0).map (·.phase) = some .ready ∧ (s.entry 0).occupant = some 1 ∧
    (s.entry 0).state ≠ .faulted ∧ s.dispatch.length < 8 ∧ (∀ e ∈ s.dispatch, e.bay ≠ 0) ∧
    8 ≤ full.dispatch.length ∧ (∀ e ∈ full.dispatch, e.bay ≠ 0) ∧
    entryOf 255 0 1 .stopped ∈ (queued s [entryOf 255 0 1 .stopped] 0).dispatch ∧
    (∀ d ∈ (queued s [entryOf 255 0 1 .stopped] 0).dispatch, d.bay = 0 → d = entryOf 255 0 1 .stopped) ∧
    ((inBay .run .cleared none).bay 0).map (·.phase) = some .cleared ∧
    ((at_ s 0 (.bare .faulted)).entry 0).state = .faulted := by
  unfold State.admits
  decide +kernel

theorem test_Consent_met :
    let e := entryOf 255 0 1 (.running now)
    let s := queued (inBay .run .dispatchQueued none) [e] 0
    let t := queued s [{ e with consentB := true }] 0
    s.admits .a .consentDispatch ∧ s.dispatchSound ∧ t.dispatchSound ∧ (∀ d ∈ s.dispatch, d.seq ≠ 7) ∧
    e ∈ s.dispatch ∧ (s.windows.get .a).holds e.bay = true ∧ e.consentA = false ∧ e.consentB = false ∧
    ({ e with consentB := true } : DispatchEntry) ∈ t.dispatch ∧
    ({ e with consentB := true } : DispatchEntry).given .a = false ∧
    ({ e with consentB := true } : DispatchEntry).given .b = true := by
  unfold State.admits State.dispatchSound
  decide +kernel

theorem test_EntriesLeave_met :
    let e := entryOf 255 0 1 (.running now)
    let s := queued (inBay .run .dispatchQueued none) [e] 0
    s.admits .b .denyDispatch ∧ s.admits .a .cancel ∧ s.dispatchSound ∧ (∀ d ∈ s.dispatch, d.seq ≠ 0) ∧
    e ∈ s.dispatch ∧ (s.windows.get .b).holds e.bay = true ∧ (s.bay e.bay).isSome = true ∧
    e.timer = .running now ∧ reached s.timeBase now = true := by
  unfold State.admits State.dispatchSound
  decide +kernel

def withGuests (s : State) (x : BoatId) (b : BlockId) : State :=
  { s with roster := vput s.roster x (.onTrack { boat x with guests := true } b []) }

def onLeg (s : State) (r : Reading) (move : Option (Leg × Time)) : State :=
  { s with switches := vput s.switches 5 (some { reading := r, move := move, held := none }) }

theorem test_Step_met :
    let s := held (ride .manual) 1 2
    let bay := withGuests (held (ride .manual) 1 0) 1 0
    let sw := held (ride .manual) 1 5
    let busy := at_ s 4 (.bare .unverified)
    s.admits .a .step ∧ (s.windows.get .a).holds 2 = true ∧ (s.entry 0).state ≠ .occupied ∧
    (s.entry 2).state = .occupied ∧
    (bay.entry 0).state = .occupied ∧ bay.layout.kind 0 = some .bay ∧ bay.guestsIn 0 = true ∧
    (sw.entry 5).state = .occupied ∧ sw.layout.kind 5 = some .switch ∧
    (onLeg sw .spur none).switchRec 5 = some { reading := .spur, move := none, held := none } ∧
    Reading.spur ≠ ((onLeg sw .spur none).chosenLeg 5).reading ∧
    (onLeg sw .main (some (.main, now))).switchBars 5 = true ∧ (onLeg sw .main none).switchBars 5 = false ∧
    (onLeg sw .main none).pathFrom 5 = some [6] ∧
    s.layout.kind 2 ≠ some .bay ∧ s.switchBars 2 = false ∧ busy.switchBars 2 = false ∧
    busy.pathFrom 2 = some ([3] ++ 4 :: [5]) ∧ (busy.entry 3).state = .clear ∧ (busy.entry 4).state ≠ .clear ∧
    s.pathFrom 2 = some [3, 4, 5] ∧ (∀ c ∈ [3, 4, 5], (s.entry c).state = .clear) ∧
    (s.entry 2).occupant = some 1 ∧ s.slot 1 = .onTrack (boat 1) 2 [] ∧
    ((s.record 2).bind (·.launch)).isSome = true ∧ (s.launchRec 2).isSome = true := by
  unfold State.admits
  decide +kernel

/-! Field inputs and the block table. -/

def pointIs (s : State) (p : PointId) (q : Point) : State := { s with points := vput s.points p q }

def rest : Point := { raw := false, invert := false, filter := 5, level := false, pending := none, glitches := 0 }

theorem test_Inputs_met :
    rest.raw = false ∧ rest.raw ≠ true ∧ (true != rest.invert) ≠ rest.level ∧ rest.pending = none ∧ rest.filter ≠ 0 ∧
    (true != { rest with invert := true }.invert) = { rest with invert := true }.level ∧
    ({ rest with invert := true, pending := some now } : Point).pending ≠ none ∧
    ({ rest with filter := 0 } : Point).filter = 0 ∧
    ((edge (ride .run) 95 true).point 95).pending = some now ∧
    reached (edge (ride .run) 95 true).timeBase now = true ∧ (ride .configure).mode = .configure ∧
    (ride .run).layout.pointUse 95 = none := by decide +kernel

/-- Entry by entry, what `Entry.sound` asks. -/
def entryOk (e : Entry) : Bool :=
  match e.state with
  | .unverified | .clear | .outOfService => e == .bare e.state
  | .reserved => e.holder.isSome && e == { Entry.bare .reserved with holder := e.holder }
  | .occupied => e.occupant.isSome && e == { Entry.bare .occupied with occupant := e.occupant }
  | .releasing =>
    e.occupant.isSome && e.holder.isNone && (!e.transit.isSome || !e.nose) && (!e.clearance.isSome || e.nose) &&
    (match e.release with
     | some r => !r.frozen || (!e.nose && e.transit.isNone)
     | none => true)
  | .faulted =>
    e == { Entry.bare .faulted with occupant := e.occupant, nose := e.nose } && (!e.nose || e.occupant.isSome)

theorem entryOk_sound {e : Entry} (h : entryOk e = true) : e.sound := by
  obtain ⟨st, occ, hold, nose, tr, cl, rel⟩ := e
  cases st
  case releasing =>
    simp only [entryOk, Bool.and_eq_true, Bool.or_eq_true, Bool.not_eq_true', Option.isNone_iff_eq_none] at h
    obtain ⟨⟨⟨⟨h1, h2⟩, h3⟩, h4⟩, h5⟩ := h
    refine ⟨h1, h2, fun ht => ?_, fun hc => ?_, fun r hr hf => ?_⟩
    · rcases h3 with h3 | h3
      · rw [h3] at ht
        exact absurd ht (by decide)
      · exact h3
    · rcases h4 with h4 | h4
      · rw [h4] at hc
        exact absurd hc (by decide)
      · exact h4
    · dsimp only at hr
      subst hr
      simpa [hf] using h5
  case faulted =>
    simp only [entryOk, Bool.and_eq_true, Bool.or_eq_true, Bool.not_eq_true', beq_iff_eq] at h
    refine ⟨h.1, fun hn => ?_⟩
    rcases h.2 with h2 | h2
    · exact absurd (h2.symm.trans hn) (by decide)
    · exact h2
  all_goals
    simp only [entryOk, Bool.and_eq_true, beq_iff_eq] at h
    exact h

theorem tableSound_of {s : State} (h : ∀ b, entryOk (s.entry b) = true) : s.tableSound := fun b => entryOk_sound (h b)

/-- The launch of boat 1 from block 2 along 3, 4, 5, its nose at the exit. -/
def launched : State := edge (released (ride .run) 1 2 [3, 4, 5]) 2 true

theorem test_NormalArrival_met :
    launched.mode ≠ .configure ∧ (launched.point 2).pending = some now ∧ reached launched.timeBase now = true ∧
    (launched.point 2).seen = true ∧ launched.layout.pointUse 2 = some (.exitEye 2 .main) ∧
    launched.layout.successor 2 .main = some 3 ∧ (launched.record 2).isSome = true ∧
    (launched.record 3).isSome = true ∧ (launched.entry 2).state = .releasing ∧
    (launched.entry 2).occupant = some 1 ∧ launched.overlapped 2 1 = false ∧ (launched.entry 3).state = .reserved ∧
    (launched.entry 3).holder = some 1 ∧ launched.slot 1 = .onTrack (boat 1) 2 (3 :: [4, 5]) ∧
    (3 : BlockId) ∉ ([4, 5] : List BlockId) := by decide +kernel

theorem test_NormalArrival_sound_met : launched.tableSound := tableSound_of (by decide +kernel)

/-- Its clauses: the arrival out of a FAULTED block, past a tag reader into a brake block, and into a bay. -/
theorem test_NormalArrival_clauses_met :
    let faulted := at_ launched 2 { Entry.bare .faulted with occupant := some 1 }
    let tagged := edge (released (ride .halted) 1 3 [4, 5]) 3 true
    let berth := edge (released (ride .run) 1 9 [10]) 9 true
    (faulted.entry 2).state = .faulted ∧ faulted.overlapped 2 1 = false ∧
    tagged.layout.successor 3 .main = some 4 ∧ (tagged.record 3).bind (·.tagPort) = some 1 ∧
    ((tagged.record 4).bind (·.brake)).isSome = true ∧ (tagged.brake 4).isSome = true ∧
    (tagged.entry 4).holder = some 1 ∧ tagged.overlapped 3 1 = false ∧
    berth.layout.successor 9 .main = some 10 ∧ (berth.entry 10).holder = some 1 ∧ (berth.bay 10).isSome = true ∧
    berth.slot 1 = .onTrack (boat 1) 9 [10] := by decide +kernel

theorem test_WrongArrivals_met :
    let s := edge (ride .run) 2 true
    let both := at_ launched 1 { Entry.bare .releasing with occupant := some 1, nose := true, clearance := some now }
    s.mode ≠ .configure ∧ (s.point 2).pending = some now ∧ reached s.timeBase now = true ∧ (s.point 2).seen = true ∧
    s.layout.pointUse 2 = some (.exitEye 2 .main) ∧ s.layout.successor 2 .main = some 3 ∧
    ((at_ s 3 (.bare .faulted)).entry 3).state = .faulted ∧
    ((at_ s 3 (.bare .outOfService)).entry 3).state = .outOfService ∧
    (s.entry 3).state ≠ .faulted ∧ (s.entry 3).state ≠ .outOfService ∧ (s.entry 2).state ≠ .occupied ∧
    (s.entry 2).occupant = none ∧ ((held s 1 2).entry 2).state = .occupied ∧
    (both.entry 2).occupant = some 1 ∧ both.overlapped 2 1 = true ∧ (both.entry 2).state = .releasing ∧
    ((at_ launched 3 { Entry.bare .reserved with holder := some 0 }).entry 3).holder ≠ some 1 ∧
    (at_ launched 3 { Entry.bare .reserved with holder := some 0 }).overlapped 2 1 = false := by decide +kernel

theorem test_TailClearance_met :
    let s := edge (at_ (ride .run) 2 { Entry.bare .releasing with
      occupant := some 1, nose := true, clearance := some now }) 2 false
    let t := { s with roster := vput s.roster 1 (.onTrack (boat 1) 3 []) }
    t.mode ≠ .configure ∧ (t.point 2).pending = some now ∧ reached t.timeBase now = true ∧
    (t.point 2).seen = false ∧ t.layout.pointUse 2 = some (.exitEye 2 .main) ∧
    t.layout.successor 2 .main = some 3 ∧ (t.entry 2).state = .releasing ∧ (t.entry 2).nose = true ∧
    (t.entry 2).occupant = some 1 ∧ (t.slot 1).position = some 3 ∧
    ((at_ t 2 (.bare .faulted)).entry 2).state = .faulted ∧
    ((at_ t 2 (.bare .clear)).entry 2).state = .clear ∧ (∀ k, vget t.tagWindows k = none) ∧
    (s.slot 1).position ≠ some 3 := by decide +kernel

theorem test_BlockDeadlines_met :
    let kick := at_ (ride .run) 2 { Entry.bare .releasing with
      occupant := some 1, transit := some now, release := some { path := [3, 4, 5], retries := 1, frozen := false } }
    let s := released (ride .run) 1 1 [2]
    let lost := at_ (ride .run) 3 { Entry.bare .releasing with occupant := some 1, transit := some now }
    let stuck := at_ (ride .run) 3 { Entry.bare .releasing with
      occupant := some 1, nose := true, clearance := some now }
    (kick.entry 2).state = .releasing ∧ (kick.entry 2).transit = some now ∧ reached kick.timeBase now = true ∧
    ((kick.record 2).bind (·.launch)).isSome = true ∧
    (s.entry 1).state = .releasing ∧ (s.entry 1).transit = some now ∧ s.layout.holdable 1 = true ∧
    s.layout.kind 1 ≠ some .launch ∧ (s.entry 1).occupant = some 1 ∧ s.slot 1 = .onTrack (boat 1) 1 [2] ∧
    (launched.entry 2).release = some { path := [3, 4, 5], retries := 0, frozen := false } ∧
    ((released (ride .run) 1 9 [10]).brake 9).isSome = true ∧
    (lost.entry 3).transit = some now ∧ lost.layout.holdable 3 = false ∧ (stuck.entry 3).clearance = some now := by
  decide +kernel

def timed (s : State) (b : BlockId) (p : Passage) : State :=
  { s with brakes := vput s.brakes b ((s.brake b).map fun k => { k with passage := some p, stopDelay := some now }) }

def armed : Passage := { boat := 1, phase := .armed, eye1 := none, deadline := some now }

def timing : Passage := { boat := 1, phase := .timing, eye1 := some 9500000, deadline := some now }

theorem test_UnitDeadlines_met :
    let s := { ride .held with
      launches := vput (ride .held).launches 2 (some { lastLaunch := some 0, headway := some now })
      channels := vput (ride .held).channels 2 { Channel.unowned with owner := some 2, pulse := some now } }
    let t := timed (ride .run) 4 armed
    s.launchRec 2 = some { lastLaunch := some 0, headway := some now } ∧ reached s.timeBase now = true ∧
    (s.channel 2).pulse = some now ∧ (t.brake 4).map (·.passage) = some (some armed) ∧
    (t.brake 4).map (·.stopDelay) = some (some now) ∧ ((t.record 4).bind (·.brake)).isSome = true := by decide +kernel

theorem test_TrapEyes_met :
    let s := timed (ride .run) 4 timing
    (ride .run).mode ≠ .configure ∧ ((ride .run).record 4).bind (·.brake) = some (brakeSection 60 61 .perPassage) ∧
    (ride .run).layout.pointUse 60 = some (.trapEye1 4) ∧ (ride .run).layout.pointUse 61 = some (.trapEye2 4) ∧
    ((timed (ride .run) 4 armed).brake 4).map (·.passage) = some (some armed) ∧
    ((ride .run).brake 4).map (·.passage) = some none ∧ (s.brake 4).map (·.passage) = some (some timing) ∧
    (held s 1 1).boat timing.boat = some (boat 1) := by decide +kernel

/-- The outcomes of a computation: no flag, the speed clamp alone, the margin alone, both. -/
theorem test_TrapEyes_outcomes_met :
    let k := brakeSection 60 61 .perPassage
    let soft := { k with forceStep := 2000 }
    ((brakeCompute k 500000 900).speedClamped = false ∧ (brakeCompute k 500000 900).margin = false) ∧
    ((brakeCompute soft 0 900).speedClamped = true ∧ (brakeCompute soft 0 900).margin = false) ∧
    ((brakeCompute k 25000 900).speedClamped = false ∧ (brakeCompute k 25000 900).margin = true) ∧
    ((brakeCompute k 24998 900).speedClamped = true ∧ (brakeCompute k 24998 900).margin = true) := by decide +kernel

/-- The computations of sections 7.7 and 7.8. -/
theorem test_WeighAndBrakeArithmetic_brake_met :
    let run : BrakeSection :=
      { eye1 := 42, eye2 := 43, trapLength := 1000, targetSpeed := 2000, brakeLength := 12000, forceStep := 100,
        idleLevel := 4, minimumLevel := 2, trapTimeout := 1000, zoneMode := .perPassage }
    let trim : BrakeSection :=
      { eye1 := 40, eye2 := 41, trapLength := 1500, targetSpeed := 2000, brakeLength := 8000, forceStep := 1000,
        idleLevel := 1, minimumLevel := 2, trapTimeout := 500, zoneMode := .accumulate }
    run.inRange = true ∧ trim.inRange = true ∧
    brakeCompute run 125000 420 =
      { speed := 8000, decel := 2500, force := 1050, raw := 11, applied := 11, speedClamped := false,
        clamped := false, margin := false } ∧
    brakeCompute trim 60000 900 =
      { speed := 20000, decel := 24750, force := 22275, raw := 23, applied := 15, speedClamped := true,
        clamped := true, margin := true } ∧
    (brakeCompute trim 60000 420).raw = 11 ∧ (brakeCompute run 500000 2000).applied = 2 := by decide +kernel

def channelIs (s : State) (c : ChannelId) (f : Channel → Channel) : State :=
  { s with channels := vput s.channels c (f (s.channel c)) }

theorem test_DriveDeadlines_met :
    let moving := onLeg (held (ride .run) 1 5) .main (some (.spur, now))
    let check := channelIs (ride .run) 6 fun c => { c with check := some now }
    let position := channelIs (at_ (ride .run) 5 (.bare .faulted)) 5 fun c => { c with position := some now }
    moving.switchRec 5 = some { reading := .main, move := some (.spur, now), held := none } ∧
    reached moving.timeBase now = true ∧ (moving.entry 5).state = .occupied ∧
    (check.channel 6).owner = some 6 ∧ (check.channel 6).check = some now ∧ (check.entry 6).state = .clear ∧
    (position.channel 5).owner = some 5 ∧ (position.channel 5).position = some now ∧
    (position.entry 5).state = .faulted := by decide +kernel

theorem test_TagReads_met :
    let w : TagWindow := { boat := 1, block := 3, expected := 102, resolved := false }
    let s := { ride .run with tagWindows := vput (ride .run).tagWindows 1 (some w) }
    let t := { s with tagWindows := vput s.tagWindows 1 (some { w with resolved := true }) }
    (ride .configure).mode = .configure ∧ s.layout.portAssigned 3 = false ∧ s.mode ≠ .configure ∧
    s.layout.portAssigned 1 = true ∧ vget (ride .run).tagWindows 1 = none ∧
    (vget t.tagWindows 1).map (·.resolved) = some true ∧ vget s.tagWindows 1 = some w ∧ w.expected = 102 ∧
    16777215 ≠ w.expected ∧ 16777215 ≤ 16777215 := by decide +kernel

/-! Merges. -/

theorem test_MergeContest_met :
    let a : Arbiter :=
      { holder := some .in0, burstRemaining := 3, backlog0 := 1, backlog1 := 4, high0 := false, high1 := true }
    let s := ride .run
    let e := { Entry.bare .occupied with occupant := some 1 }
    let x := { held (ride .run) 1 6 with
      roster := vput (held (ride .run) 1 6).roster 1 (.onTrack { boat 1 with expedite := true } 6 []) }
    0 < a.burstRemaining ∧ Arbiter.initial.holder = none ∧ (1 ≤ 2 ∧ 2 ≤ 2 ∧ 0 < 1 ∧ 1 ≤ 1 ∧ 1 < 2) ∧
    s.layout.merge 0 = some merge ∧ s.arbiter 0 = some Arbiter.initial ∧ (s.entry 6).state ≠ .occupied ∧
    e.state = .occupied ∧ (6 : BlockId) ∈ merge.feeder0 ∧ (6 : BlockId) ∉ merge.feeder1 ∧
    (8 : BlockId) ∈ merge.feeder1 ∧ (x.entry 6).occupant = some 1 ∧
    (x.boat 1).map (·.expedite) = some true ∧ (s.entry 6).occupant = none ∧ (s.entry 5).occupant = none := by
  decide +kernel

/-! Links and reports. -/

theorem test_Characters_met :
    let p := LinkPort.initial
    let f : Frame := { code := 1, tag := 0, args := [] }
    let c : Character := { byte := 7, marker := false, lost := false }
    let up : Supervision := { deadline := now, timeout := 250 }
    ({ p with ignoring := true } : LinkPort).ignoring = true ∧
    2 ≤ ({ p with queue := [f, f], fifo := [c, c, c] } : LinkPort).queue.length ∧
    ({ p with queue := [f, f], fifo := [c, c, c] } : LinkPort).fifo.length < 4 ∧
    ({ p with queue := [f, f], fifo := [c, c, c] ++ [c] } : LinkPort).fifo = [c, c, c] ++ [c] ∧
    4 ≤ ([c, c, c] ++ [c]).length ∧ p.queue.length < 2 ∧ p.fifo = [] ∧ p.assembly = none ∧ p.ignoring = false ∧
    (33 : Byte).toNat < 128 ∧ ([] : List Byte).length ≤ 48 ∧
    ({ p with supervision := some up, assembly := some { bytes := [33, 5, 0], overrun := false } } : LinkPort).assembly
      = some { bytes := 33 :: 5 :: BitVec.ofNat 8 ([] : List Byte).length :: [], overrun := false } ∧
    ((33 : Byte) :: 5 :: BitVec.ofNat 8 ([] : List Byte).length :: ([] ++ [218])).foldl (· + ·) 0 = 0 ∧
    ({ p with sending := some response, queue := [f] } : LinkPort).queue = f :: [] := by decide +kernel

theorem test_LinkLoss_met :
    let s := withPort (ride .run) .s { LinkPort.initial with supervision := some { deadline := now, timeout := 50 } }
    (lateLink.port ControlLink.a.link).supervision = some { deadline := now, timeout := 250 } ∧
    reached lateLink.timeBase now = true ∧ permitOf lateLink.mode = true ∧ lateLink.mc.fault = none ∧
    permitOf (ride .standby).mode = false ∧ (ride .holding).mode = .holding ∧
    (s.port .s).supervision = some { deadline := now, timeout := 50 } ∧ reached s.timeBase now = true := by
  decide +kernel

theorem test_LinkLoss_reports_met :
    let late (s : State) (l : Link) := withPort s l
      { LinkPort.initial with supervision := some { deadline := now, timeout := 250 } }
    let moving := late (released (ride .run) 1 1 [2]) .a
    let listed := late (queued (inBay .held .dispatchQueued none) [{ entryOf 255 0 1 .stopped with
      consentA := true, consentB := true }] 0) .s
    reached moving.timeBase now = true ∧ moving.mode = .run ∧ (moving.entry 1).state = .releasing ∧
    (late (ride .standby) .b).mode = .standby ∧ (late (ride .manual) .b).mode = .manual ∧
    (∀ b, ((late (ride .manual) .b).entry b).state ≠ .reserved ∧ ((late (ride .manual) .b).entry b).state ≠ .releasing) ∧
    listed.dispatchSound ∧ (∃ e ∈ listed.dispatch, listed.bay e.bay ≠ none) ∧
    moving.reports.ring = [] ∧ listed.reports.ring = [] := by
  unfold State.dispatchSound
  decide +kernel

def report : Report :=
  { seq := 0, kind := .mode, fault := none, time := 0, block := none, boat := none,
    details := { d1 := 0, d2 := 0, d3 := 0, d4 := 0 } }

/-- Link A UP with one unread report. -/
def reading (r : Reader) : State :=
  { lateLink with reports := { ring := [report], nextSeq := 1,
                               readers := { a := r, b := Reader.initial, s := Reader.initial } } }

theorem test_Readers_met :
    ((ride .run).port .s).sending = none ∧ (reading .initial).admits .a .readReports ∧ (1 ≤ 8 ∧ 8 ≤ 8) ∧
    (reading .initial).up .a = true ∧ (reading .initial).up .b = false ∧ (ride .run).up .a = false ∧
    ((reading { Reader.initial with attention := 255, holdOff := some now }).reader .a).holdOff = some now ∧
    (∃ e ∈ (reading .initial).reports.ring.drop 0, inAttention 255 e.kind = true) ∧
    (∀ e ∈ (reading .initial).reports.ring.drop 0, inAttention 0 e.kind = false) := by
  unfold State.admits
  decide +kernel

theorem test_Readers_sound_met : (reading .initial).ringSound := by
  refine ⟨by decide +kernel, fun h => ?_, fun l => ?_⟩
  · exact absurd (h .a) (by decide +kernel)
  · cases l <;> decide +kernel

/-! The end of an event. -/

theorem test_EventsEnd_met :
    let s := released (ride .holding) 1 1 [2]
    (ride .configure).mode = .configure ∧ (ride .manual).mode ≠ .run ∧ (ride .manual).mode ≠ .holding ∧
    s.mode = .holding ∧ (s.entry 2).state = .reserved ∧
    (∀ b, ((ride .holding).entry b).state ≠ .reserved ∧ ((ride .holding).entry b).state ≠ .releasing) ∧
    (ride .run).mode = .run := by decide +kernel

/-- One block in each state that its command depends on, after the end of an event. -/
theorem test_CommandsFollow_met :
    let s := onLeg (held (at_ (released (ride .manual) 1 2 [3, 4]) 9 (.bare .faulted)) 0 5) .main none
    let t := s.finish
    s.mode ≠ .configure ∧ (t.channel 2).owner = some 2 ∧ (t.channel 4).owner = some 4 ∧
    (t.channel 5).owner = some 5 ∧ (t.channel 9).owner = some 9 ∧ (t.channel 10).owner = some 10 ∧
    (t.channel 6).owner = some 6 ∧ (t.entry 9).state = .faulted ∧ (t.entry 4).state = .reserved ∧
    (t.brake 9).isSome = true ∧ (t.channel 9).command = .level 15 ∧ (t.channel 4).command = .level 2 ∧
    (ride .halted).finish.mode = .halted := by decide +kernel

/-! Boats and blocks in agreement. -/

/-- Block by block and boat by boat, what `State.trackSound` asks. -/
def trackOk (s : State) : Bool :=
  (allBlocks.all fun b => match (s.entry b).occupant with
    | none => true
    | some x => match s.slot x with
      | .onTrack _ pos _ => pos == b ||
          ((s.entry b).nose && (s.layout.successor b .main == some pos || s.layout.successor b .spur == some pos))
      | _ => false) &&
  (allBoats.all fun x => match s.slot x with
    | .onTrack _ pos _ => (s.entry pos).occupant == some x && !(s.entry pos).nose
    | _ => true) &&
  (allBlocks.all fun b => allBlocks.all fun c => match (s.entry b).occupant with
    | none => true
    | some x => (s.entry c).occupant != some x || (s.slot x).position == some b || (s.slot x).position == some c ||
        b == c) &&
  (allBlocks.all fun b => allBoats.all fun x =>
    ((s.entry b).state == .reserved && (s.entry b).holder == some x) == (s.pathOf x).contains b) &&
  (allBoats.all fun x => decide (s.pathOf x).Nodup && (s.pathOf x).length ≤ 8) &&
  (allBlocks.all fun b => match (s.entry b).occupant with
    | none => true
    | some x => (s.entry b).state != .occupied || (s.pathOf x).isEmpty) &&
  (s.mode != .configure)

theorem trackSound_of {s : State} (h : trackOk s = true) : s.trackSound := by
  simp only [trackOk, Bool.and_eq_true, List.all_eq_true] at h
  obtain ⟨⟨⟨⟨⟨⟨h1, h2⟩, h3⟩, h4⟩, h5⟩, h6⟩, h7⟩ := h
  have mb : ∀ b : BlockId, b ∈ allBlocks := fun b => List.mem_finRange b
  have mx : ∀ x : BoatId, x ∈ allBoats := fun x => List.mem_finRange x
  refine ⟨fun b x hb => ?_, fun x bt pos path hs => ?_, fun x b c hb hc nb nc => ?_, fun b x => ?_, fun x => ?_,
    fun b x ho hb => ?_, fun hm => ?_⟩
  · have k := h1 b (mb b)
    rw [hb] at k
    dsimp only at k
    cases hs : s.slot x with
    | unused => simp [hs] at k
    | absent _ => simp [hs] at k
    | onTrack bt pos path =>
      simp only [hs, Bool.or_eq_true, Bool.and_eq_true, beq_iff_eq] at k
      refine ⟨bt, pos, path, rfl, ?_⟩
      rcases k with k | ⟨kn, k | k⟩
      · exact .inl k
      · exact .inr ⟨kn, .main, k⟩
      · exact .inr ⟨kn, .spur, k⟩
  · have k := h2 x (mx x)
    simpa [hs] using k
  · have k := h3 b (mb b) c (mb c)
    simpa [hb, hc, nb, nc] using k
  · have k := h4 b (mb b) x (mx x)
    rw [beq_iff_eq, Bool.eq_iff_iff] at k
    simpa using k
  · simpa using h5 x (mx x)
  · have k := h6 b (mb b)
    simpa [hb, ho] using k
  · simp [hm] at h7

/-- Boat 1 crossing from block 2 into block 3, its path along 4 and 5 reserved. -/
def crossing (m : Mode) : State :=
  at_ (released (ride m) 1 3 [4, 5]) 2 { Entry.bare .releasing with
    occupant := some 1, nose := true, clearance := some now }

theorem test_BoatsAndBlocks_met :
    (crossing .run).trackSound ∧ (crossing .run).tableSound ∧ (held (ride .standby) 0 10).trackSound ∧
    ((crossing .run).entry 2).occupant = some 1 ∧ ((crossing .run).slot 1).position = some 3 :=
  ⟨trackSound_of (by decide +kernel), tableSound_of (by decide +kernel), trackSound_of (by decide +kernel),
    by decide +kernel⟩

/-- A launch frozen by a HALT, its path kept whole or lost to a fault. -/
def frozen (path : List BlockId) : State :=
  let s := released (ride .halted) 1 2 path
  at_ s 2 { s.entry 2 with transit := none, release := some { path := [3, 4, 5], retries := 0, frozen := true } }

theorem test_MatchedRequestsStartTheRide_frozen_met :
    (frozen [3, 4, 5]).tableSound ∧ (frozen [3, 4, 5]).trackSound ∧ canStart (frozen [3, 4, 5]) .resume ∧
    ((frozen [3, 4, 5]).entry 2).occupant = some 1 ∧ (frozen [3, 4, 5]).pathOf 1 = [3, 4, 5] ∧
    ((frozen [3, 4, 5]).channel 2).owner = some 2 ∧
    (frozen []).tableSound ∧ (frozen []).trackSound ∧ canStart (frozen []) .resume ∧ (frozen []).pathOf 1 = [] ∧
    (frozen []).mc.fault = none :=
  ⟨tableSound_of (by decide +kernel), trackSound_of (by decide +kernel),
    by unfold canStart State.admits; decide +kernel, by decide +kernel, by decide +kernel, by decide +kernel,
    tableSound_of (by decide +kernel), trackSound_of (by decide +kernel),
    by unfold canStart State.admits; decide +kernel, by decide +kernel, by decide +kernel⟩

theorem test_MatchedRequestsStartTheRide_stalls_met :
    let s := inPhase (frozen []) 0 .released none
    canStart s .resume ∧ s.mode = .halted ∧
    (∀ b y, s.bay b = some y → y.returnPhase = some .berthed → y.entryEye ≠ none) := by
  unfold canStart State.admits
  decide +kernel

theorem test_MatchedRequestsStartTheRide_timer_met :
    let s := queued (inBay .held .dispatchQueued none) [entryOf 255 0 1 (.suspended 5000000)] 0
    canStart s .resume ∧ s.dispatchSound ∧ entryOf 255 0 1 (.suspended 5000000) ∈ s.dispatch := by
  unfold canStart State.admits State.dispatchSound
  decide +kernel

/-- A RESERVED block of boat 1's path that becomes FAULTED: before it block 3, after it block 5. -/
theorem test_FaultedReservedBlock_met :
    let s := channelIs (released (ride .run) 1 2 [3, 4, 5]) 4 fun c => { c with check := some now }
    let t := edge (released (ride .run) 1 2 [3, 4, 5]) 9 true
    (s.entry 4).state = .reserved ∧ (s.entry 4).holder = some 1 ∧ s.slot 1 = .onTrack (boat 1) 2 ([3] ++ 4 :: [5]) ∧
    (s.entry 5).state = .reserved ∧ (s.channel 4).owner = some 4 ∧ (s.channel 4).check = some now ∧
    (t.entry 9).occupant = none ∧ t.layout.successor 9 .main = some 10 ∧ (t.entry 9).state ≠ .occupied := by
  decide +kernel

/-- Arrivals that are not the one X's path waits for: its nose not in P, or another block in front of its list. -/
theorem test_WrongArrivals_boat_met :
    let away := { launched with roster := vput launched.roster 1 (.onTrack (boat 1) 1 [3, 4, 5]) }
    let other := { launched with roster := vput launched.roster 1 (.onTrack (boat 1) 2 [4, 3, 5]) }
    (away.entry 2).occupant = some 1 ∧ away.overlapped 2 1 = false ∧ (away.entry 3).holder = some 1 ∧
    (away.slot 1).position ≠ some 2 ∧ (other.pathOf 1).head? ≠ some 3 ∧ other.overlapped 2 1 = false := by
  decide +kernel

/-- Older FAULTED records of a boat, with and without a bay. -/
theorem test_NormalArrival_olderRecords_met :
    let s := at_ launched 1 { Entry.bare .faulted with occupant := some 1, nose := true }
    let t := at_ launched 0 { Entry.bare .faulted with occupant := some 1, nose := true }
    (s.entry 1).occupant = some 1 ∧ s.bay 1 = none ∧ (t.entry 0).occupant = some 1 ∧ (t.bay 0).isSome = true ∧
    s.overlapped 2 1 = false ∧ t.overlapped 2 1 = false := by decide +kernel

/-- Boat 1 out of block 3 into block 4, with a window on the reader of block 3. -/
def pastReader (w : TagWindow) : State :=
  let s := at_ (released (ride .run) 1 4 [5]) 3 { Entry.bare .releasing with
    occupant := some 1, nose := true, clearance := some now }
  edge { s with tagWindows := vput s.tagWindows 1 (some w) } 3 false

def window (resolved : Bool) : TagWindow := { boat := 1, block := 3, expected := 102, resolved := resolved }

/-- Boat 1 out of the brake block 4 into block 5, its passage as given. -/
def pastTrap (p : Passage) : State :=
  edge (timed (at_ (released (ride .run) 1 5 []) 4 { Entry.bare .releasing with
    occupant := some 1, nose := true, clearance := some now }) 4 p) 4 false

theorem missesTag_of {s : State} {p : BlockId} {port : PortId} {w : TagWindow} (h : vget s.tagWindows port = some w)
    (hb : w.block = p) (hr : w.resolved = false) (ho : ∀ q, q ≠ port → vget s.tagWindows q = none) :
    s.missesTag p .main port w := by
  refine ⟨rfl, h, hb, hr, fun q v hv _ => ?_⟩
  by_cases hq : q = port
  · exact hq
  · rw [ho q hq] at hv
    cases hv

theorem tagIsRead_of {s : State} {p : BlockId} {leg : Leg}
    (h : ∀ q, ((vget s.tagWindows q).map (·.resolved)).getD true = true) : s.tagIsRead p leg := by
  refine .inr fun q v hv _ => ?_
  have k := h q
  rw [hv] at k
  exact k

theorem isTimed_of {s : State} {p : BlockId} (h : (((s.brake p).bind (·.passage)).map (·.phase)).getD .done = .done) :
    s.isTimed p := by
  intro k g hk hg
  simpa [hk, hg] using h

theorem test_TailClearance_window_met :
    (pastReader (window false)).missesTag 3 .main 1 (window false) ∧ (pastReader (window false)).isTimed 3 ∧
    (pastReader (window true)).tagIsRead 3 .main ∧
    ((pastReader (window false)).layout.pointUse 3 = some (.exitEye 3 .main) ∧
     (pastReader (window false)).layout.successor 3 .main = some 4 ∧
     ((pastReader (window false)).slot 1).position = some 4 ∧ (pastReader (window false)).bay 3 = none) :=
  ⟨missesTag_of rfl rfl rfl (by decide +kernel), isTimed_of (by decide +kernel), tagIsRead_of (by decide +kernel),
    by decide +kernel⟩

theorem test_TailClearance_trap_met :
    ((pastTrap armed).brake 4).bind (·.passage) = some armed ∧ armed.phase ≠ .done ∧
    ((pastTrap armed).record 4).bind (·.brake) = some (brakeSection 60 61 .perPassage) ∧
    (pastTrap armed).layout.pointUse 4 = some (.exitEye 4 .main) ∧
    (pastTrap armed).layout.successor 4 .main = some 5 ∧ ((pastTrap armed).slot 1).position = some 5 ∧
    ((pastTrap timing).brake 4).bind (·.passage) = some timing ∧ timing.phase ≠ .done := by decide +kernel

/-- A bay BERTHED across the eye of block 9, by its role and guests. -/
theorem test_TailClearance_bay_met :
    let s := edge (held (ride .run) 1 10) 9 false
    let t := { s with bays := vput s.bays 10 (some { Bay.vacant 0 0 with phase := .berthed, entryEye := some 9 }) }
    (t.bay 10).map (·.entryEye) = some (some 9) ∧ ((t.record 10).bind (·.bay)).map (·.role) = some .unload ∧
    (t.entry 10).occupant = some 1 ∧ t.boat 1 = some (boat 1) ∧
    (∀ e, e ≠ 10 → ((t.bay e).bind (·.entryEye)) = none) ∧ t.layout.pointUse 9 = some (.exitEye 9 .main) := by
  decide +kernel

/-- A release from a bay that is taken back: to READY, and to BERTHED with its entry boundary still open or passed. -/
theorem test_BlockDeadlines_bay_met :
    let s := released (ride .run) 1 10 [0]
    let back (p : Phase) (eye : Option PointId) : State := { s with bays := vput s.bays 10 (some
      { Bay.vacant 0 0 with phase := .released, returnPhase := some p, entryEye := eye }) }
    (s.entry 10).transit = some now ∧ s.layout.holdable 10 = true ∧ s.layout.kind 10 ≠ some .launch ∧
    s.slot 1 = .onTrack (boat 1) 10 [0] ∧ ((back .ready none).bay 10).bind (·.returnPhase) = some .ready ∧
    ((back .berthed (some 9)).bay 10).bind (·.entryEye) = some 9 ∧
    ((back .berthed none).bay 10).bind (·.entryEye) = none ∧ ((s.record 10).bind (·.bay)).isSome = true := by
  decide +kernel

/-! Switches and checks. -/

/-- Switch 5 with its two position points. -/
def points (s : State) (main spur : Bool) : State :=
  { s with points := vput (vput s.points 70 { rest with level := main }) 71 { rest with level := spur } }

theorem test_SwitchesFollow_points_met :
    let s := points (onLeg (held (ride .run) 1 5) .spur (some (.main, now))) true false
    s.mode ≠ .configure ∧ s.layout.pointUse 70 = some (.position 5) ∧ s.layout.pointUse 71 = some (.position 5) ∧
    ((s.record 5).bind (·.switch)).map (fun z => (z.mainPosition, z.spurPosition)) = some (70, 71) ∧
    s.switchRec 5 = some { reading := .spur, move := some (.main, now), held := none } ∧
    (s.point 70).level = true ∧ (s.point 71).level = false ∧
    ((points s true true).point 71).level = true ∧ ((points s false false).point 70).level = false := by
  decide +kernel

theorem test_SwitchesFollow_moves_met :
    let s := onLeg (held (ride .run) 1 5) .spur none
    let route := fun (r : Reading) => onLeg (held (ride .manual) 1 5) r (some (.main, now))
    (s.entry 5).state = .occupied ∧ s.switchRec 5 = some { reading := .spur, move := none, held := none } ∧
    Reading.spur ≠ (s.chosenLeg 5).reading ∧ ((ride .held).mode ≠ .run ∧ (ride .held).mode ≠ .manual) ∧
    ((ride .run).entry 5).state ≠ .occupied ∧ (route .main).boat 1 = some (boat 1) ∧
    Route.storage ≠ (boat 1).route ∧ (route .main).admits .a .setRoute ∧ (route .main).layout.kind 5 = some .switch ∧
    (route .spur).switchRec 5 = some { reading := .spur, move := some (.main, now), held := none } ∧
    Reading.spur = Route.storage.leg.reading ∧ Reading.main ≠ Route.storage.leg.reading := by
  unfold State.admits
  decide +kernel

theorem test_ChecksFollow_met :
    let s := ride .run
    (s.channel 6).owner = some 6 ∧ ((s.record 6).bind (·.drive)).bind (·.feedback) = some 46 ∧
    s.layout.pointUse 46 = some (.feedback 6) ∧ s.mode ≠ .configure ∧
    ((s.finish).channel 6).expectation = some false ∧ (s.point 46).level = false ∧
    ((pointIs s 46 { rest with level := true }).finish.channel 6).check = some (now + msSpan 500) ∧
    ((at_ s 6 (.bare .faulted)).finish.channel 6).expectation = none ∧
    ((at_ s 6 (.bare .outOfService)).finish.channel 6).expectation = some false ∧
    ((s.record 10).bind (·.drive)).bind (·.feedback) = none := by decide +kernel

theorem test_ChecksFollow_position_met :
    let s := { ride .held with switches := vput (ride .held).switches 5 (some
      { reading := .none, move := none, held := some .main }) }
    let t := channelIs s 5 fun c => { c with command := .hold }
    (s.finish.channel 5).command = .hold ∧ (s.finish.channel 5).position = some (now + msSpan 500) ∧
    (t.channel 5).position = none ∧ (t.finish.channel 5).position = some (now + msSpan 500) ∧
    (s.finish.switchRec 5).map (·.held) = some (some .main) := by decide +kernel

/-! Frames and reports. -/

theorem test_Characters_discards_met :
    let a : Assembly := { bytes := [33, 5, 0], overrun := false }
    let p := { LinkPort.initial with assembly := some a }
    (p.assembly = some a ∧ p.ignoring = false ∧ p.queue.length < 2 ∧ p.fifo = []) ∧
    ([33, 5] : List Byte).length = 2 ∧ 48 < (49 : Byte).toNat ∧ (48 : Byte).toNat ≤ 48 ∧
    (3 ≤ a.bytes.length ∧ a.bytes.length + 1 = 4 + (a.bytes.getD 2 0).toNat) ∧
    (a.bytes ++ [217]).foldl (· + ·) 0 ≠ 0 ∧ 128 ≤ (([200, 5, 0] : List Byte).getD 0 0).toNat ∧
    LinkPort.initial.supervision = none ∧ LinkPort.initial.sending = none ∧ LinkPort.initial.queue = [] := by
  decide +kernel

theorem test_TakenFrames_met :
    let c : Character := { byte := 7, marker := true, lost := false }
    let d : Character := { c with lost := true }
    let f : Frame := { code := 33, tag := 5, args := [] }
    let p := { LinkPort.initial with sending := some response, queue := [f, f], fifo := [c, c, c, d] }
    ((ride .run).port .a).sending = none ∧ p.sending = some response ∧ p.queue = f :: [f] ∧
    p.fifo.length ≤ 4 ∧ p.ignoring = false ∧ [f].length < 2 ∧ p.fifo = [c, c, c] ++ [d] ∧
    (∀ k ∈ [c, c, c], k.lost = false) ∧ d.lost = true := by decide +kernel

/-- Frames whose overrun mark is set, and a good frame on a DOWN link that is sending a response. -/
theorem test_Characters_marks_met :
    let short : Assembly := { bytes := [33, 5], overrun := true }
    let full : Assembly := { bytes := [33, 5, 0], overrun := true }
    let p := { LinkPort.initial with assembly := some short }
    let q := { LinkPort.initial with
      assembly := some { bytes := [33, 5, 0], overrun := false }, sending := some response }
    (p.assembly = some short ∧ p.ignoring = false ∧ p.queue.length < 2 ∧ p.fifo = []) ∧
    short.bytes.length = 2 ∧ 48 < (49 : Byte).toNat ∧ full.overrun = true ∧
    (3 ≤ full.bytes.length ∧ full.bytes.length + 1 = 4 + (full.bytes.getD 2 0).toNat) ∧
    q.supervision = none ∧ (q.sending = none → q.queue = []) ∧ q.sending ≠ none ∧ q.queue.length < 2 ∧ q.fifo = [] ∧
    q.assembly = some { bytes := 33 :: 5 :: BitVec.ofNat 8 ([] : List Byte).length :: [], overrun := false } := by
  decide +kernel

/-- A marked character that completes a frame with an earlier overrun mark: the frame and the loss are both counted. -/
theorem test_TakenFrames_completingMark_met :
    let d : Character := { byte := 218, marker := false, lost := true }
    let f : Frame := { code := 72, tag := 5, args := [] }
    let p := { LinkPort.initial with
      sending := some response, queue := [f, f], fifo := [d], assembly := some { bytes := [33, 5, 0], overrun := true } }
    p.queue = f :: [f] ∧ p.fifo = [] ++ [d] ∧ p.ignoring = false ∧ d.lost = true ∧
    ∃ t, exec (.responseSent .a) (withPort (ride .run) .a p) = .next t ∧ (t.port .a).overruns = 2 ∧
      (t.port .a).assembly = none ∧ (t.port .a).queue = [f] :=
  ⟨rfl, rfl, rfl, rfl, _, rfl, by decide +kernel, by decide +kernel, by decide +kernel⟩

theorem test_TakenFrames_unknownCode_met : ∀ r : Req, (127 : Byte).toNat ≠ r.code := by
  intro r
  cases r <;> decide

/-- The ring full, Link A UP with every entry unread. -/
def ringFull : State :=
  { lateLink with reports := { ring := List.replicate 64 report, nextSeq := 64,
                               readers := { a := Reader.initial, b := Reader.initial, s := Reader.initial } } }

theorem test_ReportsJoin_met :
    ringFull.ringSound ∧ ringFull.reports.ring.length = 64 ∧ ringFull.up .a = true ∧
    (ringFull.reader .a).cursor = 0 ∧ (reading .initial).reports.ring.length < 64 := by
  refine ⟨⟨by decide +kernel, fun h => ?_, fun l => ?_⟩, by decide +kernel⟩
  · exact absurd (h .a) (by decide +kernel)
  · cases l <;> decide +kernel

/-! Grants. -/

/-- Boats asked for in RUN: the one held in a LAUNCH block, and that of a CONSENTED entry. -/
theorem test_RunGrants_met :
    let s := held (ride .run) 1 2
    s.mayGo 2 1 [3, 4, 5] ∧ s.asksBy 2 .scheduler ∧ s.awarded 2 [3, 4, 5] := by
  refine ⟨⟨.inl rfl, rfl, rfl, rfl, fun h => absurd h (by decide +kernel), by decide +kernel, by decide +kernel⟩,
    ⟨rfl, rfl, rfl, _, rfl, ?_⟩, fun m r h => absurd h ?_⟩
  · intro n hn
    have k : ((held (ride .run) 1 2).launchRec 2).bind (·.headway) = none := by decide +kernel
    rw [hn] at k
    exact k
  · rw [show ([3, 4, 5] : List BlockId).getLast?.bind (held (ride .run) 1 2).layout.mergeAt = none by decide +kernel]
    simp

theorem test_RunGrants_dispatch_met :
    let e := { entryOf 255 0 1 .stopped with consentA := true, consentB := true }
    let s := queued (inBay .run .dispatchQueued none) [e] 0
    s.mayGo 0 1 [1] ∧ s.asksBy 0 (.dispatch e) :=
  ⟨⟨.inl rfl, rfl, rfl, rfl, fun h => absurd h (by decide +kernel), by decide +kernel, by decide +kernel⟩,
    rfl, ⟨by decide +kernel, rfl, rfl, fun h => absurd h (by decide)⟩, rfl⟩

/-- Two boats that contend for the merge block 9: one heads each feeder list. -/
theorem test_RunGrants_merge_met :
    let s := held (held (ride .run) 1 6) 0 8
    [9].getLast?.bind s.layout.mergeAt = some (0, merge) ∧ merge.inputOf 6 [9] = some .in0 ∧
    merge.feeder0.head? = some 6 ∧ (s.candidateAt merge .in1).isSome = true ∧
    contestWinner .initial merge.preferred (s.level merge .initial) = .in0 := by decide +kernel

/-! Boats and bays at PLACE BOAT, REMOVE BOAT and DISPATCH. -/

theorem test_PlaceBoat_bay_met :
    let s := ride .standby
    s.slot 1 = .absent (boat 1) ∧ s.layout.holdable 0 = true ∧ (s.entry 0).state = .clear ∧
    (s.bay 0).map (·.phase) = some .vacant ∧ ((s.record 0).bind (·.bay)).map (·.role) = some .both ∧
    ((s.record 10).bind (·.bay)).map (·.role) = some .unload ∧ s.bay 1 = none := by decide +kernel

theorem test_RemoveBoat_entry_met :
    let s := queued (inBay .held .dispatchQueued none) [entryOf 255 0 1 (.suspended 7), entryOf 3 10 0 .stopped] 0
    s.dispatchSound ∧ s.slot 1 = .onTrack (boat 1) 0 [] ∧ (s.entry 0).occupant = some 1 ∧
    (s.bay 0).map (·.phase) = some .dispatchQueued ∧ (∀ c, (s.entry c).occupant = some 1 → c = 0) ∧
    (s.entry 10).occupant ≠ some 1 := by
  unfold State.dispatchSound
  decide +kernel

theorem test_RemoveBoat_brake_met :
    let s := timed (held (ride .held) 1 9) 9 armed
    s.admits .a .removeBoat ∧ s.slot 1 = .onTrack (boat 1) 9 [] ∧ (s.windows.get .a).holds 9 = true ∧
    (s.entry 9).occupant = some 1 ∧ (s.brake 9).map (·.passage) = some (some armed) ∧ s.brake 0 = none := by
  unfold State.admits
  decide +kernel

/-- A next sequence number 255 with 0 and 1 held: the first free number counting up with wrap is 2. -/
theorem test_Dispatch_wrap_met :
    let s := queued (inBay .run .ready none) [entryOf 0 10 0 .stopped, entryOf 1 5 0 .stopped] 255
    s.admits .a .dispatch ∧ s.dispatchSound ∧ (∀ e ∈ s.dispatch, e.bay ≠ 0) ∧ s.dispatch.length < 8 := by
  unfold State.admits State.dispatchSound
  decide +kernel

/-! The invariants. -/

theorem test_ModeSound_met :
    (ride .run).permitAgrees ∧ (ride .run).haltedSafe ∧ (ride .run).holdingMoves ∧
    (released (ride .holding) 1 1 [2]).permitAgrees ∧ (released (ride .holding) 1 1 [2]).holdingMoves ∧
    ∃ t, step (ride .run) = .next t := by
  refine ⟨?_, fun h => absurd h (by decide +kernel), fun h => absurd h (by decide +kernel), ?_, ?_, _, rfl⟩
  · unfold State.permitAgrees
    decide +kernel
  · unfold State.permitAgrees
    decide +kernel
  · unfold State.holdingMoves
    decide +kernel

theorem test_PortsSound_met : lateLink.portsSound := by
  intro l
  unfold LinkPort.sound
  cases l <;> decide +kernel

theorem test_ReportsSound_met : (reading .initial).attentionSound := by
  intro l
  cases l <;> decide +kernel

theorem test_ListsSound_met : (queued (ride .run) [entryOf 255 0 1 .stopped] 0).dispatchSound ∧ (ride .run).codesDistinct := by
  refine ⟨by unfold State.dispatchSound; decide +kernel, ?_⟩
  have key : ∀ x y : BoatId, ((ride .run).boat x).isSome = true →
      ((ride .run).boat x).map (·.tagCode) = ((ride .run).boat y).map (·.tagCode) → x = y := by decide +kernel
  intro x y t u hx hy h
  exact key x y (by simp [hx]) (by simp [hx, hy, h])

theorem test_LayoutSound_met : (ride .run).layoutValidated ∧ (ride .run).generationSound ∧ State.reset.layout.generation = 0 := by
  unfold State.layoutValidated State.generationSound
  decide +kernel

/-! The deadlines that have passed. -/

/-- One deadline of every sort, each just reached. -/
def overdue : State :=
  let s := released (inPhase (ride .run) 10 .tareWeigh (some (weigh .tare 1 0 0 0 0 0))) 1 0 [1]
  let s := at_ (at_ s 3 { Entry.bare .releasing with occupant := some 0, transit := some now }) 8
    { Entry.bare .releasing with occupant := some 0, nose := true, clearance := some now }
  let s := timed (queued (slotOf s .restart none .a) [entryOf 7 0 1 (.running now)] 8) 9 armed
  let s := withPort s .a { LinkPort.initial with supervision := some { deadline := now, timeout := 250 } }
  let s := pointIs (onLeg s .main (some (.spur, now))) 95 { rest with raw := true, pending := some now }
  let s := channelIs (channelIs s 2 fun c => { c with pulse := some now }) 6 fun c => { c with check := some now }
  { channelIs s 5 fun c => { c with position := some now } with
    launches := vput s.launches 2 (some { lastLaunch := none, headway := some now })
    reports := { s.reports with readers := s.reports.readers.put .s { Reader.initial with holdOff := some now } } }

theorem test_TimeRuns_everyDeadlineIsQueued :
    overdue.dueCommands = [.supervisionDeadline .a, .inputAcceptance 95, .weighWindowDeadline 10,
      .holdableTransitDeadline 0, .lostBoat 3, .stuckAtBoundary 8, .consentDeadline 7, .slotDeadline,
      .headwayDeadline 2, .switchTravel 5, .trapDeadline 9, .stopDelayDeadline 9, .pulseDeadline 2, .checkDeadline 6,
      .positionDeadline 5, .holdOffDeadline .s] := by decide +kernel

end Sys2Proof.Tests
end

section
/-! PROOFS. The arithmetic of the weigh unit (R98, R99) and of the brake level computation (R150 to R153), with the
ranges the spec gives to each quantity. -/

namespace Sys2Proof.Machine

open Sys2Proof

/-! ### The weigh arithmetic (R87, R98, R99) -/

/-- Twice the count times the mean is at most half a sample above twice the sum. -/
theorem meanTotal_mul_le (w : Weigh) : 2 * w.count * meanTotal w ≤ 2 * w.sumTotals + w.count :=
  Nat.mul_div_le _ _

/-- Twice the count times the mean is less than half a sample below twice the sum: a half is rounded up. -/
theorem lt_meanTotal_mul {w : Weigh} (hcount : 0 < w.count) :
    2 * w.sumTotals < 2 * w.count * meanTotal w + w.count := by
  have hnext : 2 * w.sumTotals + w.count < 2 * w.count * (meanTotal w + 1) :=
    Nat.lt_mul_div_succ _ (by omega)
  rw [Nat.mul_succ] at hnext
  omega

theorem meanTotal_le {w : Weigh} {most : Nat} (hcount : 0 < w.count) (hsum : w.sumTotals ≤ most * w.count) :
    meanTotal w ≤ most := by
  have hbelow : 2 * w.sumTotals + w.count < 2 * w.count * (most + 1) := by
    calc 2 * w.sumTotals + w.count
        < 2 * (most * w.count) + 2 * w.count := by omega
      _ = 2 * w.count * (most + 1) := by
        rw [Nat.mul_succ, Nat.mul_assoc, Nat.mul_comm w.count most]
  exact Nat.le_of_lt_succ (Nat.div_lt_of_lt_mul hbelow)

theorem frontShare_le {w : Weigh} (hfronts : w.sumFronts ≤ w.sumTotals) : frontShare w ≤ 100 :=
  Nat.div_le_of_le_mul (by omega)

theorem computedLoad_add_tare {mean tare : Nat} (h : tare ≤ mean) : computedLoad mean tare + tare = mean :=
  Nat.sub_add_cancel h

theorem computedLoad_of_lt {mean tare : Nat} (h : mean < tare) : computedLoad mean tare = 0 :=
  Nat.sub_eq_zero_of_le (Nat.le_of_lt h)

theorem loadOutcome_of_heavy {load share maxLoad : Nat} (h : maxLoad < load ∨ 1200 < load) :
    loadOutcome load share maxLoad = .overweight :=
  if_pos (by omega)

/-- A load within both limits is judged by its front share alone. -/
theorem loadOutcome_of_light {load share maxLoad : Nat} (hmax : load ≤ maxLoad) (hmost : load ≤ 1200) :
    loadOutcome load share maxLoad = if share < 35 ∨ 65 < share then .unbalanced else .ok :=
  if_neg (Nat.not_lt.mpr (Nat.le_min.mpr ⟨hmax, hmost⟩))

theorem guestsAboard_iff {load least : Nat} : guestsAboard load least = true ↔ least ≤ load :=
  decide_eq_true_iff

/-- The deviation is the distance of the mean from the tare: of the two differences one is 0. -/
theorem tareDeviation_eq (mean tare : Nat) : tareDeviation mean tare = (mean - tare) + (tare - mean) := by
  unfold tareDeviation
  split
  case isTrue h => rw [Nat.sub_eq_zero_of_le h, Nat.add_zero]
  case isFalse h => rw [Nat.sub_eq_zero_of_le (Nat.le_of_not_le h), Nat.zero_add]

/-! ### Division rounded up -/

theorem ceilDiv_eq {n d : Nat} (hd : 0 < d) : ceilDiv n d = (n + (d - 1)) / d :=
  congrArg (· / d) (Nat.add_sub_assoc hd n)

theorem ceilDiv_le {n d most : Nat} (hd : 0 < d) (h : n ≤ d * most) : ceilDiv n d ≤ most := by
  rw [ceilDiv_eq hd, Nat.div_le_iff_le_mul_add_pred hd]
  exact Nat.add_le_add_right h _

/-! ### The quantities of the brake level computation (R150 to R153) -/

theorem BrakeSection.inRange_bounds {k : BrakeSection} (h : k.inRange = true) :
    1000 ≤ k.brakeLength ∧ 10 ≤ k.forceStep ∧ k.minimumLevel ≤ 15 := by
  simp only [BrakeSection.inRange, Bool.and_eq_true, decide_eq_true_eq] at h
  omega

theorem speedClamps_iff {trapLength T : Nat} :
    speedClamps trapLength T = true ↔ T = 0 ∨ 20000 < trapLength * 1000000 / T := by
  rw [speedClamps, Bool.or_eq_true, beq_iff_eq, decide_eq_true_iff, trapSpeed]

theorem speedClamps_eq_false_iff {trapLength T : Nat} :
    speedClamps trapLength T = false ↔ 0 < T ∧ trapLength * 1000000 / T ≤ 20000 := by
  rw [← Bool.not_eq_true, speedClamps_iff]
  omega

theorem brakeSpeed_of_clamps {trapLength T : Nat} (h : speedClamps trapLength T = true) :
    brakeSpeed trapLength T = 20000 :=
  if_pos h

theorem brakeSpeed_of_not_clamps {trapLength T : Nat} (h : speedClamps trapLength T = false) :
    brakeSpeed trapLength T = trapLength * 1000000 / T :=
  if_neg (Bool.not_eq_true _ ▸ h)

theorem brakeSpeed_le (trapLength T : Nat) : brakeSpeed trapLength T ≤ 20000 := by
  cases h : speedClamps trapLength T with
  | true => exact Nat.le_of_eq (brakeSpeed_of_clamps h)
  | false => rw [brakeSpeed_of_not_clamps h]; exact (speedClamps_eq_false_iff.mp h).2

theorem rawDecel_of_le {v target brakeLength : Nat} (h : v ≤ target) : rawDecel v target brakeLength = 0 :=
  if_pos h

theorem rawDecel_of_lt {v target brakeLength : Nat} (hlength : 0 < brakeLength) (h : target < v) :
    rawDecel v target brakeLength = ((v ^ 2 - target ^ 2) + (2 * brakeLength - 1)) / (2 * brakeLength) := by
  rw [rawDecel, if_neg (Nat.not_le.mpr h), ceilDiv_eq (by omega), Nat.pow_two, Nat.pow_two]

theorem brakeDecel_of_le {v target brakeLength : Nat} (h : v ≤ target) : brakeDecel v target brakeLength = 0 := by
  rw [brakeDecel, rawDecel_of_le h, Nat.zero_min]

theorem brakeDecel_le (v target brakeLength : Nat) : brakeDecel v target brakeLength ≤ 30000 :=
  Nat.min_le_right _ _

theorem brakeForce_zero (m : Nat) : brakeForce m 0 = 0 := by
  simp [brakeForce, ceilDiv]

theorem brakeForce_eq (m a : Nat) : brakeForce m a = (m * a + 999) / 1000 :=
  ceilDiv_eq (by omega)

/-- The heaviest boat at the greatest deceleration takes 60,000 N (R152). -/
theorem brakeForce_le {m a : Nat} (hm : m ≤ 2000) (ha : a ≤ 30000) : brakeForce m a ≤ 60000 := by
  have hproduct : m * a ≤ 2000 * 30000 := Nat.mul_le_mul hm ha
  exact ceilDiv_le (by omega) (by omega)

theorem rawLevel_zero {forceStep : Nat} (hstep : 0 < forceStep) : rawLevel 0 forceStep = 0 :=
  Nat.le_zero.mp (ceilDiv_le hstep (Nat.zero_le _))

/-- The greatest force on the least force step is level 6,000 (R153). -/
theorem rawLevel_le {force forceStep : Nat} (hforce : force ≤ 60000) (hstep : 10 ≤ forceStep) :
    rawLevel force forceStep ≤ 6000 :=
  ceilDiv_le (by omega) (by omega)

theorem appliedLevel_of_saturated {n least : Nat} (hn : 15 < n) (hleast : least ≤ 15) : appliedLevel n least = 15 := by
  rw [appliedLevel, Nat.min_eq_right (Nat.le_of_lt hn), Nat.max_eq_left hleast]

theorem appliedLevel_of_le {n least : Nat} (hn : n ≤ 15) : appliedLevel n least = max n least := by
  rw [appliedLevel, Nat.min_eq_left hn]

theorem appliedLevel_le (n : Nat) {least : Nat} (hleast : least ≤ 15) : appliedLevel n least ≤ 15 :=
  Nat.max_le.mpr ⟨Nat.min_le_right _ _, hleast⟩

/-! ### The result of the brake level computation, quantity by quantity -/

section
variable (k : BrakeSection) (T m : Nat)

@[simp] theorem brakeCompute_speed : (brakeCompute k T m).speed = brakeSpeed k.trapLength T := rfl

@[simp] theorem brakeCompute_speedClamped : (brakeCompute k T m).speedClamped = speedClamps k.trapLength T := rfl

theorem brakeCompute_decel :
    (brakeCompute k T m).decel = brakeDecel (brakeCompute k T m).speed k.targetSpeed k.brakeLength := rfl

theorem brakeCompute_force : (brakeCompute k T m).force = brakeForce m (brakeCompute k T m).decel := rfl

theorem brakeCompute_raw : (brakeCompute k T m).raw = rawLevel (brakeCompute k T m).force k.forceStep := rfl

theorem brakeCompute_applied :
    (brakeCompute k T m).applied = appliedLevel (brakeCompute k T m).raw k.minimumLevel := rfl

theorem brakeCompute_clamped :
    (brakeCompute k T m).clamped = ((brakeCompute k T m).speedClamped ||
      decide (30000 < rawDecel (brakeCompute k T m).speed k.targetSpeed k.brakeLength)) := rfl

theorem brakeCompute_margin : (brakeCompute k T m).margin = decide (15 < (brakeCompute k T m).raw) := rfl

end

/-- A boat no faster than the target calls for the minimum level, and only its speed can be clamped (R151, R153). -/
theorem brakeCompute_of_slow {k : BrakeSection} {T m : Nat} (hstep : 0 < k.forceStep)
    (h : (brakeCompute k T m).speed ≤ k.targetSpeed) :
    (brakeCompute k T m).decel = 0 ∧ (brakeCompute k T m).force = 0 ∧
      (brakeCompute k T m).applied = k.minimumLevel ∧
      (brakeCompute k T m).clamped = (brakeCompute k T m).speedClamped := by
  have hdecel : (brakeCompute k T m).decel = 0 := by rw [brakeCompute_decel, brakeDecel_of_le h]
  have hforce : (brakeCompute k T m).force = 0 := by rw [brakeCompute_force, hdecel, brakeForce_zero]
  have hraw : (brakeCompute k T m).raw = 0 := by rw [brakeCompute_raw, hforce, rawLevel_zero hstep]
  refine ⟨hdecel, hforce, ?_, ?_⟩
  · rw [brakeCompute_applied, hraw, appliedLevel_of_le (Nat.zero_le _), Nat.zero_max]
  · rw [brakeCompute_clamped, rawDecel_of_le h]
    exact Bool.or_false _

/-- A boat faster than the target is slowed at the deceleration rounded up, at most 30,000 mm/s² (R151). -/
theorem brakeCompute_of_fast {k : BrakeSection} {T m : Nat} (hlength : 0 < k.brakeLength)
    (h : k.targetSpeed < (brakeCompute k T m).speed) {a : Nat}
    (ha : a = (((brakeCompute k T m).speed ^ 2 - k.targetSpeed ^ 2) + (2 * k.brakeLength - 1)) / (2 * k.brakeLength)) :
    (brakeCompute k T m).decel = min a 30000 ∧
      (brakeCompute k T m).clamped = ((brakeCompute k T m).speedClamped || decide (30000 < a)) := by
  rw [brakeCompute_clamped, brakeCompute_decel, brakeDecel, rawDecel_of_lt hlength h, ← ha]
  exact ⟨rfl, rfl⟩

/-- The clamped speed (R150). -/
theorem brakeCompute_of_clamped_speed {k : BrakeSection} {T m : Nat}
    (h : T = 0 ∨ 20000 < k.trapLength * 1000000 / T) :
    (brakeCompute k T m).speed = 20000 ∧ (brakeCompute k T m).speedClamped = true ∧
      (brakeCompute k T m).clamped = true := by
  have hclamps : speedClamps k.trapLength T = true := speedClamps_iff.mpr h
  refine ⟨?_, hclamps, ?_⟩
  · rw [brakeCompute_speed, brakeSpeed_of_clamps hclamps]
  · rw [brakeCompute_clamped, brakeCompute_speedClamped, hclamps, Bool.true_or]

/-- The ranges of the quantities (R150 to R153). -/
theorem brakeCompute_ranges {k : BrakeSection} {T m : Nat} (hm : m ≤ 2000) (hstep : 10 ≤ k.forceStep)
    (hleast : k.minimumLevel ≤ 15) :
    (brakeCompute k T m).speed ≤ 20000 ∧ (brakeCompute k T m).decel ≤ 30000 ∧ (brakeCompute k T m).force ≤ 60000 ∧
      (brakeCompute k T m).raw ≤ 6000 ∧ (brakeCompute k T m).applied ≤ 15 := by
  have hdecel : (brakeCompute k T m).decel ≤ 30000 := brakeDecel_le _ _ _
  have hforce : (brakeCompute k T m).force ≤ 60000 := brakeForce_le hm hdecel
  exact ⟨brakeSpeed_le _ _, hdecel, hforce, rawLevel_le hforce hstep, appliedLevel_le _ hleast⟩

/-- Settles O27: each quantity by its own lemma above. -/
theorem weighAndBrakeArithmetic : Obligations.WeighAndBrakeArithmetic := by
  unfold Obligations.WeighAndBrakeArithmetic
  refine ⟨⟨?mean, ?share, ?load, ?outcome, fun _ _ => guestsAboard_iff, tareDeviation_eq⟩, ?brake⟩
  case mean =>
    intro w hcount hsum
    exact ⟨rfl, meanTotal_le hcount hsum, meanTotal_mul_le w, lt_meanTotal_mul hcount⟩
  case share =>
    intro w _ hfronts
    exact ⟨rfl, frontShare_le hfronts⟩
  case load =>
    intro mean tare
    exact ⟨computedLoad_add_tare, computedLoad_of_lt⟩
  case outcome =>
    intro load share maxLoad
    refine ⟨loadOutcome_of_heavy, fun hmax hmost hshare => ?_, fun hmax hmost hfrom hto => ?_⟩
    · rw [loadOutcome_of_light hmax hmost, if_pos hshare]
    · rw [loadOutcome_of_light hmax hmost, if_neg (by omega)]
  case brake =>
    rintro k T m c hk hm rfl
    obtain ⟨hlength, hstep, hleast⟩ := BrakeSection.inRange_bounds hk
    refine ⟨brakeCompute_of_clamped_speed, fun hT hspeed => ?_, brakeCompute_of_slow (by omega),
      fun _ hfast => brakeCompute_of_fast (by omega) hfast, brakeForce_eq _ _, ceilDiv_eq (by omega), fun hraw => ?_,
      fun hraw => ?_, brakeCompute_ranges hm hstep hleast⟩
    · have hfree : speedClamps k.trapLength T = false := speedClamps_eq_false_iff.mpr ⟨hT, hspeed⟩
      rw [brakeCompute_speed, brakeCompute_speedClamped]
      exact ⟨brakeSpeed_of_not_clamps hfree, hfree⟩
    · rw [brakeCompute_margin, brakeCompute_applied]
      exact ⟨decide_eq_true hraw, appliedLevel_of_saturated hraw hleast⟩
    · rw [brakeCompute_margin, brakeCompute_applied]
      exact ⟨decide_eq_false (Nat.not_lt.mpr hraw), appliedLevel_of_le hraw⟩

end Sys2Proof.Machine
end

section
/-! PROOFS. What the end of an event leaves behind: every brake record's demand and every channel's command are those that
the state right after the event calls for (R143, R168 to R172), so that each clause is read off the two functions that
say what a state calls for, `State.demandOf` and `State.commandOf`. -/

namespace Sys2Proof.Machine

open Sys2Proof

/-! ### The demand a state calls for (R143) -/

section
variable {s : State} {b : BlockId} {k : Brake} {rec : BlockRecord} {r : BrakeSection}

theorem demandOf_of_idle (hrec : s.record b = some rec) (hr : rec.brake = some r)
    (hst : (s.entry b).state ∈ [BlockState.unverified, .clear, .reserved, .outOfService]) :
    s.demandOf b k = r.idleLevel := by
  simp only [List.mem_cons, List.not_mem_nil, or_false] at hst
  rcases hst with hst | hst | hst | hst <;> simp [State.demandOf, hrec, hr, hst]

theorem demandOf_of_faulted (hrec : s.record b = some rec) (hr : rec.brake = some r)
    (hst : (s.entry b).state = .faulted) : s.demandOf b k = 15 := by
  simp [State.demandOf, hrec, hr, hst]

theorem demandOf_of_held (hrec : s.record b = some rec) (hr : rec.brake = some r)
    (hst : (s.entry b).state = .occupied) (hhold : k.hold = true) : s.demandOf b k = 15 := by
  simp [State.demandOf, hrec, hr, hst, hhold]

theorem record_kind (hrec : s.record b = some rec) : s.layout.kind b = some rec.kind :=
  congrArg (Option.map BlockRecord.kind) hrec

theorem demandOf_of_runout_releasing (hrec : s.record b = some rec) (hr : rec.brake = some r)
    (hst : (s.entry b).state = .releasing) (hkind : rec.kind = .runout) : s.demandOf b k = 0 := by
  simp [State.demandOf, hrec, hr, hst, record_kind hrec, hkind]

/-- With a boat in the block and the hold off the passage gives the demand: the last level once it is DONE. -/
theorem demandOf_of_passing (hrec : s.record b = some rec) (hr : rec.brake = some r)
    (hst : (s.entry b).state = .occupied ∧ k.hold = false ∨ (s.entry b).state = .releasing ∧ rec.kind = .trim)
    {p : Passage} (hp : k.passage = some p) :
    s.demandOf b k = if p.phase = .done then k.lastLevel.getD 15 else r.idleLevel := by
  rcases hst with ⟨hst, hhold⟩ | ⟨hst, hkind⟩
  · simp [State.demandOf, hrec, hr, hst, hhold, hp]
  · simp [State.demandOf, hrec, hr, hst, record_kind hrec, hkind, hp]

end

/-- The demand called for does not depend on the demand held, so to take it on is to be up to date. -/
theorem demandOf_updated (s : State) (b : BlockId) (k : Brake) :
    s.demandOf b { k with demand := s.demandOf b k } = s.demandOf b k := by
  unfold State.demandOf
  split <;> rfl

/-! ### The command a state calls for (R168 to R172) -/

theorem commandOf_of_safe {s : State} {b : BlockId} (h : s.mode = .halted ∨ (s.entry b).state = .faulted) (k : Kind)
    (pulsing : Bool) : s.commandOf b k pulsing = safeCommand k :=
  if_pos h

theorem commandOf_of_plain {s : State} {b : BlockId} (hmode : s.mode ≠ .halted) (hst : (s.entry b).state ≠ .faulted)
    (k : Kind) (pulsing : Bool) : s.commandOf b k pulsing = s.plainCommand b k pulsing :=
  if_neg (not_or.mpr ⟨hmode, hst⟩)

theorem plainCommand_gate (s : State) (b : BlockId) {k : Kind} (hk : k = .bay ∨ k = .queue) (pulsing : Bool) :
    s.plainCommand b k pulsing = if (s.entry b).state = .releasing then .opened else .closed := by
  rcases hk with rfl | rfl <;> rfl

theorem plainCommand_fins (s : State) {b : BlockId} {k : Kind} (hk : k = .trim ∨ k = .runout) (pulsing : Bool)
    {j : Brake} (hj : s.brake b = some j) : s.plainCommand b k pulsing = .level j.demand := by
  rcases hk with rfl | rfl <;> simp [State.plainCommand, hj]

theorem plainCommand_switch_outOfService {s : State} {b : BlockId} (hst : (s.entry b).state = .outOfService)
    (pulsing : Bool) : s.plainCommand b .switch pulsing = .hold := by
  simp only [State.plainCommand, hst, if_true]
  split <;> rfl

/-- The drive toward the leg of the move under way, else HOLD. -/
theorem plainCommand_switch {s : State} {b : BlockId} (hst : (s.entry b).state ≠ .outOfService) (pulsing : Bool)
    {w : SwitchRecord} (hw : s.switchRec b = some w) :
    s.plainCommand b .switch pulsing = (w.move.map (·.1.drive)).getD .hold := by
  simp only [State.plainCommand, hw, Option.bind_some, hst, if_false]
  cases w.move <;> rfl

/-! ### What deriving the brakes and the channels leaves -/

theorem refreshBrakes_brake (s : State) (b : BlockId) :
    s.refreshBrakes.brake b = (s.brake b).map fun k => { k with demand := s.demandOf b k } :=
  vget_vmap _ _ _

theorem refreshBrakes_demand {s : State} {b : BlockId} {k : Brake} (h : s.refreshBrakes.brake b = some k) :
    k.demand = s.demandOf b k := by
  rw [refreshBrakes_brake, Option.map_eq_some_iff] at h
  obtain ⟨j, _, rfl⟩ := h
  exact (demandOf_updated s b j).symm

theorem refreshChannels_channel (s : State) (c : ChannelId) :
    s.refreshChannels.channel c = s.refreshChannel (s.channel c) :=
  vget_vmap _ _ _

/-- An owned channel of a block with a drive section carries the command its state calls for, with its own pulse. -/
theorem refreshChannel_command {s : State} {c : Channel} {b : BlockId} {r : BlockRecord} {d : DriveSection}
    (howner : c.owner = some b) (hr : s.record b = some r) (hd : r.drive = some d) :
    (s.refreshChannel c).command = s.commandOf b r.kind (s.refreshChannel c).pulse.isSome := by
  simp only [State.refreshChannel, howner, hr, hd]

/-! ### What settling leaves -/

theorem settle_halted_iff (s : State) : s.settle.mode = .halted ↔ s.mode = .halted := by
  unfold State.settle
  split
  case isTrue h =>
    have hmode : (s.changeMode .held .settled).mode = .held := congrArg ModeController.mode (changeMode_mc ..)
    simp [hmode, h.1]
  case isFalse => rfl

theorem settle_channel (s : State) (c : ChannelId) : s.settle.channel c = s.channel c :=
  settle_view (State.channel · c) (fun _ _ => rfl) (fun _ _ => rfl) (fun _ _ => rfl) s

theorem settle_brake (s : State) (b : BlockId) : s.settle.brake b = s.brake b :=
  settle_view (State.brake · b) (fun _ _ => rfl) (fun _ _ => rfl) (fun _ _ => rfl) s

theorem settle_record (s : State) (b : BlockId) : s.settle.record b = s.record b :=
  settle_view (State.record · b) (fun _ _ => rfl) (fun _ _ => rfl) (fun _ _ => rfl) s

theorem settle_demandOf (s : State) (b : BlockId) (k : Brake) : s.settle.demandOf b k = s.demandOf b k :=
  settle_view (State.demandOf · b k) (fun _ _ => rfl) (fun _ _ => rfl) (fun _ _ => rfl) s

/-- HOLDING and HELD call for the same commands. -/
theorem settle_commandOf (s : State) (b : BlockId) (k : Kind) (pulsing : Bool) :
    s.settle.commandOf b k pulsing = s.commandOf b k pulsing := by
  have hentry : s.settle.entry b = s.entry b :=
    settle_view (State.entry · b) (fun _ _ => rfl) (fun _ _ => rfl) (fun _ _ => rfl) s
  have hplain : s.settle.plainCommand b k pulsing = s.plainCommand b k pulsing :=
    settle_view (State.plainCommand · b k pulsing) (fun _ _ => rfl) (fun _ _ => rfl) (fun _ _ => rfl) s
  simp only [State.commandOf, settle_halted_iff, hentry, hplain]

/-! ### The end of an event -/

/-- Whatever the switches and the grants bring, brakes and channels are derived after them and the mode settles last. -/
theorem finish_derives {s : State} (h : s.mode ≠ .configure) :
    ∃ u : State, s.finish = u.refreshBrakes.refreshChannels.settle :=
  ⟨s.refreshSwitches.askAll, if_neg h⟩

/-- After an event every brake record's demand is the one its state calls for (R143). -/
theorem finish_demand {s : State} (h : s.mode ≠ .configure) {b : BlockId} {k : Brake}
    (hk : s.finish.brake b = some k) : k.demand = s.finish.demandOf b k := by
  obtain ⟨u, hu⟩ := finish_derives h
  rw [hu, settle_brake] at hk
  rw [hu, settle_demandOf]
  exact refreshBrakes_demand (s := u) hk

/-- After an event every owned channel of a block with a drive section carries the command its state calls for
(R168 to R172). -/
theorem finish_command {s : State} (h : s.mode ≠ .configure) {c : ChannelId} {b : BlockId} {r : BlockRecord}
    {d : DriveSection} (howner : (s.finish.channel c).owner = some b) (hr : s.finish.record b = some r)
    (hd : r.drive = some d) :
    (s.finish.channel c).command = s.finish.commandOf b r.kind (s.finish.channel c).pulse.isSome := by
  obtain ⟨u, hu⟩ := finish_derives h
  rw [hu, settle_channel, refreshChannels_channel, refreshChannel_owner] at howner
  rw [hu, settle_record] at hr
  rw [hu, settle_commandOf, settle_channel, refreshChannels_channel]
  exact refreshChannel_command howner hr hd

/-- Settles O52: command and demand are the ones the state after the event calls for, read off by kind and by state. -/
theorem commandsFollowTheBlocks : Obligations.CommandsFollowTheBlocks := by
  unfold Obligations.CommandsFollowTheBlocks
  rintro s t hmode rfl
  constructor
  case left =>
    rintro c b r d st cmd howner hr hd rfl rfl
    have hcmd := finish_command hmode howner hr hd
    refine ⟨fun hsafe => hcmd.trans (commandOf_of_safe hsafe _ _), fun hrides hst => ?_⟩
    rw [commandOf_of_plain hrides hst] at hcmd
    refine ⟨fun hk => ?gate, fun hk => ?lift, fun hk => ?launch, fun hk k hj => ?fins, fun hk hout => ?outOfService,
      fun hk hin w hw => ?switch⟩
    case gate => rw [hcmd, plainCommand_gate _ _ hk]
    case lift => rw [hcmd, hk]; rfl
    case launch => rw [hcmd, hk]; rfl
    case fins => rw [hcmd, plainCommand_fins _ hk _ hj]
    case outOfService => rw [hcmd, hk, plainCommand_switch_outOfService hout]
    case switch =>
      rw [hcmd, hk, plainCommand_switch hin _ hw]
      rcases w.move with _ | ⟨_ | _, _⟩ <;> rfl
  case right =>
    intro b k rec r hk hrec hr
    rw [finish_demand hmode hk]
    refine ⟨demandOf_of_idle hrec hr, demandOf_of_faulted hrec hr, demandOf_of_held hrec hr,
      demandOf_of_runout_releasing hrec hr, fun hst p hp => ?passing⟩
    case passing =>
      rw [demandOf_of_passing hrec hr hst hp]
      refine ⟨fun hphase => if_neg hphase, fun n hdone hlast => ?_⟩
      rw [if_pos hdone, hlast, Option.getD_some]

end Sys2Proof.Machine
end

section
/-! PROOFS. The mode requests up to their match (R180 to R184). Past its modes and preconditions a request is decided
against the pending slot alone, so every clause is an answer of `State.modeRefusal` or a case of `State.decideSlot`. -/

namespace Sys2Proof.Machine

open Sys2Proof

/-! ### A mode request at the Request Checker (R180, R212) -/

section
variable {s : State} {m : ModeReq} {c : ControlLink} {g : Nat} (tag : Byte)

/-- The mode check comes before the preconditions. -/
theorem exec_mode_outside (hs : (s.port c.link).sending = none) (hg : g < 65536) (hm : s.mode ∉ m.modes) :
    exec (requestCommand m.req c.link tag (m.argBytes g)) s = .next (s.replies c.link m.req tag .mode []) := by
  have htaken : takenIn m.req s.mode = false := by rw [takenIn_modes]; exact decide_eq_false hm
  have hdecide : s.decide c.link m.req (m.argBytes g) = (.bare .mode, s) := by
    simp [State.decide, roleAllows_mode, readArgs_mode m g hg, htaken]
  rw [exec_idle hs, hdecide]
  rfl

/-- A failed precondition is answered from the state as it is. -/
theorem exec_mode_refused {r : Reply} (hs : (s.port c.link).sending = none) (hg : g < 65536) (hm : s.mode ∈ m.modes)
    (hr : s.modeRefusal m (m.quotes g) = some r) :
    exec (requestCommand m.req c.link tag (m.argBytes g)) s = .next (s.replies c.link m.req tag r.status r.data) := by
  rw [exec_mode tag hs hg hm, modeRequest_refused hr]

/-- With its preconditions met a mode request is decided against the slot. -/
theorem exec_mode_decided {r : Reply} {t : State} (ha : s.admits c.link m.req) (hg : g < 65536)
    (hr : s.modeRefusal m (m.quotes g) = none) (hd : s.decideSlot c m (m.quotes g) = (r, t)) :
    exec (requestCommand m.req c.link tag (m.argBytes g)) s = .next (t.replies c.link m.req tag r.status r.data) := by
  rw [exec_mode tag ha.1 hg (admits_mode ha), modeRequest_decided hr, hd]

end

/-! ### The preconditions (R181) -/

section
variable {s : State}

theorem standbyRefusal_of_stale {o : Option Nat} (h : o ≠ some s.layout.generation) :
    s.standbyRefusal o = some { status := .stale, data := b2 s.layout.generation } := if_pos h

theorem standbyRefusal_of_current (s : State) :
    s.standbyRefusal (some s.layout.generation) =
      s.layout.validate.map fun (check, block) => { status := .state, data := b1 check ++ b1 block } :=
  if_neg (not_not_intro rfl)

theorem startRefusal_of_stop (h : s.mc.stopActive = true) : s.startRefusal = some (.reason 0 none) := if_pos h

theorem firstUnverified_eq_some {b : BlockId} (hb : (s.entry b).state = .unverified)
    (hmin : ∀ a : BlockId, a < b → (s.entry a).state ≠ .unverified) : s.firstUnverified = some b :=
  find_first (beq_iff_eq.mpr hb) fun a ha => beq_eq_false_iff_ne.mpr (hmin a ha)

theorem startRefusal_of_unverified {b : BlockId} (hstop : s.mc.stopActive = false) (h : s.firstUnverified = some b) :
    s.startRefusal = some (.reason 1 (some b)) := by
  simp [State.startRefusal, hstop, h]

/-- The three requests that start the ride share their preconditions, and take no argument. -/
theorem modeRefusal_start {m : ModeReq} (h : m ∈ [ModeReq.enterRun, .enterManual, .resume]) (s : State) (g : Nat) :
    s.modeRefusal m (m.quotes g) = s.startRefusal ∧ m.argBytes g = [] := by
  simp only [List.mem_cons, List.not_mem_nil, or_false] at h
  obtain rfl | rfl | rfl := h <;> exact ⟨rfl, rfl⟩

end

/-- Settles O10: the mode check, then the refusal that `State.modeRefusal` gives for each precondition in its order. -/
theorem modeRequestPreconditions : Obligations.ModeRequestPreconditions := by
  unfold Obligations.ModeRequestPreconditions
  intro s c tag g hs hg
  have hstandby : s.mode = .configure → s.mode ∈ ModeReq.enterStandby.modes := List.mem_singleton.mpr
  refine ⟨fun m hm => exec_mode_outside tag hs hg hm, fun hmode hne => ?stale, fun check block hmode heq hv => ?invalid,
    fun m hm hmode => ⟨fun hstop => ?stopped, fun b hstop hb hmin => ?unverified⟩, fun m hm => ?free⟩
  case stale =>
    exact exec_mode_refused (m := .enterStandby) tag hs hg (hstandby hmode)
      (standbyRefusal_of_stale fun h => hne (Option.some.inj h))
  case invalid =>
    have hrefusal : s.standbyRefusal (some g) = some { status := .state, data := b1 check ++ b1 block } := by
      rw [heq, standbyRefusal_of_current, hv, Option.map_some]
    exact exec_mode_refused (m := .enterStandby) tag hs hg (hstandby hmode) hrefusal
  case stopped =>
    obtain ⟨hrefusal, hargs⟩ := modeRefusal_start hm s g
    rw [← hargs]
    exact exec_mode_refused tag hs hg hmode (hrefusal.trans (startRefusal_of_stop hstop))
  case unverified =>
    obtain ⟨hrefusal, hargs⟩ := modeRefusal_start hm s g
    rw [← hargs]
    exact exec_mode_refused tag hs hg hmode
      (hrefusal.trans (startRefusal_of_unverified hstop (firstUnverified_eq_some hb hmin)))
  case free =>
    simp only [List.mem_cons, List.not_mem_nil, or_false] at hm
    obtain rfl | rfl := hm <;> rfl

/-! ### The pending slot (R182, R183) -/

section
variable {s : State} {m : ModeReq} {c : ControlLink} {o : Option Nat} {p : PendingSlot}

theorem decideSlot_of_empty (h : s.mc.slot = none) : s.decideSlot c m o = s.openSlot m o c := by
  simp only [State.decideSlot, h]

theorem decideSlot_of_own_other (h : s.mc.slot = some p) (hl : p.link = c)
    (hne : p.request ≠ m ∨ p.generation ≠ o) : s.decideSlot c m o = s.openSlot m o c := by
  have hdiffers : ¬(p.request = m ∧ p.generation = o) := fun ⟨hm, hg⟩ => hne.elim (· hm) (· hg)
  simp [State.decideSlot, h, hl, hdiffers]

theorem decideSlot_of_own_same (h : s.mc.slot = some p) (hl : p.link = c) (hm : p.request = m)
    (hg : p.generation = o) : s.decideSlot c m o = s.refreshSlot p := by
  simp [State.decideSlot, h, hl, hm, hg]

theorem decideSlot_of_mismatch (h : s.mc.slot = some p) (hl : p.link ≠ c)
    (hne : p.request ≠ m ∨ p.generation ≠ o) : s.decideSlot c m o = s.mismatchSlot p m c := by
  have hdiffers : ¬(p.request = m ∧ p.generation = o) := fun ⟨hm, hg⟩ => hne.elim (· hm) (· hg)
  simp [State.decideSlot, h, hl, hdiffers]

end

/-! ### The reports of the slot (R199) -/

theorem ModeReq.req_code (m : ModeReq) : m.req.code = m.code := by cases m <;> rfl

theorem ControlLink.linkCode_link (c : ControlLink) : linkCode c.link = c.code := by cases c <;> rfl

theorem ModeReq.code_le (m : ModeReq) : m.code ≤ 21 := by cases m <;> decide

theorem ControlLink.code_le (c : ControlLink) : c.code ≤ 1 := by cases c <;> decide

theorem ModeEvent.code_le (ev : ModeEvent) : ev.code ≤ 4 := by cases ev <;> decide

/-- A quoted generation fits the two bytes it came in. -/
theorem ModeReq.quotes_getD_le (m : ModeReq) {g : Nat} (hg : g < 65536) : (m.quotes g).getD 0 ≤ 65535 := by
  cases m
  case enterStandby => exact Nat.le_of_lt_succ hg
  all_goals exact Nat.zero_le _

/-- A MODE report of two-byte details carries them as they are. -/
theorem modeReport_small (s : State) (ev : ModeEvent) {d2 d3 d4 : Nat} (h2 : d2 ≤ 65535) (h3 : d3 ≤ 65535)
    (h4 : d4 ≤ 65535) :
    s.modeReport ev d2 d3 d4 = s.append .mode none none none { d1 := ev.code, d2 := d2, d3 := d3, d4 := d4 } := by
  have h1 := ev.code_le
  rw [State.modeReport, detail_small _ _ _ _ (by omega) (by omega) (by omega) (by omega)]

theorem openSlot_eq (s : State) (m : ModeReq) (c : ControlLink) {g : Nat} (hg : g < 65536) :
    s.openSlot m (m.quotes g) c =
      (.bare .pending,
       (s.setMc { s.mc with slot := some (s.slotFor m (m.quotes g) c) }).append .mode none none none
        { d1 := 0, d2 := m.req.code, d3 := linkCode c.link, d4 := (m.quotes g).getD 0 }) := by
  have hm := m.code_le
  have hc := c.code_le
  rw [State.openSlot, modeReport_small _ _ (by omega) (by omega) (m.quotes_getD_le hg), m.req_code, c.linkCode_link]
  rfl

theorem mismatchSlot_eq (s : State) (p : PendingSlot) (m : ModeReq) (c : ControlLink) :
    s.mismatchSlot p m c =
      ({ status := .mismatch, data := b1 p.request.req.code ++ b1 (linkCode p.link.link) },
       (s.setMc { s.mc with slot := none }).append .mode none none none
        { d1 := 3, d2 := p.request.req.code, d3 := m.req.code, d4 := linkCode c.link }) := by
  have hp := p.request.code_le
  have hm := m.code_le
  have hc := c.code_le
  rw [State.mismatchSlot, modeReport_small _ _ (by omega) (by omega) (by omega)]
  simp only [ModeReq.req_code, ControlLink.linkCode_link, ModeEvent.code]

theorem expireSlot_eq (s : State) (p : PendingSlot) :
    s.expireSlot p = (s.setMc { s.mc with slot := none }).append .mode none none none
      { d1 := 2, d2 := p.request.req.code, d3 := linkCode p.link.link, d4 := 0 } := by
  have hp := p.request.code_le
  have hl := p.link.code_le
  rw [State.expireSlot, modeReport_small _ _ (by omega) (by omega) (Nat.zero_le _), ModeReq.req_code,
    ControlLink.linkCode_link]
  rfl

theorem slotDue_eq_some {s : State} {p : PendingSlot} (h : s.mc.slot = some p)
    (hd : reached s.timeBase p.deadline = true) : s.slotDue = some p := by
  rw [State.slotDue, h, Option.filter_some, if_pos hd]

/-- A deadline command that finds the slot's deadline reached expires the slot (R184). -/
theorem exec_slotDeadline_of_due {s : State} {p : PendingSlot} (h : s.slotDue = some p) :
    exec .slotDeadline s = .next (s.expireSlot p) := by
  show execSlotDeadline s = _
  rw [execSlotDeadline, h]

/-- Settles O11: the slot it meets tells what a request does with it, and an expiry is the slot's own deadline. -/
theorem modeRequestsHoldTheSlot : Obligations.ModeRequestsHoldTheSlot := by
  unfold Obligations.ModeRequestsHoldTheSlot
  refine ⟨fun s m c tag g ha hg hr => ⟨fun hslot => ?opens, fun p hp hl hm hgen => ?refreshes,
    fun p hp hl hne => ?mismatches⟩, fun s p hp hd => ?expires⟩
  case opens =>
    have hdecide : s.decideSlot c m (m.quotes g) = s.openSlot m (m.quotes g) c := by
      obtain hempty | ⟨p, hp, hl, hne⟩ := hslot
      · exact decideSlot_of_empty hempty
      · exact decideSlot_of_own_other hp hl hne
    exact exec_mode_decided tag ha hg hr (hdecide.trans (openSlot_eq s m c hg))
  case refreshes => exact exec_mode_decided tag ha hg hr (decideSlot_of_own_same hp hl hm hgen)
  case mismatches =>
    exact exec_mode_decided tag ha hg hr ((decideSlot_of_mismatch hp hl hne).trans (mismatchSlot_eq s p m c))
  case expires =>
    rw [exec_slotDeadline_of_due (slotDue_eq_some hp hd), expireSlot_eq]
    rfl

end Sys2Proof.Machine
end

section
/-! PROOFS. The roles of the three links (R213) and what the power-on windows hold (R214). Link S may make the requests of
one list; the role check refuses the others before their argument bytes, the mode or a window are looked at. -/

namespace Sys2Proof.Machine

open Sys2Proof

/-! ### The role check (R212, R213) -/

/-- The requests that R213 opens to Link S, in its order. -/
def stationRequests : List Req :=
  [.unloaded, .loaded, .dispatch, .cancel, .setExpedite, .hold, .halt, .setAttention, .readLayout, .readStatus,
    .readBlock, .readBoat, .readQueue, .readReports, .readCounters]

theorem roleAllows_control (c : ControlLink) (r : Req) : roleAllows c.link r = true := by
  cases c <;> rfl

theorem roleAllows_station (r : Req) : roleAllows .s r = decide (r ∈ stationRequests) := by
  cases r <;> rfl

theorem roleAllows_station_iff (r : Req) : roleAllows .s r = true ↔ r ∈ stationRequests := by
  rw [roleAllows_station, decide_eq_true_iff]

theorem roleAllows_station_eq_false {r : Req} (h : r ∉ stationRequests) : roleAllows .s r = false := by
  rw [roleAllows_station, decide_eq_false h]

/-- The role check comes before every other check of a known request. -/
theorem decide_of_role_refused {l : Link} {r : Req} (h : roleAllows l r = false) (s : State) (args : List Byte) :
    s.decide l r args = (.bare .notPermitted, s) :=
  if_pos h

/-- A request outside the role of its link is answered NOT_PERMITTED and changes nothing but the response. -/
theorem exec_of_role_refused {s : State} {l : Link} {r : Req} (hs : (s.port l).sending = none)
    (h : roleAllows l r = false) (tag : Byte) (args : List Byte) :
    exec (requestCommand r l tag args) s = .next (s.replies l r tag .notPermitted []) := by
  rw [exec_idle hs, decide_of_role_refused h]
  rfl

/-! ### The power-on windows (R214) -/

theorem Window.holds_iff (w : Window) (b : BlockId) :
    w.holds b = true ↔ w.base.val ≤ b.val ∧ b.val < w.base.val + w.size := by
  rw [Window.holds, Bool.and_eq_true, decide_eq_true_iff, decide_eq_true_iff]

@[simp] theorem Window.all_holds (b : BlockId) : Window.all.holds b = true :=
  (Window.holds_iff _ b).mpr ⟨Nat.zero_le _, Nat.lt_of_lt_of_eq b.isLt (Nat.zero_add 32).symm⟩

@[simp] theorem Window.off_holds (b : BlockId) : Window.off.holds b = false :=
  Bool.eq_false_iff.mpr fun h => Nat.not_lt_zero _ ((Window.holds_iff _ b).mp h).2

/-- With the power-on windows Link A and Link B address every block. -/
theorem reset_windows_control (c : ControlLink) (b : BlockId) : (State.reset.windows.get c.link).holds b = true := by
  have hwindows : State.reset.windows.get c.link = { w0 := .all, w1 := .off } := by cases c <;> rfl
  rw [hwindows, Windows.holds, Window.all_holds, Bool.true_or]

/-- With the power-on windows Link S addresses no block. -/
theorem reset_windows_station (b : BlockId) : (State.reset.windows.get .s).holds b = false := by
  have hwindows : State.reset.windows.get .s = { w0 := .off, w1 := .off } := rfl
  rw [hwindows, Windows.holds, Window.off_holds, Bool.false_or]

/-- Settles O5: the role check is membership in `stationRequests` for Link S and open for the others, and each power-on
window is either the whole part or off. -/
theorem linkRolesFollowThePort : Obligations.LinkRolesFollowThePort := by
  unfold Obligations.LinkRolesFollowThePort
  refine ⟨fun r => ⟨roleAllows_control .a r, roleAllows_control .b r⟩, roleAllows_station_iff, ?refused, ?windows⟩
  case refused =>
    intro s r tag args hs hr
    exact exec_of_role_refused hs (roleAllows_station_eq_false hr) tag args
  case windows =>
    intro b
    exact ⟨reset_windows_control .a b, reset_windows_control .b b, reset_windows_station b⟩

end Sys2Proof.Machine
end

section
/-! PROOFS. What a link has to read and when its attention line is asserted (R220 to R224). SET ATTENTION, READ REPORTS
and a hold-off deadline each write the reader of one link and evaluate its line; READ REPORTS in between frees the entries
that every UP link has read. -/

namespace Sys2Proof.Machine

open Sys2Proof

/-! ### The evaluation of an attention line (R223) -/

section
variable (r : Reader) (now : Time) (up : Bool) (ring : List Report)

/-- An evaluation writes the line and its hold-off alone. -/
theorem evaluate_eq :
    r.evaluate now up ring =
      { r with line := (r.evaluate now up ring).line, holdOff := (r.evaluate now up ring).holdOff } := by
  unfold Reader.evaluate
  split
  · split <;> rfl
  · split <;> rfl

@[simp] theorem evaluate_cursor : (r.evaluate now up ring).cursor = r.cursor := by rw [evaluate_eq]

@[simp] theorem evaluate_skipped : (r.evaluate now up ring).skipped = r.skipped := by rw [evaluate_eq]

@[simp] theorem evaluate_attention : (r.evaluate now up ring).attention = r.attention := by rw [evaluate_eq]

@[simp] theorem evaluate_interval : (r.evaluate now up ring).interval = r.interval := by rw [evaluate_eq]

theorem evaluate_attended : Attended r (r.evaluate now up ring) now (r.due up ring) := by
  unfold Attended Reader.evaluate
  cases hline : r.line
  case false => cases hdue : r.due up ring <;> cases hold : r.holdOff <;> simp [hline, hold]
  case true => cases hdue : r.due up ring <;> simp [hline]

end

/-- A line that is due and has no hold-off is asserted. -/
theorem evaluate_of_due {r : Reader} {up : Bool} {ring : List Report} (hline : r.line = false) (hold : r.holdOff = none)
    (hdue : r.due up ring = true) (now : Time) : r.evaluate now up ring = { r with line := true } := by
  simp [Reader.evaluate, hline, hold, hdue]

/-- A negated line that is not due stays as it is. -/
theorem evaluate_of_not_due {r : Reader} {up : Bool} {ring : List Report} (hline : r.line = false)
    (hdue : r.due up ring = false) (now : Time) : r.evaluate now up ring = r := by
  simp [Reader.evaluate, hline, hdue]

/-! ### One link's reader -/

theorem setReader_reader_ne (s : State) {l k : Link} (r : Reader) (h : k ≠ l) :
    (s.setReader l r).reader k = s.reader k :=
  PerLink.get_put_ne _ _ h

theorem setReader_unread_self (s : State) (l : Link) (r : Reader) :
    (s.setReader l r).unread l = s.reports.ring.drop r.cursor := by
  simp [State.unread]

theorem setReader_unread_ne (s : State) {l k : Link} (r : Reader) (h : k ≠ l) :
    (s.setReader l r).unread k = s.unread k :=
  congrArg (fun q : Reader => s.reports.ring.drop q.cursor) (setReader_reader_ne s r h)

/-- The line of one link evaluated on the state as it stands (R223). -/
def State.evaluateLine (s : State) (l : Link) : State :=
  s.setReader l ((s.reader l).evaluate s.timeBase (s.up l) s.reports.ring)

@[simp] theorem evaluateLine_ring (s : State) (l : Link) : (s.evaluateLine l).reports.ring = s.reports.ring := rfl

theorem evaluateLine_reader_self (s : State) (l : Link) :
    (s.evaluateLine l).reader l = (s.reader l).evaluate s.timeBase (s.up l) s.reports.ring :=
  setReader_reader_self s l _

@[simp] theorem evaluateLine_unread (s : State) (l k : Link) : (s.evaluateLine l).unread k = s.unread k := by
  by_cases h : k = l
  case pos => rw [h, State.evaluateLine, setReader_unread_self, evaluate_cursor, State.unread]
  case neg => exact setReader_unread_ne s _ h

theorem evaluateLine_attended (s : State) (l : Link) :
    Attended (s.reader l) ((s.evaluateLine l).reader l) s.timeBase
      (s.up l && anyWanted (s.reader l).attention (s.unread l)) := by
  rw [evaluateLine_reader_self]
  exact evaluate_attended _ _ _ _

/-! ### Freeing what every UP link has read (R220) -/

@[simp] theorem freeEntries_ring (s : State) : s.freeEntries.reports.ring = s.reports.ring.drop s.freeCount := rfl

@[simp] theorem freeEntries_up (s : State) (l : Link) : s.freeEntries.up l = s.up l := rfl

theorem freeEntries_reader (s : State) (l : Link) :
    s.freeEntries.reader l =
      { s.reader l with cursor := if s.up l then (s.reader l).cursor - s.freeCount else 0 } := by
  cases l <;> rfl

/-- The number of oldest entries that a link lets go: those it has read while it is UP, else all of them. -/
def State.lets (s : State) (l : Link) : Nat := if s.up l then (s.reader l).cursor else s.reports.ring.length

theorem freeCount_eq (s : State) :
    s.freeCount = min s.reports.ring.length (min (s.lets .a) (min (s.lets .b) (s.lets .s))) := rfl

theorem freeCount_le_lets (s : State) (l : Link) : s.freeCount ≤ s.lets l := by
  rw [freeCount_eq]
  cases l <;> omega

/-- No entry is freed that an UP link has not read. -/
theorem freeCount_le {s : State} {l : Link} (h : s.up l = true) : s.freeCount ≤ (s.reader l).cursor := by
  have hlets := freeCount_le_lets s l
  rwa [State.lets, if_pos h] at hlets

/-- As many as some link lets go are freed, or the whole ring is. -/
theorem freeCount_attained (s : State) : s.freeCount = s.reports.ring.length ∨ ∃ l, s.freeCount = s.lets l := by
  have hcount := freeCount_eq s
  have hone : s.freeCount = s.reports.ring.length ∨ s.freeCount = s.lets .a ∨ s.freeCount = s.lets .b ∨
      s.freeCount = s.lets .s := by omega
  obtain hall | ha | hb | hs := hone
  · exact .inl hall
  · exact .inr ⟨_, ha⟩
  · exact .inr ⟨_, hb⟩
  · exact .inr ⟨_, hs⟩

/-- Either everything is freed, or all that comes before the cursor of some UP link. -/
theorem freeCount_cases (s : State) :
    s.freeCount = s.reports.ring.length ∨ ∃ l, s.up l = true ∧ s.freeCount = (s.reader l).cursor := by
  obtain hall | ⟨l, hl⟩ := freeCount_attained s
  · exact .inl hall
  · rw [State.lets] at hl
    split at hl
    case isTrue hup => exact .inr ⟨l, hup, hl⟩
    case isFalse => exact .inl hl

theorem freeEntries_unread {s : State} {l : Link} (h : s.up l = true) : s.freeEntries.unread l = s.unread l := by
  have hle := freeCount_le h
  rw [State.unread, freeEntries_reader, freeEntries_ring, if_pos h, List.drop_drop, Nat.add_sub_cancel' hle, State.unread]

/-- What is left begins with an entry that some UP link has not read. -/
theorem freeEntries_front (s : State) :
    s.freeEntries.reports.ring = [] ∨ ∃ l, s.up l = true ∧ s.freeEntries.unread l = s.freeEntries.reports.ring := by
  obtain hall | ⟨l, hup, hcursor⟩ := freeCount_cases s
  · exact .inl (List.drop_eq_nil_of_le (Nat.le_of_eq hall.symm))
  · refine .inr ⟨l, hup, ?_⟩
    rw [freeEntries_unread hup, freeEntries_ring, State.unread, hcursor]

/-! ### READ REPORTS (R220, R222, R223) -/

/-- A link's cursor past `n` more entries and its skipped count cleared (R220, R222). -/
def State.markRead (s : State) (l : Link) (n : Nat) : State :=
  s.setReader l { s.reader l with cursor := (s.reader l).cursor + n, skipped := 0 }

@[simp] theorem markRead_up (s : State) (l : Link) (n : Nat) (k : Link) : (s.markRead l n).up k = s.up k := rfl

theorem markRead_unread_self (s : State) (l : Link) (n : Nat) : (s.markRead l n).unread l = (s.unread l).drop n := by
  rw [State.markRead, setReader_unread_self, State.unread, List.drop_drop]

theorem markRead_unread_ne (s : State) {l k : Link} (n : Nat) (h : k ≠ l) : (s.markRead l n).unread k = s.unread k :=
  setReader_unread_ne s _ h

/-- On an UP link a READ REPORTS moves the cursor, frees what every UP link has read and evaluates the line. -/
theorem advanceCursor_of_up {s : State} {l : Link} (h : s.up l = true) (most : Nat) :
    s.advanceCursor l most = (s.markRead l (s.unreadFor l most).length).freeEntries.evaluateLine l := by
  have hup : (s.markRead l (s.unreadFor l most).length).freeEntries.up l = true := h
  rw [State.evaluateLine, hup]
  exact if_pos h

theorem advanceCursor_of_down {s : State} {l : Link} (h : s.up l = false) (most : Nat) :
    s.advanceCursor l most = s.markRead l (s.unreadFor l most).length :=
  if_neg (ne_true_of_eq_false h)

/-- The entries returned are the oldest unread ones of an UP link. -/
theorem unreadFor_eq (s : State) (l : Link) (most : Nat) :
    s.unreadFor l most = if s.up l then (s.unread l).take (min most 2) else [] := rfl

/-- Only the Report Queue changes. -/
theorem advanceCursor_eq (s : State) (l : Link) (most : Nat) :
    s.advanceCursor l most = { s with reports := (s.advanceCursor l most).reports } := by
  cases hup : s.up l
  case false => rw [advanceCursor_of_down hup]; rfl
  case true => rw [advanceCursor_of_up hup]; rfl

theorem advanceCursor_rest (s : State) (l : Link) (most : Nat) :
    (s.advanceCursor l most).surroundings = s.surroundings ∧ (s.advanceCursor l most).mc = s.mc ∧
      (s.advanceCursor l most).table = s.table ∧ (s.advanceCursor l most).roster = s.roster ∧
      (s.advanceCursor l most).bays = s.bays ∧ (s.advanceCursor l most).dispatch = s.dispatch := by
  rw [advanceCursor_eq]
  exact ⟨rfl, rfl, rfl, rfl, rfl, rfl⟩

theorem advanceCursor_skipped (s : State) (l : Link) (most : Nat) : ((s.advanceCursor l most).reader l).skipped = 0 := by
  cases hup : s.up l
  case false => simp [advanceCursor_of_down hup, State.markRead]
  case true => simp [advanceCursor_of_up hup, evaluateLine_reader_self, freeEntries_reader, State.markRead]

/-- The link has read what was returned. -/
theorem advanceCursor_unread_self {s : State} {l : Link} (h : s.up l = true) (most : Nat) :
    (s.advanceCursor l most).unread l = (s.unread l).drop (s.unreadFor l most).length := by
  rw [advanceCursor_of_up h, evaluateLine_unread, freeEntries_unread (s := s.markRead l _) h, markRead_unread_self]

/-- The other UP links have to read what they had. -/
theorem advanceCursor_unread_ne {s : State} {l k : Link} (hne : k ≠ l) (hk : s.up k = true) (most : Nat) :
    (s.advanceCursor l most).unread k = s.unread k := by
  cases hup : s.up l
  case false => rw [advanceCursor_of_down hup, markRead_unread_ne s _ hne]
  case true =>
    rw [advanceCursor_of_up hup, evaluateLine_unread, freeEntries_unread (s := s.markRead l _) hk,
      markRead_unread_ne s _ hne]

theorem advanceCursor_ring (s : State) (l : Link) (most : Nat) :
    ∃ k, (s.advanceCursor l most).reports.ring = s.reports.ring.drop k := by
  cases hup : s.up l
  case false => exact ⟨0, by rw [advanceCursor_of_down hup]; rfl⟩
  case true => exact ⟨_, by rw [advanceCursor_of_up hup, evaluateLine_ring, freeEntries_ring]; rfl⟩

theorem advanceCursor_nextSeq (s : State) (l : Link) (most : Nat) :
    (s.advanceCursor l most).reports.nextSeq = s.reports.nextSeq := by
  cases hup : s.up l
  case false => rw [advanceCursor_of_down hup]; rfl
  case true => rw [advanceCursor_of_up hup]; rfl

/-- What every UP link has read is freed. -/
theorem advanceCursor_front {s : State} {l : Link} (h : s.up l = true) (most : Nat) :
    (s.advanceCursor l most).reports.ring = [] ∨
      ∃ k, s.up k = true ∧ (s.advanceCursor l most).unread k = (s.advanceCursor l most).reports.ring := by
  simp only [advanceCursor_of_up h, evaluateLine_ring, evaluateLine_unread]
  exact freeEntries_front (s.markRead l _)

theorem advanceCursor_attended {s : State} {l : Link} (h : s.up l = true) (most : Nat) :
    Attended (s.reader l) ((s.advanceCursor l most).reader l) s.timeBase
      (anyWanted (s.reader l).attention ((s.advanceCursor l most).unread l)) := by
  have heval := evaluateLine_attended (s.markRead l (s.unreadFor l most).length).freeEntries l
  rw [freeEntries_up, markRead_up, h, Bool.true_and, freeEntries_reader, State.markRead, setReader_reader_self] at heval
  rw [advanceCursor_of_up h, evaluateLine_unread]
  exact heval

/-! ### The two requests at the Request Checker -/

theorem admits_setAttention {s : State} {l : Link} (h : (s.port l).sending = none) : s.admits l .setAttention :=
  ⟨h, by cases l <;> rfl, rfl⟩

theorem readArgs_setAttention (kinds : Byte) {interval : Nat} (h : interval ≤ 255) :
    readArgs .setAttention [kinds, BitVec.ofNat 8 interval] = .ok (.setAttention kinds interval) :=
  congrArg (fun n => Except.ok (Call.setAttention kinds n)) (Nat.mod_eq_of_lt (Nat.lt_succ_of_le h))

theorem readArgs_readReports {most : Nat} (hleast : 1 ≤ most) (hmost : most ≤ 8) :
    readArgs .readReports (b1 most) = .ok (.readReports most) := by
  have hbyte : arg1 (b1 most) 0 = most := Nat.mod_eq_of_lt (by omega)
  have hread : argIn (arg1 (b1 most) 0) 1 8 0 = .ok most := by rw [hbyte, argIn_eq hleast hmost]
  exact congrArg (· >>= fun n => .ok (Call.readReports n)) hread

theorem exec_setAttention {s : State} {l : Link} (tag kinds : Byte) {interval : Nat} (hs : (s.port l).sending = none)
    (h : interval ≤ 255) :
    exec (.setAttention l tag [kinds, BitVec.ofNat 8 interval]) s =
      .next ((s.setReader l (Reader.evaluate { s.reader l with attention := kinds, interval := interval } s.timeBase
        (s.up l) s.reports.ring)).replies l .setAttention tag .ok []) :=
  exec_own_anywhere tag (admits_setAttention hs) (readArgs_setAttention kinds h) rfl

theorem exec_readReports {s : State} {l : Link} (tag : Byte) {most : Nat} (ha : s.admits l .readReports)
    (hleast : 1 ≤ most) (hmost : most ≤ 8) :
    exec (.readReports l tag (b1 most)) s =
      .next ((s.advanceCursor l most).replies l .readReports tag .ok (s.reportsData l most)) :=
  exec_own_anywhere tag ha (readArgs_readReports hleast hmost) rfl

/-! ### The hold-off deadline (R223) -/

theorem exec_holdOffDeadline_of_due {s : State} {l : Link} {d : Time} (hold : (s.reader l).holdOff = some d)
    (hd : reached s.timeBase d = true) :
    exec (.holdOffDeadline l) s = .next (s.reads l
      (Reader.evaluate { s.reader l with holdOff := none } s.timeBase (s.up l) s.reports.ring)) :=
  congrArg Host.Outcome.next (if_pos (due_iff.mpr ⟨d, hold, hd⟩))

/-- Settles O48: each command replaces one reader and evaluates its line, and a read frees in between. -/
theorem readersAdvanceAlone : Obligations.ReadersAdvanceAlone := by
  unfold Obligations.ReadersAdvanceAlone
  refine ⟨?attention, ?read, ?holdOff⟩
  case attention =>
    intro s l tag kinds interval hs hinterval
    have hreader := setReader_reader_self s l (Reader.evaluate { s.reader l with
      attention := kinds, interval := interval } s.timeBase (s.up l) s.reports.ring)
    refine ⟨_, exec_setAttention tag kinds hs hinterval, replies_surroundings rfl ..,
      (congrArg Reader.attention hreader).trans (evaluate_attention ..),
      (congrArg Reader.interval hreader).trans (evaluate_interval ..),
      (congrArg Reader.cursor hreader).trans (evaluate_cursor ..),
      (congrArg Reader.skipped hreader).trans (evaluate_skipped ..),
      fun k hk => setReader_reader_ne s _ hk, rfl, ?line, rfl, rfl, rfl⟩
    case line =>
      show Attended _ ((s.setReader l _).reader l) _ _
      rw [hreader]
      exact evaluate_attended _ _ _ _
  case read =>
    intro s l tag most es ha _ hleast hmost hes
    rw [← unreadFor_eq] at hes
    subst hes
    obtain ⟨hsurroundings, hrest⟩ := advanceCursor_rest s l most
    exact ⟨_, exec_readReports tag ha hleast hmost, replies_surroundings hsurroundings .., advanceCursor_skipped s l most,
      fun hup => advanceCursor_unread_self hup most, fun k hne hk => advanceCursor_unread_ne hne hk most,
      advanceCursor_ring s l most, advanceCursor_nextSeq s l most, fun hup => advanceCursor_front hup most,
      fun hup => advanceCursor_attended hup most, hrest⟩
  case holdOff =>
    rintro s l d r rfl hold hd hline
    have hexec := exec_holdOffDeadline_of_due hold hd
    refine ⟨fun hup hwanted => ?wanted, fun hnot => ?unwanted⟩
    case wanted =>
      have hdue := Bool.and_eq_true_iff.mpr ⟨hup, hwanted⟩
      rw [hexec, evaluate_of_due (r := { s.reader l with holdOff := none }) hline rfl hdue]
    case unwanted =>
      have hdue := Bool.and_eq_false_iff.mpr hnot
      rw [hexec, evaluate_of_not_due (r := { s.reader l with holdOff := none }) hline hdue]

end Sys2Proof.Machine
end

section
/-! PROOFS. Facts about lists, and sequences of steps, that the proofs below share. -/

namespace Sys2Proof.Machine

open Sys2Proof

/-! ### Lists -/

section
variable {α β : Type}

theorem sublist_of_eq {as bs : List α} (h : as = bs) : as.Sublist bs := h ▸ List.Sublist.refl as

/-- A value that a list without repeats takes once comes from one element. -/
theorem eq_of_nodup_map {f : α → β} {as : List α} (h : (as.map f).Nodup) {a b : α} (ha : a ∈ as) (hb : b ∈ as)
    (hab : f a = f b) : a = b := by
  induction as with
  | nil => exact absurd ha List.not_mem_nil
  | cons c cs ih =>
    obtain ⟨hc, hcs⟩ := List.nodup_cons.mp h
    rcases List.mem_cons.mp ha with hac | ha <;> rcases List.mem_cons.mp hb with hbc | hb
    · exact hac.trans hbc.symm
    · exact absurd (List.mem_map.mpr ⟨b, hb, hab.symm.trans (congrArg f hac)⟩) hc
    · exact absurd (List.mem_map.mpr ⟨a, ha, hab.trans (congrArg f hbc)⟩) hc
    · exact ih hcs ha hb

theorem nodup_map_of_inj {f : α → β} {as : List α} (h : as.Nodup) (hf : ∀ a ∈ as, ∀ b ∈ as, f a = f b → a = b) :
    (as.map f).Nodup :=
  List.pairwise_map.mpr (List.Pairwise.imp_of_mem (fun ha hb hne heq => hne (hf _ ha _ hb heq)) h)

theorem flatMap_congr_on {f g : α → List β} {as : List α} (h : ∀ a ∈ as, f a = g a) : as.flatMap f = as.flatMap g := by
  rw [List.flatMap_def, List.flatMap_def, List.map_congr_left h]

end

/-! ### Sequences of steps -/

/-- A sequence of steps of a relation, each from where the one before ends. -/
inductive Sequence (r : State → State → Prop) (s : State) : State → Prop where
  | refl : Sequence r s s
  | tail {t u : State} (before : Sequence r s t) (last : r t u) : Sequence r s u

namespace Sequence

variable {r q : State → State → Prop} {s t u : State}

theorem single (h : r s t) : Sequence r s t := .tail .refl h

theorem trans (h : Sequence r s t) (h' : Sequence r t u) : Sequence r s u := by
  induction h' with
  | refl => exact h
  | tail _ last ih => exact .tail ih last

theorem head (h : r s t) (h' : Sequence r t u) : Sequence r s u := (single h).trans h'

theorem mono (hrq : ∀ s t, r s t → q s t) (h : Sequence r s t) : Sequence q s t := by
  induction h with
  | refl => exact .refl
  | tail _ last ih => exact .tail ih (hrq _ _ last)

end Sequence

end Sys2Proof.Machine
end

section
/-! PROOFS. The report ring (R219 to R223): what an append, a dropped entry, a freed entry and an evaluation leave in the
ring and in each reader, and how the reports of one event follow one another. -/

namespace Sys2Proof.Machine

open Sys2Proof

/-! ### The operations of the Report Queue, reader by reader -/

@[simp] theorem mapReaders_reader (s : State) (f : Link → Reader → Reader) (l : Link) :
    (s.mapReaders f).reader l = f l (s.reader l) := by cases l <;> rfl

@[simp] theorem evaluateAll_reader (s : State) (l : Link) :
    s.evaluateAll.reader l = (s.reader l).evaluate s.timeBase (s.up l) s.reports.ring :=
  mapReaders_reader s _ l

@[simp] theorem evaluateAll_ring (s : State) : s.evaluateAll.reports.ring = s.reports.ring := rfl

@[simp] theorem evaluateAll_nextSeq (s : State) : s.evaluateAll.reports.nextSeq = s.reports.nextSeq := rfl

@[simp] theorem freeEntries_nextSeq (s : State) : s.freeEntries.reports.nextSeq = s.reports.nextSeq := rfl

/-- What the dropping of the oldest entry makes of one link's reader (R221). -/
def State.readerAfterDrop (s : State) (l : Link) : Reader :=
  if s.up l then
    if (s.reader l).cursor = 0 then
      Reader.evaluate { s.reader l with skipped := satInc Config.byteCeiling (s.reader l).skipped } s.timeBase true
        s.reports.ring.tail
    else { s.reader l with cursor := (s.reader l).cursor - 1 }
  else { s.reader l with cursor := 0 }

theorem dropOldest_reader (s : State) (l : Link) : s.dropOldest.reader l = s.readerAfterDrop l := by cases l <;> rfl

@[simp] theorem dropOldest_ring (s : State) : s.dropOldest.reports.ring = s.reports.ring.tail := rfl

/-- A state whose ring has room for one more entry (R221). -/
def State.withRoom (s : State) : State := if s.reports.ring.length < Config.ringCapacity then s else s.dropOldest

/-- A state whose ring holds entries only while a link is UP (R220). -/
def State.heldForSome (s : State) : State := if s.noneUp then s.freeEntries else s

/-- An append makes room, pushes the entry, holds it only for an UP link, and evaluates every line (R219 to R223). -/
theorem append_steps (s : State) (k : ReportKind) (f : Option (FaultKind × FaultClass)) (b : Option BlockId)
    (x : Option BoatId) (d : Details) :
    s.append k f b x d = (s.withRoom.pushReport k f b x d).heldForSome.evaluateAll := rfl

theorem noneUp_iff (s : State) : s.noneUp = true ↔ ∀ l, s.up l = false := by
  constructor
  · intro h l
    simp only [State.noneUp, Bool.not_eq_true', Bool.or_eq_false_iff] at h
    obtain ⟨⟨ha, hb⟩, hs⟩ := h
    cases l <;> assumption
  · intro h
    simp [State.noneUp, h]

theorem noneUp_eq_false_iff (s : State) : s.noneUp = false ↔ ∃ l, s.up l = true := by
  rw [← Bool.not_eq_true, noneUp_iff, Classical.not_forall]
  exact exists_congr fun l => by rw [Bool.not_eq_false]

theorem onlyReports_trans {s t u : State} (h : t = { s with reports := t.reports })
    (h' : u = { t with reports := u.reports }) : u = { s with reports := u.reports } := by
  rw [h] at h'
  exact h'

theorem withRoom_eq (s : State) : s.withRoom = { s with reports := s.withRoom.reports } := by
  unfold State.withRoom; split <;> rfl

theorem heldForSome_eq (s : State) : s.heldForSome = { s with reports := s.heldForSome.reports } := by
  unfold State.heldForSome; split <;> rfl

/-- Only the Report Queue changes at an append. -/
theorem append_eq (s : State) (k : ReportKind) (f : Option (FaultKind × FaultClass)) (b : Option BlockId)
    (x : Option BoatId) (d : Details) : s.append k f b x d = { s with reports := (s.append k f b x d).reports } := by
  rw [append_steps]
  exact onlyReports_trans (onlyReports_trans (onlyReports_trans (withRoom_eq s) rfl) (heldForSome_eq _)) rfl

/-! ### Dropping the oldest entry (R221) -/

section
variable {s : State}

@[simp] theorem withRoom_up (s : State) (l : Link) : s.withRoom.up l = s.up l := by
  unfold State.withRoom; split <;> rfl

@[simp] theorem withRoom_timeBase (s : State) : s.withRoom.timeBase = s.timeBase := by
  unfold State.withRoom; split <;> rfl

@[simp] theorem withRoom_nextSeq (s : State) : s.withRoom.reports.nextSeq = s.reports.nextSeq := by
  unfold State.withRoom; split <;> rfl

theorem withRoom_of_short (h : s.reports.ring.length < 64) : s.withRoom = s := if_pos h

theorem withRoom_of_full (h : s.reports.ring.length = 64) : s.withRoom = s.dropOldest :=
  if_neg (Nat.not_lt.mpr (Nat.le_of_eq h.symm))

theorem readerAfterDrop_keeps (s : State) (l : Link) :
    (s.readerAfterDrop l).attention = (s.reader l).attention ∧ (s.readerAfterDrop l).interval = (s.reader l).interval := by
  unfold State.readerAfterDrop
  split
  · split
    · simp
    · exact ⟨rfl, rfl⟩
  · exact ⟨rfl, rfl⟩

theorem readerAfterDrop_down {l : Link} (h : s.up l = false) : s.readerAfterDrop l = { s.reader l with cursor := 0 } := by
  simp [State.readerAfterDrop, h]

theorem readerAfterDrop_read {l : Link} (hup : s.up l = true) (hc : (s.reader l).cursor ≠ 0) :
    s.readerAfterDrop l = { s.reader l with cursor := (s.reader l).cursor - 1 } := by
  simp [State.readerAfterDrop, hup, hc]

theorem readerAfterDrop_unread {l : Link} (hup : s.up l = true) (hc : (s.reader l).cursor = 0) :
    s.readerAfterDrop l =
      Reader.evaluate { s.reader l with skipped := satInc Config.byteCeiling (s.reader l).skipped } s.timeBase true
        s.reports.ring.tail := by
  simp [State.readerAfterDrop, hup, hc]

end

/-! ### Readers and rings that are sound -/

/-- No hold-off runs while the line is asserted: what every evaluation keeps (R223). -/
def Reader.settled (r : Reader) : Prop := r.line = true → r.holdOff = none

/-- A link's line agrees with its due entries and its hold-off: `State.attentionSound` for one reader (R223). -/
def Reader.attentive (r : Reader) (up : Bool) (ring : List Report) : Prop :=
  (r.line = true → r.due up ring = true ∧ r.holdOff = none) ∧
    (r.due up ring = true → r.line = true ∨ r.holdOff.isSome = true)

theorem Reader.due_iff (r : Reader) (up : Bool) (ring : List Report) :
    r.due up ring = true ↔ up = true ∧ ∃ e ∈ ring.drop r.cursor, inAttention r.attention e.kind = true := by
  rw [Reader.due, Bool.and_eq_true, List.any_eq_true]

theorem attentionSound_iff (s : State) :
    s.attentionSound ↔ ∀ l, (s.reader l).attentive (s.up l) s.reports.ring := by
  simp only [State.attentionSound, Reader.attentive, Reader.due_iff]

theorem Reader.attentive.settled {r : Reader} {up : Bool} {ring : List Report} (h : r.attentive up ring) : r.settled :=
  fun hline => (h.1 hline).2

theorem Reader.evaluate_settled {r : Reader} (h : r.settled) (now : Time) (up : Bool) (ring : List Report) :
    (r.evaluate now up ring).settled := by
  unfold Reader.settled at h ⊢
  unfold Reader.evaluate
  cases hline : r.line
  case false => cases hdue : r.due up ring <;> cases hold : r.holdOff <;> simp [hline, hold]
  case true => cases hdue : r.due up ring <;> simp [hline, h hline]

/-- What is due does not depend on the line. -/
theorem Reader.due_evaluate (r : Reader) (now : Time) (up up' : Bool) (ring ring' : List Report) :
    (r.evaluate now up ring).due up' ring' = r.due up' ring' := by
  simp only [Reader.due, evaluate_cursor, evaluate_attention]

/-- An evaluation makes a settled reader attentive (R223). -/
theorem Reader.evaluate_attentive {r : Reader} (h : r.settled) (now : Time) (up : Bool) (ring : List Report) :
    (r.evaluate now up ring).attentive up ring := by
  refine ⟨?_, ?_⟩ <;> rw [Reader.due_evaluate]
  · intro hline
    refine ⟨?_, Reader.evaluate_settled h now up ring hline⟩
    refine Classical.byContradiction fun hdue => ?_
    unfold Reader.evaluate at hline
    simp [hdue] at hline
    split at hline <;> simp_all
  · intro hdue
    unfold Reader.evaluate
    cases hline : r.line <;> cases hold : r.holdOff <;> simp [hdue, hline, hold]

/-- A reader that has read everything and whose line is negated is attentive. -/
theorem Reader.attentive_of_not_due {r : Reader} {up : Bool} {ring : List Report} (hline : r.line = false)
    (hdue : r.due up ring = false) : r.attentive up ring := by
  simp [Reader.attentive, hline, hdue]

/-! ### One report -/

/-- The ring with room for one more entry: sound, at most 63 entries. -/
theorem withRoom_length {s : State} (h : s.reports.ring.length ≤ 64) : s.withRoom.reports.ring.length ≤ 63 := by
  unfold State.withRoom
  split
  case isTrue hlt => exact Nat.le_of_lt_succ hlt
  case isFalse => rw [dropOldest_ring, List.length_tail]; omega

theorem withRoom_ring {s : State} (h : s.reports.ring.length ≤ 64) (e : Report) :
    s.withRoom.reports.ring ++ [e] = newest64 (s.reports.ring ++ [e]) := by
  by_cases hlt : s.reports.ring.length < 64
  · rw [withRoom_of_short hlt, newest64_of_short (by simp; omega)]
  · have hfull : s.reports.ring.length = 64 := by omega
    obtain ⟨a, as, hring⟩ : ∃ a as, s.reports.ring = a :: as := List.exists_cons_of_length_pos (by omega)
    have hlen : as.length = 63 := by rw [hring] at hfull; simpa using hfull
    rw [withRoom_of_full hfull, dropOldest_ring, hring, newest64]
    simp [hlen]

theorem withRoom_reader_keeps (s : State) (l : Link) :
    (s.withRoom.reader l).attention = (s.reader l).attention ∧ (s.withRoom.reader l).interval = (s.reader l).interval := by
  unfold State.withRoom
  split
  · exact ⟨rfl, rfl⟩
  · rw [dropOldest_reader]
    exact readerAfterDrop_keeps s l

theorem withRoom_reader_down {s : State} (h : s.ringSound) {l : Link} (hd : s.up l = false) :
    s.withRoom.reader l = s.reader l := by
  obtain ⟨_, _, hreaders⟩ := h
  unfold State.withRoom
  split
  · rfl
  · rw [dropOldest_reader, readerAfterDrop_down hd, ← (hreaders l).2.2 hd]

theorem withRoom_cursor_le {s : State} (h : s.ringSound) (l : Link) :
    (s.withRoom.reader l).cursor ≤ s.withRoom.reports.ring.length := by
  obtain ⟨_, _, hreaders⟩ := h
  have hcursor := (hreaders l).1
  unfold State.withRoom
  split
  · exact hcursor
  · rw [dropOldest_reader, dropOldest_ring, List.length_tail]
    unfold State.readerAfterDrop
    split
    · split
      next hzero => rw [evaluate_cursor]; exact Nat.le_trans (Nat.le_of_eq hzero) (Nat.zero_le _)
      next => exact Nat.sub_le_sub_right hcursor 1
    · exact Nat.zero_le _

/-- What an UP link has to read after a new entry, and what it has skipped. -/
theorem withRoom_reader_up {s : State} (h : s.ringSound) {l : Link} (hup : s.up l = true) (e : Report) :
    s.withRoom.unread l ++ [e] = newest64 (s.unread l ++ [e]) ∧
      (s.withRoom.reader l).skipped = min ((s.reader l).skipped + ((s.unread l).length + 1 - 64)) 255 := by
  obtain ⟨hlen, _, hreaders⟩ := h
  obtain ⟨hcursor, hskipped, _⟩ := hreaders l
  have hunread : (s.unread l).length = s.reports.ring.length - (s.reader l).cursor := List.length_drop
  by_cases hlt : s.reports.ring.length < 64
  · rw [withRoom_of_short hlt, newest64_of_short (by simp; omega)]
    exact ⟨rfl, by omega⟩
  · have hfull : s.reports.ring.length = 64 := by omega
    rw [withRoom_of_full hfull]
    unfold State.unread at hunread ⊢
    rw [dropOldest_reader, dropOldest_ring]
    by_cases hc : (s.reader l).cursor = 0
    · have hring := withRoom_ring hlen e
      rw [withRoom_of_full hfull, dropOldest_ring] at hring
      rw [readerAfterDrop_unread hup hc, evaluate_cursor, evaluate_skipped]
      simp only [hc, List.drop_zero]
      refine ⟨hring, ?_⟩
      simp only [satInc, Config.byteCeiling, hfull]
    · rw [readerAfterDrop_read hup hc, newest64_of_short (by simp; omega), List.drop_tail,
        Nat.sub_add_cancel (Nat.pos_of_ne_zero hc)]
      exact ⟨rfl, by show (s.reader l).skipped = _; omega⟩

theorem freeCount_of_noneUp {s : State} (h : s.noneUp = true) : s.freeCount = s.reports.ring.length := by
  have hdown := (noneUp_iff s).mp h
  simp [State.freeCount, hdown]

@[simp] theorem heldForSome_up (s : State) (l : Link) : s.heldForSome.up l = s.up l := by
  unfold State.heldForSome; split <;> rfl

@[simp] theorem heldForSome_timeBase (s : State) : s.heldForSome.timeBase = s.timeBase := by
  unfold State.heldForSome; split <;> rfl

@[simp] theorem heldForSome_nextSeq (s : State) : s.heldForSome.reports.nextSeq = s.reports.nextSeq := by
  unfold State.heldForSome; split <;> rfl

theorem heldForSome_of_up {s : State} {l : Link} (h : s.up l = true) : s.heldForSome = s :=
  if_neg (by rw [(noneUp_eq_false_iff s).mpr ⟨l, h⟩]; exact Bool.false_ne_true)

theorem heldForSome_ring_of_down {s : State} (h : ∀ l, s.up l = false) : s.heldForSome.reports.ring = [] := by
  have hnone := (noneUp_iff s).mpr h
  rw [State.heldForSome, if_pos hnone, freeEntries_ring, freeCount_of_noneUp hnone, List.drop_length]

theorem heldForSome_reader_keeps (s : State) (l : Link) :
    s.heldForSome.reader l = { s.reader l with cursor := (s.heldForSome.reader l).cursor } := by
  unfold State.heldForSome
  split
  · rw [freeEntries_reader]
  · rfl

theorem heldForSome_reader_down {s : State} {l : Link} (hd : s.up l = false) (hc : (s.reader l).cursor = 0) :
    s.heldForSome.reader l = s.reader l := by
  rw [heldForSome_reader_keeps]
  unfold State.heldForSome
  split
  · simp [freeEntries_reader, hd, ← hc]
  · rfl

/-- The report entry that an append pushes. -/
def State.reportEntry (s : State) (k : ReportKind) (f : Option (FaultKind × FaultClass)) (b : Option BlockId)
    (x : Option BoatId) (d : Details) : Report :=
  { seq := s.reports.nextSeq, kind := k, fault := f, time := s.timeBase, block := b, boat := x, details := d }

section
variable (s : State) (k : ReportKind) (f : Option (FaultKind × FaultClass)) (b : Option BlockId) (x : Option BoatId)
  (d : Details)

@[simp] theorem pushReport_ring :
    (s.pushReport k f b x d).reports.ring = s.reports.ring ++ [s.reportEntry k f b x d] := rfl

@[simp] theorem pushReport_reader (l : Link) : (s.pushReport k f b x d).reader l = s.reader l := rfl

@[simp] theorem pushReport_up (l : Link) : (s.pushReport k f b x d).up l = s.up l := rfl

theorem withRoom_reportEntry : s.withRoom.reportEntry k f b x d = s.reportEntry k f b x d := by
  unfold State.reportEntry; simp

@[simp] theorem append_up (l : Link) : (s.append k f b x d).up l = s.up l := by rw [append_eq]; rfl

theorem append_nextSeq : (s.append k f b x d).reports.nextSeq = s.reports.nextSeq + 1 := by
  rw [append_steps, evaluateAll_nextSeq, heldForSome_nextSeq]
  exact congrArg (· + 1) (withRoom_nextSeq s)

end

section
variable {s : State} (k : ReportKind) (f : Option (FaultKind × FaultClass)) (b : Option BlockId) (x : Option BoatId)
  (d : Details)

theorem append_ring_of_up (h : s.ringSound) {l : Link} (hup : s.up l = true) :
    (s.append k f b x d).reports.ring = newest64 (s.reports.ring ++ [s.reportEntry k f b x d]) := by
  have hup' : (s.withRoom.pushReport k f b x d).up l = true := by simpa using hup
  rw [append_steps, evaluateAll_ring, heldForSome_of_up hup', pushReport_ring, withRoom_reportEntry, withRoom_ring h.1]

theorem append_ring_of_down (h : ∀ l, s.up l = false) : (s.append k f b x d).reports.ring = [] := by
  rw [append_steps, evaluateAll_ring, heldForSome_ring_of_down fun l => by simpa using h l]

/-- The reader of one link after an append, but for its line and hold-off. -/
theorem append_reader (l : Link) :
    (s.append k f b x d).reader l =
      Reader.evaluate ((s.withRoom.pushReport k f b x d).heldForSome.reader l) s.timeBase (s.up l)
        (s.append k f b x d).reports.ring := by
  rw [append_steps, evaluateAll_reader, evaluateAll_ring, heldForSome_up, heldForSome_timeBase, pushReport_up,
    withRoom_up]
  rw [show (s.withRoom.pushReport k f b x d).timeBase = s.withRoom.timeBase from rfl, withRoom_timeBase]

theorem append_reader_up {l : Link} (hup : s.up l = true) :
    (s.append k f b x d).reader l =
      Reader.evaluate (s.withRoom.reader l) s.timeBase true (s.append k f b x d).reports.ring := by
  have hup' : (s.withRoom.pushReport k f b x d).up l = true := by simpa using hup
  rw [append_reader, heldForSome_of_up hup', pushReport_reader, hup]

theorem append_reader_down (h : s.ringSound) {l : Link} (hd : s.up l = false) :
    (s.append k f b x d).reader l =
      Reader.evaluate (s.reader l) s.timeBase false (s.append k f b x d).reports.ring := by
  have hcursor : (s.reader l).cursor = 0 := (h.2.2 l).2.2 hd
  have hroom := withRoom_reader_down h hd
  rw [append_reader, heldForSome_reader_down (by simpa using hd) (by rw [pushReport_reader, hroom, hcursor]),
    pushReport_reader, hroom, hd]

theorem append_unread_up (h : s.ringSound) {l : Link} (hup : s.up l = true) :
    (s.append k f b x d).unread l = newest64 (s.unread l ++ [s.reportEntry k f b x d]) := by
  have hcursor := withRoom_cursor_le h l
  rw [State.unread, append_reader_up k f b x d hup, evaluate_cursor, append_ring_of_up k f b x d h hup,
    ← withRoom_ring h.1, List.drop_append_of_le_length hcursor, ← (withRoom_reader_up h hup _).1]
  rfl

theorem append_keeps (l : Link) :
    ((s.append k f b x d).reader l).attention = (s.reader l).attention ∧
      ((s.append k f b x d).reader l).interval = (s.reader l).interval := by
  rw [append_reader, evaluate_attention, evaluate_interval, heldForSome_reader_keeps]
  exact withRoom_reader_keeps s l

/-- One append adds one report. -/
theorem append_reportsAdded :
    ReportsAdded s (s.append k f b x d) [{ kind := k, fault := f, block := b, boat := x, details := d }] := by
  intro h
  refine ⟨append_nextSeq s k f b x d, fun ⟨l, hup⟩ => append_ring_of_up k f b x d h hup,
    append_ring_of_down k f b x d, fun l hup => ⟨append_unread_up k f b x d h hup, ?_⟩, fun l hd => ?_,
    append_keeps k f b x d⟩
  · rw [append_reader_up k f b x d hup, evaluate_skipped]
    exact (withRoom_reader_up h hup (s.reportEntry k f b x d)).2
  · rw [append_reader_down k f b x d h hd, evaluate_cursor, evaluate_skipped]
    exact ⟨(h.2.2 l).2.2 hd, rfl⟩

theorem append_ringSound (h : s.ringSound) : (s.append k f b x d).ringSound := by
  obtain ⟨-, hring, hempty, hup, hdown, -⟩ := append_reportsAdded k f b x d h
  have hlen : (s.append k f b x d).reports.ring.length ≤ 64 := by
    cases hnone : s.noneUp
    case true => rw [hempty ((noneUp_iff s).mp hnone)]; exact Nat.zero_le _
    case false => rw [hring ((noneUp_eq_false_iff s).mp hnone), length_newest64]; exact Nat.min_le_right _ _
  refine ⟨hlen, fun hd => hempty fun l => by simpa using hd l, fun l => ?_⟩
  rw [append_up]
  cases hl : s.up l
  case false =>
    obtain ⟨hcursor, hskipped⟩ := hdown l hl
    rw [hcursor, hskipped]
    exact ⟨Nat.zero_le _, (h.2.2 l).2.1, fun _ => rfl⟩
  case true =>
    refine ⟨?_, by rw [(hup l hl).2]; exact Nat.min_le_right _ _, fun hc => by cases hc⟩
    rw [append_reader_up k f b x d hl, evaluate_cursor, append_ring_of_up k f b x d h hl, ← withRoom_ring h.1,
      List.length_append]
    exact Nat.le_add_right_of_le (withRoom_cursor_le h l)

theorem withRoom_settled {l : Link} (h : (s.reader l).settled) : (s.withRoom.reader l).settled := by
  unfold State.withRoom
  split
  · exact h
  · rw [dropOldest_reader]
    unfold State.readerAfterDrop
    split
    · split
      · exact Reader.evaluate_settled
          (r := { s.reader l with skipped := satInc Config.byteCeiling (s.reader l).skipped }) h _ _ _
      · exact h
    · exact h

theorem append_attentionSound (h : s.attentionSound) : (s.append k f b x d).attentionSound := by
  rw [attentionSound_iff] at h ⊢
  intro l
  have hsettled : ((s.withRoom.pushReport k f b x d).heldForSome.reader l).settled := by
    rw [heldForSome_reader_keeps]
    exact withRoom_settled (h l).settled
  rw [append_reader, append_up]
  exact Reader.evaluate_attentive hsettled _ _ _

/-- A line is evaluated once at an append that drops no entry the link has yet to read. -/
theorem append_attended_once (h : s.ringSound) {l : Link}
    (hkept : s.reports.ring.length < 64 ∨ s.up l = false ∨ (s.reader l).cursor ≠ 0) :
    Attended (s.reader l) ((s.append k f b x d).reader l) s.timeBase
      (s.up l && anyWanted (s.reader l).attention ((s.append k f b x d).unread l)) := by
  cases hup : s.up l
  case false =>
    rw [append_reader_down k f b x d h hup]
    exact evaluate_attended _ _ _ _
  case true =>
    have hline : ∃ c, s.withRoom.reader l = { s.reader l with cursor := c } := by
      by_cases hlt : s.reports.ring.length < 64
      · exact ⟨_, by rw [withRoom_of_short hlt]⟩
      · have hc : (s.reader l).cursor ≠ 0 := by simpa [hlt, hup] using hkept
        exact ⟨_, by rw [withRoom_of_full (by have := h.1; omega), dropOldest_reader, readerAfterDrop_read hup hc]⟩
    obtain ⟨c, hc⟩ := hline
    rw [State.unread, append_reader_up k f b x d hup, evaluate_cursor, hc]
    exact evaluate_attended { s.reader l with cursor := c } _ true _

/-- A line is evaluated twice where the link loses an unread entry: at the drop and at the append. -/
theorem append_attended_twice {l : Link} (hfull : s.reports.ring.length = 64) (hup : s.up l = true)
    (hc : (s.reader l).cursor = 0) : ∃ m : Reader,
      Attended (s.reader l) m s.timeBase (anyWanted (s.reader l).attention s.reports.ring.tail) ∧
      m.interval = (s.reader l).interval ∧
      Attended m ((s.append k f b x d).reader l) s.timeBase
        (anyWanted (s.reader l).attention ((s.append k f b x d).unread l)) := by
  have hroom : s.withRoom.reader l = Reader.evaluate { s.reader l with
      skipped := satInc Config.byteCeiling (s.reader l).skipped } s.timeBase true s.reports.ring.tail := by
    rw [withRoom_of_full hfull, dropOldest_reader, readerAfterDrop_unread hup hc]
  refine ⟨s.withRoom.reader l, ?_, by rw [hroom, evaluate_interval], ?_⟩
  · have hdue : (s.reader l).due true s.reports.ring.tail = anyWanted (s.reader l).attention s.reports.ring.tail := by
      rw [Reader.due, hc, List.drop_zero, Bool.true_and, anyWanted]
    rw [hroom, ← hdue]
    exact evaluate_attended { s.reader l with skipped := _ } s.timeBase true s.reports.ring.tail
  · have hpush := evaluate_attended (s.withRoom.reader l) s.timeBase true (s.append k f b x d).reports.ring
    have hattention : (s.withRoom.reader l).attention = (s.reader l).attention := (withRoom_reader_keeps s l).1
    rw [State.unread, append_reader_up k f b x d hup, evaluate_cursor, ← hattention]
    exact hpush

end

/-- Settles O46: an append adds one report and evaluates each line once or twice, and what is freed no UP link misses. -/
theorem reportsJoinTheRing : Obligations.ReportsJoinTheRing := by
  unfold Obligations.ReportsJoinTheRing
  refine ⟨?append, ?free⟩
  case append =>
    rintro s t kind fault block boat d rfl
    exact ⟨append_eq .., append_reportsAdded kind fault block boat d, fun h l =>
      ⟨append_attended_once kind fault block boat d h, append_attended_twice kind fault block boat d⟩⟩
  case free =>
    rintro s t h rfl
    refine ⟨rfl, rfl, ⟨_, freeEntries_ring s⟩, fun l hup => freeEntries_unread hup, fun _ => freeEntries_front s,
      fun hd => ?_, fun l => ?_⟩
    · rw [freeEntries_ring, freeCount_of_noneUp ((noneUp_iff s).mpr hd), List.drop_length]
    · rw [freeEntries_reader]
      exact ⟨rfl, rfl, rfl, rfl, rfl⟩

end Sys2Proof.Machine
end

section
/-! PROOFS. The reports an operation makes, as a list: `Tells s t rs` says that the Report Queue of `t` is that of `s` after
the reports `rs` in this order. Lists join along a run of operations, and each list is one `ReportsAdded` (R219 to R223). -/

namespace Sys2Proof.Machine

open Sys2Proof

/-! ### Reports one after the other -/

/-- The state with a report appended as a unit says it. -/
def State.tell (s : State) (r : Told) : State := s.append r.kind r.fault r.block r.boat r.details

/-- The state with several reports appended in order. -/
def State.tellAll (s : State) (rs : List Told) : State := rs.foldl State.tell s

/-- The Report Queue of `t` is that of `s` after these reports; the links that are UP and the Time Base, which an append
reads, are the same. -/
def Tells (s t : State) (rs : List Told) : Prop :=
  t.timeBase = s.timeBase ∧ (∀ l, t.up l = s.up l) ∧ t.reports = (s.tellAll rs).reports

@[simp] theorem tell_timeBase (s : State) (r : Told) : (s.tell r).timeBase = s.timeBase := append_timeBase ..

@[simp] theorem tell_up (s : State) (r : Told) (l : Link) : (s.tell r).up l = s.up l := append_up ..

theorem tellAll_cons (s : State) (r : Told) (rs : List Told) : s.tellAll (r :: rs) = (s.tell r).tellAll rs := rfl

theorem tellAll_append (s : State) (xs ys : List Told) : s.tellAll (xs ++ ys) = (s.tellAll xs).tellAll ys :=
  List.foldl_append

theorem tellAll_keeps (s : State) (rs : List Told) :
    (s.tellAll rs).timeBase = s.timeBase ∧ ∀ l, (s.tellAll rs).up l = s.up l := by
  induction rs generalizing s with
  | nil => exact ⟨rfl, fun _ => rfl⟩
  | cons r rs ih =>
    obtain ⟨htime, hup⟩ := ih (s.tell r)
    rw [tellAll_cons]
    exact ⟨htime.trans (tell_timeBase s r), fun l => (hup l).trans (tell_up s r l)⟩

/-- What an append makes of the Report Queue depends on the queue, the Time Base and the links that are UP alone. -/
theorem tell_congr {s t : State} (htime : t.timeBase = s.timeBase) (hup : ∀ l, t.up l = s.up l)
    (hreports : t.reports = s.reports) (r : Told) : (t.tell r).reports = (s.tell r).reports := by
  have hroom : t.withRoom.reports = s.withRoom.reports := by
    unfold State.withRoom
    rw [hreports]
    split
    · exact hreports
    · simp only [State.dropOldest, State.mapReaders, hreports, htime, hup]
  have hpush : (t.withRoom.pushReport r.kind r.fault r.block r.boat r.details).reports =
      (s.withRoom.pushReport r.kind r.fault r.block r.boat r.details).reports := by
    simp only [State.pushReport, hroom, withRoom_timeBase, htime]
  generalize hu : t.withRoom.pushReport r.kind r.fault r.block r.boat r.details = u at hpush
  generalize hv : s.withRoom.pushReport r.kind r.fault r.block r.boat r.details = v at hpush
  have hup' : ∀ l, u.up l = v.up l := fun l => by rw [← hu, ← hv]; simpa using hup l
  have htime' : u.timeBase = v.timeBase := by
    rw [← hu, ← hv]
    exact (withRoom_timeBase t).trans (htime.trans (withRoom_timeBase s).symm)
  have hheld : u.heldForSome.reports = v.heldForSome.reports := by
    unfold State.heldForSome
    rw [show u.noneUp = v.noneUp by simp only [State.noneUp, hup']]
    split
    · simp only [State.freeEntries, State.freeCount, State.mapReaders, State.reader, hpush, hup']
    · exact hpush
  rw [State.tell, State.tell, append_steps, append_steps, hu, hv]
  simp only [State.evaluateAll, State.mapReaders, hheld, heldForSome_up, heldForSome_timeBase, hup', htime']

theorem tellAll_congr {s t : State} (htime : t.timeBase = s.timeBase) (hup : ∀ l, t.up l = s.up l)
    (hreports : t.reports = s.reports) (rs : List Told) : (t.tellAll rs).reports = (s.tellAll rs).reports := by
  induction rs generalizing s t with
  | nil => exact hreports
  | cons r rs ih =>
    rw [tellAll_cons, tellAll_cons]
    exact ih (by simpa using htime) (by simpa using hup) (tell_congr htime hup hreports r)

/-! ### The lists of reports along a run of operations -/

/-- An operation that leaves the Report Queue, the Time Base and the links alone tells nothing. -/
theorem Tells.nothing {s t : State} (htime : t.timeBase = s.timeBase) (hup : ∀ l, t.up l = s.up l)
    (hreports : t.reports = s.reports) : Tells s t [] := ⟨htime, hup, hreports⟩

theorem Tells.refl (s : State) : Tells s s [] := .nothing rfl (fun _ => rfl) rfl

theorem Tells.trans {s t u : State} {xs ys : List Told} (h : Tells s t xs) (h' : Tells t u ys) :
    Tells s u (xs ++ ys) := by
  obtain ⟨htime, hup, hreports⟩ := h
  obtain ⟨htime', hup', hreports'⟩ := h'
  obtain ⟨hkeptTime, hkeptUp⟩ := tellAll_keeps s xs
  refine ⟨htime'.trans htime, fun l => (hup' l).trans (hup l), ?_⟩
  rw [hreports', tellAll_append]
  exact tellAll_congr (htime.trans hkeptTime.symm) (fun l => (hup l).trans (hkeptUp l).symm) hreports ys

/-- What is told before an operation that tells nothing. -/
theorem Tells.trans_nothing {s t u : State} {rs : List Told} (h : Tells s t rs) (h' : Tells t u []) : Tells s u rs := by
  simpa using h.trans h'

/-- What is told after an update that leaves the Report Queue, the Time Base and the links alone. -/
theorem Tells.after_quiet {s t u : State} {rs : List Told} (h : Tells t u rs) (htime : t.timeBase = s.timeBase)
    (hup : ∀ l, t.up l = s.up l) (hreports : t.reports = s.reports) : Tells s u rs :=
  (Tells.nothing htime hup hreports).trans h

/-- What is told before such an update. -/
theorem Tells.then_quiet {s t u : State} {rs : List Told} (h : Tells s t rs) (htime : u.timeBase = t.timeBase)
    (hup : ∀ l, u.up l = t.up l) (hreports : u.reports = t.reports) : Tells s u rs :=
  h.trans_nothing (.nothing htime hup hreports)

theorem up_congr {s t : State} (h : t.ports = s.ports) (l : Link) : t.up l = s.up l := by
  rw [State.up, State.port, h]; rfl

/-- The same for an operation that keeps the surroundings. -/
theorem Tells.of_surroundings {s t : State} (h : t.surroundings = s.surroundings) (hreports : t.reports = s.reports) :
    Tells s t [] := by
  simp only [State.surroundings, Prod.mk.injEq] at h
  obtain ⟨-, htime, -, hports, -⟩ := h
  exact .nothing htime (up_congr hports) hreports

theorem append_tells (s : State) (k : ReportKind) (f : Option (FaultKind × FaultClass)) (b : Option BlockId)
    (x : Option BoatId) (d : Details) :
    Tells s (s.append k f b x d) [{ kind := k, fault := f, block := b, boat := x, details := d }] :=
  ⟨append_timeBase .., append_up s k f b x d, rfl⟩

/-- A fold of operations tells what its steps tell. -/
theorem foldl_tells {α : Type} {f : State → α → State} {g : α → List Told} (h : ∀ t a, Tells t (f t a) (g a))
    (as : List α) (s : State) : Tells s (as.foldl f s) (as.flatMap g) := by
  induction as generalizing s with
  | nil => exact .refl s
  | cons a as ih => exact (h s a).trans (ih (f s a))

/-! ### Reports told are reports added -/

theorem tellAll_ringSound {s : State} (h : s.ringSound) (rs : List Told) : (s.tellAll rs).ringSound := by
  induction rs generalizing s with
  | nil => exact h
  | cons r rs ih => exact ih (append_ringSound _ _ _ _ _ h)

theorem tellAll_attentionSound {s : State} (h : s.attentionSound) (rs : List Told) : (s.tellAll rs).attentionSound := by
  induction rs generalizing s with
  | nil => exact h
  | cons r rs ih => exact ih (append_attentionSound _ _ _ _ _ h)

theorem tellAll_reportsAdded (s : State) (rs : List Told) : ReportsAdded s (s.tellAll rs) rs := by
  induction rs generalizing s with
  | nil => exact .nil rfl
  | cons r rs ih =>
    exact ReportsAdded.append (xs := [r]) (append_reportsAdded _ _ _ _ _) (ih (s.tell r))
      (append_ringSound _ _ _ _ _) (tell_up s r) (tell_timeBase s r)

theorem Tells.reportsAdded {s t : State} {rs : List Told} (h : Tells s t rs) : ReportsAdded s t rs :=
  (ReportsAdded.congr_right h.2.2).mpr (tellAll_reportsAdded s rs)

theorem ringSound_congr {s t : State} (hup : ∀ l, t.up l = s.up l) (hreports : t.reports = s.reports) :
    t.ringSound ↔ s.ringSound := by
  simp only [State.ringSound, State.reader, hup, hreports]

theorem attentionSound_congr {s t : State} (hup : ∀ l, t.up l = s.up l) (hreports : t.reports = s.reports) :
    t.attentionSound ↔ s.attentionSound := by
  simp only [State.attentionSound, State.reader, hup, hreports]

/-- Whatever is told, ring and attention lines stay sound. -/
theorem Tells.sound {s t : State} {rs : List Told} (h : Tells s t rs) (hs : s.ringSound ∧ s.attentionSound) :
    t.ringSound ∧ t.attentionSound := by
  obtain ⟨-, hup, hreports⟩ := h
  have hup' : ∀ l, t.up l = (s.tellAll rs).up l := fun l => (hup l).trans ((tellAll_keeps s rs).2 l).symm
  exact ⟨(ringSound_congr hup' hreports).mpr (tellAll_ringSound hs.1 rs),
    (attentionSound_congr hup' hreports).mpr (tellAll_attentionSound hs.2 rs)⟩

theorem Tells.ringSound {s t : State} {rs : List Told} (h : Tells s t rs) (hs : s.ringSound) : t.ringSound := by
  obtain ⟨-, hup, hreports⟩ := h
  exact (ringSound_congr (fun l => (hup l).trans ((tellAll_keeps s rs).2 l).symm) hreports).mpr
    (tellAll_ringSound hs rs)

/-! ### What each shared operation tells -/

theorem modeReport_tells (s : State) (ev : ModeEvent) {i j k : Nat} (hi : i ≤ 65535) (hj : j ≤ 65535)
    (hk : k ≤ 65535) : Tells s (s.modeReport ev i j k) [.of .mode none none ev.code i j k] := by
  rw [modeReport_small s ev hi hj hk]
  exact append_tells ..

theorem DispatchEvent.code_le (ev : DispatchEvent) : ev.code ≤ 6 := by cases ev <;> decide

theorem dispatchReport_tells (s : State) (e : DispatchEntry) (ev : DispatchEvent) {i j : Nat} (hi : i ≤ 65535)
    (hj : j ≤ 65535) :
    Tells s (s.dispatchReport e ev i j) [.of .dispatch (some e.bay) (some e.boat) ev.code e.seq.toNat i j] := by
  have hev := ev.code_le
  have hseq := e.seq.isLt
  rw [State.dispatchReport, detail_small _ _ _ _ (by omega) (by omega) (by omega) (by omega)]
  exact append_tells ..

theorem Mode.code_le (m : Mode) : m.code ≤ 6 := by cases m <;> decide

theorem ChangeCause.code_le (c : ChangeCause) : c.code ≤ 4 := by cases c <;> decide

theorem VoidCause.code_le (c : VoidCause) : c.code ≤ 3 := by cases c <;> decide

theorem CancelCause.code_le (c : CancelCause) : c.code ≤ 3 := by cases c <;> decide

theorem Phase.code_le (p : Phase) : p.code ≤ 9 := by cases p <;> decide

theorem consentsCode_le (a b : Bool) : consentsCode a b ≤ 3 := by cases a <;> cases b <;> decide

theorem linkCode_le (l : Link) : linkCode l ≤ 2 := by cases l <;> decide

/-- The DISCARDED report of the slot, if one is open (R184). -/
def State.slotReports (s : State) (cause : Nat) : List Told :=
  match s.mc.slot with
  | some p => [.of .mode none none 4 p.request.req.code (linkCode p.link.link) cause]
  | none => []

theorem discardSlot_tells (s : State) {cause : Nat} (h : cause ≤ 1) :
    Tells s (s.discardSlot cause) (s.slotReports cause) := by
  unfold State.discardSlot State.slotReports
  cases hslot : s.mc.slot with
  | none => exact .refl s
  | some p =>
    have hr := p.request.code_le
    have hl := p.link.code_le
    have htell := modeReport_tells (s.setMc { s.mc with slot := none }) .discarded (i := p.request.code)
      (j := p.link.code) (k := cause) (by omega) (by omega) (by omega)
    rw [← p.request.req_code, ← p.link.linkCode_link] at htell
    dsimp only
    rw [← p.request.req_code, ← p.link.linkCode_link]
    exact htell.after_quiet rfl (fun _ => rfl) rfl

/-- The VOIDED reports of the dispatch list, each with the consents its entry held (R115, R121). -/
def State.voidReports (s : State) (voided : Nat) : List Told :=
  s.dispatch.map fun e =>
    .of .dispatch (some e.bay) (some e.boat) 6 e.seq.toNat voided (e.consentA.toNat + 2 * e.consentB.toNat)

theorem stopReports_eq (s : State) (new : Mode) (changed voided : Nat) :
    s.stopReports new changed voided =
      .of .mode none none 1 s.mode.code new.code changed :: (s.slotReports 0 ++ s.voidReports voided) := rfl

theorem voidReport_tells (s : State) (c : VoidCause) (e : DispatchEntry) :
    Tells s (s.voidReport c e) [.of .dispatch (some e.bay) (some e.boat) 6 e.seq.toNat c.code
      (e.consentA.toNat + 2 * e.consentB.toNat)] := by
  have hc := c.code_le
  have hconsents := consentsCode_le e.consentA e.consentB
  exact dispatchReport_tells s e .voided (by omega) (by omega)

theorem voidAll_tells (s : State) (c : VoidCause) : Tells s (s.voidAll c) (s.voidReports c.code) := by
  have hfold := foldl_tells (fun t e => voidReport_tells t c e) s.dispatch
    { s with dispatch := s.dispatch.map fun e => e.voided s.timeBase s.layout.settings.consentWindow }
  rw [← List.map_eq_flatMap] at hfold
  exact hfold.after_quiet rfl (fun _ => rfl) rfl

/-- The state with the mode, and the run mode and the permit that go with it (R178, R179). -/
def State.withMode (s : State) (new : Mode) : State :=
  s.setMc { s.mc with mode := new, runMode := runModeAfter new s.mc.runMode, permit := permitOf new }

/-- A change of mode sets the mode, reports it, discards the slot and adjusts the timers, in this order (R184, R185). -/
theorem changeMode_steps (s : State) (new : Mode) (c : ChangeCause) :
    s.changeMode new c =
      { ((s.withMode new).modeReport .changed s.mode.code new.code c.code).discardSlot 0 with
        dispatch := (((s.withMode new).modeReport .changed s.mode.code new.code c.code).discardSlot 0).dispatch.map fun e =>
          e.retime (((s.withMode new).modeReport .changed s.mode.code new.code c.code).discardSlot 0).timeBase s.mode
            new } := rfl

theorem changeMode_tells (s : State) (new : Mode) (c : ChangeCause) :
    Tells s (s.changeMode new c) (.of .mode none none 1 s.mode.code new.code c.code :: s.slotReports 0) := by
  have hold := s.mode.code_le
  have hnew := new.code_le
  have hc := c.code_le
  have hreport : Tells (s.withMode new) ((s.withMode new).modeReport .changed s.mode.code new.code c.code)
      [.of .mode none none 1 s.mode.code new.code c.code] :=
    modeReport_tells _ .changed (by omega) (by omega) (by omega)
  have hslot : ((s.withMode new).modeReport .changed s.mode.code new.code c.code).slotReports 0 = s.slotReports 0 := by
    unfold State.slotReports
    rw [modeReport_mc]
    rfl
  have hdiscard := discardSlot_tells ((s.withMode new).modeReport .changed s.mode.code new.code c.code) (Nat.zero_le 1)
  rw [hslot] at hdiscard
  rw [changeMode_steps]
  have htold : Tells s (((s.withMode new).modeReport .changed s.mode.code new.code c.code).discardSlot 0)
      (.of .mode none none 1 s.mode.code new.code c.code :: s.slotReports 0) :=
    (hreport.trans hdiscard).after_quiet rfl (fun _ => rfl) rfl
  exact htold.then_quiet rfl (fun _ => rfl) rfl

/-- Changing the mode and then voiding tells what `State.stopReports` lists. -/
theorem changeMode_voidAll_tells {s t : State} (new : Mode) (changed : ChangeCause) (voided : VoidCause)
    (ht : Tells (s.changeMode new changed) t []) (hdispatch : t.dispatch = (s.changeMode new changed).dispatch) :
    Tells s (t.voidAll voided) (s.stopReports new changed.code voided.code) := by
  have hretime (e : DispatchEntry) (now : Time) (m n : Mode) :
      (e.retime now m n).seq = e.seq ∧ (e.retime now m n).bay = e.bay ∧ (e.retime now m n).boat = e.boat ∧
        (e.retime now m n).consentA = e.consentA ∧ (e.retime now m n).consentB = e.consentB := by
    unfold DispatchEntry.retime
    split
    · split <;> exact ⟨rfl, rfl, rfl, rfl, rfl⟩
    · split <;> exact ⟨rfl, rfl, rfl, rfl, rfl⟩
    · exact ⟨rfl, rfl, rfl, rfl, rfl⟩
  have hvoid : t.voidReports voided.code = s.voidReports voided.code := by
    unfold State.voidReports
    rw [hdispatch, changeMode_dispatch, List.map_map]
    refine List.map_congr_left fun e _ => ?_
    obtain ⟨hseq, hbay, hboat, ha, hb⟩ := hretime e s.timeBase s.mode new
    simp only [Function.comp_apply, hseq, hbay, hboat, ha, hb]
  rw [stopReports_eq, ← hvoid]
  exact ((changeMode_tells s new changed).trans_nothing ht).trans (voidAll_tells t voided)

theorem enterHolding_tells (s : State) (c : ChangeCause) :
    Tells s (s.enterHolding c) (s.stopReports .holding c.code 0) :=
  changeMode_voidAll_tells .holding c .hold (.refl _) rfl

theorem enterHalted_tells (s : State) (c : ChangeCause) :
    Tells s (s.enterHalted c) (s.stopReports .halted c.code 1) :=
  changeMode_voidAll_tells .halted c .halt (.nothing rfl (fun _ => rfl) rfl) rfl

/-- The reports of the mode change that a fault class brings (R196). -/
def State.classReports (s : State) (c : FaultClass) : List Told :=
  match modeAfterFault c s.mode with
  | .halted => if s.mode = .halted then [] else s.stopReports .halted 3 1
  | .holding => if s.mode = .holding then [] else s.stopReports .holding 3 0
  | _ => []

theorem applyClass_tells (s : State) (c : FaultClass) : Tells s (s.applyClass c) (s.classReports c) := by
  unfold State.applyClass State.classReports
  cases c <;> cases hm : s.mode <;>
    simp only [modeAfterFault, reduceCtorEq, if_true, if_false] <;>
    solve
    | exact .refl s
    | exact enterHalted_tells s .fault
    | exact enterHolding_tells s .fault

theorem faultReports_eq (s : State) (k : FaultKind) (b : Option BlockId) (x : Option BoatId) (d : Details) :
    s.faultReports k b x d.d1 d.d2 d.d3 d.d4 =
      { kind := .fault, fault := some (k, k.cls), block := b, boat := x, details := d } :: s.classReports k.cls := rfl

/-- A fault tells its FAULT report and then those of the mode change its class brings (R196). -/
theorem raise_tells (s : State) (k : FaultKind) (b : Option BlockId) (x : Option BoatId) (d : Details) :
    Tells s (s.raise k b x d) (s.faultReports k b x d.d1 d.d2 d.d3 d.d4) := by
  generalize hu : (s.setMc (s.mc.recordFault k b x s.timeBase)).append .fault (some (k, k.cls)) b x d = u
  have happend : Tells s u [{ kind := .fault, fault := some (k, k.cls), block := b, boat := x, details := d }] :=
    hu ▸ (append_tells (s.setMc (s.mc.recordFault k b x s.timeBase)) ..).after_quiet rfl (fun _ => rfl) rfl
  have hmc : u.mc = s.mc.recordFault k b x s.timeBase := hu ▸ append_mc ..
  have hmode : u.mode = s.mode := by rw [State.mode, hmc, recordFault_keeps]; rfl
  have hslot : u.mc.slot = s.mc.slot := by rw [hmc, recordFault_keeps]
  have hdispatch : u.dispatch = s.dispatch := hu ▸ append_dispatch ..
  have hclass : u.classReports k.cls = s.classReports k.cls := by
    simp only [State.classReports, State.stopReports, hmode, hslot, hdispatch]
  rw [State.raise, hu, faultReports_eq, ← hclass]
  exact happend.trans (applyClass_tells u k.cls)

/-- The BAY report of a move of a bay to a phase (R101). -/
def State.phaseReports (s : State) (b : BlockId) (p : Phase) : List Told :=
  match s.bay b with
  | some y => bayReport b (s.entry b).occupant y.phase p
  | none => []

theorem setPhase_tells (s : State) (b : BlockId) (p : Phase) : Tells s (s.setPhase b p) (s.phaseReports b p) := by
  unfold State.setPhase State.phaseReports bayReport
  cases hbay : s.bay b with
  | none => exact .refl s
  | some y =>
    have hy := y.phase.code_le
    have hp := p.code_le
    dsimp only
    split
    case isTrue => exact .refl s
    case isFalse =>
      rw [detail_small _ _ _ _ (by omega) (by omega) (by omega) (by omega)]
      exact (append_tells (s.setBay b { y with phase := p }) ..).after_quiet rfl (fun _ => rfl) rfl

theorem cancelEntry_tells (s : State) (e : DispatchEntry) (c : CancelCause) {link : Nat} (h : link ≤ 2) :
    Tells s (s.cancelEntry e c link)
      [.of .dispatch (some e.bay) (some e.boat) 5 e.seq.toNat c.code link] := by
  have hc := c.code_le
  exact (dispatchReport_tells (s.removeEntry e) e .canceled (by omega) (by omega)).after_quiet rfl (fun _ => rfl) rfl

end Sys2Proof.Machine
end

section
/-! PROOFS. What every event inside the machine keeps: `Event s t`. The surroundings stay, the Report Queue grows by reports
alone, the permit goes with the mode, CONFIGURE is neither entered nor left, tag codes stay, and dispatch entries only leave
the list. One lemma per operation; the invariants of a step read off what they need. -/

namespace Sys2Proof.Machine

open Sys2Proof

/-- What makes a dispatch entry one of its list: its sequence number and its bay (R104). -/
def DispatchEntry.key (e : DispatchEntry) : Byte × BlockId := (e.seq, e.bay)

/-- `t` comes from `s` by changes that an event inside the machine may make. -/
structure Event (s t : State) : Prop where
  surroundings : t.surroundings = s.surroundings
  tells : ∃ rs, Tells s t rs
  permit : s.permitAgrees → t.permitAgrees
  configure : t.mode = .configure ↔ s.mode = .configure
  codes : ∀ x, (t.boat x).map (·.tagCode) = (s.boat x).map (·.tagCode)
  nextDispatch : t.nextDispatch = s.nextDispatch
  dispatch : (s.dispatch.map (·.seq)).Nodup →
    (t.dispatch.map DispatchEntry.key).Sublist (s.dispatch.map DispatchEntry.key)

theorem map_seq_eq (es : List DispatchEntry) : es.map (·.seq) = (es.map DispatchEntry.key).map Prod.fst := by
  rw [List.map_map]
  rfl

theorem map_bay_eq (es : List DispatchEntry) : es.map (·.bay) = (es.map DispatchEntry.key).map Prod.snd := by
  rw [List.map_map]
  rfl

/-- Sequence numbers held once are still held once in a sublist. -/
theorem nodup_seq_of_sublist {es ds : List DispatchEntry}
    (h : (ds.map DispatchEntry.key).Sublist (es.map DispatchEntry.key)) (hes : (es.map (·.seq)).Nodup) :
    (ds.map (·.seq)).Nodup := by
  rw [map_seq_eq] at hes ⊢
  exact hes.sublist (h.map _)

namespace Event

variable {s t u : State}

theorem refl (s : State) : Event s s :=
  ⟨rfl, ⟨[], .refl s⟩, id, Iff.rfl, fun _ => rfl, rfl, fun _ => .refl _⟩

theorem trans (h : Event s t) (h' : Event t u) : Event s u := by
  obtain ⟨rs, htells⟩ := h.tells
  obtain ⟨rs', htells'⟩ := h'.tells
  exact ⟨h'.surroundings.trans h.surroundings, ⟨_, htells.trans htells'⟩, h'.permit ∘ h.permit,
    h'.configure.trans h.configure, fun x => (h'.codes x).trans (h.codes x), h'.nextDispatch.trans h.nextDispatch,
    fun hseq => (h'.dispatch (nodup_seq_of_sublist (h.dispatch hseq) hseq)).trans (h.dispatch hseq)⟩

/-- The same with the last operation first, so that it determines the states between. -/
theorem after (h' : Event t u) (h : Event s t) : Event s u := h.trans h'

/-- An operation that keeps all that an `Event` speaks of. -/
theorem of_fields (hsurroundings : t.surroundings = s.surroundings) (hreports : t.reports = s.reports)
    (hmc : t.mc = s.mc) (hroster : t.roster = s.roster) (hdispatch : t.dispatch = s.dispatch)
    (hnext : t.nextDispatch = s.nextDispatch) : Event s t := by
  refine ⟨hsurroundings, ⟨[], .of_surroundings hsurroundings hreports⟩, ?_, ?_, fun x => ?_, hnext, fun _ => ?_⟩
  · rw [State.permitAgrees, State.permitAgrees, State.mode, State.mode, hmc]; exact id
  · rw [State.mode, State.mode, hmc]
  · rw [State.boat, State.slot, hroster]; rfl
  · exact sublist_of_eq (congrArg (·.map DispatchEntry.key) hdispatch)

/-- The roster may change as long as every slot keeps its tag code. -/
theorem of_roster {r : Vector Slot 24}
    (h : ∀ x, ((vget r x).boat).map (·.tagCode) = (s.boat x).map (·.tagCode)) : Event s { s with roster := r } :=
  ⟨rfl, ⟨[], .nothing rfl (fun _ => rfl) rfl⟩, id, Iff.rfl, h, rfl, fun _ => .refl _⟩

/-- The dispatch list may change as long as every entry kept has its sequence number and its bay. -/
theorem of_dispatch {es : List DispatchEntry}
    (h : (s.dispatch.map (·.seq)).Nodup → (es.map DispatchEntry.key).Sublist (s.dispatch.map DispatchEntry.key)) :
    Event s { s with dispatch := es } :=
  ⟨rfl, ⟨[], .nothing rfl (fun _ => rfl) rfl⟩, id, Iff.rfl, fun _ => rfl, rfl, h⟩

/-- The Mode Controller may change as long as mode and permit go together and CONFIGURE is neither entered nor left. -/
theorem of_mc {c : ModeController} (hpermit : s.permitAgrees → (s.setMc c).permitAgrees)
    (hmode : c.mode = .configure ↔ s.mode = .configure) : Event s (s.setMc c) :=
  ⟨rfl, ⟨[], .nothing rfl (fun _ => rfl) rfl⟩, hpermit, hmode, fun _ => rfl, rfl, fun _ => .refl _⟩

/-- A fold of events is an event. -/
theorem foldl {α : Type} {f : State → α → State} (h : ∀ t a, Event t (f t a)) (as : List α) (s : State) :
    Event s (as.foldl f s) := by
  induction as generalizing s with
  | nil => exact refl s
  | cons a as ih => exact (h s a).trans (ih (f s a))

end Event

/-! ### Updates of one table -/

theorem setEntry_event (s : State) (b : BlockId) (e : Entry) : Event s (s.setEntry b e) := .of_fields rfl rfl rfl rfl rfl rfl

theorem modEntry_event (s : State) (b : BlockId) (f : Entry → Entry) : Event s (s.modEntry b f) := setEntry_event ..

theorem setBay_event (s : State) (b : BlockId) (y : Bay) : Event s (s.setBay b y) := .of_fields rfl rfl rfl rfl rfl rfl

theorem modBay_event (s : State) (b : BlockId) (f : Bay → Bay) : Event s (s.modBay b f) := by
  unfold State.modBay
  split
  · exact .refl s
  · exact setBay_event ..

theorem modBrake_event (s : State) (b : BlockId) (f : Brake → Brake) : Event s (s.modBrake b f) :=
  .of_fields rfl rfl rfl rfl rfl rfl

theorem modSwitch_event (s : State) (b : BlockId) (f : SwitchRecord → SwitchRecord) : Event s (s.modSwitch b f) :=
  .of_fields rfl rfl rfl rfl rfl rfl

theorem setChannel_event (s : State) (c : ChannelId) (x : Channel) : Event s (s.setChannel c x) :=
  .of_fields rfl rfl rfl rfl rfl rfl

theorem setTagWindow_event (s : State) (p : PortId) (w : Option TagWindow) : Event s (s.setTagWindow p w) :=
  .of_fields rfl rfl rfl rfl rfl rfl

theorem removeEntry_event (s : State) (e : DispatchEntry) : Event s (s.removeEntry e) :=
  .of_dispatch fun _ => List.filter_sublist.map _

/-- Entries may change in place as long as each keeps its sequence number and its bay. -/
theorem mapDispatch_event (s : State) {f : DispatchEntry → DispatchEntry} (h : ∀ e, (f e).key = e.key) :
    Event s { s with dispatch := s.dispatch.map f } := by
  refine .of_dispatch fun _ => ?_
  refine sublist_of_eq ?_
  rw [List.map_map]
  exact List.map_congr_left fun e _ => h e

theorem append_event (s : State) (k : ReportKind) (f : Option (FaultKind × FaultClass)) (b : Option BlockId)
    (x : Option BoatId) (d : Details) : Event s (s.append k f b x d) := by
  refine ⟨append_surroundings .., ⟨_, append_tells ..⟩, ?_, ?_, fun y => ?_, append_nextDispatch .., fun _ => ?_⟩
  · rw [State.permitAgrees, State.permitAgrees, State.mode, State.mode, append_mc]; exact id
  · rw [State.mode, append_mc, State.mode]
  · rw [State.boat, State.slot, append_roster]; rfl
  · exact sublist_of_eq (congrArg (·.map DispatchEntry.key) (append_dispatch ..))

/-! ### The roster -/

theorem boat_mapBoat (t : Slot) (f : Boat → Boat) : (t.mapBoat f).boat = t.boat.map f := by cases t <;> rfl

theorem boat_withPath (t : Slot) (p : List BlockId) : (t.withPath p).boat = t.boat := by cases t <;> rfl

theorem boat_advance (t : Slot) (b : BlockId) : (t.advance b).boat = t.boat := by cases t <;> rfl

theorem boat_setSlot_self (s : State) (x : BoatId) (t : Slot) : (s.setSlot x t).boat x = t.boat := by
  rw [State.boat, setSlot_slot_self]

theorem boat_setSlot_ne (s : State) {x y : BoatId} (t : Slot) (h : y ≠ x) : (s.setSlot x t).boat y = s.boat y := by
  rw [State.boat, setSlot_slot_ne s t h, State.boat]

/-- A slot may change as long as it keeps its tag code. -/
theorem setSlot_event (s : State) {x : BoatId} {t : Slot} (h : t.boat.map (·.tagCode) = (s.boat x).map (·.tagCode)) :
    Event s (s.setSlot x t) := by
  refine .of_roster fun y => ?_
  by_cases hy : y = x
  · rw [hy, vget_vput_self, h]
  · rw [vget_vput_ne _ _ hy]; rfl

theorem modBoat_event (s : State) (x : BoatId) {f : Boat → Boat} (h : ∀ t, (f t).tagCode = t.tagCode) :
    Event s (s.modBoat x f) := by
  refine setSlot_event s ?_
  rw [boat_mapBoat, Option.map_map, State.boat]
  exact congrArg (Option.map · _) (funext h)

theorem setPath_event (s : State) (x : BoatId) (p : List BlockId) : Event s (s.setPath x p) :=
  setSlot_event s (by rw [boat_withPath, State.boat])

/-! ### Reports, modes and faults -/

theorem dispatchReport_event (s : State) (e : DispatchEntry) (ev : DispatchEvent) (i j : Nat) :
    Event s (s.dispatchReport e ev i j) := append_event ..

theorem modeReport_event (s : State) (ev : ModeEvent) (i j k : Nat) : Event s (s.modeReport ev i j k) := append_event ..

theorem passageReport_event (s : State) (b : BlockId) (x : Option BoatId) (i j : Nat) (p : BlockId) (n : Nat) :
    Event s (s.passageReport b x i j p n) := append_event ..

theorem linkReport_event (s : State) (l : Link) (i j : Nat) : Event s (s.linkReport l i j) := append_event ..

theorem voidAll_event (s : State) (c : VoidCause) : Event s (s.voidAll c) :=
  .after (.foldl (fun t _ => dispatchReport_event t ..) _ _) (mapDispatch_event s fun _ => rfl)

theorem permitAgrees_of_mc {s t : State} (hmode : t.mc.mode = s.mc.mode) (hpermit : t.mc.permit = s.mc.permit)
    (h : s.permitAgrees) : t.permitAgrees := by
  rw [State.permitAgrees, State.mode] at h ⊢
  rw [hmode, hpermit]
  exact h

theorem discardSlot_event (s : State) (n : Nat) : Event s (s.discardSlot n) := by
  unfold State.discardSlot
  split
  · exact .refl s
  · exact .after (modeReport_event ..) (.of_mc (permitAgrees_of_mc rfl rfl) Iff.rfl)

theorem permitAgrees_of_permitOf {s : State} (h : s.mc.permit = permitOf s.mode) : s.permitAgrees := by
  rw [State.permitAgrees, h]
  cases s.mode <;> decide

theorem retime_key (e : DispatchEntry) (now : Time) (m n : Mode) : (e.retime now m n).key = e.key := by
  unfold DispatchEntry.retime
  split
  · split <;> rfl
  · split <;> rfl
  · rfl

/-- A change of mode outside CONFIGURE. -/
theorem changeMode_event (s : State) {m : Mode} (c : ChangeCause) (hs : s.mode ≠ .configure) (hm : m ≠ .configure) :
    Event s (s.changeMode m c) := by
  have hwith : Event s (s.withMode m) :=
    .of_mc (fun _ => permitAgrees_of_permitOf rfl) ⟨fun h => absurd h hm, fun h => absurd h hs⟩
  have hslot : Event s (((s.withMode m).modeReport .changed s.mode.code m.code c.code).discardSlot 0) :=
    .after (discardSlot_event ..) (.after (modeReport_event ..) hwith)
  rw [changeMode_steps]
  exact hslot.trans (mapDispatch_event _ fun e => retime_key e ..)

theorem enterHolding_event (s : State) (c : ChangeCause) (h : s.mode ≠ .configure) : Event s (s.enterHolding c) :=
  .after (voidAll_event ..) (changeMode_event s c h (by decide))

theorem enterHalted_event (s : State) (c : ChangeCause) (h : s.mode ≠ .configure) : Event s (s.enterHalted c) :=
  .after (voidAll_event ..) ((changeMode_event s c h (by decide)).trans (.of_fields rfl rfl rfl rfl rfl rfl))

theorem applyClass_event (s : State) (c : FaultClass) : Event s (s.applyClass c) := by
  have hne {m : Mode} (h : s.mode = m) (hm : m ≠ .configure) : s.mode ≠ .configure := h ▸ hm
  unfold State.applyClass
  split
  case h_1 h => exact enterHalted_event s _ (hne h (by decide))
  case h_2 h => exact enterHalted_event s _ (hne h (by decide))
  case h_3 h => exact enterHalted_event s _ (hne h (by decide))
  case h_4 h => exact enterHalted_event s _ (hne h (by decide))
  case h_5 h => exact enterHolding_event s _ (hne h (by decide))
  case h_6 h => exact enterHolding_event s _ (hne h (by decide))
  case h_7 => exact .refl s

theorem recordFault_event (s : State) (k : FaultKind) (b : Option BlockId) (x : Option BoatId) :
    Event s (s.setMc (s.mc.recordFault k b x s.timeBase)) := by
  have hmode : (s.mc.recordFault k b x s.timeBase).mode = s.mc.mode := by rw [recordFault_keeps]
  have hpermit : (s.mc.recordFault k b x s.timeBase).permit = s.mc.permit := by rw [recordFault_keeps]
  exact .of_mc (permitAgrees_of_mc hmode hpermit) (by rw [hmode]; rfl)

theorem raise_event (s : State) (k : FaultKind) (b : Option BlockId) (x : Option BoatId) (d : Details) :
    Event s (s.raise k b x d) :=
  ((recordFault_event s k b x).trans (append_event ..)).trans (applyClass_event ..)

/-! ### Paths and FAULTED blocks -/

theorem clearReserved_event (s : State) (bs : List BlockId) : Event s (s.clearReserved bs) :=
  .foldl (fun t b => by
    split
    · exact setEntry_event ..
    · exact .refl t) bs s

theorem cutPath_event (s : State) (y : BoatId) (f : BlockId) : Event s (s.cutPath y f) :=
  (setPath_event ..).trans (clearReserved_event ..)

theorem faultBlock_event (s : State) (b : BlockId) : Event s (s.faultBlock b) := by
  have hentry := setEntry_event s b (s.entry b).toFaulted
  have hrecords (t : State) : Event t ((t.modBrake b (·.letGo)).modSwitch b (·.dropMove)) :=
    (modBrake_event ..).trans (modSwitch_event ..)
  unfold State.faultBlock
  dsimp only
  split
  · exact (hentry.trans (cutPath_event ..)).trans (hrecords _)
  · exact hentry.trans (hrecords _)

/-! ### Bays -/

theorem cancelEntry_event (s : State) (e : DispatchEntry) (c : CancelCause) (n : Nat) : Event s (s.cancelEntry e c n) :=
  (removeEntry_event ..).trans (dispatchReport_event ..)

theorem cancelOfBay_event (s : State) (b : BlockId) (c : CancelCause) : Event s (s.cancelOfBay b c) := by
  unfold State.cancelOfBay
  split
  · exact cancelEntry_event ..
  · exact .refl s

theorem setPhase_event (s : State) (b : BlockId) (p : Phase) : Event s (s.setPhase b p) := by
  unfold State.setPhase
  split
  · exact .refl s
  · split
    · exact .refl s
    · exact (setBay_event ..).trans (append_event ..)

theorem startWeigh_event (s : State) (b : BlockId) (k : WeighKind) : Event s (s.startWeigh b k) := by
  unfold State.startWeigh
  split
  · exact .refl s
  · exact (modBay_event ..).trans (setPhase_event ..)

theorem endBerthed_event (s : State) (b : BlockId) : Event s (s.endBerthed b) := by
  have hbay := modBay_event s b fun y => { y with entryEye := none }
  unfold State.endBerthed
  dsimp only
  split
  · exact hbay
  · split
    · exact hbay.trans (startWeigh_event ..)
    · exact hbay.trans (setPhase_event ..)

theorem berth_event (s : State) (b : BlockId) (eye : Option PointId) : Event s (s.berth b eye) := by
  have hbay := (modBay_event s b fun y => { y with entryEye := eye }).trans (setPhase_event _ b .berthed)
  unfold State.berth
  split
  · exact .refl s
  · dsimp only
    split
    · exact hbay
    · exact hbay.trans (endBerthed_event ..)

theorem vacateBay_event (s : State) (b : BlockId) : Event s (s.vacateBay b) := by
  unfold State.vacateBay
  split
  · exact .refl s
  · exact ((cancelOfBay_event ..).trans (modBay_event ..)).trans (setPhase_event ..)

theorem bayFaulted_event (s : State) (b : BlockId) : Event s (s.bayFaulted b) := by
  unfold State.bayFaulted
  split
  · exact .refl s
  · exact (modBay_event ..).trans (setPhase_event ..)

theorem bayReturn_event (s : State) (b : BlockId) : Event s (s.bayReturn b) := by
  unfold State.bayReturn
  split
  · exact .refl s
  · split
    case h_1 p _ _ =>
      have hback := (modBay_event s b fun y => { y with returnPhase := none }).trans (setPhase_event _ b p)
      dsimp only
      split
      · exact hback.trans (endBerthed_event ..)
      · exact hback
    case h_2 => exact .refl s

theorem bayGranted_event (s : State) (b : BlockId) : Event s (s.bayGranted b) := by
  unfold State.bayGranted
  split
  · exact .refl s
  · exact (setBay_event ..).trans (setPhase_event ..)

theorem entryCleared_event (s : State) (eye : PointId) : Event s (s.entryCleared eye) := by
  unfold State.entryCleared
  split
  · exact .refl s
  · split
    · exact endBerthed_event ..
    · exact modBay_event ..

/-! ### Weighs -/

theorem endWeigh_event (s : State) (b : BlockId) (w : Weigh) (o : WeighOutcome) (r : Option WeighResult)
    (i j k : Nat) : Event s (s.endWeigh b w o r i j k) :=
  (modBay_event ..).trans (append_event ..)

theorem tareResult_event (s : State) (b : BlockId) (w : Weigh) : Event s (s.tareResult b w) := by
  unfold State.tareResult
  extract_lets mean share dev deviates t u v
  have ht : Event s t := modBoat_event s _ fun _ => rfl
  have hu : Event s u := ht.trans (endWeigh_event ..)
  have hv : Event s v := by
    simp only [v]
    split
    · exact hu.trans (raise_event ..)
    · exact hu
  exact hv.trans (setPhase_event ..)

theorem loadResult_event (s : State) (b : BlockId) (w : Weigh) : Event s (s.loadResult b w) := by
  unfold State.loadResult
  extract_lets mean share load maxLoad outcome t u
  have ht : Event s t := by
    simp only [t]
    split
    · exact modBoat_event s _ fun _ => rfl
    · exact .refl s
  exact (ht.trans (endWeigh_event ..)).trans (setPhase_event ..)

theorem weighFails_event (s : State) (b : BlockId) (w : Weigh) (n : Nat) : Event s (s.weighFails b w n) :=
  ((endWeigh_event ..).trans (raise_event ..)).trans (setPhase_event ..)

theorem closeWindow_event (s : State) (b : BlockId) (w : Weigh) : Event s (s.closeWindow b w) := by
  unfold State.closeWindow
  split
  · dsimp only
    split
    · exact (modBay_event ..).trans (modBay_event ..)
    · exact (modBay_event ..).trans (weighFails_event ..)
  · split
    · exact tareResult_event ..
    · exact loadResult_event ..

/-! ### Grants -/

theorem firePulse_event (s : State) (b : BlockId) : Event s (s.firePulse b) := by
  unfold State.firePulse
  split
  · exact .refl s
  · split
    · exact setChannel_event ..
    · exact .refl s

theorem bookGrant_event (s : State) (b : BlockId) (p : List BlockId) : Event s (s.bookGrant b p) := by
  unfold State.bookGrant
  split
  · exact .refl s
  · split
    · exact .refl s
    · exact .of_fields rfl rfl rfl rfl rfl rfl

theorem reserve_event (s : State) (x : BoatId) (p : List BlockId) : Event s (s.reserve x p) :=
  .foldl (fun _ _ => setEntry_event ..) p s

theorem writeLaunch_event (s : State) (b : BlockId) : Event s (s.writeLaunch b) := by
  unfold State.writeLaunch
  split
  · exact .refl s
  · exact .of_fields rfl rfl rfl rfl rfl rfl

theorem tellRequester_event (s : State) (b : BlockId) (q : Requester) (p : List BlockId) :
    Event s (s.tellRequester b q p) := by
  cases q with
  | scheduler => exact .refl s
  | dispatch e => exact (removeEntry_event ..).trans (dispatchReport_event ..)
  | step => exact cancelOfBay_event ..

theorem grant_event (s : State) (b : BlockId) (q : Requester) (p : List BlockId) : Event s (s.grant b q p) := by
  unfold State.grant
  dsimp only
  split
  · exact .refl s
  · exact .after (bayGranted_event ..) <| .after (tellRequester_event ..) <| .after (bookGrant_event ..) <|
      .after (writeLaunch_event ..) <| .after (modBrake_event ..) <| .after (firePulse_event ..) <|
      .after (setEntry_event ..) <| .after (setPath_event ..) (reserve_event ..)

theorem askFor_event {s t : State} {b : BlockId} (h : s.askFor b = some t) : Event s t := by
  unfold State.askFor at h
  split at h
  · split at h
    · cases h
      exact grant_event ..
    · obtain ⟨c, _, rfl⟩ := Option.map_eq_some_iff.mp h
      exact grant_event ..
  · cases h

theorem grantLoop_event (n : Nat) (s : State) : Event s (grantLoop n s) := by
  induction n generalizing s with
  | zero => exact .refl s
  | succ n ih =>
    rw [grantLoop]
    split
    case h_1 t h =>
      obtain ⟨b, _, hb⟩ := List.exists_of_findSome?_eq_some h
      exact (askFor_event hb).trans (ih t)
    case h_2 => exact .refl s

theorem askAll_event (s : State) : Event s s.askAll := by
  unfold State.askAll
  split
  · exact grantLoop_event ..
  · exact .refl s

/-! ### Stalls and the end of an event -/

theorem stall_event (s : State) (b : BlockId) : Event s (s.stall b) := by
  unfold State.stall
  dsimp only
  split
  · exact .refl s
  · exact .after (bayReturn_event ..) <| .after (raise_event ..) <| .after (modBrake_event ..) <|
      .after (setPath_event ..) <| .after (clearReserved_event ..) (setEntry_event ..)

theorem resumeRelease_event (s : State) (b : BlockId) : Event s (s.resumeRelease b) := by
  unfold State.resumeRelease
  dsimp only
  split
  · split
    · split
      · exact stall_event ..
      · exact (setEntry_event ..).trans (firePulse_event ..)
    · exact .refl s
  · exact .refl s

theorem resumeFrozen_event (s : State) : Event s s.resumeFrozen := .foldl resumeRelease_event _ s

theorem settle_event (s : State) : Event s s.settle := by
  unfold State.settle
  split
  case isTrue h => exact changeMode_event s _ (by rw [h.1]; decide) (by decide)
  case isFalse => exact .refl s

theorem refreshSwitches_event (s : State) : Event s s.refreshSwitches := .of_fields rfl rfl rfl rfl rfl rfl

theorem refreshBrakes_event (s : State) : Event s s.refreshBrakes := .of_fields rfl rfl rfl rfl rfl rfl

theorem refreshChannels_event (s : State) : Event s s.refreshChannels := .of_fields rfl rfl rfl rfl rfl rfl

theorem finish_event (s : State) : Event s s.finish := by
  unfold State.finish
  split
  · exact .refl s
  · exact (((refreshSwitches_event s).trans (askAll_event _)).trans ((refreshBrakes_event _).trans
      (refreshChannels_event _))).trans (settle_event _)

/-! ### Traps and tags -/

theorem strayTrap_event (s : State) : Event s s.strayTrap := .of_fields rfl rfl rfl rfl rfl rfl

theorem trapEye1_event (s : State) (b : BlockId) : Event s (s.trapEye1 b) := by
  unfold State.trapEye1
  split
  · split
    · exact modBrake_event ..
    · exact strayTrap_event s
  · exact strayTrap_event s

theorem raiseSpeedClamp_event (s : State) (b : BlockId) (x : BoatId) (r : BrakeResult) (n : Nat) :
    Event s (s.raiseSpeedClamp b x r n) := by
  unfold State.raiseSpeedClamp
  split
  · exact raise_event ..
  · exact .refl s

theorem raiseMargin_event (s : State) (b : BlockId) (x : BoatId) (r : BrakeResult) : Event s (s.raiseMargin b x r) := by
  unfold State.raiseMargin
  split
  · exact raise_event ..
  · exact .refl s

theorem brakeEvent_event (s : State) (b : BlockId) (r : BrakeSection) (p : Passage) (t : Time) :
    Event s (s.brakeEvent b r p t) :=
  .after (raiseMargin_event ..) <| .after (raiseSpeedClamp_event ..) <| .after (append_event ..) <|
    .after (modBoat_event _ _ fun _ => rfl) (modBrake_event ..)

theorem trapEye2_event (s : State) (b : BlockId) : Event s (s.trapEye2 b) := by
  unfold State.trapEye2
  split
  · split
    · exact brakeEvent_event ..
    · exact strayTrap_event s
  · exact strayTrap_event s

theorem trapFails_event (s : State) (b : BlockId) (r : BrakeSection) (p : Passage) (engage : Bool) :
    Event s (s.trapFails b r p engage) := (modBrake_event ..).trans (raise_event ..)

theorem trapUnmeasured_event (s : State) (b : BlockId) : Event s (s.trapUnmeasured b) := by
  unfold State.trapUnmeasured
  split
  · split
    · exact .refl s
    · exact trapFails_event ..
  · exact .refl s

theorem openPassage_event (s : State) (b : BlockId) (x : BoatId) : Event s (s.openPassage b x) := by
  unfold State.openPassage
  split
  · exact .refl s
  · exact modBrake_event ..

theorem placePassage_event (s : State) (b : BlockId) (x : BoatId) : Event s (s.placePassage b x) := modBrake_event ..

theorem openTagWindow_event (s : State) (p : BlockId) (leg : Leg) (x : BoatId) : Event s (s.openTagWindow p leg x) := by
  unfold State.openTagWindow
  split
  · exact setTagWindow_event ..
  · exact .refl s

theorem endTagWindow_event (s : State) (p : BlockId) (leg : Leg) : Event s (s.endTagWindow p leg) := by
  unfold State.endTagWindow
  split
  · split
    · exact .refl s
    · dsimp only
      split
      · exact setTagWindow_event ..
      · exact (setTagWindow_event ..).trans (raise_event ..)
  · exact .refl s

theorem discardTag_event (s : State) : Event s s.discardTag := .of_fields rfl rfl rfl rfl rfl rfl

theorem takeTag_event (s : State) (port : PortId) (code : Nat) : Event s (s.takeTag port code) := by
  unfold State.takeTag
  split
  · exact .refl s
  · split
    · exact discardTag_event s
    · split
      · exact discardTag_event s
      · dsimp only
        split
        · exact setTagWindow_event ..
        · exact (setTagWindow_event ..).trans (raise_event ..)

/-! ### Noses, tails and deadlines -/

theorem faultAt_event (s : State) (k : FaultKind) (b : BlockId) (x : Option BoatId) (d : Details) :
    Event s (s.faultAt k b x d) := ((faultBlock_event ..).trans (raise_event ..)).trans (bayFaulted_event ..)

theorem endFaultedRecord_event (s : State) (u : BlockId) : Event s (s.endFaultedRecord u) :=
  (modEntry_event ..).trans (vacateBay_event ..)

theorem moveNose_event (s : State) (p n : BlockId) (x : BoatId) : Event s (s.moveNose p n x) := by
  have hslot (t : State) : Event t (t.setSlot x ((t.slot x).advance n)) :=
    setSlot_event t (by rw [boat_advance, State.boat])
  unfold State.moveNose
  extract_lets holdable terminal t u
  have ht : Event s t := setEntry_event ..
  exact (ht.trans (hslot t)).trans (modEntry_event ..)

theorem normalArrival_event (s : State) (p n : BlockId) (leg : Leg) (eye : PointId) (x : BoatId) :
    Event s (s.normalArrival p n leg eye x) := by
  unfold State.normalArrival
  extract_lets s1 count s2 s3 s4 s5 s6
  have h2 : Event s s2 := (moveNose_event s p n x).trans (.of_fields rfl rfl rfl rfl rfl rfl)
  have h3 : Event s s3 := h2.trans (passageReport_event s2 ..)
  have h4 : Event s s4 := h3.trans (.foldl endFaultedRecord_event _ s3)
  have h5 : Event s s5 := by
    simp only [s5]
    split
    · exact h4.trans (modBoat_event _ _ fun _ => rfl)
    · exact h4
  have h6 : Event s s6 := h5.trans ((openTagWindow_event ..).trans (openPassage_event ..))
  split
  · exact h6.trans (berth_event ..)
  · exact h6

theorem noseArrival_event (s : State) (p : BlockId) (leg : Leg) (eye : PointId) : Event s (s.noseArrival p leg eye) := by
  unfold State.noseArrival
  split
  · exact .refl s
  · dsimp only
    split
    · exact passageReport_event ..
    · split
      · exact raise_event ..
      · split
        · exact faultAt_event ..
        · split
          · exact faultAt_event ..
          · split
            · exact faultAt_event ..
            · split
              · exact normalArrival_event ..
              · exact faultAt_event ..

theorem tailClearance_event (s : State) (p : BlockId) (leg : Leg) (eye : PointId) :
    Event s (s.tailClearance p leg eye) := by
  unfold State.tailClearance
  split
  · exact .refl s
  · dsimp only
    split
    · exact ((passageReport_event ..).trans (endTagWindow_event ..)).trans (entryCleared_event ..)
    · split
      · exact ((((setEntry_event ..).trans (endTagWindow_event ..)).trans (trapUnmeasured_event ..)).trans
          (vacateBay_event ..)).trans (entryCleared_event ..)
      · exact ((raise_event ..).trans (endTagWindow_event ..)).trans (entryCleared_event ..)

theorem transitEvent_event (s : State) (b : BlockId) (d : Time) : Event s (s.transitEvent b d) := by
  unfold State.transitEvent
  dsimp only
  split
  · split
    · exact (setEntry_event ..).trans (firePulse_event ..)
    · exact stall_event ..
  · exact stall_event ..

theorem positionEdge_event (s : State) (b : BlockId) : Event s (s.positionEdge b) := by
  unfold State.positionEdge
  split
  · exact .refl s
  · exact modSwitch_event ..

theorem deliverEdge_event (s : State) (p : PointId) (on : Bool) : Event s (s.deliverEdge p on) := by
  unfold State.deliverEdge
  split
  · exact .refl s
  · split
    case h_1 => exact .refl s
    case h_2 =>
      split
      · exact noseArrival_event ..
      · exact tailClearance_event ..
    case h_3 =>
      split
      · exact trapEye1_event ..
      · exact .refl s
    case h_4 =>
      split
      · exact trapEye2_event ..
      · exact .refl s
    case h_5 => exact .refl s
    case h_6 => exact positionEdge_event ..

theorem driveFault_event (s : State) (k : FaultKind) (b : BlockId) (d : Details) : Event s (s.driveFault k b d) := by
  unfold State.driveFault
  dsimp only
  split
  · exact (modSwitch_event ..).trans (raise_event ..)
  · exact faultAt_event ..

theorem endHeadway_event (s : State) (b : BlockId) : Event s (s.endHeadway b) := .of_fields rfl rfl rfl rfl rfl rfl

theorem engageHold_event (s : State) (b : BlockId) : Event s (s.engageHold b) := modBrake_event ..

theorem checkFails_event (s : State) (c : ChannelId) (b : BlockId) : Event s (s.checkFails c b) :=
  (setChannel_event ..).trans (driveFault_event ..)

theorem positionFails_event (s : State) (c : ChannelId) (b : BlockId) : Event s (s.positionFails c b) :=
  (setChannel_event ..).trans (driveFault_event ..)

theorem expireEntry_event (s : State) (e : DispatchEntry) : Event s (s.expireEntry e) :=
  ((removeEntry_event ..).trans (dispatchReport_event ..)).trans (setPhase_event ..)

theorem expireSlot_event (s : State) (p : PendingSlot) : Event s (s.expireSlot p) :=
  .after (modeReport_event ..) (.of_mc (permitAgrees_of_mc rfl rfl) Iff.rfl)

theorem weighSample_event (s : State) (front rear : CellId) (i j : Nat) : Event s (s.weighSample front rear i j) := by
  unfold State.weighSample
  split
  · exact .refl s
  · split
    · exact .refl s
    · exact modBay_event ..

theorem setContact_keeps (c : ModeController) (k : StopContact) (isOpen : Bool) :
    (c.setContact k isOpen).mode = c.mode ∧ (c.setContact k isOpen).permit = c.permit := by
  cases k <;> exact ⟨rfl, rfl⟩

theorem stopOpens_event (s : State) (k : StopContact) : Event s (s.stopOpens k) := by
  obtain ⟨hmode, hpermit⟩ := setContact_keeps s.mc k true
  unfold State.stopOpens
  dsimp only
  split
  · exact .of_mc (permitAgrees_of_mc hmode hpermit) (by rw [hmode]; rfl)
  · exact .after (finish_event _) <| .after (raise_event ..) <|
      .of_mc (permitAgrees_of_mc hmode hpermit) (by dsimp only; rw [hmode]; rfl)

theorem stopCloses_event (s : State) (k : StopContact) : Event s (s.stopCloses k) := by
  obtain ⟨hmode, hpermit⟩ := setContact_keeps s.mc k false
  exact .of_mc (permitAgrees_of_mc hmode hpermit) (by dsimp only; rw [hmode]; rfl)

/-! ### Requests that are events -/

theorem place_event (s : State) {x : BoatId} {t : Boat} (b : BlockId) (guests : Bool) (h : s.slot x = .absent t) :
    Event s (s.place x t b guests) := by
  have hslot (u : State) (hu : u.slot x = .absent t) :
      Event u (u.setSlot x (.onTrack { t with guests, load := if guests then none else some 0 } b [])) :=
    setSlot_event u (by rw [State.boat, hu]; rfl)
  unfold State.place
  extract_lets e u v
  have hu : Event s u := setEntry_event ..
  exact ((hu.trans (hslot u h)).trans (placePassage_event v b x)).trans (berth_event ..)

theorem remove_event (s : State) {x : BoatId} {t : Boat} (h : s.boat x = some t) : Event s (s.remove x t) := by
  unfold State.remove
  extract_lets held losing s1 s2 s3
  have h1 : Event s s1 := .foldl (fun _ _ => modEntry_event ..) losing s
  have hboat : (s1.boat x).map (·.tagCode) = some t.tagCode := by rw [h1.codes, h]; rfl
  have h2 : Event s s2 := h1.trans (setSlot_event s1 hboat.symm)
  have h3 : Event s s3 := h2.trans (.of_fields rfl rfl rfl rfl rfl rfl)
  exact h3.trans (.foldl vacateBay_event held s3)

theorem reroute_event (s : State) (x : BoatId) (r : Route) : Event s (s.reroute x r) :=
  (modBoat_event s x (f := fun t => { t with route := r }) fun _ => rfl).trans (.of_fields rfl rfl rfl rfl rfl rfl)

theorem declare_event (s : State) (b : BlockId) (p : Phase) (k : WeighKind) : Event s (s.declare b p k).2 := by
  unfold State.declare
  split
  · exact .refl s
  · split
    · exact .refl s
    · split
      · exact .refl s
      · split
        · exact startWeigh_event ..
        · exact .refl s

theorem give_key (e : DispatchEntry) (l : ControlLink) : (e.give l).key = e.key := by
  unfold DispatchEntry.give
  cases l
  all_goals
    dsimp only
    split <;> rfl

/-- An entry of the list is put back changed under its own sequence number and bay. -/
theorem putEntry_event {s : State} {e d : DispatchEntry} (he : e ∈ s.dispatch) (h : d.key = e.key) :
    Event s (s.putEntry d) := by
  refine .of_dispatch fun hseq => sublist_of_eq ?_
  rw [List.map_map]
  refine List.map_congr_left fun c hc => ?_
  simp only [Function.comp_apply]
  split
  case isTrue heq =>
    have hce : c = e := eq_of_nodup_map hseq hc he (heq.trans (congrArg Prod.fst h))
    rw [h, hce]
  case isFalse => rfl

end Sys2Proof.Machine
end

section
/-! PROOFS. What a step consists of: `Act s t` names each change that a command makes, `Deed s t` those of a request's owner, `Happens s t` what an event does
before its end, and every step is a sequence of acts (`step_acts`). An invariant kept by every act is kept by every step. -/

namespace Sys2Proof.Machine

open Sys2Proof

/-- Where a boat is and where it may go is the same in both rosters. -/
def SameTrack (s t : State) : Prop :=
  ∀ x, (t.slot x).position = (s.slot x).position ∧ t.pathOf x = s.pathOf x

theorem SameTrack.of_roster {s t : State} (h : t.roster = s.roster) : SameTrack s t := by
  intro x
  rw [State.pathOf, State.pathOf, State.slot, State.slot, h]
  exact ⟨rfl, rfl⟩

/-- An event that no path, block, mode or channel takes part in. -/
structure Quiet (s t : State) : Prop extends Event s t where
  mode : t.mode = s.mode
  table : t.table = s.table
  channels : t.channels = s.channels
  track : SameTrack s t

theorem Quiet.of_roster {s t : State} (h : Event s t) (hmode : t.mode = s.mode) (htable : t.table = s.table)
    (hchannels : t.channels = s.channels) (hroster : t.roster = s.roster) : Quiet s t :=
  ⟨h, hmode, htable, hchannels, .of_roster hroster⟩

/-- What an event does before its end. -/
inductive Happens (s : State) : State → Prop where
  | weighCloses (b : BlockId) (w : Weigh) : Happens s (s.closeWindow b w)
  | transitPasses (b : BlockId) (d : Time) (h : s.transitDue b = some d) : Happens s (s.transitEvent b d)
  | crossingFails (k : FaultKind) (b : BlockId) (h : (s.entry b).state = .releasing) :
    Happens s (s.faultAt k b (s.entry b).occupant detail)
  | entryExpires (e : DispatchEntry) : Happens s (s.expireEntry e)
  | headwayEnds (b : BlockId) : Happens s (s.endHeadway b)
  | driveFails (k : FaultKind) (b : BlockId) (d : Details) : Happens s (s.driveFault k b d)
  | channelFails (c : ChannelId) (x : Channel) (k : FaultKind) (b : BlockId) (d : Details) :
    Happens s ((s.setChannel c x).driveFault k b d)
  | trapFails (b : BlockId) (r : BrakeSection) (p : Passage) (engage : Bool) : Happens s (s.trapFails b r p engage)
  | holdEngages (b : BlockId) : Happens s (s.engageHold b)
  | pulseEnds (c : ChannelId) (x : Channel) : Happens s (s.setChannel c x)
  | tagRead (port : PortId) (code : Nat) : Happens s (s.takeTag port code)
  | edge (p : PointId) (on : Bool) : Happens s (s.deliverEdge p on)
  | stopLine (k : StopContact) :
    Happens s ((s.setMc { s.mc.setContact k true with stopActive := true }).raise .stopLine none none detail)
  | held (h : isRunMode s.mode = true) : Happens s (s.enterHolding .holdRequest)
  | halted (h : haltable s.mode = true) : Happens s (s.enterHalted .haltRequest)
  | census (b : BlockId) (st : BlockState) (h : (s.entry b).state ∈ [.unverified, .clear, .outOfService, .faulted])
    (ho : (s.entry b).state = .faulted → (s.entry b).occupant = none) (hst : st ∈ [.unverified, .clear, .outOfService]) :
    Happens s (s.setEntry b (.bare st))
  | placed (x : BoatId) (t : Boat) (b : BlockId) (guests : Bool) (h : s.slot x = .absent t)
    (hb : s.placeable b = true) (hm : s.mode ≠ .configure) : Happens s (s.place x t b guests)
  | removed (x : BoatId) (t : Boat) (pos : BlockId) (path : List BlockId) (h : s.slot x = .onTrack t pos path) :
    Happens s (s.remove x t)
  | rerouted (x : BoatId) (r : Route) : Happens s (s.reroute x r)
  | canceled (e : DispatchEntry) (c : CancelCause) (n : Nat) : Happens s ((s.cancelEntry e c n).setPhase e.bay .ready)
  | denied (e : DispatchEntry) (n : Nat) :
    Happens s (((s.removeEntry e).dispatchReport e .denied n 0).setPhase e.bay .ready)
  | consented (e : DispatchEntry) (c : ControlLink) (h : s.entryOfSeq (e.give c).seq = some e) :
    Happens s ((s.putEntry (e.give c)).dispatchReport (e.give c) .consented c.code 0)
  | stepped (b : BlockId) (p : List BlockId) (h : (s.entry b).state = .occupied) (hp : s.pathFrom b = some p)
    (hc : p.find? (fun c => !s.isClear c) = none) : Happens s (s.grant b .step p)
  | rideLinkLost (l : Link) (c : ControlLink) : Happens s (((s.discardSlotOf l).withdrawConsents c).linkLost l)
  | stationLinkLost (l : Link) : Happens s (s.discardSlotOf l).cancelAll

/-- What a command changes outside the ride and its links: the queue, the Time Base, the points, the readers and the
counters. -/
inductive Outside (s : State) : State → Prop where
  | queue (cs : List Instr) : Outside s { s with pending := cs }
  | time (n : Time) : Outside s { s with timeBase := n }
  | points (v : Vector Point 96)
    (h : ∀ p, (vget v p).invert = (s.point p).invert ∧ (vget v p).filter = (s.point p).filter) : Outside s { s with points := v }
  | holdOffEnds (l : Link) : Outside s (s.endHoldOff l)
  | attention (l : Link) (kinds : Byte) (interval : Nat) : Outside s (s.setAttention l kinds interval).2
  | reads (l : Link) (most : Nat) : Outside s (s.advanceCursor l most)
  | counters : Outside s s.clearCounters.2

/-- What the characters on a link and its loss change. -/
inductive Linked (s : State) : State → Prop where
  | port (l : Link) (p : LinkPort) (h : p.up = s.up l) : Linked s (s.setPort l p)
  | comesUp (l : Link) (p : LinkPort) (hp : p.up = true) (h : s.up l = false) : Linked s ((s.setPort l p).comeUp l)
  | drops (l : Link) : Linked s (s.dropLink l)

/-- What a request changes at its owner, and what an event with its end does: all but for the links. -/
inductive Deed (s : State) : State → Prop where
  | outside {t : State} (h : Outside s t) : Deed s t
  | ended {t : State} (h : Happens s t) : Deed s t.finish
  | quiet {t : State} (h : Quiet s t) : Deed s t
  | queued (b : BlockId) (x : BoatId) (afterPrevious : Bool) (hb : s.entryOfBay b = none)
    (h : s.dispatch.length < Config.dispatchCapacity) : Deed s (s.queueDispatch b x afterPrevious)
  | enrolled (x : BoatId) (code tare : Nat) (h : s.slot x = .unused) (hc : s.slotOfCode code = none) :
    Deed s (s.setSlot x (.absent (.enrolled code tare)))
  | retired (x : BoatId) (t : Boat) (h : s.slot x = .absent t) : Deed s (s.setSlot x .unused)
  | writes (L : LayoutStore) (w : PerLink Windows) (v : Vector Point 96) (h : s.mode = .configure)
    (hg : L.generation = nextGeneration s.layout.generation) : Deed s { s with layout := L, windows := w, points := v }
  | carriedOut (m : ModeReq) (g : Option Nat) (h : s.mode ∈ m.modes) (hr : s.modeRefusal m g = none) :
    Deed s (s.carryOut m)

/-- What a command consists of. -/
inductive Act (s : State) : State → Prop where
  | linked {t : State} (h : Linked s t) : Act s t
  | powerOn (pins : BitVec 2) (open1 open2 : Bool) (on : List PointId) : Act s (s.powerOn pins open1 open2 on)
  | deed {t : State} (h : Deed s t) : Act s t

/-- A sequence of deeds. -/
abbrev Deeds : State → State → Prop := Sequence Deed

/-- A sequence of acts. -/
abbrev Acts : State → State → Prop := Sequence Act

theorem Deed.deeds {s t : State} (h : Deed s t) : Deeds s t := .single h

theorem Happens.deeds {s t : State} (h : Happens s t) : Deeds s t.finish := .single (.ended h)

theorem Quiet.deeds {s t : State} (h : Quiet s t) : Deeds s t := .single (.quiet h)

theorem Deeds.acts {s t : State} (h : Deeds s t) : Acts s t := Sequence.mono (fun _ _ => Act.deed) h

theorem Outside.deeds {s t : State} (h : Outside s t) : Deeds s t := .single (.outside h)

theorem Linked.acts {s t : State} (h : Linked s t) : Acts s t := .single (.linked h)

/-- What every act keeps a sequence of acts keeps. -/
theorem Acts.keeps {P : State → Prop} (h : ∀ s t, Act s t → P s → P t) {s t : State} (hacts : Acts s t) (hs : P s) : P t := by
  induction hacts with
  | refl => exact hs
  | tail _ hact ih => exact h _ _ hact ih

/-! ### The request a call comes from -/

/-- Every value the reading of arguments gives has the property. -/
def Gives {α : Type} (P : α → Prop) (r : ArgResult α) : Prop := ∀ a, r = .ok a → P a

theorem Gives.pure {α : Type} {P : α → Prop} {a : α} (h : P a) : Gives P (.ok a) := by
  rintro _ ⟨⟩
  exact h

theorem Gives.bind {α β : Type} {P : β → Prop} {r : ArgResult α} {f : α → ArgResult β} (h : ∀ a, Gives P (f a)) :
    Gives P (r >>= f) := by
  cases r with
  | error => rintro b ⟨⟩
  | ok a => exact h a

/-- The request a call belongs to. -/
def Call.req : Call → Req
  | .writeBlock .. => .writeBlock
  | .writeMerge .. => .writeMerge
  | .writeSettings .. => .writeSettings
  | .writeWindow .. => .writeWindow
  | .writePoint .. => .writePoint
  | .readLayout .. => .readLayout
  | .modeRequest m _ => m.req
  | .hold => .hold
  | .halt => .halt
  | .verifyClear .. => .verifyClear
  | .placeBoat .. => .placeBoat
  | .removeBoat .. => .removeBoat
  | .restoreBlock .. => .restoreBlock
  | .setService .. => .setService
  | .enroll .. => .enroll
  | .retire .. => .retire
  | .setRoute .. => .setRoute
  | .setExpedite .. => .setExpedite
  | .clearCheck .. => .clearCheck
  | .unloaded .. => .unloaded
  | .loaded .. => .loaded
  | .dispatch .. => .dispatch
  | .cancel .. => .cancel
  | .consent .. => .consentDispatch
  | .deny .. => .denyDispatch
  | .step .. => .step
  | .clearFault => .clearFault
  | .clearZone .. => .clearZoneCondition
  | .readStatus => .readStatus
  | .readBlock .. => .readBlock
  | .readBoat .. => .readBoat
  | .readQueue => .readQueue
  | .readReports .. => .readReports
  | .readCounters .. => .readCounters
  | .clearCounters => .clearCounters
  | .setAttention .. => .setAttention

/-- The arguments of a request are read as a call of that request. -/
theorem readArgs_req (r : Req) (args : List Byte) : Gives (·.req = r) (readArgs r args) := by
  cases r
  case readBlock =>
    refine .bind fun _ => .bind fun _ => ?_
    split
    case h_4 => rintro _ ⟨⟩
    all_goals exact .pure rfl
  case placeBoat | enroll => exact .bind fun _ => .bind fun _ => .bind fun _ => .bind fun _ => .pure rfl
  case setService | setRoute | setExpedite | dispatch => exact .bind fun _ => .bind fun _ => .bind fun _ => .pure rfl
  case readReports => exact .bind fun _ => .bind fun _ => .pure rfl
  all_goals exact .bind fun _ => .pure rfl

end Sys2Proof.Machine
end

section
/-! PROOFS. Every step is a sequence of acts: first the requests at their owners, then the frames that bring them, then
the events of the lines, the field and the deadlines. -/

namespace Sys2Proof.Machine

open Sys2Proof

/-! ### The owners -/

theorem wrote_deeds {s : State} {L : LayoutStore} {w : PerLink Windows} {v : Vector Point 96} (h : s.mode = .configure)
    (hg : L.generation = s.layout.generation) : Deeds s (State.wrote { s with layout := L, windows := w, points := v }).2 :=
  (Deed.writes { L with generation := nextGeneration L.generation } w v h (congrArg nextGeneration hg)).deeds

theorem setMc_quiet (s : State) {c : ModeController} (hmode : c.mode = s.mc.mode) (hpermit : c.permit = s.mc.permit) :
    Quiet s (s.setMc c) :=
  .of_roster (.of_mc (permitAgrees_of_mc hmode hpermit) (by rw [hmode]; rfl)) hmode rfl rfl rfl

theorem modeReport_quiet (s : State) {c : ModeController} (ev : ModeEvent) (i j k : Nat) (hmode : c.mode = s.mc.mode)
    (hpermit : c.permit = s.mc.permit) : Quiet s ((s.setMc c).modeReport ev i j k) := by
  refine .of_roster ((setMc_quiet s hmode hpermit).toEvent.trans (modeReport_event ..)) ?_ ?_ ?_ ?_
  · rw [State.mode, modeReport_mc]; exact hmode
  · rw [modeReport_table]; rfl
  · rw [modeReport_channels]; rfl
  · rw [modeReport_roster]; rfl

theorem decideSlot_deeds {s : State} (l : ControlLink) {m : ModeReq} {g : Option Nat} (hm : s.mode ∈ m.modes)
    (hr : s.modeRefusal m g = none) : Deeds s (s.decideSlot l m g).2 := by
  have hopen : Deed s (s.openSlot m g l).2 := .quiet (modeReport_quiet s _ _ _ _ rfl rfl)
  have hrefresh (p : PendingSlot) : Deed s (s.refreshSlot p).2 := .quiet (setMc_quiet s rfl rfl)
  have hmismatch (p : PendingSlot) : Deed s (s.mismatchSlot p m l).2 := .quiet (modeReport_quiet s _ _ _ _ rfl rfl)
  unfold State.decideSlot
  split
  · exact hopen.deeds
  · dsimp only
    split
    · split
      · exact (hrefresh _).deeds
      · exact hopen.deeds
    · split
      · exact (Deed.carriedOut m g hm hr).deeds
      · exact (hmismatch _).deeds

theorem modeRequest_deeds {s : State} (l : Link) {m : ModeReq} (g : Option Nat) (hm : takenIn m.req s.mode = true) :
    Deeds s (s.modeRequest l m g).2 := by
  rw [takenIn_modes, decide_eq_true_eq] at hm
  unfold State.modeRequest
  split
  · exact .refl
  · exact .refl
  case h_3 hr => exact decideSlot_deeds _ hm hr

theorem holdRequest_deeds (s : State) : Deeds s s.holdRequest.2 := by
  unfold State.holdRequest
  split
  case isTrue h => exact (Deed.ended (.held h)).deeds
  case isFalse => exact .refl

theorem haltRequest_deeds (s : State) : Deeds s s.haltRequest.2 := by
  unfold State.haltRequest
  split
  case isTrue h => exact (Deed.ended (.halted h)).deeds
  case isFalse => exact .refl

theorem verifyClear_deeds (s : State) (b : BlockId) : Deeds s (s.verifyClear b).2 := by
  unfold State.verifyClear
  split
  case h_1 h => exact (Deed.ended (.census b .clear (by simp [h]) (by simp [h]) (by decide))).deeds
  case h_2 => exact .refl
  case h_3 => exact .refl

theorem absentBoat_eq_some {t : Slot} {u : Boat} (h : t.absentBoat = some u) : t = .absent u := by
  cases t <;> simp_all [Slot.absentBoat]

theorem placeBoat_deeds {s : State} (x : BoatId) (b : BlockId) (guests : Bool) (hm : s.mode ≠ .configure) :
    Deeds s (s.placeBoat x b guests).2 := by
  unfold State.placeBoat
  split
  case h_1 => exact .refl
  case h_2 t ht =>
    split
    case isTrue hb => exact (Deed.ended (.placed x t b guests (absentBoat_eq_some ht) hb hm)).deeds
    case isFalse => exact .refl

theorem removeBoat_deeds (s : State) (x : BoatId) : Deeds s (s.removeBoat x).2 := by
  unfold State.removeBoat
  split
  case h_1 => exact .refl
  case h_2 => exact .refl
  case h_3 h => exact (Deed.ended (.removed x _ _ _ h)).deeds

theorem restoreBlock_deeds (s : State) (b : BlockId) : Deeds s (s.restoreBlock b).2 := by
  unfold State.restoreBlock
  split
  case isTrue h => exact (Deed.ended (.census b .clear (by simp [h.1]) (fun _ => h.2) (by decide))).deeds
  case isFalse => exact .refl

theorem setService_deeds (s : State) (b : BlockId) (into : Bool) : Deeds s (s.setService b into).2 := by
  have hact (st : BlockState) (h : (s.entry b).state ∈ [BlockState.unverified, .clear, .outOfService])
      (hst : st ∈ [BlockState.unverified, .clear, .outOfService]) : Deeds s (s.setEntry b (.bare st)).finish := by
    refine (Deed.ended (.census b st ?_ ?_ hst)).deeds
    · exact List.mem_append_left [.faulted] h
    · intro hf
      rw [hf] at h
      exact absurd h (by decide)
  unfold State.setService State.putIn State.takeOut
  split
  · split
    · exact .refl
    · split
      case isTrue h => exact hact _ (by simp [h]) (by decide)
      case isFalse => exact .refl
  · split
    case h_1 h => exact hact _ (by simp [h]) (by decide)
    case h_2 h => exact hact _ (by simp [h]) (by decide)
    case h_3 => exact .refl
    case h_4 => exact .refl

theorem enroll_deeds (s : State) (x : BoatId) (code tare : Nat) : Deeds s (s.enroll x code tare).2 := by
  unfold State.enroll
  split
  case isTrue => exact .refl
  case isFalse h =>
    split
    case h_1 => exact .refl
    case h_2 hc => exact (Deed.enrolled x code tare (Classical.not_not.mp h) hc).deeds

theorem retire_deeds (s : State) (x : BoatId) : Deeds s (s.retire x).2 := by
  unfold State.retire
  split
  case h_1 t ht => exact (Deed.retired x t (absentBoat_eq_some ht)).deeds
  case h_2 => exact .refl

theorem modBoat_slot (s : State) (x y : BoatId) (f : Boat → Boat) :
    (s.modBoat x f).slot y = if y = x then (s.slot x).mapBoat f else s.slot y := by
  split
  case isTrue h => rw [h, State.modBoat, setSlot_slot_self]
  case isFalse h => rw [State.modBoat, setSlot_slot_ne s _ h]

theorem modBoat_track (s : State) (x : BoatId) (f : Boat → Boat) : SameTrack s (s.modBoat x f) := by
  intro y
  rw [State.pathOf, State.pathOf, modBoat_slot]
  split
  case isTrue h => rw [h]; cases s.slot x <;> exact ⟨rfl, rfl⟩
  case isFalse => exact ⟨rfl, rfl⟩

theorem modBoat_quiet (s : State) (x : BoatId) {f : Boat → Boat} (h : ∀ t, (f t).tagCode = t.tagCode) :
    Quiet s (s.modBoat x f) :=
  ⟨modBoat_event s x h, rfl, rfl, rfl, modBoat_track s x f⟩

theorem setRoute_deeds (s : State) (x : BoatId) (r : Route) : Deeds s (s.setRoute x r).2 := by
  unfold State.setRoute
  split
  · exact .refl
  · dsimp only
    split
    · exact .refl
    · exact (Deed.ended (.rerouted x r)).deeds

theorem setExpedite_deeds (s : State) (x : BoatId) (v : Bool) : Deeds s (s.setExpedite x v).2 := by
  unfold State.setExpedite
  split
  · exact .refl
  · exact .single (.quiet (modBoat_quiet s x fun _ => rfl))

theorem clearCheck_deeds (s : State) (x : BoatId) : Deeds s (s.clearCheck x).2 := by
  unfold State.clearCheck
  split
  · exact .refl
  · exact .single (.quiet (modBoat_quiet s x fun _ => rfl))

theorem declare_deeds (s : State) (b : BlockId) (p : Phase) (k : WeighKind) : Deeds s (s.declare b p k).2 := by
  have hquiet : Quiet s (s.startWeigh b k) :=
    .of_roster (startWeigh_event s b k) (by rw [State.mode, startWeigh_mc, State.mode]) (startWeigh_table ..)
      (startWeigh_channels ..) (startWeigh_roster ..)
  unfold State.declare
  split
  · exact .refl
  · split
    · exact .refl
    · split
      · exact .refl
      · split
        · exact (Deed.quiet hquiet).deeds
        · exact .refl

theorem dispatchRequest_deeds (s : State) (b : BlockId) (afterPrevious : Bool) :
    Deeds s (s.dispatchRequest b afterPrevious).2 := by
  unfold State.dispatchRequest
  split
  case h_1 => exact .refl
  case h_2 => exact .refl
  case h_3 => exact .refl
  case h_4 x _ hb _ =>
    split
    · exact .refl
    · split
      · exact .refl
      · split
        case isTrue => exact .refl
        case isFalse h => exact (Deed.queued b x afterPrevious hb (Nat.lt_of_not_le h)).deeds

theorem cancelRequest_deeds (s : State) (l : Link) (seq : Byte) : Deeds s (s.cancelRequest l seq).2 := by
  unfold State.cancelRequest
  split
  · exact .refl
  · exact (Deed.ended (.canceled ..)).deeds

theorem entryOfSeq_seq {s : State} {seq : Byte} {e : DispatchEntry} (h : s.entryOfSeq seq = some e) : e.seq = seq := by
  simpa using List.find?_some h

theorem give_seq (e : DispatchEntry) (l : ControlLink) : (e.give l).seq = e.seq := congrArg Prod.fst (give_key e l)

theorem consentTo_deeds {s : State} (l : ControlLink) {e : DispatchEntry} (h : s.entryOfSeq e.seq = some e) :
    Deeds s (s.consentTo l e).2 := by
  have hgive : s.entryOfSeq (e.give l).seq = some e := by rwa [give_seq]
  have hput : Event s (s.putEntry (e.give l)) := putEntry_event (List.mem_of_find?_eq_some h) (give_key e l)
  unfold State.consentTo
  split
  · exact .refl
  · dsimp only
    split
    · exact .single (.ended (.consented e l hgive))
    · exact .single (.quiet (.of_roster hput rfl rfl rfl rfl))

theorem consentRequest_deeds (s : State) (l : Link) (seq : Byte) : Deeds s (s.consentRequest l seq).2 := by
  unfold State.consentRequest
  split
  case h_1 => exact .refl
  case h_2 => exact .refl
  case h_3 h => exact consentTo_deeds _ (by rwa [entryOfSeq_seq h])

theorem denyRequest_deeds (s : State) (l : Link) (seq : Byte) : Deeds s (s.denyRequest l seq).2 := by
  unfold State.denyRequest
  split
  case h_1 => exact .refl
  case h_2 => exact .refl
  case h_3 => exact .single (.ended (.denied ..))

theorem stepRequest_deeds (s : State) (b : BlockId) : Deeds s (s.stepRequest b).2 := by
  unfold State.stepRequest
  split
  case isTrue => exact .refl
  case isFalse hocc =>
    split
    · exact .refl
    · split
      · exact .refl
      · split
        case h_1 => exact .refl
        case h_2 p hp =>
          split
          case h_1 => exact .refl
          case h_2 hc => exact .single (.ended (.stepped b p (Classical.not_not.mp hocc) hp hc))

theorem clearFault_deeds (s : State) : Deeds s s.clearFault.2 := .single (.quiet (setMc_quiet s rfl rfl))

theorem clearZone_deeds (s : State) (b : BlockId) : Deeds s (s.clearZone b).2 := by
  unfold State.clearZone
  split
  · exact .refl
  · exact .single (.quiet (.of_roster (modBrake_event ..) rfl rfl rfl rfl))

/-- A request taken in its modes is a sequence of acts at its owner. -/
theorem own_deeds {s : State} (l : Link) {c : Call} (hm : takenIn c.req s.mode = true) : Deeds s (s.own l c).2 := by
  have hconfigure (h : (s.mode == .configure) = true) : s.mode = .configure := beq_iff_eq.mp h
  cases c
  case writeBlock => exact wrote_deeds (hconfigure hm) rfl
  case writeMerge => exact wrote_deeds (hconfigure hm) rfl
  case writeSettings => exact wrote_deeds (hconfigure hm) rfl
  case writeWindow => exact wrote_deeds (hconfigure hm) rfl
  case writePoint => exact wrote_deeds (hconfigure hm) rfl
  case modeRequest m g => exact modeRequest_deeds l g hm
  case hold => exact holdRequest_deeds s
  case halt => exact haltRequest_deeds s
  case verifyClear b => exact verifyClear_deeds s b
  case placeBoat x b guests => exact placeBoat_deeds x b guests (by rintro h; rw [h] at hm; cases hm)
  case removeBoat x => exact removeBoat_deeds s x
  case restoreBlock b => exact restoreBlock_deeds s b
  case setService b into => exact setService_deeds s b into
  case enroll x code tare => exact enroll_deeds s x code tare
  case retire x => exact retire_deeds s x
  case setRoute x r => exact setRoute_deeds s x r
  case setExpedite x v => exact setExpedite_deeds s x v
  case clearCheck x => exact clearCheck_deeds s x
  case unloaded b => exact declare_deeds ..
  case loaded b => exact declare_deeds ..
  case dispatch b v => exact dispatchRequest_deeds s b v
  case cancel seq => exact cancelRequest_deeds s l seq
  case consent seq => exact consentRequest_deeds s l seq
  case deny seq => exact denyRequest_deeds s l seq
  case step b => exact stepRequest_deeds s b
  case clearFault => exact clearFault_deeds s
  case clearZone b => exact clearZone_deeds s b
  case readReports most => exact (Outside.reads l most).deeds
  case clearCounters => exact Outside.counters.deeds
  case setAttention kinds interval => exact (Outside.attention l kinds interval).deeds
  case readLayout | readStatus | readBlock | readBoat | readQueue | readCounters => exact .refl

/-! ### Requests and frames -/

theorem decide_deeds (s : State) (l : Link) (r : Req) (args : List Byte) : Deeds s (s.decide l r args).2 := by
  unfold State.decide
  split
  · exact .refl
  · split
    case h_1 => exact .refl
    case h_2 c hc =>
      split
      case isTrue => exact .refl
      case isFalse hm =>
        split
        · exact .refl
        · refine own_deeds l ?_
          rw [readArgs_req r args c hc]
          exact eq_true_of_ne_false hm

theorem port_acts {s : State} (l : Link) {p : LinkPort} (h : p.up = s.up l) : Acts s (s.setPort l p) := Linked.acts (.port l p h)

/-- A response being sent is no act of its own but a change of the port. -/
theorem answer_acts (s : State) (l : Link) (code tag : Byte) (r : Reply) : Acts s (s.answer l code tag r) :=
  Linked.acts (.port l _ rfl)

theorem serve_acts (s : State) (l : Link) (r : Req) (tag : Byte) (args : List Byte) : Acts s (s.serve l r tag args) :=
  (decide_deeds s l r args).acts.trans (answer_acts ..)

theorem serveFrame_acts (s : State) (l : Link) (f : Frame) : Acts s (s.serveFrame l f) := by
  unfold State.serveFrame
  split
  · exact serve_acts ..
  · exact answer_acts ..

theorem enqueue_acts (s : State) (l : Link) (f : Frame) : Acts s (s.enqueue l f) := by
  unfold State.enqueue
  dsimp only
  split
  · exact Linked.acts (.port l _ rfl)
  · exact .refl

theorem present_acts (s : State) (l : Link) (r : Req) (tag : Byte) (args : List Byte) : Acts s (s.present l r tag args) := by
  unfold State.present
  split
  · exact serve_acts ..
  · exact enqueue_acts ..

theorem presentUnknown_acts (s : State) (l : Link) (code tag : Byte) (args : List Byte) :
    Acts s (s.presentUnknown l code tag args) := by
  unfold State.presentUnknown
  split
  · exact serveFrame_acts ..
  · exact enqueue_acts ..

/-! ### Characters -/

theorem beginFrame_up (p : LinkPort) (byte : Byte) : (p.beginFrame byte).up = p.up := by
  unfold LinkPort.beginFrame
  dsimp only
  split
  · rfl
  · split <;> rfl

theorem judge_up (p : LinkPort) (a : Assembly) : (p.judge a).1.up = p.up := by
  unfold LinkPort.judge
  dsimp only
  split
  · rfl
  · split
    · rfl
    · split <;> rfl

theorem extendFrame_up (p : LinkPort) (a : Assembly) (byte : Byte) : (p.extendFrame a byte).1.up = p.up := by
  unfold LinkPort.extendFrame
  dsimp only
  split
  · rfl
  · split
    · exact judge_up ..
    · rfl

theorem takeByte_up (p : LinkPort) (byte : Byte) (marker : Bool) : (p.takeByte byte marker).1.up = p.up := by
  unfold LinkPort.takeByte
  split
  · exact beginFrame_up ..
  · split
    · rfl
    · exact extendFrame_up ..

theorem placeLoss_up (p : LinkPort) : p.placeLoss.up = p.up := by
  unfold LinkPort.placeLoss
  split <;> rfl

theorem takeCharacter_up (p : LinkPort) (c : Character) : (p.takeCharacter c).1.up = p.up := by
  unfold LinkPort.takeCharacter
  dsimp only
  split
  · rw [placeLoss_up, takeByte_up]
  · exact takeByte_up ..

theorem goodFrame_acts (s : State) (l : Link) (f : Frame) : Acts s (s.goodFrame l f) := by
  unfold State.goodFrame
  dsimp only
  split
  case isTrue h => exact Linked.acts (.port l _ h.symm)
  case isFalse h => exact Linked.acts (.comesUp l _ rfl (eq_false_of_ne_true h))

theorem takeFront_acts (s : State) (l : Link) : Acts s (s.takeFront l) := by
  unfold State.takeFront
  dsimp only
  split
  · refine .head (.linked <| .port l _ ?_) (serveFrame_acts ..)
    rfl
  · exact .refl

theorem takeWaiting_acts (s : State) (l : Link) (c : Character) (rest : List Character) :
    Acts s (s.takeWaiting l c rest) := by
  have hport : Acts s (s.setPort l (LinkPort.takeCharacter { s.port l with fifo := rest } c).1) :=
    Linked.acts (.port l _ (takeCharacter_up ..))
  unfold State.takeWaiting
  dsimp only
  split
  · exact hport
  · exact (hport.trans (goodFrame_acts ..)).trans (takeFront_acts ..)

theorem drain_acts (l : Link) (n : Nat) (s : State) : Acts s (drain l n s) := by
  induction n generalizing s with
  | zero => exact .refl
  | succ n ih =>
    rw [drain]
    split
    · split
      · exact .refl
      · exact (takeWaiting_acts ..).trans (ih _)
    · exact .refl

theorem receive_up (p : LinkPort) (byte : Byte) (marker : Bool) : (p.receive byte marker).up = p.up := by
  unfold LinkPort.receive
  split <;> rfl

theorem character_acts (s : State) (l : Link) (byte : Byte) (marker : Bool) : Acts s (s.character l byte marker) := by
  unfold State.character
  split
  · exact .refl
  · exact .head (.linked <| .port l _ (receive_up ..)) (drain_acts ..)

theorem responseSent_acts (s : State) (l : Link) : Acts s (s.responseSent l) := by
  unfold State.responseSent
  split
  · exact .refl
  · refine .head (.linked <| .port l _ ?_) ((takeFront_acts ..).trans (drain_acts ..))
    rfl

theorem broken_up (p : LinkPort) : p.broken.up = p.up := by
  unfold LinkPort.broken
  split <;> rfl

/-! ### Field events and deadlines -/

theorem setPoint_deeds {s : State} {p : PointId} {q : Point} (hinvert : q.invert = (s.point p).invert)
    (hfilter : q.filter = (s.point p).filter) : Deeds s (s.setPoint p q) := by
  refine Outside.deeds (.points _ fun i => ?_)
  by_cases hi : i = p
  · rw [hi, vget_vput_self]; exact ⟨hinvert, hfilter⟩
  · rw [vget_vput_ne _ _ hi]; exact ⟨rfl, rfl⟩

theorem acceptLevel_deeds (s : State) (p : PointId) : Deeds s (s.acceptLevel p) :=
  (setPoint_deeds (q := { s.point p with level := (s.point p).seen, pending := none }) rfl rfl).trans (Happens.edge p _).deeds

theorem rawSample_deeds (s : State) (p : PointId) (on : Bool) : Deeds s (s.rawSample p on) := by
  unfold State.rawSample
  extract_lets q r t
  have ht : Deeds s t := setPoint_deeds rfl rfl
  have hr : t.point p = r := vget_vput_self ..
  split
  · exact .refl
  · split
    · split
      · exact ht.trans (setPoint_deeds (by rw [hr]) (by rw [hr]))
      · exact ht
    · split
      · exact ht
      · split
        · exact ht.trans (acceptLevel_deeds ..)
        · exact ht.trans (setPoint_deeds (by rw [hr]) (by rw [hr]))

theorem stopOpens_deeds (s : State) (k : StopContact) : Deeds s (s.stopOpens k) := by
  obtain ⟨hmode, hpermit⟩ := setContact_keeps s.mc k true
  unfold State.stopOpens
  dsimp only
  split
  · exact (setMc_quiet s hmode hpermit).deeds
  · exact Happens.deeds (.stopLine k)

theorem stopCloses_deeds (s : State) (k : StopContact) : Deeds s (s.stopCloses k) := by
  obtain ⟨hmode, hpermit⟩ := setContact_keeps s.mc k false
  have hquiet : Quiet s (s.stopCloses k) := setMc_quiet s hmode hpermit
  exact hquiet.deeds

theorem weighSample_deeds (s : State) (front rear : CellId) (i j : Nat) : Deeds s (s.weighSample front rear i j) := by
  unfold State.weighSample
  split
  · exact .refl
  · split
    · exact .refl
    · refine Quiet.deeds (.of_roster (modBay_event ..) ?_ (modBay_table ..) (modBay_channels ..) (modBay_roster ..))
      rw [State.mode, modBay_mc, State.mode]

theorem expireSlot_deeds (s : State) (p : PendingSlot) : Deeds s (s.expireSlot p) := by
  have hquiet : Quiet s (s.expireSlot p) := modeReport_quiet s _ _ _ _ rfl rfl
  exact hquiet.deeds

/-- An event that happens or does not. -/
theorem ite_deeds {s t : State} {p : Prop} [Decidable p] (h : p → Deeds s t) : Deeds s (if p then t else s) := by
  split
  case isTrue hp => exact h hp
  case isFalse => exact .refl

theorem holdableTransitDue_transitDue {s : State} {b : BlockId} {d : Time} (h : s.holdableTransitDue b = some d) :
    s.transitDue b = some d := by
  unfold State.holdableTransitDue at h
  split at h
  · exact h
  · cases h

theorem transitDue_releasing {s : State} {b : BlockId} {d : Time} (h : s.transitDue b = some d) :
    (s.entry b).state = .releasing := by
  unfold State.transitDue at h
  split at h
  case isTrue hrel => exact hrel
  case isFalse => cases h

theorem lostDue_releasing {s : State} {b : BlockId} (h : s.lostDue b = true) : (s.entry b).state = .releasing := by
  rw [State.lostDue, Bool.and_eq_true, Option.isSome_iff_exists] at h
  obtain ⟨_, d, hd⟩ := h
  exact transitDue_releasing hd

theorem stuckDue_releasing {s : State} {b : BlockId} (h : s.stuckDue b = true) : (s.entry b).state = .releasing := by
  rw [State.stuckDue, Bool.and_eq_true, beq_iff_eq] at h
  exact h.1

theorem driveFails_deeds (s : State) (k : FaultKind) (b : BlockId) (d : Details) : Deeds s (s.driveFault k b d).finish :=
  Happens.deeds (.driveFails k b d)

/-- The commands of the field wiring and the deadlines of the ride. -/
def isField : Instr → Bool
  | .rawChange .. | .stopLineOpens _ | .stopLineCloses _ | .tagRead .. | .weighSample .. => true
  | .supervisionDeadline _ => false
  | c => isDeadline c

/-- A command of the field is a sequence of deeds. -/
theorem exec_field_deeds {s t : State} {c : Instr} (hc : isField c = true) (h : exec c s = .next t) : Deeds s t := by
  have hnext {u : State} (heq : exec c s = .next u) (hu : Deeds s u) : Deeds s t := by
    rw [heq] at h
    cases h
    exact hu
  cases c
  case holdOffDeadline l => exact hnext rfl (ite_deeds fun _ => Outside.deeds (.holdOffEnds l))
  case rawChange p on => exact hnext rfl (rawSample_deeds s p on)
  case inputAcceptance p => exact hnext rfl (ite_deeds fun _ => acceptLevel_deeds s p)
  case stopLineOpens k => exact hnext rfl (stopOpens_deeds s k)
  case stopLineCloses k => exact hnext rfl (stopCloses_deeds s k)
  case tagRead port code => exact hnext rfl (Happens.deeds (.tagRead port code))
  case weighSample front rear i j => exact hnext rfl (weighSample_deeds s front rear i j)
  case weighWindowDeadline b =>
    refine hnext rfl ?_
    split
    case h_1 w _ => exact Happens.deeds (.weighCloses b w)
    case h_2 => exact .refl
  case holdableTransitDeadline b =>
    refine hnext rfl ?_
    split
    case h_1 d hd => exact Happens.deeds (.transitPasses b d (holdableTransitDue_transitDue hd))
    case h_2 => exact .refl
  case lostBoat b => exact hnext rfl (ite_deeds fun hd => Happens.deeds (.crossingFails _ b (lostDue_releasing hd)))
  case stuckAtBoundary b =>
    exact hnext rfl (ite_deeds fun hd => Happens.deeds (.crossingFails _ b (stuckDue_releasing hd)))
  case consentDeadline seq =>
    refine hnext rfl ?_
    split
    case h_1 e _ => exact Happens.deeds (.entryExpires e)
    case h_2 => exact .refl
  case slotDeadline =>
    refine hnext rfl ?_
    split
    case h_1 p _ => exact expireSlot_deeds s p
    case h_2 => exact .refl
  case headwayDeadline b => exact hnext rfl (ite_deeds fun _ => Happens.deeds (.headwayEnds b))
  case switchTravel b =>
    refine hnext rfl ?_
    split
    case h_1 => exact driveFails_deeds s _ b _
    case h_2 => exact .refl
  case trapDeadline b =>
    refine hnext rfl ?_
    split
    · exact Happens.deeds (.trapFails ..)
    · exact .refl
  case stopDelayDeadline b => exact hnext rfl (ite_deeds fun _ => Happens.deeds (.holdEngages b))
  case pulseDeadline c => exact hnext rfl (ite_deeds fun _ => Happens.deeds (.pulseEnds c _))
  case checkDeadline c =>
    refine hnext rfl ?_
    split
    case h_1 b _ => exact Happens.deeds (.channelFails c _ _ b _)
    case h_2 => exact .refl
  case positionDeadline c =>
    refine hnext rfl ?_
    split
    case h_1 b _ => exact Happens.deeds (.channelFails c _ _ b _)
    case h_2 => exact .refl
  all_goals cases hc

theorem goDown_acts (s : State) (l : Link) : Acts s (s.goDown l) := by
  unfold State.goDown
  dsimp only
  split
  · exact .head (.linked (.drops l)) (Happens.deeds (.rideLinkLost l _)).acts
  · exact .head (.linked (.drops l)) (Happens.deeds (.stationLinkLost l)).acts

/-- Every command is a sequence of acts. -/
theorem exec_acts {s t : State} {c : Instr} (h : exec c s = .next t) : Acts s t := by
  have hnext {u : State} (heq : exec c s = .next u) (hu : Acts s u) : Acts s t := by
    rw [heq] at h
    cases h
    exact hu
  cases c
  case powerOnReset pins open1 open2 on => exact hnext rfl (.single (.powerOn pins open1 open2 on))
  case unknownRequest l code tag args => exact hnext rfl (presentUnknown_acts s l code tag args)
  case characterReceived l byte marker => exact hnext rfl (character_acts s l byte marker)
  case responseSent l => exact hnext rfl (responseSent_acts s l)
  case lineBreak l => exact hnext rfl (port_acts l (broken_up _))
  case lineReturnsToMark l => exact hnext rfl (port_acts l (p := { s.port l with ignoring := false }) rfl)
  case supervisionDeadline l =>
    refine hnext rfl ?_
    split
    · exact goDown_acts s l
    · exact .refl
  case holdOffDeadline | rawChange | inputAcceptance | stopLineOpens | stopLineCloses | tagRead | weighSample
      | weighWindowDeadline | holdableTransitDeadline | lostBoat | stuckAtBoundary | consentDeadline | slotDeadline
      | headwayDeadline | switchTravel | trapDeadline | stopDelayDeadline | pulseDeadline | checkDeadline
      | positionDeadline => exact (exec_field_deeds rfl h).acts
  all_goals exact hnext rfl (present_acts ..)

theorem tick_deeds (s : State) : Deeds s s.tick := by
  unfold State.tick
  split
  · exact Outside.deeds (.time _)
  · exact Outside.deeds (.queue _)

/-- Every step is a sequence of acts. -/
theorem step_acts {s t : State} (h : step s = .next t) : Acts s t := by
  unfold step at h
  split at h
  · cases h
    exact (tick_deeds s).acts
  · exact (Outside.queue _).deeds.acts.trans (exec_acts h)

/-- What every act keeps every step keeps. -/
theorem step_keeps {P : State → Prop} (hact : ∀ s t, Act s t → P s → P t) {s t : State} (h : step s = .next t) (hs : P s) :
    P t := (step_acts h).keeps hact hs

end Sys2Proof.Machine
end

section
/-! PROOFS. What the acts leave alone, and the invariants of the dispatch list, the tag codes, the layout and the
generation, which follow from it. -/

namespace Sys2Proof.Machine

open Sys2Proof

/-! ### What happens before an event's end is an event -/

theorem withdrawn_key (s : State) (c : ControlLink) (e : DispatchEntry) : (s.withdrawn c e).key = e.key := by
  cases c <;> rfl

theorem withdrawConsents_event (s : State) (c : ControlLink) : Event s (s.withdrawConsents c) := by
  refine .after (.foldl (fun t _ => dispatchReport_event t ..) _ _) (mapDispatch_event s fun e => ?_)
  split
  · exact withdrawn_key ..
  · rfl

theorem discardSlotOf_event (s : State) (l : Link) : Event s (s.discardSlotOf l) := by
  unfold State.discardSlotOf
  split
  · split
    · exact discardSlot_event ..
    · exact .refl s
  · exact .refl s

theorem linkLost_event (s : State) (l : Link) : Event s (s.linkLost l) := by
  unfold State.linkLost
  split
  · exact raise_event ..
  · exact .refl s

theorem cancelAll_event (s : State) : Event s s.cancelAll :=
  .foldl (fun _ _ => (cancelEntry_event ..).trans (setPhase_event ..)) _ s

/-- What happens before the end of an event is an event. -/
theorem Happens.event {s t : State} (h : Happens s t) : Event s t := by
  cases h
  case weighCloses => exact closeWindow_event ..
  case transitPasses => exact transitEvent_event ..
  case crossingFails => exact faultAt_event ..
  case entryExpires => exact expireEntry_event ..
  case headwayEnds => exact endHeadway_event ..
  case driveFails => exact driveFault_event ..
  case channelFails => exact (setChannel_event ..).trans (driveFault_event ..)
  case trapFails => exact trapFails_event ..
  case holdEngages => exact engageHold_event ..
  case pulseEnds => exact setChannel_event ..
  case tagRead => exact takeTag_event ..
  case edge => exact deliverEdge_event ..
  case stopLine k =>
    obtain ⟨hmode, hpermit⟩ := setContact_keeps s.mc k true
    exact .after (raise_event ..) (.of_mc (permitAgrees_of_mc hmode hpermit) (by dsimp only; rw [hmode]; rfl))
  case held h => exact enterHolding_event s _ (by rintro hm; rw [hm] at h; cases h)
  case halted h => exact enterHalted_event s _ (by rintro hm; rw [hm] at h; cases h)
  case census => exact setEntry_event ..
  case placed h _ _ => exact place_event s _ _ h
  case removed h => exact remove_event s (by rw [State.boat, h]; rfl)
  case rerouted => exact reroute_event ..
  case canceled => exact (cancelEntry_event ..).trans (setPhase_event ..)
  case denied => exact ((removeEntry_event ..).trans (dispatchReport_event ..)).trans (setPhase_event ..)
  case consented h => exact (putEntry_event (List.mem_of_find?_eq_some h) (give_key ..)).trans (dispatchReport_event ..)
  case stepped => exact grant_event ..
  case rideLinkLost =>
    exact ((discardSlotOf_event ..).trans (withdrawConsents_event ..)).trans (linkLost_event ..)
  case stationLinkLost => exact (discardSlotOf_event ..).trans (cancelAll_event ..)

theorem Happens.ended_event {s t : State} (h : Happens s t) : Event s t.finish := h.event.trans (finish_event t)

/-! ### What lies outside the ride leaves the ride alone -/

/-- `t` is `s` but for what lies outside the ride. -/
structure Outer (s t : State) : Prop where
  mc : t.mc = s.mc
  table : t.table = s.table
  roster : t.roster = s.roster
  dispatch : t.dispatch = s.dispatch
  nextDispatch : t.nextDispatch = s.nextDispatch
  channels : t.channels = s.channels
  layout : t.layout = s.layout
  windows : t.windows = s.windows
  points : ∀ p, (t.point p).invert = (s.point p).invert ∧ (t.point p).filter = (s.point p).filter

theorem setReader_outer (s : State) (l : Link) (r : Reader) : Outer s (s.setReader l r) :=
  ⟨rfl, rfl, rfl, rfl, rfl, rfl, rfl, rfl, fun _ => ⟨rfl, rfl⟩⟩

theorem setPort_outer (s : State) (l : Link) (p : LinkPort) : Outer s (s.setPort l p) :=
  ⟨rfl, rfl, rfl, rfl, rfl, rfl, rfl, rfl, fun _ => ⟨rfl, rfl⟩⟩

theorem Outer.trans {s t u : State} (h : Outer s t) (h' : Outer t u) : Outer s u :=
  ⟨h'.mc.trans h.mc, h'.table.trans h.table, h'.roster.trans h.roster, h'.dispatch.trans h.dispatch,
    h'.nextDispatch.trans h.nextDispatch, h'.channels.trans h.channels, h'.layout.trans h.layout,
    h'.windows.trans h.windows,
    fun p => ⟨(h'.points p).1.trans (h.points p).1, (h'.points p).2.trans (h.points p).2⟩⟩

/-- A part that writes the Report Queue alone. -/
theorem Outer.of_reports {s t : State} (h : t = { s with reports := t.reports }) : Outer s t := by
  rw [h]
  exact ⟨rfl, rfl, rfl, rfl, rfl, rfl, rfl, rfl, fun _ => ⟨rfl, rfl⟩⟩

theorem linkReport_outer (s : State) (l : Link) (i j : Nat) : Outer s (s.linkReport l i j) := .of_reports (append_eq ..)

theorem freeEntries_outer (s : State) : Outer s s.freeEntries := .of_reports rfl

theorem Outside.outer {s t : State} (h : Outside s t) : Outer s t := by
  cases h
  case queue | time => exact ⟨rfl, rfl, rfl, rfl, rfl, rfl, rfl, rfl, fun _ => ⟨rfl, rfl⟩⟩
  case points h => exact ⟨rfl, rfl, rfl, rfl, rfl, rfl, rfl, rfl, h⟩
  case holdOffEnds => exact setReader_outer ..
  case attention => exact setReader_outer ..
  case reads =>
    unfold State.advanceCursor
    dsimp only
    split
    · exact ((setReader_outer ..).trans (freeEntries_outer ..)).trans (setReader_outer ..)
    · exact setReader_outer ..
  case counters =>
    refine ⟨rfl, rfl, rfl, rfl, rfl, rfl, rfl, rfl, fun p => ?_⟩
    simp [State.clearCounters, State.point]

theorem Linked.outer {s t : State} (h : Linked s t) : Outer s t := by
  cases h
  case port => exact setPort_outer ..
  case comesUp => exact ((setPort_outer ..).trans (setReader_outer ..)).trans (linkReport_outer ..)
  case drops =>
    exact (((setPort_outer ..).trans (setReader_outer ..)).trans (freeEntries_outer ..)).trans (linkReport_outer ..)

theorem Outer.mode {s t : State} (h : Outer s t) : t.mode = s.mode := by rw [State.mode, h.mc, State.mode]

/-! ### A mode change carried out -/

/-- The change of mode itself. -/
def State.changed (s : State) (m : ModeReq) : State :=
  (s.setMc { s.mc with slot := none }).changeMode (m.target s.mode s.mc.runMode) .request

/-- A mode change carried out but for the end of the event. -/
def State.prepared (s : State) (m : ModeReq) : State :=
  match m with
  | .enterStandby => (s.changed m).setUp
  | .restart => (s.changed m).restartUnits
  | .enterConfigure => (s.changed m).configureUnits
  | .enterRun | .enterManual => s.changed m
  | .resume => if s.mode = .halted then (s.changed m).resumeFrozen else s.changed m

theorem changed_mode (s : State) (m : ModeReq) : (s.changed m).mode = m.target s.mode s.mc.runMode :=
  congrArg ModeController.mode (changeMode_mc ..)

theorem vacateAll_event (s : State) : Event s s.vacateAll := .foldl (fun _ _ => setPhase_event ..) _ s

theorem vacateAll_mc (s : State) : s.vacateAll.mc = s.mc := foldl_keeps State.mc _ (fun t b => setPhase_mc t b .vacant) _ s

theorem configureUnits_mc (s : State) : s.configureUnits.mc = s.mc := by
  have hmc : s.forget.vacateAll.mc = s.mc := vacateAll_mc s.forget
  unfold State.configureUnits
  generalize s.forget.vacateAll = u at hmc ⊢
  exact hmc

theorem restartUnits_mc (s : State) : s.restartUnits.mc = s.mc := by
  have hmc : s.forget.vacateAll.mc = s.mc := vacateAll_mc s.forget
  unfold State.restartUnits
  generalize s.forget.vacateAll = u at hmc ⊢
  exact hmc

theorem carryOut_eq (s : State) (m : ModeReq) : s.carryOut m = (s.prepared m).finish := by
  cases m
  case enterConfigure =>
    refine (finish_configure _ ?_).symm
    exact (congrArg ModeController.mode (configureUnits_mc _)).trans (changed_mode s .enterConfigure)
  case resume =>
    unfold State.carryOut State.prepared
    dsimp only
    by_cases h : s.mode = .halted
    · rw [if_pos h, if_pos (decide_eq_true h)]; rfl
    · rw [if_neg h, if_neg (by simpa using h)]; rfl
  all_goals rfl

/-- What a carried-out mode change keeps of the boats and the dispatch list. -/
structure ListsKept (s t : State) : Prop where
  codes : ∀ x, (t.boat x).map (·.tagCode) = (s.boat x).map (·.tagCode)
  nextDispatch : t.nextDispatch = s.nextDispatch
  dispatch : (s.dispatch.map (·.seq)).Nodup →
    (t.dispatch.map DispatchEntry.key).Sublist (s.dispatch.map DispatchEntry.key)

theorem Event.lists {s t : State} (h : Event s t) : ListsKept s t := ⟨h.codes, h.nextDispatch, h.dispatch⟩

theorem ListsKept.trans {s t u : State} (h : ListsKept s t) (h' : ListsKept t u) : ListsKept s u :=
  ⟨fun x => (h'.codes x).trans (h.codes x), h'.nextDispatch.trans h.nextDispatch,
    fun hseq => (h'.dispatch (nodup_seq_of_sublist (h.dispatch hseq) hseq)).trans (h.dispatch hseq)⟩

theorem changeMode_lists (s : State) (m : Mode) (c : ChangeCause) : ListsKept s (s.changeMode m c) := by
  refine ⟨fun x => ?_, changeMode_nextDispatch .., fun _ => ?_⟩
  · rw [State.boat, State.slot, changeMode_roster]; rfl
  · have hkeys : (s.changeMode m c).dispatch.map DispatchEntry.key = s.dispatch.map DispatchEntry.key := by
      rw [changeMode_dispatch, List.map_map]
      exact List.map_congr_left fun e _ => retime_key e ..
    exact sublist_of_eq hkeys

theorem changed_lists (s : State) (m : ModeReq) : ListsKept s (s.changed m) :=
  ListsKept.trans (t := s.setMc { s.mc with slot := none }) ⟨fun _ => rfl, rfl, fun _ => .refl _⟩
    (changeMode_lists ..)

theorem setUp_lists (s : State) : ListsKept s s.setUp :=
  ⟨fun x => by rw [State.boat, State.slot, setUp_roster]; rfl, setUp_nextDispatch s,
    fun _ => sublist_of_eq (congrArg (·.map DispatchEntry.key) (setUp_dispatch s))⟩

theorem offTrack_code (t : Slot) : t.offTrack.boat.map (·.tagCode) = t.boat.map (·.tagCode) := by cases t <;> rfl

theorem forget_lists (s : State) : ListsKept s s.forget := by
  refine ⟨fun x => ?_, rfl, fun _ => List.nil_sublist _⟩
  have hslot : s.forget.slot x = (s.slot x).offTrack := vget_vmap ..
  rw [State.boat, hslot, offTrack_code, State.boat]

theorem restartUnits_lists (s : State) : ListsKept s s.restartUnits := by
  have hkept : ListsKept s s.forget.vacateAll := (forget_lists s).trans (vacateAll_event _).lists
  unfold State.restartUnits
  generalize s.forget.vacateAll = u at hkept ⊢
  exact hkept.trans ⟨fun _ => rfl, rfl, fun _ => .refl _⟩

theorem configureUnits_lists (s : State) : ListsKept s s.configureUnits := by
  have hkept : ListsKept s s.forget.vacateAll := (forget_lists s).trans (vacateAll_event _).lists
  unfold State.configureUnits
  generalize s.forget.vacateAll = u at hkept ⊢
  exact hkept.trans ⟨fun _ => rfl, rfl, fun _ => .refl _⟩

theorem prepared_lists (s : State) (m : ModeReq) : ListsKept s (s.prepared m) := by
  have hchanged := changed_lists s m
  unfold State.prepared
  split
  · exact hchanged.trans (setUp_lists _)
  · exact hchanged.trans (restartUnits_lists _)
  · exact hchanged.trans (configureUnits_lists _)
  · exact hchanged
  · exact hchanged
  · split
    · exact hchanged.trans (resumeFrozen_event _).lists
    · exact hchanged

theorem carryOut_lists (s : State) (m : ModeReq) : ListsKept s (s.carryOut m) := by
  rw [carryOut_eq]
  exact (prepared_lists s m).trans (finish_event _).lists

/-! ### The dispatch list (R104, R105) -/

theorem dispatchSound_of_lists {s t : State} (h : ListsKept s t) (hs : s.dispatchSound) : t.dispatchSound := by
  obtain ⟨hlength, hseq, hbay, hnext⟩ := hs
  have hkeys := h.dispatch hseq
  refine ⟨?_, nodup_seq_of_sublist hkeys hseq, ?_, ?_⟩
  · have := hkeys.length_le
    simp only [List.length_map] at this
    exact Nat.le_trans this hlength
  · rw [map_bay_eq] at hbay ⊢
    exact hbay.sublist (hkeys.map _)
  · rw [h.nextDispatch, map_seq_eq]
    rw [map_seq_eq] at hnext
    exact fun hmem => hnext ((hkeys.map _).subset hmem)

theorem Outer.lists {s t : State} (h : Outer s t) : ListsKept s t :=
  ⟨fun x => by rw [State.boat, State.slot, h.roster]; rfl, h.nextDispatch,
    fun _ => sublist_of_eq (congrArg (·.map DispatchEntry.key) h.dispatch)⟩

theorem any_seq_iff {es : List DispatchEntry} {c : Byte} : (es.any fun e => e.seq == c) = true ↔ c ∈ es.map (·.seq) := by
  simp

/-- The search for a free sequence number ends at a held one only if every number tried is held. -/
theorem freeSeq_tried {es : List DispatchEntry} {n : Nat} {c : Byte} (h : freeSeq es n c ∈ es.map (·.seq)) :
    ∀ i < n, c + BitVec.ofNat 8 i ∈ es.map (·.seq) := by
  induction n generalizing c with
  | zero => exact fun i hi => absurd hi (Nat.not_lt_zero i)
  | succ n ih =>
    rw [freeSeq] at h
    split at h
    case isFalse hany => exact absurd (any_seq_iff.mpr h) hany
    case isTrue hany =>
      intro i hi
      cases i with
      | zero => simpa using any_seq_iff.mp hany
      | succ i =>
        have hnext := ih h i (Nat.lt_of_succ_lt_succ hi)
        rwa [show c + 1 + BitVec.ofNat 8 i = c + BitVec.ofNat 8 (i + 1) by bv_omega] at hnext

/-- A list of fewer than 256 entries leaves a sequence number free (R105). -/
theorem freeSeq_free {es : List DispatchEntry} (h : es.length < 256) (c : Byte) :
    freeSeq es 256 c ∉ es.map (·.seq) := by
  intro hmem
  have htried := freeSeq_tried hmem
  have hnodup : ((List.range 256).map fun i => c + BitVec.ofNat 8 i).Nodup := by
    refine nodup_map_of_inj List.nodup_range fun i hi j hj heq => ?_
    rw [List.mem_range] at hi hj
    bv_omega
  have hsub : ((List.range 256).map fun i => c + BitVec.ofNat 8 i) ⊆ es.map (·.seq) := by
    intro d hd
    obtain ⟨i, hi, rfl⟩ := List.mem_map.mp hd
    exact htried i (List.mem_range.mp hi)
  have hlength := hnodup.length_le_of_subset hsub
  simp only [List.length_map, List.length_range] at hlength
  omega

theorem queueDispatch_dispatch (s : State) (b : BlockId) (x : BoatId) (afterPrevious : Bool) :
    (s.queueDispatch b x afterPrevious).dispatch = s.dispatch ++ [s.newEntry b x afterPrevious] := by
  unfold State.queueDispatch
  dsimp only
  rw [setPhase_dispatch, dispatchReport_dispatch]

theorem queueDispatch_nextDispatch (s : State) (b : BlockId) (x : BoatId) (afterPrevious : Bool) :
    (s.queueDispatch b x afterPrevious).nextDispatch =
      freeSeq (s.dispatch ++ [s.newEntry b x afterPrevious]) 256 (s.nextDispatch + 1) := by
  unfold State.queueDispatch
  dsimp only
  rw [setPhase_nextDispatch, dispatchReport_nextDispatch]

theorem queueDispatch_sound {s : State} {b : BlockId} (x : BoatId) (afterPrevious : Bool) (hb : s.entryOfBay b = none)
    (h : s.dispatch.length < Config.dispatchCapacity) (hs : s.dispatchSound) :
    (s.queueDispatch b x afterPrevious).dispatchSound := by
  obtain ⟨hlength, hseq, hbay, hnext⟩ := hs
  have hb' : b ∉ s.dispatch.map (·.bay) := by
    intro hmem
    obtain ⟨e, he, rfl⟩ := List.mem_map.mp hmem
    exact List.find?_eq_none.mp hb e he (beq_self_eq_true _)
  have hlt : s.dispatch.length < 8 := h
  rw [State.dispatchSound, queueDispatch_dispatch, queueDispatch_nextDispatch]
  refine ⟨?_, ?_, ?_, freeSeq_free ?_ _⟩
  · rw [List.length_append]; exact hlt
  · rw [List.map_append]; exact List.perm_append_comm.nodup (List.nodup_cons.mpr ⟨hnext, hseq⟩)
  · rw [List.map_append]; exact List.perm_append_comm.nodup (List.nodup_cons.mpr ⟨hb', hbay⟩)
  · rw [List.length_append, List.length_singleton]; omega

theorem powerOn_dispatch (s : State) (pins : BitVec 2) (open1 open2 : Bool) (on : List PointId) :
    (s.powerOn pins open1 open2 on).dispatch = [] := rfl

theorem deed_dispatchSound {s t : State} (h : Deed s t) (hs : s.dispatchSound) : t.dispatchSound := by
  cases h with
  | outside h => exact dispatchSound_of_lists h.outer.lists hs
  | ended h => exact dispatchSound_of_lists h.ended_event.lists hs
  | quiet h => exact dispatchSound_of_lists h.lists hs
  | queued b x afterPrevious hb h => exact queueDispatch_sound x afterPrevious hb h hs
  | enrolled => exact hs
  | retired => exact hs
  | writes => exact hs
  | carriedOut => exact dispatchSound_of_lists (carryOut_lists ..) hs

theorem powerOn_dispatchSound (s : State) (pins : BitVec 2) (open1 open2 : Bool) (on : List PointId) :
    (s.powerOn pins open1 open2 on).dispatchSound := ⟨Nat.zero_le _, .nil, .nil, List.not_mem_nil⟩

theorem act_dispatchSound (s t : State) (h : Act s t) (hs : s.dispatchSound) : t.dispatchSound := by
  cases h with
  | linked h => exact dispatchSound_of_lists h.outer.lists hs
  | powerOn => exact powerOn_dispatchSound ..
  | deed h => exact deed_dispatchSound h hs

/-! ### Tag codes (R62) -/

theorem codesDistinct_of_codes {s t : State} (h : ∀ x, (t.boat x).map (·.tagCode) = (s.boat x).map (·.tagCode))
    (hs : s.codesDistinct) : t.codesDistinct := by
  have hboat (x : BoatId) (u : Boat) (hx : t.boat x = some u) : ∃ v, s.boat x = some v ∧ v.tagCode = u.tagCode := by
    have hcode := h x
    rw [hx] at hcode
    exact Option.map_eq_some_iff.mp hcode.symm
  intro x y u v hx hy hcode
  obtain ⟨u', hu', hu⟩ := hboat x u hx
  obtain ⟨v', hv', hv⟩ := hboat y v hy
  exact hs x y u' v' hu' hv' (by rw [hu, hv, hcode])

theorem slotOfCode_none {s : State} {code : Nat} (h : s.slotOfCode code = none) {x : BoatId} {t : Boat}
    (ht : s.boat x = some t) : t.tagCode ≠ code := by
  have hx := List.find?_eq_none.mp h x (List.mem_finRange x)
  rw [ht] at hx
  simpa using hx

theorem enrolled_codesDistinct {s : State} {x : BoatId} {code : Nat} (tare : Nat) (hc : s.slotOfCode code = none)
    (hs : s.codesDistinct) : (s.setSlot x (.absent (.enrolled code tare))).codesDistinct := by
  have hself : (s.setSlot x (.absent (.enrolled code tare))).boat x = some (.enrolled code tare) := boat_setSlot_self ..
  have hother {y : BoatId} {u : Boat} (hy : y ≠ x) (hu : (s.setSlot x (.absent (.enrolled code tare))).boat y = some u) :
      s.boat y = some u := by rwa [boat_setSlot_ne _ _ hy] at hu
  intro y z u v hu hv hcode
  by_cases hy : y = x
  · by_cases hz : z = x
    · rw [hy, hz]
    · rw [hy, hself] at hu
      cases hu
      exact absurd hcode.symm (slotOfCode_none hc (hother hz hv))
  · by_cases hz : z = x
    · rw [hz, hself] at hv
      cases hv
      exact absurd hcode (slotOfCode_none hc (hother hy hu))
    · exact hs y z u v (hother hy hu) (hother hz hv) hcode

theorem retired_codesDistinct {s : State} (x : BoatId) (hs : s.codesDistinct) : (s.setSlot x .unused).codesDistinct := by
  have hboat {y : BoatId} {u : Boat} (hu : (s.setSlot x .unused).boat y = some u) : s.boat y = some u := by
    by_cases hy : y = x
    · rw [hy, boat_setSlot_self] at hu; cases hu
    · rwa [boat_setSlot_ne _ _ hy] at hu
  exact fun y z u v hu hv => hs y z u v (hboat hu) (hboat hv)

theorem deed_codesDistinct {s t : State} (h : Deed s t) (hs : s.codesDistinct) : t.codesDistinct := by
  cases h with
  | outside h => exact codesDistinct_of_codes h.outer.lists.codes hs
  | ended h => exact codesDistinct_of_codes h.ended_event.codes hs
  | quiet h => exact codesDistinct_of_codes h.codes hs
  | queued b x afterPrevious =>
    refine codesDistinct_of_codes (fun y => ?_) hs
    have hroster : (s.queueDispatch b x afterPrevious).roster = s.roster := by
      unfold State.queueDispatch
      dsimp only
      rw [setPhase_roster, dispatchReport_roster]
    rw [State.boat, State.slot, hroster]; rfl
  | enrolled x code tare h hc => exact enrolled_codesDistinct tare hc hs
  | retired x => exact retired_codesDistinct x hs
  | writes => exact hs
  | carriedOut => exact codesDistinct_of_codes (carryOut_lists ..).codes hs

theorem powerOn_codesDistinct (s : State) (pins : BitVec 2) (open1 open2 : Bool) (on : List PointId) :
    (s.powerOn pins open1 open2 on).codesDistinct := by
  intro x _ u _ hu
  have hnone : (s.powerOn pins open1 open2 on).slot x = .unused := Vector.getElem_replicate ..
  rw [State.boat, hnone] at hu
  cases hu

theorem act_codesDistinct (s t : State) (h : Act s t) (hs : s.codesDistinct) : t.codesDistinct := by
  cases h with
  | linked h => exact codesDistinct_of_codes h.outer.lists.codes hs
  | powerOn pins open1 open2 on => exact powerOn_codesDistinct s pins open1 open2 on
  | deed h => exact deed_codesDistinct h hs

/-- Settles O59: dispatch entries only leave the list but for a DISPATCH, whose sequence number is free; and tag codes
stay with their slots but for an ENROLL, whose code no slot holds. -/
theorem stepsKeepTheListsSound : Obligations.StepsKeepTheListsSound := by
  unfold Obligations.StepsKeepTheListsSound
  exact ⟨fun s t hs h => step_keeps act_dispatchSound h hs, fun s t hs h => step_keeps act_codesDistinct h hs⟩

end Sys2Proof.Machine
end

section
/-! PROOFS. The invariants of the layout, of the mode, permit and safe channels: outside a carried-out mode change and the
writes of CONFIGURE nothing they speak of changes, and the end of an event brings the rest about. -/

namespace Sys2Proof.Machine

open Sys2Proof

/-! ### The layout (R2, R18) -/

theorem restartUnits_surroundings (s : State) : s.restartUnits.surroundings = s.surroundings := by
  have hkept : s.forget.vacateAll.surroundings = s.surroundings := (vacateAll_event s.forget).surroundings
  unfold State.restartUnits
  generalize s.forget.vacateAll = u at hkept ⊢
  exact hkept

theorem configureUnits_surroundings (s : State) : s.configureUnits.surroundings = s.surroundings := by
  have hkept : s.forget.vacateAll.surroundings = s.surroundings := (vacateAll_event s.forget).surroundings
  unfold State.configureUnits
  generalize s.forget.vacateAll = u at hkept ⊢
  exact hkept

theorem changed_surroundings (s : State) (m : ModeReq) : (s.changed m).surroundings = s.surroundings :=
  changeMode_surroundings ..

theorem prepared_surroundings (s : State) (m : ModeReq) : (s.prepared m).surroundings = s.surroundings := by
  have hchanged := changed_surroundings s m
  unfold State.prepared
  split
  · exact (setUp_surroundings _).trans hchanged
  · exact (restartUnits_surroundings _).trans hchanged
  · exact (configureUnits_surroundings _).trans hchanged
  · exact hchanged
  · exact hchanged
  · split
    · exact (resumeFrozen_surroundings _).trans hchanged
    · exact hchanged

theorem carryOut_surroundings (s : State) (m : ModeReq) : (s.carryOut m).surroundings = s.surroundings := by
  rw [carryOut_eq, finish_surroundings, prepared_surroundings]

/-- What the surroundings hold of the layout. -/
theorem surroundings_layout {s t : State} (h : t.surroundings = s.surroundings) :
    t.layout = s.layout ∧ t.windows = s.windows ∧ t.points = s.points := by
  simp only [State.surroundings, Prod.mk.injEq] at h
  obtain ⟨_, _, _, _, hwindows, hlayout, hpoints⟩ := h
  exact ⟨hlayout, hwindows, hpoints⟩

theorem queueDispatch_surroundings (s : State) (b : BlockId) (x : BoatId) (afterPrevious : Bool) :
    (s.queueDispatch b x afterPrevious).surroundings = s.surroundings := by
  unfold State.queueDispatch
  dsimp only
  rw [setPhase_surroundings, dispatchReport_surroundings]
  rfl

theorem queueDispatch_mc (s : State) (b : BlockId) (x : BoatId) (afterPrevious : Bool) :
    (s.queueDispatch b x afterPrevious).mc = s.mc := by
  unfold State.queueDispatch
  dsimp only
  rw [setPhase_mc, dispatchReport_mc]

theorem generationSound_of {s t : State} (hlayout : t.layout = s.layout) (hwindows : t.windows = s.windows)
    (hpoints : ∀ p, (t.point p).invert = (s.point p).invert ∧ (t.point p).filter = (s.point p).filter)
    (hs : s.generationSound) : t.generationSound := by
  rw [State.generationSound, hlayout, hwindows]
  refine ⟨hs.1, fun h => ?_⟩
  obtain ⟨hl, hw, hp⟩ := hs.2 h
  exact ⟨hl, hw, fun p => by rw [(hpoints p).1, (hpoints p).2]; exact hp p⟩

theorem generationSound_of_surroundings {s t : State} (h : t.surroundings = s.surroundings) (hs : s.generationSound) :
    t.generationSound := by
  obtain ⟨hlayout, hwindows, hpoints⟩ := surroundings_layout h
  exact generationSound_of hlayout hwindows (fun p => by rw [State.point, hpoints]; exact ⟨rfl, rfl⟩) hs

theorem nextGeneration_range {g : Nat} (h : g ≤ 65535) : nextGeneration g ≤ 65535 ∧ nextGeneration g ≠ 0 := by
  unfold nextGeneration
  split <;> omega

theorem powerOn_generationSound (s : State) (pins : BitVec 2) (open1 open2 : Bool) (on : List PointId) :
    (s.powerOn pins open1 open2 on).generationSound := by
  refine ⟨Nat.zero_le _, fun _ => ⟨rfl, rfl, fun p => ?_⟩⟩
  simp [State.powerOn, State.point, State.reset]

theorem deed_generationSound {s t : State} (h : Deed s t) (hs : s.generationSound) : t.generationSound := by
  cases h with
  | outside h => exact generationSound_of h.outer.layout h.outer.windows h.outer.points hs
  | ended h => exact generationSound_of_surroundings h.ended_event.surroundings hs
  | quiet h => exact generationSound_of_surroundings h.surroundings hs
  | queued => exact generationSound_of_surroundings (queueDispatch_surroundings ..) hs
  | enrolled => exact hs
  | retired => exact hs
  | writes L w v _ hg =>
    obtain ⟨hle, hne⟩ := nextGeneration_range hs.1
    exact ⟨hg ▸ hle, fun h => absurd (hg.symm.trans h) hne⟩
  | carriedOut => exact generationSound_of_surroundings (carryOut_surroundings ..) hs

theorem act_generationSound (s t : State) (h : Act s t) (hs : s.generationSound) : t.generationSound := by
  cases h with
  | linked h => exact generationSound_of h.outer.layout h.outer.windows h.outer.points hs
  | powerOn => exact powerOn_generationSound ..
  | deed h => exact deed_generationSound h hs

theorem layoutValidated_of {s t : State} (hlayout : t.layout = s.layout) (hmode : t.mode = .configure ↔ s.mode = .configure)
    (hs : s.layoutValidated) : t.layoutValidated := by
  rw [State.layoutValidated, hlayout]
  exact fun h => hs (mt hmode.mpr h)

theorem Event.layoutValidated {s t : State} (h : Event s t) (hs : s.layoutValidated) : t.layoutValidated :=
  layoutValidated_of (surroundings_layout h.surroundings).1 h.configure hs

/-- A mode change from CONFIGURE is ENTER STANDBY, which validates the layout (R181, R186). -/
theorem validate_of_modeRefusal {s : State} {m : ModeReq} {g : Option Nat} (h : s.mode ∈ m.modes)
    (hr : s.modeRefusal m g = none) (hs : s.layoutValidated) : s.layout.validate = none := by
  by_cases hm : s.mode = .configure
  · cases m
    case enterStandby =>
      rw [show s.modeRefusal .enterStandby g = s.standbyRefusal g from rfl, State.standbyRefusal] at hr
      split at hr
      · cases hr
      · exact Option.map_eq_none_iff.mp hr
    all_goals
      rw [hm] at h
      exact absurd h (by decide)
  · exact hs hm

theorem deed_layoutValidated {s t : State} (h : Deed s t) (hs : s.layoutValidated) : t.layoutValidated := by
  cases h with
  | outside h => exact layoutValidated_of h.outer.layout (by rw [h.outer.mode]) hs
  | ended h => exact h.ended_event.layoutValidated hs
  | quiet h => exact h.layoutValidated hs
  | queued =>
    exact layoutValidated_of (surroundings_layout (queueDispatch_surroundings ..)).1
      (by rw [State.mode, queueDispatch_mc, State.mode]) hs
  | enrolled => exact hs
  | retired => exact hs
  | writes _ _ _ h => exact fun hm => absurd h hm
  | carriedOut m g h hr =>
    intro _
    rw [(surroundings_layout (carryOut_surroundings s m)).1]
    exact validate_of_modeRefusal h hr hs

theorem act_layoutValidated (s t : State) (h : Act s t) (hs : s.layoutValidated) : t.layoutValidated := by
  cases h with
  | linked h => exact layoutValidated_of h.outer.layout (by rw [h.outer.mode]) hs
  | powerOn => exact fun h => absurd rfl h
  | deed h => exact deed_layoutValidated h hs

/-- Settles O60: the layout is written in CONFIGURE alone, with the next generation, and ENTER STANDBY validates it. -/
theorem stepsKeepTheLayoutSound : Obligations.StepsKeepTheLayoutSound := by
  unfold Obligations.StepsKeepTheLayoutSound
  exact ⟨fun s t hs h => step_keeps act_layoutValidated h hs, fun s t hs h => step_keeps act_generationSound h hs⟩

/-! ### The mode (R169, R179, R189) -/

/-- The invariants of the mode. -/
def State.modeSound (s : State) : Prop := s.permitAgrees ∧ s.haltedSafe ∧ s.holdingMoves

theorem modeSound_of {s t : State} (hpermit : s.permitAgrees → t.permitAgrees) (hmode : t.mode = s.mode)
    (hchannels : t.channels = s.channels) (hlayout : t.layout = s.layout) (htable : t.table = s.table) (hs : s.modeSound) :
    t.modeSound := by
  obtain ⟨hagrees, hsafe, hmoves⟩ := hs
  refine ⟨hpermit hagrees, ?_, ?_⟩
  · rw [State.haltedSafe, hmode]
    intro hm c b r d
    rw [State.channel, hchannels, State.record, hlayout]
    exact hsafe hm c b r d
  · rw [State.holdingMoves, hmode]
    intro hm
    obtain ⟨b, hb⟩ := hmoves hm
    exact ⟨b, by rw [State.entry, htable]; exact hb⟩

theorem modeSound_of_mc {s t : State} (hmc : t.mc = s.mc) (hchannels : t.channels = s.channels)
    (hlayout : t.layout = s.layout) (htable : t.table = s.table) (hs : s.modeSound) : t.modeSound := by
  refine modeSound_of ?_ (by rw [State.mode, hmc, State.mode]) hchannels hlayout htable hs
  rw [State.permitAgrees, State.permitAgrees, State.mode, State.mode, hmc]
  exact id

/-- The end of an event leaves a HALTED ride safe. -/
theorem finish_haltedSafe (s : State) : s.finish.haltedSafe := by
  intro hm c b r d howner hr hd
  by_cases hs : s.mode = .configure
  · rw [finish_configure s hs, hs] at hm
    cases hm
  · rw [finish_command hs howner hr hd, State.commandOf, if_pos (.inl hm)]

/-- The end of an event leaves a ride in HOLDING moving. -/
theorem finish_holdingMoves (s : State) : s.finish.holdingMoves := by
  intro hm
  by_cases hs : s.mode = .configure
  · rw [finish_configure s hs, hs] at hm
    cases hm
  · obtain ⟨u, hu⟩ := finish_derives hs
    generalize u.refreshBrakes.refreshChannels = v at hu
    rw [hu, State.settle] at hm ⊢
    split at hm
    case isTrue =>
      have hheld : (v.changeMode .held .settled).mode = .held := congrArg ModeController.mode (changeMode_mc ..)
      rw [hheld] at hm
      cases hm
    case isFalse h =>
      rw [if_neg h]
      refine (moving_iff v).mp ?_
      refine Classical.byContradiction fun hmoving => ?_
      exact h ⟨hm, eq_false_of_ne_true hmoving⟩

theorem modeSound_finish {s t : State} (h : t.permitAgrees) (ht : t = s.finish) : t.modeSound := by
  rw [ht] at h ⊢
  exact ⟨h, finish_haltedSafe s, finish_holdingMoves s⟩

theorem changed_permitAgrees (s : State) (m : ModeReq) : (s.changed m).permitAgrees := by
  refine permitAgrees_of_permitOf ?_
  rw [changed_mode]
  exact congrArg ModeController.permit (changeMode_mc ..)

theorem permitAgrees_congr {s t : State} (h : t.mc = s.mc) (hs : s.permitAgrees) : t.permitAgrees :=
  permitAgrees_of_mc (by rw [h]) (by rw [h]) hs

theorem prepared_permitAgrees (s : State) (m : ModeReq) : (s.prepared m).permitAgrees := by
  have hchanged := changed_permitAgrees s m
  unfold State.prepared
  split
  · exact permitAgrees_congr (setUp_mc _) hchanged
  · exact permitAgrees_congr (restartUnits_mc _) hchanged
  · exact permitAgrees_congr (configureUnits_mc _) hchanged
  · exact hchanged
  · exact hchanged
  · split
    · exact (resumeFrozen_event _).permit hchanged
    · exact hchanged

theorem deed_modeSound {s t : State} (h : Deed s t) (hs : s.modeSound) : t.modeSound := by
  cases h with
  | outside h => exact modeSound_of_mc h.outer.mc h.outer.channels h.outer.layout h.outer.table hs
  | ended h => exact modeSound_finish (h.ended_event.permit hs.1) rfl
  | quiet h => exact modeSound_of h.permit h.mode h.channels (surroundings_layout h.surroundings).1 h.table hs
  | queued b x afterPrevious =>
    refine modeSound_of_mc (queueDispatch_mc ..) ?_ (surroundings_layout (queueDispatch_surroundings ..)).1 ?_ hs
    · unfold State.queueDispatch
      dsimp only
      rw [setPhase_channels, dispatchReport_channels]
    · unfold State.queueDispatch
      dsimp only
      rw [setPhase_table, dispatchReport_table]
  | enrolled => exact modeSound_of_mc rfl rfl rfl rfl hs
  | retired => exact modeSound_of_mc rfl rfl rfl rfl hs
  | writes _ _ _ h =>
    have hne {m : Mode} (hm : s.mode = m) : m = .configure := hm.symm.trans h
    exact ⟨hs.1, fun hm => absurd (hne hm) (by decide), fun hm => absurd (hne hm) (by decide)⟩
  | carriedOut m =>
    rw [carryOut_eq]
    exact modeSound_finish ((finish_event _).permit (prepared_permitAgrees s m)) rfl

theorem powerOn_modeSound (s : State) (pins : BitVec 2) (open1 open2 : Bool) (on : List PointId) :
    (s.powerOn pins open1 open2 on).modeSound := ⟨permitAgrees_of_permitOf rfl, nofun, nofun⟩

theorem act_modeSound (s t : State) (h : Act s t) (hs : s.modeSound) : t.modeSound := by
  cases h with
  | linked h => exact modeSound_of_mc h.outer.mc h.outer.channels h.outer.layout h.outer.table hs
  | powerOn => exact powerOn_modeSound ..
  | deed h => exact deed_modeSound h hs

/-- Settles O54: mode and permit change together, and the end of an event leaves a HALTED ride safe and a ride in HOLDING
moving. -/
theorem stepsKeepTheModeSound : Obligations.StepsKeepTheModeSound := by
  unfold Obligations.StepsKeepTheModeSound
  exact fun s t hpermit hsafe hmoves h => step_keeps act_modeSound h ⟨hpermit, hsafe, hmoves⟩

end Sys2Proof.Machine
end

section
/-! PROOFS. The invariants of the Report Queue: every act that writes a reader, frees entries or changes a link's state
keeps ring, cursors and attention lines sound, and every event only tells reports. -/

namespace Sys2Proof.Machine

open Sys2Proof

/-! ### One reader -/

/-- What `State.ringSound` says of one reader. -/
def Reader.inRing (r : Reader) (up : Bool) (ring : List Report) : Prop :=
  r.cursor ≤ ring.length ∧ r.skipped ≤ 255 ∧ (up = false → r.cursor = 0)

theorem setReader_ringSound {s : State} {l : Link} {r : Reader} (hr : r.inRing (s.up l) s.reports.ring) (hs : s.ringSound) :
    (s.setReader l r).ringSound := by
  obtain ⟨hlength, hempty, hreaders⟩ := hs
  refine ⟨hlength, hempty, fun k => ?_⟩
  by_cases hk : k = l
  · rw [hk, setReader_reader_self]; exact hr
  · rw [setReader_reader_ne s r hk]; exact hreaders k

theorem setReader_attentionSound {s : State} {l : Link} {r : Reader} (hr : r.attentive (s.up l) s.reports.ring)
    (hs : ∀ k, k ≠ l → (s.reader k).attentive (s.up k) s.reports.ring) : (s.setReader l r).attentionSound := by
  rw [attentionSound_iff]
  intro k
  by_cases hk : k = l
  · rw [hk, setReader_reader_self]; exact hr
  · rw [setReader_reader_ne s r hk]; exact hs k hk

theorem Reader.due_down (r : Reader) (ring : List Report) : r.due false ring = false := rfl

theorem Reader.due_read {r : Reader} {up : Bool} {ring : List Report} (h : ring.length ≤ r.cursor) :
    r.due up ring = false := by
  rw [Reader.due, List.drop_eq_nil_of_le h, List.any_nil, Bool.and_false]

/-- The ring and the attention lines are sound. -/
def State.reportsSound (s : State) : Prop := s.ringSound ∧ s.attentionSound

theorem reportsSound_congr {s t : State} (hup : ∀ l, t.up l = s.up l) (hreports : t.reports = s.reports)
    (hs : s.reportsSound) : t.reportsSound :=
  ⟨(ringSound_congr hup hreports).mpr hs.1, (attentionSound_congr hup hreports).mpr hs.2⟩

theorem reportsSound_of_surroundings {s t : State} (h : t.surroundings = s.surroundings) (hreports : t.reports = s.reports)
    (hs : s.reportsSound) : t.reportsSound := (Tells.of_surroundings h hreports).sound hs

theorem Event.reportsSound {s t : State} (h : Event s t) (hs : s.reportsSound) : t.reportsSound := by
  obtain ⟨rs, htells⟩ := h.tells
  exact htells.sound hs

/-! ### Freed entries (R220) -/

theorem freeEntries_ringSound {s : State} (hlength : s.reports.ring.length ≤ 64)
    (hreaders : ∀ l, (s.reader l).cursor ≤ s.reports.ring.length ∧ (s.reader l).skipped ≤ 255) :
    s.freeEntries.ringSound := by
  refine ⟨?_, fun hdown => ?_, fun l => ?_⟩
  · rw [freeEntries_ring, List.length_drop]; omega
  · rw [freeEntries_ring, freeCount_of_noneUp ((noneUp_iff s).mpr hdown), List.drop_length]
  · obtain ⟨hcursor, hskipped⟩ := hreaders l
    rw [freeEntries_reader, freeEntries_ring, freeEntries_up, List.length_drop]
    refine ⟨?_, hskipped, fun hdown => ?_⟩
    · dsimp only
      split <;> omega
    · rw [hdown]; rfl

theorem freeEntries_due (s : State) (l : Link) :
    (s.freeEntries.reader l).due (s.up l) s.freeEntries.reports.ring = (s.reader l).due (s.up l) s.reports.ring := by
  cases hup : s.up l with
  | false => rfl
  | true =>
    have hunread : s.freeEntries.reports.ring.drop (s.freeEntries.reader l).cursor =
        s.reports.ring.drop (s.reader l).cursor := freeEntries_unread hup
    rw [Reader.due, hunread, freeEntries_reader]
    rfl

theorem freeEntries_attentive {s : State} {l : Link} (h : (s.reader l).attentive (s.up l) s.reports.ring) :
    (s.freeEntries.reader l).attentive (s.up l) s.freeEntries.reports.ring := by
  rw [Reader.attentive, freeEntries_due, freeEntries_reader]
  exact h

/-! ### Links that come and go (R209, R210) -/

theorem setPort_up_self (s : State) (l : Link) (p : LinkPort) : (s.setPort l p).up l = p.up := by
  rw [State.up, setPort_port_self]

theorem setPort_up_ne (s : State) {l k : Link} (p : LinkPort) (h : k ≠ l) : (s.setPort l p).up k = s.up k := by
  rw [State.up, setPort_port_ne s p h, State.up]

theorem setPort_reportsSound {s : State} {l : Link} {p : LinkPort} (h : p.up = s.up l) (hs : s.reportsSound) :
    (s.setPort l p).reportsSound := by
  refine reportsSound_congr (s := s) (fun k => ?_) rfl hs
  by_cases hk : k = l
  · rw [hk, setPort_up_self, h]
  · exact setPort_up_ne s p hk

/-- A link that comes UP has read every entry. -/
theorem comeUp_reportsSound {s : State} {l : Link} {p : LinkPort} (hp : p.up = true) (hs : s.reportsSound) :
    ((s.setPort l p).comeUp l).reportsSound := by
  obtain ⟨⟨hlength, -, hreaders⟩, hattention⟩ := hs
  rw [attentionSound_iff] at hattention
  have hup : (s.setPort l p).up l = true := by rw [setPort_up_self, hp]
  refine Event.reportsSound (append_event ..) ⟨?_, ?_⟩
  · refine ⟨hlength, fun hdown => ?_, fun k => ?_⟩
    · exact absurd ((hdown l).symm.trans hup) Bool.false_ne_true
    · by_cases hk : k = l
      · rw [hk, setReader_reader_self]
        exact ⟨Nat.le_refl _, Nat.zero_le _, fun hdown => absurd (hdown.symm.trans hup) Bool.false_ne_true⟩
      · rw [setReader_reader_ne _ _ hk]
        obtain ⟨hcursor, hskipped, hdown⟩ := hreaders k
        exact ⟨hcursor, hskipped, fun h => hdown ((setPort_up_ne s p hk).symm.trans h)⟩
  · refine setReader_attentionSound (Reader.attentive_of_not_due rfl (Reader.due_read (Nat.le_refl _))) fun k hk => ?_
    rw [setPort_up_ne s p hk]
    exact hattention k

/-- A link that goes DOWN waits for nothing. -/
theorem dropLink_reportsSound {s : State} (l : Link) (hs : s.reportsSound) : (s.dropLink l).reportsSound := by
  obtain ⟨⟨hlength, -, hreaders⟩, hattention⟩ := hs
  rw [attentionSound_iff] at hattention
  unfold State.dropLink
  extract_lets p r timeout t u
  have hdown : t.up l = false := setPort_up_self ..
  refine Event.reportsSound (append_event ..) ⟨freeEntries_ringSound hlength fun k => ?_, ?_⟩
  · by_cases hk : k = l
    · rw [hk, setReader_reader_self]
      exact ⟨Nat.zero_le _, (hreaders l).2.1⟩
    · rw [setReader_reader_ne _ _ hk]
      exact ⟨(hreaders k).1, (hreaders k).2.1⟩
  · have hu : u.attentionSound := by
      refine setReader_attentionSound (Reader.attentive_of_not_due rfl ?_) fun k hk => ?_
      · rw [hdown, Reader.due_down]
      · rw [setPort_up_ne s _ hk]
        exact hattention k
    rw [attentionSound_iff] at hu ⊢
    exact fun k => freeEntries_attentive (hu k)

/-! ### One link's reader (R222 to R224) -/

theorem evaluate_inRing {r : Reader} {up : Bool} {ring : List Report} (h : r.inRing up ring) (now : Time) (up' : Bool)
    (ring' : List Report) : (r.evaluate now up' ring').inRing up ring := by
  rw [Reader.inRing, evaluate_cursor, evaluate_skipped]
  exact h

/-- A settled reader with its link's cursor is put back and its line evaluated. -/
theorem evaluated_reportsSound {s : State} {l : Link} {r : Reader} (hr : r.inRing (s.up l) s.reports.ring)
    (hsettled : r.settled) (hring : s.ringSound) (hs : ∀ k, k ≠ l → (s.reader k).attentive (s.up k) s.reports.ring) :
    (s.setReader l (r.evaluate s.timeBase (s.up l) s.reports.ring)).reportsSound :=
  ⟨setReader_ringSound (evaluate_inRing hr ..) hring,
    setReader_attentionSound (Reader.evaluate_attentive hsettled ..) hs⟩

theorem endHoldOff_reportsSound {s : State} (l : Link) (hs : s.reportsSound) : (s.endHoldOff l).reportsSound := by
  obtain ⟨hring, hattention⟩ := hs
  rw [attentionSound_iff] at hattention
  exact evaluated_reportsSound (r := { s.reader l with holdOff := none }) (hring.2.2 l) (fun _ => rfl) hring
    fun k _ => hattention k

theorem setAttention_reportsSound {s : State} (l : Link) (kinds : Byte) (interval : Nat) (hs : s.reportsSound) :
    (s.setAttention l kinds interval).2.reportsSound := by
  obtain ⟨hring, hattention⟩ := hs
  rw [attentionSound_iff] at hattention
  exact evaluated_reportsSound (r := { s.reader l with attention := kinds, interval := interval }) (hring.2.2 l)
    (hattention l).settled hring fun k _ => hattention k

theorem markRead_reader_ne (s : State) {l k : Link} (n : Nat) (h : k ≠ l) : (s.markRead l n).reader k = s.reader k :=
  setReader_reader_ne s _ h

theorem unreadFor_length_le (s : State) (l : Link) (most : Nat) :
    (s.unreadFor l most).length ≤ s.reports.ring.length - (s.reader l).cursor := by
  rw [unreadFor_eq]
  split
  · rw [List.length_take, State.unread, List.length_drop]
    omega
  · exact Nat.zero_le _

theorem unreadFor_down {s : State} {l : Link} (h : s.up l = false) (most : Nat) : s.unreadFor l most = [] := by
  rw [unreadFor_eq, h]
  rfl

theorem markRead_ringSound {s : State} (l : Link) (most : Nat) (hs : s.ringSound) :
    (s.markRead l (s.unreadFor l most).length).ringSound := by
  have hlength := unreadFor_length_le s l most
  obtain ⟨hcursor, -, hdown⟩ := hs.2.2 l
  refine setReader_ringSound ⟨?_, Nat.zero_le _, fun h => ?_⟩ hs
  · dsimp only
    omega
  · rw [unreadFor_down h]
    exact hdown h

theorem advanceCursor_reportsSound {s : State} (l : Link) (most : Nat) (hs : s.reportsSound) :
    (s.advanceCursor l most).reportsSound := by
  obtain ⟨hring, hattention⟩ := hs
  rw [attentionSound_iff] at hattention
  have hmark := markRead_ringSound l most hring
  cases hup : s.up l with
  | false =>
    rw [advanceCursor_of_down hup]
    refine ⟨hmark, setReader_attentionSound ?_ fun k _ => hattention k⟩
    have hself := hattention l
    rw [hup] at hself ⊢
    exact hself
  | true =>
    rw [advanceCursor_of_up hup]
    generalize hn : (s.unreadFor l most).length = n at hmark
    have hfree : (s.markRead l n).freeEntries.ringSound :=
      freeEntries_ringSound hmark.1 fun k => ⟨(hmark.2.2 k).1, (hmark.2.2 k).2.1⟩
    refine evaluated_reportsSound (hfree.2.2 l) ?_ hfree fun k hk => freeEntries_attentive ?_
    · rw [freeEntries_reader, State.markRead, setReader_reader_self]
      exact (hattention l).settled
    · rw [markRead_reader_ne s n hk]
      exact hattention k

/-! ### Every act -/

theorem clearCounters_up (s : State) (l : Link) : s.clearCounters.2.up l = s.up l := by cases l <;> rfl

theorem outside_reportsSound {s t : State} (h : Outside s t) (hs : s.reportsSound) : t.reportsSound := by
  cases h with
  | queue => exact hs
  | time => exact hs
  | points => exact hs
  | holdOffEnds l => exact endHoldOff_reportsSound l hs
  | attention l kinds interval => exact setAttention_reportsSound l kinds interval hs
  | reads l most => exact advanceCursor_reportsSound l most hs
  | counters => exact reportsSound_congr (clearCounters_up s) rfl hs

theorem linked_reportsSound {s t : State} (h : Linked s t) (hs : s.reportsSound) : t.reportsSound := by
  cases h with
  | port l p h => exact setPort_reportsSound h hs
  | comesUp l p hp => exact comeUp_reportsSound hp hs
  | drops l => exact dropLink_reportsSound l hs

theorem changed_reportsSound {s : State} (m : ModeReq) (hs : s.reportsSound) : (s.changed m).reportsSound := by
  have hslot : (s.setMc { s.mc with slot := none }).reportsSound := hs
  exact (changeMode_tells ..).sound hslot

theorem vacated_reportsSound {s : State} (hs : s.reportsSound) : s.forget.vacateAll.reportsSound :=
  (vacateAll_event s.forget).reportsSound hs

theorem setUp_reports (s : State) : s.setUp.reports = s.reports :=
  setUp_view State.reports (fun _ _ => rfl) (fun _ _ => rfl) (fun _ _ => rfl) (fun _ _ => rfl) (fun _ _ => rfl)
    (fun _ _ => rfl) (fun _ _ => rfl) s

theorem prepared_reportsSound {s : State} (m : ModeReq) (hs : s.reportsSound) : (s.prepared m).reportsSound := by
  have hchanged := changed_reportsSound m hs
  unfold State.prepared
  split
  · exact reportsSound_of_surroundings (setUp_surroundings _) (setUp_reports _) hchanged
  · have hvacated := vacated_reportsSound hchanged
    unfold State.restartUnits
    generalize (s.changed .restart).forget.vacateAll = u at hvacated ⊢
    exact hvacated
  · have hvacated := vacated_reportsSound hchanged
    unfold State.configureUnits
    generalize (s.changed .enterConfigure).forget.vacateAll = u at hvacated ⊢
    exact hvacated
  · exact hchanged
  · exact hchanged
  · split
    · exact (resumeFrozen_event _).reportsSound hchanged
    · exact hchanged

theorem queueDispatch_reportsSound {s : State} (b : BlockId) (x : BoatId) (afterPrevious : Bool) (hs : s.reportsSound) :
    (s.queueDispatch b x afterPrevious).reportsSound := by
  unfold State.queueDispatch
  dsimp only
  refine (setPhase_event ..).reportsSound ((dispatchReport_event ..).reportsSound ?_)
  exact hs

theorem powerOn_reportsSound (s : State) (pins : BitVec 2) (open1 open2 : Bool) (on : List PointId) :
    (s.powerOn pins open1 open2 on).reportsSound := by
  refine ⟨⟨Nat.zero_le _, fun _ => rfl, fun l => ?_⟩, (attentionSound_iff _).mpr fun l => ?_⟩
  · cases l <;> exact ⟨Nat.le_refl _, Nat.zero_le _, fun _ => rfl⟩
  · cases l <;> exact Reader.attentive_of_not_due rfl rfl

theorem deed_reportsSound {s t : State} (h : Deed s t) (hs : s.reportsSound) : t.reportsSound := by
  cases h with
  | outside h => exact outside_reportsSound h hs
  | ended h => exact h.ended_event.reportsSound hs
  | quiet h => exact h.reportsSound hs
  | queued b x afterPrevious => exact queueDispatch_reportsSound b x afterPrevious hs
  | enrolled => exact hs
  | retired => exact hs
  | writes => exact hs
  | carriedOut m =>
    rw [carryOut_eq]
    exact (finish_event _).reportsSound (prepared_reportsSound m hs)

theorem act_reportsSound (s t : State) (h : Act s t) (hs : s.reportsSound) : t.reportsSound := by
  cases h with
  | linked h => exact linked_reportsSound h hs
  | powerOn => exact powerOn_reportsSound ..
  | deed h => exact deed_reportsSound h hs

/-- Settles O56: an event tells reports one by one, each evaluated at once, and a link's reader is evaluated whenever its
cursor, its attention set or its state changes. -/
theorem stepsKeepTheReportsSound : Obligations.StepsKeepTheReportsSound := by
  unfold Obligations.StepsKeepTheReportsSound
  exact fun s t hring hattention h => step_keeps act_reportsSound h ⟨hring, hattention⟩

end Sys2Proof.Machine
end

section
/-! PROOFS. The invariant of the Link Ports: requests leave them alone but for CLEAR COUNTERS, and the taking of characters
stops only with an empty FIFO or a full queue. -/

namespace Sys2Proof.Machine

open Sys2Proof

/-! ### What a request does to the ports -/

/-- Every port is as it was, or its counters alone are cleared. -/
def KeepsPorts (s t : State) : Prop := ∀ l, t.port l = s.port l ∨ t.port l = (s.port l).clearCounters

theorem KeepsPorts.of_ports {s t : State} (h : t.ports = s.ports) : KeepsPorts s t :=
  fun l => .inl (by rw [State.port, h, State.port])

theorem KeepsPorts.of_surroundings {s t : State} (h : t.surroundings = s.surroundings) : KeepsPorts s t := by
  simp only [State.surroundings, Prod.mk.injEq] at h
  obtain ⟨-, -, -, hports, -⟩ := h
  exact .of_ports hports

theorem KeepsPorts.trans {s t u : State} (h : KeepsPorts s t) (h' : KeepsPorts t u) : KeepsPorts s u := by
  intro l
  obtain hl | hl := h l
  · rw [← hl]; exact h' l
  · obtain hl' | hl' := h' l
    · exact .inr (hl'.trans hl)
    · exact .inr (hl'.trans (by rw [hl]; rfl))

theorem outside_keepsPorts {s t : State} (h : Outside s t) : KeepsPorts s t := by
  cases h with
  | queue => exact .of_ports rfl
  | time => exact .of_ports rfl
  | points => exact .of_ports rfl
  | holdOffEnds => exact .of_ports rfl
  | attention => exact .of_ports rfl
  | reads l most => exact .of_surroundings (advanceCursor_rest s l most).1
  | counters => exact fun l => .inr (by cases l <;> rfl)

theorem deed_keepsPorts {s t : State} (h : Deed s t) : KeepsPorts s t := by
  cases h with
  | outside h => exact outside_keepsPorts h
  | ended h => exact .of_surroundings h.ended_event.surroundings
  | quiet h => exact .of_surroundings h.surroundings
  | queued => exact .of_surroundings (queueDispatch_surroundings ..)
  | enrolled => exact .of_ports rfl
  | retired => exact .of_ports rfl
  | writes => exact .of_ports rfl
  | carriedOut => exact .of_surroundings (carryOut_surroundings ..)

theorem deeds_keepsPorts {s t : State} (h : Deeds s t) : KeepsPorts s t := by
  induction h with
  | refl => exact .of_ports rfl
  | tail _ h ih => exact ih.trans (deed_keepsPorts h)

theorem decide_keepsPorts (s : State) (l : Link) (r : Req) (args : List Byte) : KeepsPorts s (s.decide l r args).2 :=
  deeds_keepsPorts (decide_deeds s l r args)

/-! ### One port -/

/-- The counters of a port do not pass their ceiling (R225). -/
def LinkPort.counted (p : LinkPort) : Prop :=
  p.goodFrames ≤ 65535 ∧ p.checkErrors ≤ 65535 ∧ p.overruns ≤ 65535 ∧ p.truncated ≤ 65535 ∧ p.breaks ≤ 65535

/-- A FIFO, a queue and counters within their capacities. -/
def LinkPort.within (p : LinkPort) : Prop := p.queue.length ≤ 2 ∧ p.fifo.length ≤ 4 ∧ p.counted

/-- What a port keeps while characters are taken: frames wait only while a response is being sent. -/
def LinkPort.fits (p : LinkPort) : Prop := p.within ∧ (p.sending = none → p.queue = [])

theorem LinkPort.sound_iff (p : LinkPort) : p.sound ↔ p.fits ∧ (p.fifo ≠ [] → p.queue.length = 2) := by
  unfold LinkPort.sound LinkPort.fits LinkPort.within
  exact ⟨fun ⟨hqueue, hfifo, hfull, hidle, hcounted⟩ => ⟨⟨⟨hqueue, hfifo, hcounted⟩, hidle⟩, hfull⟩,
    fun ⟨⟨⟨hqueue, hfifo, hcounted⟩, hidle⟩, hfull⟩ => ⟨hqueue, hfifo, hfull, hidle, hcounted⟩⟩

theorem LinkPort.sound.fits {p : LinkPort} (h : p.sound) : p.fits := (p.sound_iff.mp h).1

theorem countUp_le (n : Nat) : countUp n ≤ 65535 := Nat.min_le_right ..

/-- `q` is `p` after a character was judged: queue, FIFO and response are as they were. -/
structure LinkPort.Judged (p q : LinkPort) : Prop where
  queue : q.queue = p.queue
  fifo : q.fifo = p.fifo
  sending : q.sending = p.sending
  counted : p.counted → q.counted

namespace LinkPort.Judged

theorem refl (p : LinkPort) : p.Judged p := ⟨rfl, rfl, rfl, id⟩

theorem trans {p q r : LinkPort} (h : p.Judged q) (h' : q.Judged r) : p.Judged r :=
  ⟨h'.queue.trans h.queue, h'.fifo.trans h.fifo, h'.sending.trans h.sending, h'.counted ∘ h.counted⟩

theorem assembly (p : LinkPort) (a : Option Assembly) : p.Judged { p with assembly := a } := ⟨rfl, rfl, rfl, id⟩

theorem checkError (p : LinkPort) (a : Option Assembly) :
    p.Judged { p with assembly := a, checkErrors := countUp p.checkErrors } := by
  refine ⟨rfl, rfl, rfl, fun ⟨hgood, _, hover, htrunc, hbreak⟩ => ⟨hgood, countUp_le _, hover, htrunc, hbreak⟩⟩

theorem overrun (p : LinkPort) : p.Judged { p with overruns := countUp p.overruns } := by
  refine ⟨rfl, rfl, rfl, fun ⟨hgood, hcheck, _, htrunc, hbreak⟩ => ⟨hgood, hcheck, countUp_le _, htrunc, hbreak⟩⟩

theorem truncated (p : LinkPort) : p.Judged { p with truncated := countUp p.truncated } := by
  refine ⟨rfl, rfl, rfl, fun ⟨hgood, hcheck, hover, _, hbreak⟩ => ⟨hgood, hcheck, hover, countUp_le _, hbreak⟩⟩

theorem fits {p q : LinkPort} (h : p.Judged q) (hp : p.fits) : q.fits := by
  obtain ⟨⟨hqueue, hfifo, hcounted⟩, hidle⟩ := hp
  refine ⟨⟨h.queue ▸ hqueue, h.fifo ▸ hfifo, h.counted hcounted⟩, fun hs => ?_⟩
  rw [h.queue]
  exact hidle (h.sending ▸ hs)

end LinkPort.Judged

theorem judge_judged (p : LinkPort) (a : Assembly) : p.Judged (p.judge a).1 := by
  have hend := LinkPort.Judged.assembly p none
  unfold LinkPort.judge
  dsimp only
  split
  · exact hend.trans (.overrun _)
  · split
    · exact .checkError p none
    · split
      · exact .checkError p none
      · exact hend

theorem beginFrame_judged (p : LinkPort) (byte : Byte) : p.Judged (p.beginFrame byte) := by
  unfold LinkPort.beginFrame
  dsimp only
  split
  · exact .assembly p _
  · split
    · exact (LinkPort.Judged.overrun p).trans (.assembly _ _)
    · exact (LinkPort.Judged.truncated p).trans (.assembly _ _)

theorem extendFrame_judged (p : LinkPort) (a : Assembly) (byte : Byte) : p.Judged (p.extendFrame a byte).1 := by
  unfold LinkPort.extendFrame
  dsimp only
  split
  · exact .checkError p none
  · split
    · exact judge_judged ..
    · exact .assembly p _

theorem takeByte_judged (p : LinkPort) (byte : Byte) (marker : Bool) : p.Judged (p.takeByte byte marker).1 := by
  unfold LinkPort.takeByte
  split
  · exact beginFrame_judged ..
  · split
    · exact .refl p
    · exact extendFrame_judged ..

theorem placeLoss_judged (p : LinkPort) : p.Judged p.placeLoss := by
  unfold LinkPort.placeLoss
  split
  · exact .assembly p _
  · exact .overrun p

theorem takeCharacter_judged (p : LinkPort) (c : Character) : p.Judged (p.takeCharacter c).1 := by
  have htake := takeByte_judged p c.byte c.marker
  unfold LinkPort.takeCharacter
  dsimp only
  split
  · exact htake.trans (placeLoss_judged _)
  · exact htake

theorem LinkPort.clearCounters_within {p : LinkPort} (h : p.within) : p.clearCounters.within :=
  ⟨h.1, h.2.1, Nat.zero_le _, Nat.zero_le _, Nat.zero_le _, Nat.zero_le _, Nat.zero_le _⟩

theorem LinkPort.clearCounters_sound {p : LinkPort} (h : p.sound) : p.clearCounters.sound := by
  obtain ⟨⟨hwithin, hidle⟩, hwait⟩ := p.sound_iff.mp h
  exact (LinkPort.sound_iff _).mpr ⟨⟨LinkPort.clearCounters_within hwithin, hidle⟩, hwait⟩

theorem KeepsPorts.sound {s t : State} (h : KeepsPorts s t) {l : Link} (hs : (s.port l).sound) : (t.port l).sound := by
  obtain hl | hl := h l
  · rw [hl]; exact hs
  · rw [hl]; exact LinkPort.clearCounters_sound hs

/-! ### Frames (R204, R208) -/

/-- The port of `l` fits and the other ports are sound. -/
def State.portsFit (s : State) (l : Link) : Prop := (s.port l).fits ∧ ∀ k, k ≠ l → (s.port k).sound

theorem setPort_portsFit {s : State} {l : Link} {p : LinkPort} (hp : p.fits) (hs : ∀ k, k ≠ l → (s.port k).sound) :
    (s.setPort l p).portsFit l := by
  refine ⟨?_, fun k hk => ?_⟩
  · rw [setPort_port_self]; exact hp
  · rw [setPort_port_ne s p hk]; exact hs k hk

theorem setPort_portsSound {s : State} {l : Link} {p : LinkPort} (hp : p.sound) (hs : s.portsSound) :
    (s.setPort l p).portsSound := by
  intro k
  by_cases hk : k = l
  · rw [hk, setPort_port_self]; exact hp
  · rw [setPort_port_ne s p hk]; exact hs k

/-- A frame that is served leaves a response on its way and the FIFO as it was. -/
theorem serveFrame_portsFit {s : State} {l : Link} (f : Frame) (hl : (s.port l).within)
    (hs : ∀ k, k ≠ l → (s.port k).sound) :
    (s.serveFrame l f).portsFit l ∧ ((s.serveFrame l f).port l).fifo = (s.port l).fifo := by
  have hanswer (u : State) (hu : KeepsPorts s u) (code tag : Byte) (r : Reply) :
      (u.answer l code tag r).portsFit l ∧ ((u.answer l code tag r).port l).fifo = (s.port l).fifo := by
    have hwithin : (u.port l).within ∧ (u.port l).fifo = (s.port l).fifo := by
      obtain hk | hk := hu l
      · rw [hk]; exact ⟨hl, rfl⟩
      · rw [hk]; exact ⟨LinkPort.clearCounters_within hl, rfl⟩
    refine ⟨setPort_portsFit ⟨hwithin.1, nofun⟩ fun k hk => hu.sound (hs k hk), ?_⟩
    rw [State.answer, setPort_port_self]
    exact hwithin.2
  unfold State.serveFrame
  split
  case h_1 r _ => exact hanswer (s.decide l r f.args).2 (decide_keepsPorts s l r f.args) _ _ _
  case h_2 => exact hanswer s (.of_ports rfl) _ _ _

theorem takeFront_portsFit {s : State} {l : Link} (hl : (s.port l).within) (hs : ∀ k, k ≠ l → (s.port k).sound) :
    (s.takeFront l).portsFit l ∧ ((s.takeFront l).port l).fifo = (s.port l).fifo := by
  unfold State.takeFront
  dsimp only
  split
  case h_1 f rest hsending hqueue =>
    have hself : (s.setPort l { s.port l with queue := rest }).port l = { s.port l with queue := rest } :=
      setPort_port_self ..
    have hwithin : ({ s.port l with queue := rest } : LinkPort).within := by
      obtain ⟨hlength, hfifo, hcounted⟩ := hl
      rw [hqueue, List.length_cons] at hlength
      exact ⟨Nat.le_of_succ_le hlength, hfifo, hcounted⟩
    have hserve := serveFrame_portsFit (s := s.setPort l { s.port l with queue := rest }) (l := l) f (by rw [hself]; exact hwithin)
      fun k hk => by rw [setPort_port_ne s _ hk]; exact hs k hk
    refine ⟨hserve.1, hserve.2.trans ?_⟩
    rw [hself]
  case h_2 hnone =>
    refine ⟨⟨⟨hl, fun hsending => ?_⟩, hs⟩, rfl⟩
    cases hqueue : (s.port l).queue with
    | nil => rfl
    | cons f rest => exact absurd hqueue (hnone f rest hsending)

theorem comeUp_port (s : State) (l k : Link) : (s.comeUp l).port k = s.port k := by
  rw [State.port, State.comeUp, State.linkReport, append_ports]
  rfl

theorem goodFrame_within {s : State} {l : Link} (f : Frame) (hready : (s.port l).ready = true) (hs : s.portsFit l) :
    ((s.goodFrame l f).port l).within ∧ (∀ k, k ≠ l → ((s.goodFrame l f).port k).sound) ∧
      ((s.goodFrame l f).port l).fifo = (s.port l).fifo := by
  obtain ⟨⟨⟨-, hfifo, -, hcheck, hover, htrunc, hbreak⟩, -⟩, hothers⟩ := hs
  have hlength : (s.port l).queue.length < 2 := of_decide_eq_true hready
  have hport (u : State) (h : ∀ k, u.port k = (s.setPort l { s.port l with
      queue := (s.port l).queue ++ [f], goodFrames := countUp (s.port l).goodFrames,
      supervision := some { deadline := s.after s.layout.settings.linkTimeout, timeout := s.layout.settings.linkTimeout } }).port k) :
      (u.port l).within ∧ (∀ k, k ≠ l → (u.port k).sound) ∧ (u.port l).fifo = (s.port l).fifo := by
    rw [h l, setPort_port_self]
    refine ⟨⟨?_, hfifo, countUp_le _, hcheck, hover, htrunc, hbreak⟩, fun k hk => ?_, rfl⟩
    · rw [List.length_append]; exact hlength
    · rw [h k, setPort_port_ne s _ hk]; exact hothers k hk
  unfold State.goodFrame
  dsimp only
  split
  · exact hport _ fun _ => rfl
  · exact hport _ fun k => comeUp_port _ l k

theorem takeWaiting_portsFit {s : State} {l : Link} {c : Character} {rest : List Character} (hs : s.portsFit l)
    (hready : (s.port l).ready = true) (hfifo : (s.port l).fifo = c :: rest) :
    (s.takeWaiting l c rest).portsFit l ∧ ((s.takeWaiting l c rest).port l).fifo = rest := by
  have hrest : ({ s.port l with fifo := rest } : LinkPort).fits := by
    obtain ⟨⟨hqueue, hlength, hcounted⟩, hidle⟩ := hs.1
    rw [hfifo, List.length_cons] at hlength
    exact ⟨⟨hqueue, Nat.le_of_succ_le hlength, hcounted⟩, hidle⟩
  have htaken := takeCharacter_judged { s.port l with fifo := rest } c
  unfold State.takeWaiting
  dsimp only
  generalize LinkPort.takeCharacter { s.port l with fifo := rest } c = taken at htaken ⊢
  have hself : (s.setPort l taken.1).port l = taken.1 := setPort_port_self ..
  have hfit : (s.setPort l taken.1).portsFit l := setPort_portsFit (htaken.fits hrest) hs.2
  split
  · exact ⟨hfit, by rw [hself]; exact htaken.fifo⟩
  · have hready' : ((s.setPort l taken.1).port l).ready = true := by
      rw [hself, LinkPort.ready, htaken.queue]
      exact hready
    obtain ⟨hwithin, hothers, hgood⟩ := goodFrame_within _ hready' hfit
    obtain ⟨hfront, hkept⟩ := takeFront_portsFit hwithin hothers
    refine ⟨hfront, ?_⟩
    rw [hkept, hgood, hself]
    exact htaken.fifo

/-- Characters are taken until none waits or the request queue is full. -/
theorem drain_portsSound {l : Link} {n : Nat} {s : State} (hs : s.portsFit l) (hn : (s.port l).fifo.length ≤ n) :
    (drain l n s).portsSound := by
  have hstop {t : State} (ht : t.portsFit l) (hwait : (t.port l).fifo ≠ [] → (t.port l).queue.length = 2) : t.portsSound := by
    intro k
    by_cases hk : k = l
    · rw [hk]; exact (LinkPort.sound_iff _).mpr ⟨ht.1, hwait⟩
    · exact ht.2 k hk
  induction n generalizing s with
  | zero => exact hstop hs fun hne => absurd (List.eq_nil_of_length_eq_zero (Nat.le_zero.mp hn)) hne
  | succ n ih =>
    rw [drain]
    split
    case isFalse hready =>
      refine hstop hs fun _ => ?_
      have hlength : ¬ (s.port l).queue.length < 2 := fun h => hready (decide_eq_true h)
      exact Nat.le_antisymm hs.1.1.1 (Nat.le_of_not_lt hlength)
    case isTrue hready =>
      split
      case h_1 hnil => exact hstop hs fun hne => absurd hnil hne
      case h_2 c rest hfifo =>
        obtain ⟨hfit, hrest⟩ := takeWaiting_portsFit hs hready hfifo
        refine ih hfit ?_
        rw [hrest]
        rw [hfifo, List.length_cons] at hn
        exact Nat.le_of_succ_le_succ hn

/-! ### Commands of the lines -/

theorem markNewest_length (cs : List Character) : (markNewest cs).length = cs.length := by
  induction cs using markNewest.induct with
  | case1 => rfl
  | case2 => rfl
  | case3 c cs h ih => rw [markNewest, List.length_cons, ih, List.length_cons]; exact h

theorem receive_fits {p : LinkPort} (byte : Byte) (marker : Bool) (h : p.fits) : (p.receive byte marker).fits := by
  obtain ⟨⟨hqueue, hfifo, hcounted⟩, hidle⟩ := h
  unfold LinkPort.receive
  split
  case isTrue hlt => exact ⟨⟨hqueue, by rw [List.length_append]; exact hlt, hcounted⟩, hidle⟩
  case isFalse => exact ⟨⟨hqueue, by rw [markNewest_length]; exact hfifo, hcounted⟩, hidle⟩

theorem character_portsSound {s : State} (l : Link) (byte : Byte) (marker : Bool) (hs : s.portsSound) :
    (s.character l byte marker).portsSound := by
  unfold State.character
  split
  · exact hs
  · have hfit : (s.setPort l ((s.port l).receive byte marker)).portsFit l :=
      setPort_portsFit (receive_fits byte marker (hs l).fits) fun k _ => hs k
    exact drain_portsSound hfit hfit.1.1.2.1

theorem responseSent_portsSound {s : State} (l : Link) (hs : s.portsSound) : (s.responseSent l).portsSound := by
  unfold State.responseSent
  split
  · exact hs
  · have hself : (s.setPort l { s.port l with sending := none }).port l = { s.port l with sending := none } :=
      setPort_port_self ..
    obtain ⟨hfit, -⟩ := takeFront_portsFit (s := s.setPort l { s.port l with sending := none }) (l := l)
      (by rw [hself]; exact (hs l).fits.1) fun k hk => by rw [setPort_port_ne s _ hk]; exact hs k
    exact drain_portsSound hfit hfit.1.1.2.1

theorem broken_sound {p : LinkPort} (h : p.sound) : p.broken.sound := by
  obtain ⟨⟨⟨hqueue, -, hgood, hcheck, hover, htrunc, -⟩, hidle⟩, -⟩ := p.sound_iff.mp h
  unfold LinkPort.broken
  split
  · exact h
  · exact (LinkPort.sound_iff _).mpr
      ⟨⟨⟨hqueue, Nat.zero_le _, hgood, hcheck, hover, htrunc, countUp_le _⟩, hidle⟩, fun hne => absurd rfl hne⟩

theorem enqueue_portsSound {s : State} {l : Link} (f : Frame) (hsending : (s.port l).sending ≠ none) (hs : s.portsSound) :
    (s.enqueue l f).portsSound := by
  unfold State.enqueue
  dsimp only
  split
  case isTrue hready =>
    have hlength : (s.port l).queue.length < 2 := of_decide_eq_true hready
    obtain ⟨⟨⟨-, hfifo, hcounted⟩, -⟩, hwait⟩ := (LinkPort.sound_iff _).mp (hs l)
    refine setPort_portsSound ((LinkPort.sound_iff _).mpr ⟨⟨⟨?_, hfifo, hcounted⟩, fun h => absurd h hsending⟩,
      fun hne => absurd (hwait hne) (Nat.ne_of_lt hlength)⟩) hs
    rw [List.length_append]
    exact hlength
  case isFalse => exact hs

/-- A request served while nothing is being sent. -/
theorem answer_portsSound {s u : State} {l : Link} (code tag : Byte) (r : Reply) (hu : KeepsPorts s u)
    (hs : s.portsSound) : (u.answer l code tag r).portsSound := by
  have hl : (u.port l).sound := hu.sound (hs l)
  obtain ⟨⟨hwithin, -⟩, hwait⟩ := (LinkPort.sound_iff _).mp hl
  exact setPort_portsSound ((LinkPort.sound_iff _).mpr ⟨⟨hwithin, nofun⟩, hwait⟩) fun k => hu.sound (hs k)

theorem present_portsSound {s : State} (l : Link) (r : Req) (tag : Byte) (args : List Byte) (hs : s.portsSound) :
    (s.present l r tag args).portsSound := by
  unfold State.present
  split
  case isTrue => exact answer_portsSound (u := (s.decide l r args).2) _ _ _ (decide_keepsPorts s l r args) hs
  case isFalse h => exact enqueue_portsSound _ (fun hn => h (by rw [hn]; rfl)) hs

theorem presentUnknown_portsSound {s : State} (l : Link) (code tag : Byte) (args : List Byte) (hs : s.portsSound) :
    (s.presentUnknown l code tag args).portsSound := by
  unfold State.presentUnknown State.serveFrame
  split
  case isTrue =>
    split
    case h_1 r _ => exact answer_portsSound (u := (s.decide l r args).2) _ _ _ (decide_keepsPorts s l r args) hs
    case h_2 => exact answer_portsSound _ _ _ (.of_ports rfl) hs
  case isFalse h => exact enqueue_portsSound _ (fun hn => h (by rw [hn]; rfl)) hs

theorem goDown_portsSound {s : State} (l : Link) (hs : s.portsSound) : (s.goDown l).portsSound := by
  have hdrop : (s.dropLink l).portsSound := by
    have hports : (s.dropLink l).ports = (s.setPort l { s.port l with supervision := none }).ports := append_ports ..
    intro k
    rw [State.port, hports]
    exact setPort_portsSound (p := { s.port l with supervision := none }) (hs l) hs k
  have hkeeps : KeepsPorts (s.dropLink l) (s.goDown l) := by
    unfold State.goDown
    dsimp only
    split
    · exact .of_surroundings (Happens.rideLinkLost l _).ended_event.surroundings
    · exact .of_surroundings (Happens.stationLinkLost l).ended_event.surroundings
  exact fun k => hkeeps.sound (hdrop k)

/-! ### Every step -/

theorem initial_sound : LinkPort.initial.sound := by
  unfold LinkPort.sound
  decide

theorem powerOn_portsSound (s : State) (pins : BitVec 2) (open1 open2 : Bool) (on : List PointId) :
    (s.powerOn pins open1 open2 on).portsSound := by
  intro l
  cases l
  all_goals exact initial_sound

theorem exec_portsSound {s t : State} {c : Instr} (h : exec c s = .next t) (hs : s.portsSound) : t.portsSound := by
  have hnext {u : State} (heq : exec c s = .next u) (hu : u.portsSound) : t.portsSound := by
    rw [heq] at h
    cases h
    exact hu
  cases c
  case powerOnReset pins open1 open2 on => exact hnext rfl (powerOn_portsSound s pins open1 open2 on)
  case unknownRequest l code tag args => exact hnext rfl (presentUnknown_portsSound l code tag args hs)
  case characterReceived l byte marker => exact hnext rfl (character_portsSound l byte marker hs)
  case responseSent l => exact hnext rfl (responseSent_portsSound l hs)
  case lineBreak l => exact hnext rfl (setPort_portsSound (broken_sound (hs l)) hs)
  case lineReturnsToMark l => exact hnext rfl (setPort_portsSound (p := { s.port l with ignoring := false }) (hs l) hs)
  case supervisionDeadline l =>
    refine hnext rfl ?_
    split
    · exact goDown_portsSound l hs
    · exact hs
  case holdOffDeadline | rawChange | inputAcceptance | stopLineOpens | stopLineCloses | tagRead | weighSample
      | weighWindowDeadline | holdableTransitDeadline | lostBoat | stuckAtBoundary | consentDeadline | slotDeadline
      | headwayDeadline | switchTravel | trapDeadline | stopDelayDeadline | pulseDeadline | checkDeadline
      | positionDeadline => exact fun l => (deeds_keepsPorts (exec_field_deeds rfl h)).sound (hs l)
  all_goals exact hnext rfl (present_portsSound _ _ _ _ hs)

/-- Settles O55: characters are taken until none waits or the request queue is full, a served frame leaves a response on its
way, and nothing else but CLEAR COUNTERS touches a port. -/
theorem stepsKeepThePortsSound : Obligations.StepsKeepThePortsSound := by
  unfold Obligations.StepsKeepThePortsSound
  intro s t hs h
  unfold step at h
  split at h
  · cases h
    exact fun l => (deeds_keepsPorts (tick_deeds s)).sound (hs l)
  · exact exec_portsSound h hs

end Sys2Proof.Machine
end

section
/-! PROOFS. What leaves boats and blocks where they are: `Calm s t` keeps position, path, state, occupant, holder and nose
of each, and the entries sound. One lemma per operation that moves nothing. -/

namespace Sys2Proof.Machine

open Sys2Proof

/-- What the agreement of boats and blocks reads of an entry. -/
def Entry.core (e : Entry) : BlockState × Option BoatId × Option BoatId × Bool := (e.state, e.occupant, e.holder, e.nose)

/-- `t` comes from `s` by changes that move no boat and reserve, release or free no block. -/
structure Calm (s t : State) : Prop where
  core : ∀ b, (t.entry b).core = (s.entry b).core
  sound : s.tableSound → t.tableSound
  track : SameTrack s t
  layout : t.layout = s.layout

namespace Calm

variable {s t u : State}

theorem of_board (htable : t.table = s.table) (hroster : t.roster = s.roster) (hlayout : t.layout = s.layout) : Calm s t := by
  have hentry (b : BlockId) : t.entry b = s.entry b := by rw [State.entry, htable, State.entry]
  refine ⟨fun b => by rw [hentry], fun h b => ?_, .of_roster hroster, hlayout⟩
  rw [hentry]
  exact h b

theorem refl (s : State) : Calm s s := of_board rfl rfl rfl

theorem trans (h : Calm s t) (h' : Calm t u) : Calm s u :=
  ⟨fun b => (h'.core b).trans (h.core b), h'.sound ∘ h.sound,
    fun x => ⟨(h'.track x).1.trans (h.track x).1, (h'.track x).2.trans (h.track x).2⟩, h'.layout.trans h.layout⟩

theorem after (h' : Calm t u) (h : Calm s t) : Calm s u := h.trans h'

theorem foldl {α : Type} {f : State → α → State} (h : ∀ t a, Calm t (f t a)) (as : List α) (s : State) :
    Calm s (as.foldl f s) := by
  induction as generalizing s with
  | nil => exact refl s
  | cons a as ih => exact (h s a).trans (ih (f s a))

end Calm

/-! ### Freezing (R55) -/

theorem freeze_core (e : Entry) : e.freeze.core = e.core := by
  unfold Entry.freeze
  split
  · split <;> rfl
  · rfl

theorem freeze_sound {e : Entry} (h : e.sound) : e.freeze.sound := by
  unfold Entry.freeze
  split
  case h_2 => exact h
  case h_1 r hr =>
    split
    case isFalse => exact h
    case isTrue hrel =>
      obtain ⟨hstate, hnose⟩ := hrel
      unfold Entry.sound at h ⊢
      simp only [hstate, hnose] at h ⊢
      obtain ⟨hoccupant, hholder, -, hclearance, -⟩ := h
      refine ⟨hoccupant, hholder, nofun, hclearance, ?_⟩
      simp

/-- Some entries frozen, all else left where it is. -/
theorem frozen_calm {s t : State} (htable : t.table = vmap (fun _ (e : Entry) => e.freeze) s.table ∨ t.table = s.table)
    (hroster : t.roster = s.roster) (hlayout : t.layout = s.layout) : Calm s t := by
  obtain htable | htable := htable
  · have hentry (b : BlockId) : t.entry b = (s.entry b).freeze := by rw [State.entry, htable, vget_vmap, State.entry]
    refine ⟨fun b => by rw [hentry, freeze_core], fun h b => ?_, .of_roster hroster, hlayout⟩
    rw [hentry]
    exact freeze_sound (h b)
  · exact .of_board htable hroster hlayout

theorem raise_calm (s : State) (k : FaultKind) (b : Option BlockId) (x : Option BoatId) (d : Details) :
    Calm s (s.raise k b x d) := by
  refine frozen_calm ?_ (raise_roster ..) (raise_layout ..)
  rw [raise_table]
  split
  · exact .inl rfl
  · exact .inr rfl

theorem enterHolding_calm (s : State) (c : ChangeCause) : Calm s (s.enterHolding c) :=
  .of_board (enterHolding_table ..) (enterHolding_roster ..) (enterHolding_layout ..)

theorem enterHalted_calm (s : State) (c : ChangeCause) : Calm s (s.enterHalted c) :=
  frozen_calm (.inl (enterHalted_table ..)) (enterHalted_roster ..) (enterHalted_layout ..)

theorem changeMode_calm (s : State) (m : Mode) (c : ChangeCause) : Calm s (s.changeMode m c) :=
  .of_board (changeMode_table ..) (changeMode_roster ..) (changeMode_layout ..)

theorem append_calm (s : State) (k : ReportKind) (f : Option (FaultKind × FaultClass)) (b : Option BlockId)
    (x : Option BoatId) (d : Details) : Calm s (s.append k f b x d) :=
  .of_board (append_table ..) (append_roster ..) (append_layout ..)

/-! ### Units -/

theorem modBoat_calm (s : State) (x : BoatId) (f : Boat → Boat) : Calm s (s.modBoat x f) :=
  ⟨fun _ => rfl, id, modBoat_track s x f, rfl⟩

theorem modBrake_calm (s : State) (b : BlockId) (f : Brake → Brake) : Calm s (s.modBrake b f) := .of_board rfl rfl rfl

theorem modSwitch_calm (s : State) (b : BlockId) (f : SwitchRecord → SwitchRecord) : Calm s (s.modSwitch b f) :=
  .of_board rfl rfl rfl

theorem setChannel_calm (s : State) (c : ChannelId) (x : Channel) : Calm s (s.setChannel c x) := .of_board rfl rfl rfl

theorem setTagWindow_calm (s : State) (p : PortId) (w : Option TagWindow) : Calm s (s.setTagWindow p w) :=
  .of_board rfl rfl rfl

theorem strayTrap_calm (s : State) : Calm s s.strayTrap := .of_board rfl rfl rfl

theorem discardTag_calm (s : State) : Calm s s.discardTag := .of_board rfl rfl rfl

theorem modBay_calm (s : State) (b : BlockId) (f : Bay → Bay) : Calm s (s.modBay b f) :=
  .of_board (modBay_table ..) (modBay_roster ..) (modBay_layout ..)

theorem setPhase_calm (s : State) (b : BlockId) (p : Phase) : Calm s (s.setPhase b p) :=
  .of_board (setPhase_table ..) (setPhase_roster ..) (setPhase_layout ..)

theorem berth_calm (s : State) (b : BlockId) (eye : Option PointId) : Calm s (s.berth b eye) :=
  .of_board (berth_table ..) (berth_roster ..) (berth_layout ..)

theorem vacateBay_calm (s : State) (b : BlockId) : Calm s (s.vacateBay b) :=
  .of_board (vacateBay_table ..) (vacateBay_roster ..) (vacateBay_layout ..)

theorem bayFaulted_calm (s : State) (b : BlockId) : Calm s (s.bayFaulted b) :=
  .of_board (bayFaulted_table ..) (bayFaulted_roster ..) (bayFaulted_layout ..)

theorem bayReturn_calm (s : State) (b : BlockId) : Calm s (s.bayReturn b) :=
  .of_board (bayReturn_table ..) (bayReturn_roster ..) (bayReturn_layout ..)

theorem bayGranted_calm (s : State) (b : BlockId) : Calm s (s.bayGranted b) :=
  .of_board (bayGranted_table ..) (bayGranted_roster ..) (bayGranted_layout ..)

/-- The table, the roster and the layout. -/
def State.board (s : State) : Vector Entry 32 × Vector Slot 24 × LayoutStore := (s.table, s.roster, s.layout)

theorem Calm.of_view {s t : State} (h : t.board = s.board) : Calm s t := by
  simp only [State.board, Prod.mk.injEq] at h
  exact .of_board h.1 h.2.1 h.2.2

theorem entryCleared_calm (s : State) (eye : PointId) : Calm s (s.entryCleared eye) :=
  .of_view (entryCleared_view State.board (fun _ _ => rfl) (fun _ _ => rfl) s eye)

theorem openTagWindow_calm (s : State) (b : BlockId) (g : Leg) (x : BoatId) : Calm s (s.openTagWindow b g x) :=
  .of_view (openTagWindow_view State.board (fun _ _ => rfl) s b g x)

theorem openPassage_calm (s : State) (b : BlockId) (x : BoatId) : Calm s (s.openPassage b x) :=
  .of_view (openPassage_view State.board (fun _ _ => rfl) s b x)

theorem tellRequester_calm (s : State) (b : BlockId) (q : Requester) (p : List BlockId) :
    Calm s (s.tellRequester b q p) :=
  .of_view (tellRequester_view State.board (fun _ _ => rfl) (fun _ _ => rfl) s b q p)

theorem firePulse_calm (s : State) (b : BlockId) : Calm s (s.firePulse b) :=
  .of_board (firePulse_table ..) (firePulse_roster ..) (firePulse_layout ..)

theorem bookGrant_calm (s : State) (b : BlockId) (p : List BlockId) : Calm s (s.bookGrant b p) :=
  .of_board (bookGrant_table ..) (bookGrant_roster ..) (bookGrant_layout ..)

theorem writeLaunch_calm (s : State) (b : BlockId) : Calm s (s.writeLaunch b) :=
  .of_board (writeLaunch_table ..) (writeLaunch_roster ..) (writeLaunch_layout ..)

theorem cancelEntry_calm (s : State) (e : DispatchEntry) (c : CancelCause) (n : Nat) : Calm s (s.cancelEntry e c n) :=
  .of_board (cancelEntry_table ..) (cancelEntry_roster ..) (cancelEntry_layout ..)

theorem removeEntry_calm (s : State) (e : DispatchEntry) : Calm s (s.removeEntry e) := .of_board rfl rfl rfl

/-! ### Weighs -/

theorem endWeigh_calm (s : State) (b : BlockId) (w : Weigh) (o : WeighOutcome) (r : Option WeighResult) (i j k : Nat) :
    Calm s (s.endWeigh b w o r i j k) :=
  .of_board (endWeigh_table ..) (endWeigh_roster ..) (endWeigh_layout ..)

theorem tareResult_calm (s : State) (b : BlockId) (w : Weigh) : Calm s (s.tareResult b w) := by
  unfold State.tareResult
  extract_lets mean share dev deviates t u v
  have ht : Calm s t := modBoat_calm s _ _
  have hu : Calm s u := ht.trans (endWeigh_calm ..)
  have hv : Calm s v := by
    simp only [v]
    split
    · exact hu.trans (raise_calm ..)
    · exact hu
  exact hv.trans (setPhase_calm ..)

theorem loadResult_calm (s : State) (b : BlockId) (w : Weigh) : Calm s (s.loadResult b w) := by
  unfold State.loadResult
  extract_lets mean share load maxLoad outcome t u
  have ht : Calm s t := by
    simp only [t]
    split
    · exact modBoat_calm ..
    · exact .refl s
  exact (ht.trans (endWeigh_calm ..)).trans (setPhase_calm ..)

theorem weighFails_calm (s : State) (b : BlockId) (w : Weigh) (n : Nat) : Calm s (s.weighFails b w n) :=
  ((endWeigh_calm ..).trans (raise_calm ..)).trans (setPhase_calm ..)

theorem closeWindow_calm (s : State) (b : BlockId) (w : Weigh) : Calm s (s.closeWindow b w) := by
  unfold State.closeWindow
  split
  · dsimp only
    split
    · exact (modBay_calm ..).trans (modBay_calm ..)
    · exact (modBay_calm ..).trans (weighFails_calm ..)
  · split
    · exact tareResult_calm ..
    · exact loadResult_calm ..

/-! ### Traps and tags -/

theorem trapEye1_calm (s : State) (b : BlockId) : Calm s (s.trapEye1 b) := by
  unfold State.trapEye1
  split
  · split
    · exact modBrake_calm ..
    · exact strayTrap_calm s
  · exact strayTrap_calm s

theorem raiseSpeedClamp_calm (s : State) (b : BlockId) (x : BoatId) (r : BrakeResult) (n : Nat) :
    Calm s (s.raiseSpeedClamp b x r n) := by
  unfold State.raiseSpeedClamp
  split
  · exact raise_calm ..
  · exact .refl s

theorem raiseMargin_calm (s : State) (b : BlockId) (x : BoatId) (r : BrakeResult) : Calm s (s.raiseMargin b x r) := by
  unfold State.raiseMargin
  split
  · exact raise_calm ..
  · exact .refl s

theorem brakeEvent_calm (s : State) (b : BlockId) (r : BrakeSection) (p : Passage) (t : Time) :
    Calm s (s.brakeEvent b r p t) :=
  .after (raiseMargin_calm ..) <| .after (raiseSpeedClamp_calm ..) <| .after (append_calm ..) <|
    .after (modBoat_calm ..) (modBrake_calm ..)

theorem trapEye2_calm (s : State) (b : BlockId) : Calm s (s.trapEye2 b) := by
  unfold State.trapEye2
  split
  · split
    · exact brakeEvent_calm ..
    · exact strayTrap_calm s
  · exact strayTrap_calm s

theorem trapFails_calm (s : State) (b : BlockId) (r : BrakeSection) (p : Passage) (engage : Bool) :
    Calm s (s.trapFails b r p engage) := (modBrake_calm ..).trans (raise_calm ..)

theorem trapUnmeasured_calm (s : State) (b : BlockId) : Calm s (s.trapUnmeasured b) := by
  unfold State.trapUnmeasured
  split
  · split
    · exact .refl s
    · exact trapFails_calm ..
  · exact .refl s

theorem endTagWindow_calm (s : State) (p : BlockId) (leg : Leg) : Calm s (s.endTagWindow p leg) := by
  unfold State.endTagWindow
  split
  · split
    · exact .refl s
    · dsimp only
      split
      · exact setTagWindow_calm ..
      · exact (setTagWindow_calm ..).trans (raise_calm ..)
  · exact .refl s

theorem takeTag_calm (s : State) (port : PortId) (code : Nat) : Calm s (s.takeTag port code) := by
  unfold State.takeTag
  split
  · exact .refl s
  · split
    · exact discardTag_calm s
    · split
      · exact discardTag_calm s
      · dsimp only
        split
        · exact setTagWindow_calm ..
        · exact (setTagWindow_calm ..).trans (raise_calm ..)

theorem positionEdge_calm (s : State) (b : BlockId) : Calm s (s.positionEdge b) := by
  unfold State.positionEdge
  split
  · exact .refl s
  · exact modSwitch_calm ..

/-! ### Dispatch entries and links -/

theorem dispatchReport_calm (s : State) (e : DispatchEntry) (ev : DispatchEvent) (i j : Nat) :
    Calm s (s.dispatchReport e ev i j) := append_calm ..

theorem expireEntry_calm (s : State) (e : DispatchEntry) : Calm s (s.expireEntry e) :=
  ((removeEntry_calm ..).trans (dispatchReport_calm ..)).trans (setPhase_calm ..)

theorem putEntry_calm (s : State) (e : DispatchEntry) : Calm s (s.putEntry e) := .of_board rfl rfl rfl

theorem discardSlot_calm (s : State) (n : Nat) : Calm s (s.discardSlot n) :=
  .of_board (discardSlot_table ..) (discardSlot_roster ..) (discardSlot_layout ..)

theorem discardSlotOf_calm (s : State) (l : Link) : Calm s (s.discardSlotOf l) := by
  unfold State.discardSlotOf
  split
  · split
    · exact discardSlot_calm ..
    · exact .refl s
  · exact .refl s

theorem withdrawConsents_calm (s : State) (c : ControlLink) : Calm s (s.withdrawConsents c) :=
  .after (.foldl (fun t _ => dispatchReport_calm t ..) _ _) (.of_board rfl rfl rfl)

theorem linkLost_calm (s : State) (l : Link) : Calm s (s.linkLost l) := by
  unfold State.linkLost
  split
  · exact raise_calm ..
  · exact .refl s

theorem cancelAll_calm (s : State) : Calm s s.cancelAll :=
  .foldl (fun _ _ => (cancelEntry_calm ..).trans (setPhase_calm ..)) _ s

theorem reroute_calm (s : State) (x : BoatId) (r : Route) : Calm s (s.reroute x r) :=
  (modBoat_calm s x fun t => { t with route := r }).trans (.of_board rfl rfl rfl)

end Sys2Proof.Machine
end

section
/-! PROOFS. The invariant of the block table: the entries that each operation writes are sound, and grants are made for
boats held alone. -/

namespace Sys2Proof.Machine

open Sys2Proof

/-! ### Entries -/

theorem bare_sound {st : BlockState} (h : st ∈ [BlockState.unverified, .clear, .outOfService, .faulted]) :
    (Entry.bare st).sound := by
  cases st
  case unverified | clear | outOfService => rfl
  case faulted => exact ⟨rfl, nofun⟩
  all_goals exact absurd h (by decide)

theorem occupied_sound (x : BoatId) : ({ Entry.bare .occupied with occupant := some x } : Entry).sound := ⟨rfl, rfl⟩

theorem reserved_sound (x : BoatId) : ({ Entry.bare .reserved with holder := some x } : Entry).sound := ⟨rfl, rfl⟩

namespace Entry

variable {e : Entry}

theorem sound_empty (h : e.sound) (hst : e.state ∈ [BlockState.unverified, .clear, .outOfService]) : e = .bare e.state := by
  unfold Entry.sound at h
  split at h
  case h_1 => exact h
  case h_2 => exact h
  case h_3 => exact h
  all_goals
    next hs =>
      rw [hs] at hst
      exact absurd hst (by decide)

theorem sound_reserved (h : e.sound) (hst : e.state = .reserved) :
    e.holder.isSome = true ∧ e = { Entry.bare .reserved with holder := e.holder } := by
  unfold Entry.sound at h
  rw [hst] at h
  exact h

theorem sound_occupied (h : e.sound) (hst : e.state = .occupied) :
    e.occupant.isSome = true ∧ e = { Entry.bare .occupied with occupant := e.occupant } := by
  unfold Entry.sound at h
  rw [hst] at h
  exact h

theorem sound_releasing (h : e.sound) (hst : e.state = .releasing) :
    e.occupant.isSome = true ∧ e.holder = none ∧ (e.transit.isSome = true → e.nose = false) ∧
      (e.clearance.isSome = true → e.nose = true) ∧
      ∀ r, e.release = some r → r.frozen = true → e.nose = false ∧ e.transit = none := by
  unfold Entry.sound at h
  rw [hst] at h
  exact h

theorem sound_faulted (h : e.sound) (hst : e.state = .faulted) :
    e = { Entry.bare .faulted with occupant := e.occupant, nose := e.nose } ∧
      (e.nose = true → e.occupant.isSome = true) := by
  unfold Entry.sound at h
  rw [hst] at h
  exact h

/-- Which attributes each state leaves empty (R25, R26). -/
theorem sound_attributes (h : e.sound) :
    (e.state ≠ .releasing → e.release = none) ∧ (e.state ≠ .reserved → e.holder = none) ∧
      (e.state ∉ [BlockState.occupied, .releasing, .faulted] → e.occupant = none) ∧
      (e.nose = true → e.occupant.isSome = true) := by
  obtain ⟨st, occupant, holder, nose, transit, clearance, release⟩ := e
  cases st
  all_goals simp_all [Entry.sound, Entry.bare]

theorem sound_nose (h : e.sound) (hn : e.nose = true) : e.occupant.isSome = true := (sound_attributes h).2.2.2 hn

/-- An occupant stands in an OCCUPIED, RELEASING or FAULTED block, which then has no holder. -/
theorem sound_occupant (h : e.sound) {x : BoatId} (hx : e.occupant = some x) :
    (e.state = .occupied ∨ e.state = .releasing ∨ e.state = .faulted) ∧ e.holder = none := by
  obtain ⟨-, hholder, hoccupant, -⟩ := sound_attributes h
  have hst : e.state ∈ [BlockState.occupied, .releasing, .faulted] := by
    refine Classical.byContradiction fun hst => ?_
    rw [hoccupant hst] at hx
    cases hx
  refine ⟨by simpa using hst, hholder fun hres => ?_⟩
  rw [hres] at hst
  exact absurd hst (by decide)

/-- Only a RESERVED block has a holder. -/
theorem sound_holder (h : e.sound) {x : BoatId} (hx : e.holder = some x) : e.state = .reserved := by
  refine Classical.byContradiction fun hst => ?_
  rw [(sound_attributes h).2.1 hst] at hx
  cases hx

/-- Only a RELEASING block has a release. -/
theorem sound_release (h : e.sound) {r : Release} (hr : e.release = some r) : e.state = .releasing := by
  refine Classical.byContradiction fun hst => ?_
  rw [(sound_attributes h).1 hst] at hr
  cases hr

theorem toFaulted_sound (h : e.sound) : e.toFaulted.sound := ⟨rfl, fun hn => sound_nose (e := e) h hn⟩

/-- A release taken back (R50). -/
theorem stalled_sound (h : e.sound) (hst : e.state = .releasing) (hn : e.nose = false) :
    ({ e with state := .occupied, release := none, transit := none } : Entry).sound := by
  obtain ⟨hoccupant, hholder, -, hclearance, -⟩ := sound_releasing h hst
  have hnone : e.clearance = none := by
    cases hc : e.clearance with
    | none => rfl
    | some t => exact absurd ((hclearance (by rw [hc]; rfl)).symm.trans hn) (by decide)
  refine ⟨hoccupant, ?_⟩
  rw [hholder, hn, hnone]
  rfl

/-- A release begun or commanded again (R33, R49, R56). -/
theorem released_sound {t : Option Time} {r : Release} (ho : e.occupant.isSome = true) (hh : e.holder = none)
    (hn : e.nose = false) (hc : e.clearance.isSome = true → e.nose = true) (hst : e.state = .releasing)
    (hf : r.frozen = false) : ({ e with transit := t, release := some r } : Entry).sound := by
  unfold Entry.sound
  simp only [hst]
  refine ⟨ho, hh, fun _ => hn, hc, fun r' hr' hfrozen => ?_⟩
  cases hr'
  exact absurd (hf.symm.trans hfrozen) (by decide)

theorem leftBy_sound (h : e.sound) (clearance : Time) (ho : e.occupant.isSome = true) (hne : e.state ≠ .occupied) :
    (e.leftBy clearance).sound := by
  obtain ⟨x, hx⟩ := Option.isSome_iff_exists.mp ho
  obtain ⟨hst | hst | hst, hholder⟩ := sound_occupant h hx
  · exact absurd hst hne
  · unfold Entry.sound Entry.leftBy
    simp only [hst]
    refine ⟨ho, hholder, nofun, by simp, fun r hr hfrozen => ?_⟩
    obtain ⟨r', -, rfl⟩ := Option.map_eq_some_iff.mp hr
    cases hfrozen
  · obtain ⟨heq, -⟩ := sound_faulted h hst
    unfold Entry.sound Entry.leftBy
    rw [heq]
    exact ⟨rfl, fun _ => ho⟩

theorem entered_sound (x : BoatId) (holdable terminal : Bool) (t : Time) : (enteredEntry x holdable terminal t).sound := by
  unfold enteredEntry
  cases holdable <;> cases terminal
  case true.true => exact ⟨rfl, rfl⟩
  all_goals exact ⟨rfl, rfl, fun _ => rfl, nofun, nofun⟩

theorem without_sound : e.without.sound := by
  unfold Entry.without
  split
  case h_1 | h_2 | h_3 => rfl
  case h_4 st h1 h2 h3 =>
    refine bare_sound ?_
    cases hst : e.state
    case occupied => exact absurd hst h1
    case releasing => exact absurd hst h2
    case reserved => exact absurd hst h3
    all_goals decide

end Entry

/-! ### One entry written -/

theorem setEntry_tableSound {s : State} {b : BlockId} {e : Entry} (he : e.sound) (hs : s.tableSound) :
    (s.setEntry b e).tableSound := by
  intro c
  by_cases hc : c = b
  · rw [hc, setEntry_entry_self]; exact he
  · rw [setEntry_entry_ne s e hc]; exact hs c

/-- A fold of steps that each keep a property keeps it. -/
theorem foldl_preserves {α : Type} {P : State → Prop} {f : State → α → State} (h : ∀ t a, P t → P (f t a)) (as : List α)
    {s : State} (hs : P s) : P (as.foldl f s) := by
  induction as generalizing s with
  | nil => exact hs
  | cons a as ih => exact ih (h s a hs)

theorem clearReserved_tableSound {s : State} (bs : List BlockId) (hs : s.tableSound) : (s.clearReserved bs).tableSound := by
  refine foldl_preserves (fun t b ht => ?_) bs hs
  split
  · exact setEntry_tableSound (bare_sound (by decide)) ht
  · exact ht

theorem setPath_tableSound {s : State} (x : BoatId) (p : List BlockId) (hs : s.tableSound) : (s.setPath x p).tableSound := hs

theorem setSlot_tableSound {s : State} (x : BoatId) (t : Slot) (hs : s.tableSound) : (s.setSlot x t).tableSound := hs

theorem cutPath_tableSound {s : State} (y : BoatId) (f : BlockId) (hs : s.tableSound) : (s.cutPath y f).tableSound :=
  clearReserved_tableSound _ (setPath_tableSound _ _ hs)

/-! ### Faults and stalls -/

theorem faultBlock_tableSound {s : State} (b : BlockId) (hs : s.tableSound) : (s.faultBlock b).tableSound := by
  have hentry : (s.setEntry b (s.entry b).toFaulted).tableSound := setEntry_tableSound (Entry.toFaulted_sound (hs b)) hs
  have hrecords {t : State} (ht : t.tableSound) : ((t.modBrake b (·.letGo)).modSwitch b (·.dropMove)).tableSound := ht
  unfold State.faultBlock
  dsimp only
  split
  · exact hrecords (cutPath_tableSound _ _ hentry)
  · exact hrecords hentry

theorem faultAt_tableSound {s : State} (k : FaultKind) (b : BlockId) (x : Option BoatId) (d : Details) (hs : s.tableSound) :
    (s.faultAt k b x d).tableSound :=
  (bayFaulted_calm ..).sound ((raise_calm ..).sound (faultBlock_tableSound b hs))

theorem driveFault_tableSound {s : State} (k : FaultKind) (b : BlockId) (d : Details) (hs : s.tableSound) :
    (s.driveFault k b d).tableSound := by
  unfold State.driveFault
  dsimp only
  split
  · exact (raise_calm ..).sound ((modSwitch_calm ..).sound hs)
  · exact faultAt_tableSound k b _ d hs

theorem stall_tableSound {s : State} {b : BlockId} (hst : (s.entry b).state = .releasing) (hn : (s.entry b).nose = false)
    (hs : s.tableSound) : (s.stall b).tableSound := by
  unfold State.stall
  dsimp only
  split
  · exact hs
  · refine (bayReturn_calm ..).sound ((raise_calm ..).sound ((modBrake_calm ..).sound (setPath_tableSound _ _ ?_)))
    exact clearReserved_tableSound _ (setEntry_tableSound (Entry.stalled_sound (hs b) hst hn) hs)

/-- The release of a block whose transit deadline runs is not yet crossed (R48). -/
theorem transitDue_nose {s : State} {b : BlockId} {d : Time} (hs : s.tableSound) (h : s.transitDue b = some d) :
    (s.entry b).nose = false ∧ (s.entry b).transit = some d := by
  have hst := transitDue_releasing h
  have htransit : (s.entry b).transit = some d := by
    rw [State.transitDue, if_pos hst] at h
    exact (Option.filter_eq_some_iff.mp h).1
  obtain ⟨-, -, hnose, -⟩ := Entry.sound_releasing (hs b) hst
  exact ⟨hnose (by rw [htransit]; rfl), htransit⟩

theorem transitEvent_tableSound {s : State} {b : BlockId} {d : Time} (h : s.transitDue b = some d) (hs : s.tableSound) :
    (s.transitEvent b d).tableSound := by
  have hst := transitDue_releasing h
  obtain ⟨hn, htransit⟩ := transitDue_nose hs h
  obtain ⟨hoccupant, hholder, -, hclearance, hfrozen⟩ := Entry.sound_releasing (hs b) hst
  unfold State.transitEvent
  dsimp only
  split
  case h_1 r hr =>
    split
    · refine (firePulse_calm ..).sound (setEntry_tableSound (Entry.released_sound hoccupant hholder hn hclearance hst ?_) hs)
      refine eq_false_of_ne_true fun hf => ?_
      rw [(hfrozen r hr hf).2] at htransit
      cases htransit
    · exact stall_tableSound hst hn hs
  case h_2 => exact stall_tableSound hst hn hs

/-! ### Grants -/

/-- What the conditions of R31 say of a block and its path. -/
theorem readyPath_eq_some {s : State} {b : BlockId} {p : List BlockId} (h : s.readyPath b = some p) :
    isRunMode s.mode = true ∧ (s.entry b).state = .occupied ∧ (s.entry b).release = none ∧
      s.pathFrom b = some p ∧ ∀ c ∈ p, (s.entry c).state = .clear := by
  unfold State.readyPath at h
  dsimp only at h
  rw [Option.ite_none_right_eq_some] at h
  obtain ⟨hready, hfilter⟩ := h
  simp only [Bool.and_eq_true, beq_iff_eq, Option.isNone_iff_eq_none] at hready
  obtain ⟨⟨⟨⟨hmode, hst⟩, -⟩, hrelease⟩, -⟩ := hready
  obtain ⟨hpath, hclear⟩ := Option.filter_eq_some_iff.mp hfilter
  refine ⟨hmode, hst, hrelease, hpath, fun c hc => ?_⟩
  exact beq_iff_eq.mp (List.all_eq_true.mp hclear c hc)

theorem candidateAt_readyPath {s : State} {r : MergeRecord} {i : MergeInput} {h : BlockId} {q : Requester}
    {p : List BlockId} (hc : s.candidateAt r i = some (h, q, p)) : s.readyPath h = some p := by
  unfold State.candidateAt at hc
  split at hc
  case h_1 => cases hc
  case h_2 =>
    split at hc
    case h_2 => cases hc
    case h_1 hp =>
      split at hc
      case isFalse => cases hc
      case isTrue =>
        cases hc
        exact hp

theorem arbitrate_candidate {s : State} {m : MergeId} {r : MergeRecord} {c : BlockId × Requester × List BlockId}
    (h : s.arbitrate m r = some c) : ∃ i, s.candidateAt r i = some c := by
  unfold State.arbitrate at h
  split at h
  case h_1 h0 h1 =>
    dsimp only at h
    split at h
    · exact ⟨.in0, h0.trans h⟩
    · exact ⟨.in1, h1.trans h⟩
  case h_2 h0 _ => exact ⟨.in0, h0.trans h⟩
  case h_3 _ h1 => exact ⟨.in1, h1.trans h⟩
  case h_4 => cases h

/-- Asking for a boat grants a path that meets the conditions of R31. -/
theorem askFor_grants {s t : State} {b : BlockId} (h : s.askFor b = some t) :
    ∃ c q p, s.readyPath c = some p ∧ t = s.grant c q p := by
  unfold State.askFor at h
  split at h
  case h_2 => cases h
  case h_1 p q hp _ =>
    split at h
    case h_1 =>
      cases h
      exact ⟨b, q, p, hp, rfl⟩
    case h_2 m r _ =>
      obtain ⟨⟨c, q', p'⟩, hc, rfl⟩ := Option.map_eq_some_iff.mp h
      obtain ⟨i, hi⟩ := arbitrate_candidate hc
      exact ⟨c, q', p', candidateAt_readyPath hi, rfl⟩

/-- What every grant that may be made keeps the asking for grants keeps. -/
theorem grantLoop_keeps {P : State → Prop} (h : ∀ s b q p, s.readyPath b = some p → P s → P (s.grant b q p)) (n : Nat)
    {s : State} (hs : P s) : P (grantLoop n s) := by
  induction n generalizing s with
  | zero => exact hs
  | succ n ih =>
    rw [grantLoop]
    split
    case h_1 t ht =>
      obtain ⟨b, -, hb⟩ := List.exists_of_findSome?_eq_some ht
      obtain ⟨c, q, p, hp, rfl⟩ := askFor_grants hb
      exact ih (h s c q p hp hs)
    case h_2 => exact hs

/-- What grants and changes that move nothing keep the end of an event keeps. -/
theorem finish_keeps {P : State → Prop} (hcalm : ∀ s t, Calm s t → P s → P t)
    (hgrant : ∀ s b q p, s.readyPath b = some p → P s → P (s.grant b q p)) {s : State} (hs : P s) : P s.finish := by
  have hsettle (t : State) : Calm t t.settle :=
    .of_board (settle_table ..) (settle_roster ..) (settle_layout ..)
  have hask {t : State} (ht : P t) : P t.askAll := by
    unfold State.askAll
    split
    · exact grantLoop_keeps hgrant 32 ht
    · exact ht
  unfold State.finish
  split
  · exact hs
  · have hswitches : Calm s s.refreshSwitches := .of_board rfl rfl rfl
    have hunits (t : State) : Calm t t.refreshBrakes.refreshChannels := .of_board rfl rfl rfl
    exact hcalm _ _ ((hunits _).trans (hsettle _)) (hask (hcalm _ _ hswitches hs))

theorem reserve_tableSound {s : State} (x : BoatId) (p : List BlockId) (hs : s.tableSound) : (s.reserve x p).tableSound :=
  foldl_preserves (fun _ _ ht => setEntry_tableSound (reserved_sound x) ht) p hs

/-- The entry of a block from which a grant is made (R33). -/
def State.grantedEntry (s : State) (b : BlockId) (p : List BlockId) : Entry :=
  { s.entry b with
    state := .releasing
    transit := some (s.after (s.transitLimit b))
    release := some { path := p, retries := kickRetriesOf (s.record b), frozen := false } }

/-- The block table and the path list at a grant; all else that a grant does is calm. -/
def State.granted (s : State) (b : BlockId) (x : BoatId) (p : List BlockId) : State :=
  ((s.reserve x p).setPath x p).setEntry b (s.grantedEntry b p)

theorem reserve_record (s : State) (x : BoatId) (p : List BlockId) (b : BlockId) : (s.reserve x p).record b = s.record b := by
  rw [State.record, reserve_layout, State.record]

theorem grant_calm {s : State} {b : BlockId} {x : BoatId} (q : Requester) (p : List BlockId)
    (hx : (s.entry b).occupant = some x) : Calm (s.granted b x p) (s.grant b q p) := by
  have heq : ((s.reserve x p).setPath x p).setEntry b
      { s.entry b with
        state := .releasing
        transit := some (((s.reserve x p).setPath x p).after (((s.reserve x p).setPath x p).transitLimit b))
        release := some { path := p, retries := kickRetriesOf (((s.reserve x p).setPath x p).record b), frozen := false } } =
      s.granted b x p := by
    have hrecord : ((s.reserve x p).setPath x p).record b = s.record b := reserve_record s x p b
    have hafter (n : Nat) : ((s.reserve x p).setPath x p).after n = s.after n := by
      rw [State.after, setPath_timeBase, reserve_timeBase, State.after]
    rw [State.granted, State.grantedEntry, hafter, State.transitLimit, State.transitLimit, hrecord]
  unfold State.grant
  dsimp only
  split
  case h_1 hnone => rw [hx] at hnone; cases hnone
  case h_2 y hy =>
    rw [hx] at hy
    cases hy
    rw [heq]
    exact .after (bayGranted_calm ..) <| .after (tellRequester_calm ..) <| .after (bookGrant_calm ..) <|
      .after (writeLaunch_calm ..) <| .after (modBrake_calm ..) (firePulse_calm ..)

theorem grant_tableSound {s : State} {b : BlockId} (q : Requester) (p : List BlockId)
    (hst : (s.entry b).state = .occupied) (hs : s.tableSound) : (s.grant b q p).tableSound := by
  obtain ⟨hoccupant, heq⟩ := Entry.sound_occupied (hs b) hst
  obtain ⟨x, hx⟩ := Option.isSome_iff_exists.mp hoccupant
  refine (grant_calm q p hx).sound (setEntry_tableSound ?_ (setPath_tableSound _ _ (reserve_tableSound x p hs)))
  have hholder : (s.entry b).holder = none := by rw [heq]; rfl
  have hnose : (s.entry b).nose = false := by rw [heq]; rfl
  have hclearance : (s.entry b).clearance = none := by rw [heq]; rfl
  exact Entry.released_sound (e := { s.entry b with state := .releasing }) hoccupant hholder hnose
    (by rw [hclearance]; exact nofun) rfl rfl

theorem finish_tableSound {s : State} (hs : s.tableSound) : s.finish.tableSound :=
  finish_keeps (fun _ _ h => h.sound)
    (fun _ _ q p hp => by
      obtain ⟨-, hst, -⟩ := readyPath_eq_some hp
      exact grant_tableSound q p hst) hs

end Sys2Proof.Machine
end

section
/-! PROOFS. The invariant of the block table, ended: arrivals, clearances, the census and the mode changes, and with them
every act. -/

namespace Sys2Proof.Machine

open Sys2Proof

/-! ### Arrivals and clearances -/

theorem endFaultedRecord_tableSound {s : State} {u : BlockId} (hst : (s.entry u).state = .faulted) (hs : s.tableSound) :
    (s.endFaultedRecord u).tableSound := by
  refine (vacateBay_calm ..).sound (setEntry_tableSound ?_ hs)
  obtain ⟨heq, -⟩ := Entry.sound_faulted (hs u) hst
  rw [heq]
  exact ⟨rfl, nofun⟩

theorem endFaultedRecord_entry (s : State) (u b : BlockId) :
    (s.endFaultedRecord u).entry b = if b = u then { s.entry b with occupant := none, nose := false } else s.entry b := by
  have htable : (s.endFaultedRecord u).table = (s.modEntry u fun e => { e with occupant := none, nose := false }).table :=
    vacateBay_table ..
  rw [State.entry, htable]
  show (s.setEntry u _).entry b = _
  split
  case isTrue h => rw [h, setEntry_entry_self]
  case isFalse h => rw [setEntry_entry_ne s _ h]

/-- Records that end leave the states of the blocks alone. -/
theorem endFaultedRecord_state (s : State) (u b : BlockId) : ((s.endFaultedRecord u).entry b).state = (s.entry b).state := by
  rw [endFaultedRecord_entry]
  split <;> rfl

theorem endFaultedRecords_tableSound {s : State} {us : List BlockId} (hst : ∀ u ∈ us, (s.entry u).state = .faulted)
    (hs : s.tableSound) : (us.foldl State.endFaultedRecord s).tableSound := by
  induction us generalizing s with
  | nil => exact hs
  | cons u us ih =>
    refine ih (fun v hv => ?_) (endFaultedRecord_tableSound (hst u List.mem_cons_self) hs)
    rw [endFaultedRecord_state]
    exact hst v (List.mem_cons_of_mem u hv)

theorem mem_faultedRecords {s : State} {p u : BlockId} {x : BoatId} :
    u ∈ s.faultedRecords p x ↔ u ≠ p ∧ (s.entry u).state = .faulted ∧ (s.entry u).occupant = some x := by
  simp [State.faultedRecords, allBlocks, and_assoc]

theorem moveNose_tableSound {s : State} {p n : BlockId} {x : BoatId} (hne : p ≠ n)
    (hx : (s.entry p).occupant.isSome = true) (hst : (s.entry p).state ≠ .occupied) (hs : s.tableSound) :
    (s.moveNose p n x).tableSound := by
  unfold State.moveNose State.modEntry
  extract_lets holdable terminal t u
  have ht : t.tableSound := setEntry_tableSound (Entry.entered_sound ..) hs
  have hp : u.entry p = s.entry p := setEntry_entry_ne s _ hne
  refine setEntry_tableSound ?_ (setSlot_tableSound _ _ ht)
  rw [hp]
  exact Entry.leftBy_sound (hs p) _ hx hst

theorem normalArrival_tableSound {s : State} {p n : BlockId} {x : BoatId} (leg : Leg) (eye : PointId) (hne : p ≠ n)
    (hx : (s.entry p).occupant.isSome = true) (hst : (s.entry p).state ≠ .occupied) (hs : s.tableSound) :
    (s.normalArrival p n leg eye x).tableSound := by
  unfold State.normalArrival
  extract_lets s1 count s2 s3 s4 s5 s6
  have h1 : s1.tableSound := moveNose_tableSound hne hx hst hs
  have h3 : s3.tableSound := (append_calm ..).sound (t := s3) (s := s2) h1
  have h4 : s4.tableSound := endFaultedRecords_tableSound (fun u hu => (mem_faultedRecords.mp hu).2.1) h3
  have h5 : s5.tableSound := by
    simp only [s5]
    split
    · exact (modBoat_calm ..).sound h4
    · exact h4
  have h6 : s6.tableSound := (openPassage_calm ..).sound ((openTagWindow_calm ..).sound h5)
  split
  · exact (berth_calm ..).sound h6
  · exact h6

/-- A block with an occupant is none that is RESERVED. -/
theorem ne_of_reserved {s : State} {p n : BlockId} {x : BoatId} (hs : s.tableSound) (hx : (s.entry p).occupant = some x)
    (hn : (s.entry n).state = .reserved) : p ≠ n := by
  rintro rfl
  rw [(Entry.sound_reserved (hs p) hn).2] at hx
  cases hx

theorem noseArrival_tableSound {s : State} (p : BlockId) (leg : Leg) (eye : PointId) (hs : s.tableSound) :
    (s.noseArrival p leg eye).tableSound := by
  unfold State.noseArrival
  split
  · exact hs
  · dsimp only
    split
    · exact (append_calm ..).sound hs
    · split
      · exact (raise_calm ..).sound hs
      · split
        · exact faultAt_tableSound _ _ _ _ hs
        case isFalse hst =>
          split
          · exact faultAt_tableSound _ _ _ _ hs
          case h_2 x hx =>
            split
            · exact faultAt_tableSound _ _ _ _ hs
            · split
              case isFalse => exact faultAt_tableSound _ _ _ _ hs
              case isTrue hexpects =>
                refine normalArrival_tableSound leg eye ?_ (by rw [hx]; rfl) hst hs
                exact ne_of_reserved hs hx ((expects_iff ..).mp hexpects).1

theorem tailClearance_tableSound {s : State} (p : BlockId) (leg : Leg) (eye : PointId) (hs : s.tableSound) :
    (s.tailClearance p leg eye).tableSound := by
  unfold State.tailClearance
  split
  · exact hs
  · dsimp only
    split
    · exact (entryCleared_calm ..).sound ((endTagWindow_calm ..).sound ((append_calm ..).sound hs))
    · split
      · refine (entryCleared_calm ..).sound ((vacateBay_calm ..).sound ((trapUnmeasured_calm ..).sound
          ((endTagWindow_calm ..).sound ?_)))
        exact setEntry_tableSound (bare_sound (by decide)) hs
      · exact (entryCleared_calm ..).sound ((endTagWindow_calm ..).sound ((raise_calm ..).sound hs))

theorem deliverEdge_tableSound {s : State} (p : PointId) (on : Bool) (hs : s.tableSound) :
    (s.deliverEdge p on).tableSound := by
  unfold State.deliverEdge
  split
  · exact hs
  · split
    case h_1 => exact hs
    case h_2 =>
      split
      · exact noseArrival_tableSound _ _ _ hs
      · exact tailClearance_tableSound _ _ _ hs
    case h_3 =>
      split
      · exact (trapEye1_calm ..).sound hs
      · exact hs
    case h_4 =>
      split
      · exact (trapEye2_calm ..).sound hs
      · exact hs
    case h_5 => exact hs
    case h_6 => exact (positionEdge_calm ..).sound hs

/-! ### The census -/

theorem place_tableSound {s : State} (x : BoatId) (t : Boat) (b : BlockId) (guests : Bool) (hs : s.tableSound) :
    (s.place x t b guests).tableSound := by
  refine (berth_calm ..).sound ?_
  show (s.setEntry b { Entry.bare .occupied with occupant := some x }).tableSound
  exact setEntry_tableSound (occupied_sound x) hs

theorem remove_tableSound {s : State} (x : BoatId) (t : Boat) (hs : s.tableSound) : (s.remove x t).tableSound := by
  unfold State.remove
  extract_lets held losing s1 s2 s3
  have h1 : s1.tableSound := foldl_preserves (fun u b hu => setEntry_tableSound Entry.without_sound hu) losing hs
  exact (Calm.foldl vacateBay_calm held s3).sound h1

/-! ### What happens before an event's end -/

theorem happens_tableSound {s t : State} (h : Happens s t) (hs : s.tableSound) : t.tableSound := by
  cases h with
  | weighCloses => exact (closeWindow_calm ..).sound hs
  | transitPasses b d h => exact transitEvent_tableSound h hs
  | crossingFails => exact faultAt_tableSound _ _ _ _ hs
  | entryExpires => exact (expireEntry_calm ..).sound hs
  | headwayEnds => exact hs
  | driveFails => exact driveFault_tableSound _ _ _ hs
  | channelFails => exact driveFault_tableSound _ _ _ ((setChannel_calm ..).sound hs)
  | trapFails => exact (trapFails_calm ..).sound hs
  | holdEngages => exact hs
  | pulseEnds => exact hs
  | tagRead => exact (takeTag_calm ..).sound hs
  | edge => exact deliverEdge_tableSound _ _ hs
  | stopLine k => exact (raise_calm ..).sound hs
  | held => exact (enterHolding_calm ..).sound hs
  | halted => exact (enterHalted_calm ..).sound hs
  | census b st _ _ hst =>
    have hst' : st ∈ [BlockState.unverified, .clear, .outOfService] ++ [.faulted] := List.mem_append_left _ hst
    exact setEntry_tableSound (bare_sound hst') hs
  | placed => exact place_tableSound _ _ _ _ hs
  | removed => exact remove_tableSound _ _ hs
  | rerouted => exact (reroute_calm ..).sound hs
  | canceled => exact ((cancelEntry_calm ..).trans (setPhase_calm ..)).sound hs
  | denied => exact (((removeEntry_calm ..).trans (dispatchReport_calm ..)).trans (setPhase_calm ..)).sound hs
  | consented => exact ((putEntry_calm ..).trans (dispatchReport_calm ..)).sound hs
  | stepped b p h => exact grant_tableSound .step p h hs
  | rideLinkLost =>
    exact (((discardSlotOf_calm ..).trans (withdrawConsents_calm ..)).trans (linkLost_calm ..)).sound hs
  | stationLinkLost => exact ((discardSlotOf_calm ..).trans (cancelAll_calm ..)).sound hs

/-! ### Mode changes -/

/-- A release that RESUME commands again (R56). -/
def State.resumedEntry (s : State) (b : BlockId) (r : Release) : Entry :=
  { s.entry b with
    transit := some (s.after (s.transitLimit b))
    release := some { r with frozen := false, retries := kickRetriesOf (s.record b) } }

theorem frozen_nose {s : State} {b : BlockId} {r : Release} (hs : s.tableSound) (hr : (s.entry b).release = some r)
    (hf : r.frozen = true) : (s.entry b).state = .releasing ∧ (s.entry b).nose = false := by
  have hst := Entry.sound_release (hs b) hr
  obtain ⟨-, -, -, -, hfrozen⟩ := Entry.sound_releasing (hs b) hst
  exact ⟨hst, (hfrozen r hr hf).1⟩

theorem resumeRelease_tableSound {s : State} (b : BlockId) (hs : s.tableSound) : (s.resumeRelease b).tableSound := by
  unfold State.resumeRelease
  dsimp only
  split
  case h_2 => exact hs
  case h_1 r x hr hx =>
    split
    case isFalse => exact hs
    case isTrue hf =>
      obtain ⟨hst, hn⟩ := frozen_nose hs hr hf
      obtain ⟨hoccupant, hholder, -, hclearance, -⟩ := Entry.sound_releasing (hs b) hst
      split
      · exact stall_tableSound hst hn hs
      · exact (firePulse_calm ..).sound
          (setEntry_tableSound (Entry.released_sound hoccupant hholder hn hclearance hst rfl) hs)

theorem setupTable_tableSound (s : State) : s.setupTable.tableSound := by
  intro b
  have hentry : s.setupTable.entry b = .bare (s.layout.setupState b) := vget_vmap ..
  rw [hentry]
  refine bare_sound ?_
  unfold LayoutStore.setupState
  split
  · split <;> decide
  · decide

theorem setUp_entry (s : State) (b : BlockId) : s.setUp.entry b = .bare (s.layout.setupState b) := by
  rw [State.entry, setUp_table, vget_vmap]

theorem setUp_tableSound (s : State) : s.setUp.tableSound := by
  intro b
  have hentry : s.setupTable.entry b = .bare (s.layout.setupState b) := vget_vmap ..
  rw [setUp_entry, ← hentry]
  exact setupTable_tableSound s b

theorem vacated_calm (s : State) : Calm s.forget s.forget.vacateAll := .foldl (fun _ _ => setPhase_calm ..) _ _

theorem restartUnits_calm (s : State) : Calm s.forget s.restartUnits := by
  have hcalm := vacated_calm s
  unfold State.restartUnits
  generalize s.forget.vacateAll = u at hcalm ⊢
  exact hcalm.trans (.of_board rfl rfl rfl)

theorem configureUnits_calm (s : State) : Calm s.forget s.configureUnits := by
  have hcalm := vacated_calm s
  unfold State.configureUnits
  generalize s.forget.vacateAll = u at hcalm ⊢
  exact hcalm.trans (.of_board rfl rfl rfl)

theorem forget_tableSound (s : State) : s.forget.tableSound := setupTable_tableSound s

/-- A sound block table, as a structure: what a state's table evaluates to is not looked into. -/
structure Tabled (s : State) : Prop where
  sound : s.tableSound

theorem Calm.tabled {s t : State} (h : Calm s t) (hs : Tabled s) : Tabled t := ⟨h.sound hs.sound⟩

theorem resumeFrozen_tabled {s : State} (hs : Tabled s) : Tabled s.resumeFrozen :=
  foldl_preserves (fun _ b ht => ⟨resumeRelease_tableSound b ht.sound⟩) _ hs

theorem changed_calm (s : State) (m : ModeReq) : Calm s (s.changed m) :=
  Calm.trans (t := s.setMc { s.mc with slot := none }) (.of_board rfl rfl rfl) (changeMode_calm ..)

theorem prepared_tabled {s : State} (m : ModeReq) (hs : Tabled s) : Tabled (s.prepared m) := by
  have hchanged := (changed_calm s m).tabled hs
  unfold State.prepared
  split
  · exact ⟨setUp_tableSound _⟩
  · exact (restartUnits_calm _).tabled ⟨forget_tableSound _⟩
  · exact (configureUnits_calm _).tabled ⟨forget_tableSound _⟩
  · exact hchanged
  · exact hchanged
  · split
    · exact resumeFrozen_tabled hchanged
    · exact hchanged

/-! ### Every act -/

theorem tableSound_of_table {s t : State} (h : t.table = s.table) (hs : s.tableSound) : t.tableSound := by
  intro b
  rw [State.entry, h]
  exact hs b

theorem queueDispatch_table (s : State) (b : BlockId) (x : BoatId) (afterPrevious : Bool) :
    (s.queueDispatch b x afterPrevious).table = s.table := by
  unfold State.queueDispatch
  dsimp only
  rw [setPhase_table, dispatchReport_table]

theorem deed_tableSound {s t : State} (h : Deed s t) (hs : s.tableSound) : t.tableSound := by
  cases h with
  | outside h => exact tableSound_of_table h.outer.table hs
  | ended h => exact finish_tableSound (happens_tableSound h hs)
  | quiet h => exact tableSound_of_table h.table hs
  | queued => exact tableSound_of_table (queueDispatch_table ..) hs
  | enrolled => exact hs
  | retired => exact hs
  | writes => exact hs
  | carriedOut m =>
    rw [carryOut_eq]
    exact finish_tableSound (prepared_tabled m ⟨hs⟩).sound

theorem powerOn_entry (s : State) (pins : BitVec 2) (open1 open2 : Bool) (on : List PointId) (b : BlockId) :
    (s.powerOn pins open1 open2 on).entry b = .bare .outOfService := Vector.getElem_replicate ..

theorem powerOn_tableSound (s : State) (pins : BitVec 2) (open1 open2 : Bool) (on : List PointId) :
    (s.powerOn pins open1 open2 on).tableSound := by
  intro b
  rw [powerOn_entry]
  rfl

theorem act_tableSound (s t : State) (h : Act s t) (hs : s.tableSound) : t.tableSound := by
  cases h with
  | linked h => exact tableSound_of_table h.outer.table hs
  | powerOn pins open1 open2 on => exact powerOn_tableSound s pins open1 open2 on
  | deed h => exact deed_tableSound h hs

/-- Settles O57: every entry written is sound, and an entry is made RELEASING out of OCCUPIED and taken back only before the
nose has left. -/
theorem stepsKeepTheTableSound : Obligations.StepsKeepTheTableSound := by
  unfold Obligations.StepsKeepTheTableSound
  exact fun s t hs h => step_keeps act_tableSound h hs

end Sys2Proof.Machine
end

section
/-! PROOFS. The agreement of boats and blocks as a structure over positions and paths, and how it is kept: where occupants
and noses stay, only reservations and paths have to agree afresh. -/

namespace Sys2Proof.Machine

open Sys2Proof

/-- The position of a boat. -/
def State.placeOf (s : State) (x : BoatId) : Option BlockId := (s.slot x).position

/-- The agreement of boats and blocks (R27, R30, R33, R35). -/
structure Aligned (s : State) : Prop where
  stands : ∀ b x, (s.entry b).occupant = some x → ∃ pos, s.placeOf x = some pos ∧
    (pos = b ∨ (s.entry b).nose = true ∧ ∃ leg, s.layout.successor b leg = some pos)
  holds : ∀ x pos, s.placeOf x = some pos → (s.entry pos).occupant = some x ∧ (s.entry pos).nose = false
  once : ∀ x b c, (s.entry b).occupant = some x → (s.entry c).occupant = some x → s.placeOf x ≠ some b →
    s.placeOf x ≠ some c → b = c
  reserved : ∀ b x, ((s.entry b).state = .reserved ∧ (s.entry b).holder = some x) ↔ b ∈ s.pathOf x
  path : ∀ x, (s.pathOf x).Nodup ∧ (s.pathOf x).length ≤ 8
  rests : ∀ b x, (s.entry b).state = .occupied → (s.entry b).occupant = some x → s.pathOf x = []

/-- No block has a boat or a holder. -/
def State.vacant (s : State) : Prop := ∀ b, (s.entry b).occupant = none ∧ (s.entry b).holder = none

theorem placeOf_eq_some {s : State} {x : BoatId} {pos : BlockId} :
    s.placeOf x = some pos ↔ ∃ bt path, s.slot x = .onTrack bt pos path := by
  unfold State.placeOf
  cases s.slot x <;> simp [Slot.position]

theorem trackSound_iff (s : State) : s.trackSound ↔ Aligned s ∧ (s.mode = .configure → s.vacant) := by
  constructor
  · rintro ⟨hstands, hholds, honce, hreserved, hpath, hrests, hvacant⟩
    refine ⟨⟨fun b x hx => ?_, fun x pos hpos => ?_, fun x => honce x, fun b x => hreserved b x, hpath, hrests⟩, hvacant⟩
    · obtain ⟨bt, pos, path, hslot, hpos⟩ := hstands b x hx
      exact ⟨pos, placeOf_eq_some.mpr ⟨bt, path, hslot⟩, hpos⟩
    · obtain ⟨bt, path, hslot⟩ := placeOf_eq_some.mp hpos
      exact hholds x bt pos path hslot
  · rintro ⟨h, hvacant⟩
    refine ⟨fun b x hx => ?_, fun x bt pos path hslot => ?_, h.once, h.reserved, h.path, h.rests, hvacant⟩
    · obtain ⟨pos, hplace, hpos⟩ := h.stands b x hx
      obtain ⟨bt, path, hslot⟩ := placeOf_eq_some.mp hplace
      exact ⟨bt, pos, path, hslot, hpos⟩
    · exact h.holds x pos (placeOf_eq_some.mpr ⟨bt, path, hslot⟩)

/-- A sound block table whose boats agree with it. -/
structure Board (s : State) : Prop where
  tabled : Tabled s
  aligned : Aligned s

/-! ### Boats that stay -/

/-- Occupants, noses and positions are the same in both states. -/
structure SameBoats (s t : State) : Prop where
  occupant : ∀ b, (t.entry b).occupant = (s.entry b).occupant
  nose : ∀ b, (t.entry b).nose = (s.entry b).nose
  place : ∀ x, t.placeOf x = s.placeOf x
  layout : t.layout = s.layout

/-- Where the boats stay, the reservations and paths decide. -/
theorem Aligned.of_sameBoats {s t : State} (h : SameBoats s t) (hs : Aligned s)
    (hreserved : ∀ b x, ((t.entry b).state = .reserved ∧ (t.entry b).holder = some x) ↔ b ∈ t.pathOf x)
    (hpath : ∀ x, (t.pathOf x).Nodup ∧ (t.pathOf x).length ≤ 8)
    (hrests : ∀ b x, (t.entry b).state = .occupied → (s.entry b).occupant = some x → t.pathOf x = []) : Aligned t := by
  refine ⟨fun b x hx => ?_, fun x pos hpos => ?_, fun x b c => ?_, hreserved, hpath, fun b x hst hx => ?_⟩
  · rw [h.place, h.nose, h.layout]
    exact hs.stands b x (h.occupant b ▸ hx)
  · rw [h.occupant, h.nose]
    exact hs.holds x pos (h.place x ▸ hpos)
  · rw [h.occupant, h.occupant, h.place]
    exact hs.once x b c
  · exact hrests b x hst (h.occupant b ▸ hx)

theorem Calm.state {s t : State} (h : Calm s t) (b : BlockId) : (t.entry b).state = (s.entry b).state :=
  congrArg (·.1) (h.core b)

theorem Calm.occupant {s t : State} (h : Calm s t) (b : BlockId) : (t.entry b).occupant = (s.entry b).occupant :=
  congrArg (·.2.1) (h.core b)

theorem Calm.holder {s t : State} (h : Calm s t) (b : BlockId) : (t.entry b).holder = (s.entry b).holder :=
  congrArg (·.2.2.1) (h.core b)

theorem Calm.nose {s t : State} (h : Calm s t) (b : BlockId) : (t.entry b).nose = (s.entry b).nose :=
  congrArg (·.2.2.2) (h.core b)

/-- States, boats, holders and noses decide, with the track. -/
theorem Aligned.of_cores {s t : State} (hcore : ∀ b, (t.entry b).core = (s.entry b).core) (htrack : SameTrack s t)
    (hlayout : t.layout = s.layout) (hs : Aligned s) : Aligned t := by
  have hstate (b : BlockId) : (t.entry b).state = (s.entry b).state := congrArg (·.1) (hcore b)
  have hoccupant (b : BlockId) : (t.entry b).occupant = (s.entry b).occupant := congrArg (·.2.1) (hcore b)
  have hholder (b : BlockId) : (t.entry b).holder = (s.entry b).holder := congrArg (·.2.2.1) (hcore b)
  have hnose (b : BlockId) : (t.entry b).nose = (s.entry b).nose := congrArg (·.2.2.2) (hcore b)
  have hpath (x : BoatId) : t.pathOf x = s.pathOf x := (htrack x).2
  refine hs.of_sameBoats ⟨hoccupant, hnose, fun x => (htrack x).1, hlayout⟩ (fun b x => ?_) (fun x => ?_)
    fun b x hst hx => ?_
  · rw [hstate, hholder, hpath]
    exact hs.reserved b x
  · rw [hpath]
    exact hs.path x
  · rw [hpath]
    exact hs.rests b x (hstate b ▸ hst) hx

theorem Calm.aligned {s t : State} (h : Calm s t) (hs : Aligned s) : Aligned t := hs.of_cores h.core h.track h.layout

theorem Calm.board {s t : State} (h : Calm s t) (hs : Board s) : Board t := ⟨h.tabled hs.tabled, h.aligned hs.aligned⟩

theorem Calm.vacant {s t : State} (h : Calm s t) (hs : s.vacant) : t.vacant := fun b => by
  rw [h.occupant, h.holder]
  exact hs b

/-! ### Facts of a sound board -/

/-- A block of a path is RESERVED: it has no boat. -/
theorem Board.reserved_of_mem {s : State} (h : Board s) {b : BlockId} {x : BoatId} (hb : b ∈ s.pathOf x) :
    (s.entry b).state = .reserved ∧ (s.entry b).holder = some x ∧ (s.entry b).occupant = none ∧ (s.entry b).nose = false := by
  obtain ⟨hst, hholder⟩ := (h.aligned.reserved b x).mpr hb
  obtain ⟨-, heq⟩ := Entry.sound_reserved (h.tabled.sound b) hst
  exact ⟨hst, hholder, by rw [heq]; rfl, by rw [heq]; rfl⟩

theorem Board.not_mem_path {s : State} (h : Board s) {b : BlockId} (hst : (s.entry b).state ≠ .reserved) (x : BoatId) :
    b ∉ s.pathOf x := fun hb => hst (h.reserved_of_mem hb).1

/-- A boat whose nose has not left its block stands there. -/
theorem Board.place_of_occupant {s : State} (h : Board s) {b : BlockId} {x : BoatId} (hx : (s.entry b).occupant = some x)
    (hn : (s.entry b).nose = false) : s.placeOf x = some b := by
  obtain ⟨pos, hplace, hpos | ⟨hnose, -⟩⟩ := h.aligned.stands b x hx
  · rw [hplace, hpos]
  · exact absurd (hn.symm.trans hnose) (by decide)

/-! ### Paths and positions that are written -/

theorem placeOf_congr {s t : State} {x : BoatId} (h : t.slot x = s.slot x) : t.placeOf x = s.placeOf x := by
  rw [State.placeOf, h, State.placeOf]

theorem pathOf_congr {s t : State} {x : BoatId} (h : t.slot x = s.slot x) : t.pathOf x = s.pathOf x := by
  rw [State.pathOf, h, State.pathOf]

theorem setPath_placeOf (s : State) (x y : BoatId) (p : List BlockId) : (s.setPath x p).placeOf y = s.placeOf y := by
  by_cases hy : y = x
  · rw [hy, State.placeOf, State.setPath, setSlot_slot_self, State.placeOf]
    cases s.slot x <;> rfl
  · exact placeOf_congr (setSlot_slot_ne s _ hy)

theorem setPath_pathOf_ne (s : State) {x y : BoatId} (p : List BlockId) (h : y ≠ x) :
    (s.setPath x p).pathOf y = s.pathOf y := pathOf_congr (setSlot_slot_ne s _ h)

theorem setPath_pathOf_self {s : State} {x : BoatId} {pos : BlockId} (h : s.placeOf x = some pos) (p : List BlockId) :
    (s.setPath x p).pathOf x = p := by
  obtain ⟨bt, path, hslot⟩ := placeOf_eq_some.mp h
  rw [State.pathOf, State.setPath, setSlot_slot_self, hslot]
  rfl

theorem setPath_pathOf_nil (s : State) (x : BoatId) : (s.setPath x []).pathOf x = [] := by
  rw [State.pathOf, State.setPath, setSlot_slot_self]
  cases s.slot x <;> rfl

/-- A boat with a path stands on the track. -/
theorem exists_placeOf_of_mem {s : State} {x : BoatId} {b : BlockId} (h : b ∈ s.pathOf x) : ∃ pos, s.placeOf x = some pos := by
  unfold State.pathOf at h
  unfold State.placeOf
  cases hslot : s.slot x with
  | onTrack bt pos path => exact ⟨pos, rfl⟩
  | unused => rw [hslot] at h; cases h
  | absent bt => rw [hslot] at h; cases h

theorem setEntry_entry (s : State) (b c : BlockId) (e : Entry) :
    (s.setEntry b e).entry c = if c = b then e else s.entry c := by
  split
  case isTrue h => rw [h, setEntry_entry_self]
  case isFalse h => rw [setEntry_entry_ne s e h]

theorem clearReserved_entry (s : State) (bs : List BlockId) (c : BlockId) :
    (s.clearReserved bs).entry c = if c ∈ bs ∧ (s.entry c).state = .reserved then .bare .clear else s.entry c := by
  induction bs generalizing s with
  | nil => rw [if_neg fun h => absurd h.1 List.not_mem_nil]; rfl
  | cons b bs ih =>
    rw [State.clearReserved, List.foldl_cons]
    have hrest := ih (if (s.entry b).state = .reserved then s.setEntry b (.bare .clear) else s)
    rw [State.clearReserved] at hrest
    rw [hrest]
    by_cases hb : (s.entry b).state = .reserved
    · rw [if_pos hb, setEntry_entry]
      by_cases hc : c = b
      · simp [hc, hb]
      · simp [hc]
    · rw [if_neg hb]
      by_cases hc : c = b
      · rw [hc]; simp [hb]
      · simp [hc]

theorem clearReserved_slot (s : State) (bs : List BlockId) (x : BoatId) : (s.clearReserved bs).slot x = s.slot x := by
  rw [State.slot, clearReserved_roster, State.slot]

theorem reserve_entry (s : State) (x : BoatId) (p : List BlockId) (c : BlockId) :
    (s.reserve x p).entry c = if c ∈ p then { Entry.bare .reserved with holder := some x } else s.entry c := by
  induction p generalizing s with
  | nil => rw [if_neg List.not_mem_nil]; rfl
  | cons b p ih =>
    rw [State.reserve, List.foldl_cons]
    have hrest := ih (s.setEntry b { Entry.bare .reserved with holder := some x })
    rw [State.reserve] at hrest
    rw [hrest, setEntry_entry]
    by_cases hc : c = b
    · simp [hc]
    · simp [hc]

end Sys2Proof.Machine
end

section
/-! PROOFS. Boats and blocks at stalls, faults and grants: the boats stay, a path is shortened or newly reserved. -/

namespace Sys2Proof.Machine

open Sys2Proof

/-- A block is RESERVED for a boat. -/
def State.reservedFor (s : State) (b : BlockId) (x : BoatId) : Prop :=
  (s.entry b).state = .reserved ∧ (s.entry b).holder = some x

theorem Board.reservedFor_iff {s : State} (h : Board s) {b : BlockId} {x : BoatId} :
    s.reservedFor b x ↔ b ∈ s.pathOf x := h.aligned.reserved b x

theorem not_reservedFor {s : State} {b : BlockId} (h : (s.entry b).state ≠ .reserved) (x : BoatId) :
    ¬ s.reservedFor b x := fun hx => h hx.1

/-- One boat's path loses blocks that are no longer RESERVED. -/
theorem Board.shortened {s t : State} {y : BoatId} (hs : Board s) (hboats : SameBoats s t)
    (hothers : ∀ x, x ≠ y → t.pathOf x = s.pathOf x) (hsub : (t.pathOf y).Sublist (s.pathOf y))
    (hlost : ∀ b ∈ s.pathOf y, b ∉ t.pathOf y → (t.entry b).state ≠ .reserved)
    (hkept : ∀ b, (b ∈ s.pathOf y → b ∈ t.pathOf y) → ∀ x, t.reservedFor b x ↔ s.reservedFor b x)
    (hrests : ∀ b x, (t.entry b).state = .occupied → (s.entry b).occupant = some x →
      (s.entry b).state = .occupied ∨ t.pathOf x = []) : Aligned t := by
  have hsublist (x : BoatId) : (t.pathOf x).Sublist (s.pathOf x) := by
    by_cases hx : x = y
    · exact hx ▸ hsub
    · exact sublist_of_eq (hothers x hx)
  refine hs.aligned.of_sameBoats hboats (fun b x => ?_) (fun x => ?_) fun b x hst hx => ?_
  · by_cases hlose : b ∈ s.pathOf y ∧ b ∉ t.pathOf y
    · obtain ⟨hmem, hnot⟩ := hlose
      refine iff_of_false (not_reservedFor (hlost b hmem hnot) x) fun hb => ?_
      have hholder := (hs.reserved_of_mem ((hsublist x).subset hb)).2.1
      rw [(hs.reserved_of_mem hmem).2.1] at hholder
      cases hholder
      exact hnot hb
    · have hmem : b ∈ s.pathOf y → b ∈ t.pathOf y := fun hb => Classical.byContradiction fun hnot => hlose ⟨hb, hnot⟩
      refine ((hkept b hmem x).trans hs.reservedFor_iff).trans ?_
      by_cases hx : x = y
      · exact hx ▸ ⟨hmem, fun hb => hsub.subset hb⟩
      · rw [hothers x hx]
  · obtain ⟨hnodup, hlength⟩ := hs.aligned.path x
    exact ⟨hnodup.sublist (hsublist x), Nat.le_trans (hsublist x).length_le hlength⟩
  · obtain hst | hnil := hrests b x hst hx
    · exact List.sublist_nil.mp (hs.aligned.rests b x hst hx ▸ hsublist x)
    · exact hnil

/-! ### Stalls (R50) -/

/-- The block table and the path list at a stall; all else that a stall does is calm. -/
def State.stalled (s : State) (b : BlockId) (x : BoatId) : State :=
  ((s.setEntry b { s.entry b with state := .occupied, release := none, transit := none }).clearReserved
    (s.pathOf x)).setPath x []

theorem stall_calm {s : State} {b : BlockId} {x : BoatId} (hx : (s.entry b).occupant = some x) :
    Calm (s.stalled b x) (s.stall b) := by
  unfold State.stall
  dsimp only
  split
  case h_1 hnone => rw [hx] at hnone; cases hnone
  case h_2 y hy =>
    rw [hx] at hy
    cases hy
    exact .after (bayReturn_calm ..) (.after (raise_calm ..) (modBrake_calm ..))

theorem stalled_entry {s : State} {b : BlockId} {x : BoatId} (hs : Board s) (c : BlockId) : (s.stalled b x).entry c =
      if c = b then { s.entry b with state := .occupied, release := none, transit := none }
      else if c ∈ s.pathOf x then .bare .clear else s.entry c := by
  show (State.clearReserved _ _).entry c = _
  rw [clearReserved_entry, setEntry_entry]
  by_cases hc : c = b
  · rw [if_pos hc, if_pos hc, if_neg]
    exact fun h => nomatch h.2
  · rw [if_neg hc, if_neg hc]
    by_cases hmem : c ∈ s.pathOf x
    · rw [if_pos hmem, if_pos ⟨hmem, (hs.reserved_of_mem hmem).1⟩]
    · rw [if_neg hmem, if_neg fun h => hmem h.1]

theorem stalled_aligned {s : State} {b : BlockId} {x : BoatId} (hs : Board s) (hst : (s.entry b).state = .releasing)
    (hx : (s.entry b).occupant = some x) : Aligned (s.stalled b x) := by
  have hne : (s.entry b).state ≠ .reserved := by rw [hst]; decide
  have hentry := stalled_entry (b := b) (x := x) hs
  have hpath : (s.stalled b x).pathOf x = [] := setPath_pathOf_nil _ x
  refine hs.shortened (y := x) ⟨fun c => ?_, fun c => ?_, fun y => ?_, clearReserved_layout ..⟩ (fun y hy => ?_) ?_
    (fun c hc _ => ?_) (fun c hc y => ?_) fun c y hc hy => ?_
  · rw [hentry]
    split
    case isTrue h => rw [h]
    split
    case isTrue h => rw [(hs.reserved_of_mem h).2.2.1]; rfl
    · rfl
  · rw [hentry]
    split
    case isTrue h => rw [h]
    split
    case isTrue h => rw [(hs.reserved_of_mem h).2.2.2]; rfl
    · rfl
  · rw [State.stalled, setPath_placeOf, State.placeOf, clearReserved_slot]
    rfl
  · rw [State.stalled, setPath_pathOf_ne _ _ hy, State.pathOf, clearReserved_slot]
    rfl
  · rw [hpath]
    exact List.nil_sublist _
  · rw [hentry, if_pos hc]
    split <;> exact nofun
  · rw [hpath] at hc
    have hc : c ∉ s.pathOf x := fun h => absurd (hc h) List.not_mem_nil
    unfold State.reservedFor
    rw [hentry, if_neg hc]
    split
    case isTrue h =>
      rw [h]
      exact iff_of_false (fun h => nomatch h.1) (fun h => hne h.1)
    case isFalse => rfl
  · rw [hentry] at hc
    split at hc
    case isTrue h =>
      rw [h, hx] at hy
      cases hy
      exact .inr hpath
    split at hc
    · exact nomatch hc
    · exact .inl hc

theorem stall_board {s : State} {b : BlockId} (hs : Board s) (hst : (s.entry b).state = .releasing)
    (hn : (s.entry b).nose = false) : Board (s.stall b) := by
  obtain ⟨x, hx⟩ := Option.isSome_iff_exists.mp (Entry.sound_releasing (hs.tabled.sound b) hst).1
  exact ⟨⟨stall_tableSound hst hn hs.tabled.sound⟩, (stall_calm hx).aligned (stalled_aligned hs hst hx)⟩

/-! ### Blocks that become FAULTED (R36) -/

theorem path_split {b : BlockId} {p : List BlockId} (h : b ∈ p) : p = beforeBlock b p ++ b :: afterBlock b p := by
  induction p with
  | nil => cases h
  | cons c p ih =>
    by_cases hc : c = b
    · rw [beforeBlock, afterBlock, if_pos hc, if_pos hc, hc]
      rfl
    · rw [beforeBlock, afterBlock, if_neg hc, if_neg hc, List.cons_append]
      obtain rfl | h := List.mem_cons.mp h
      · exact absurd rfl hc
      · rw [← ih h]

/-- A block that no boat waits for becomes FAULTED: no path changes. -/
theorem faultBlock_calm {s : State} {b : BlockId} (hst : (s.entry b).state ≠ .reserved) :
    Calm (s.setEntry b (s.entry b).toFaulted) (s.faultBlock b) := by
  unfold State.faultBlock
  dsimp only
  split
  case h_1 h _ => exact absurd h hst
  case h_2 => exact (modBrake_calm ..).trans (modSwitch_calm ..)

theorem faultBlock_cut {s : State} {b : BlockId} {y : BoatId} (hst : (s.entry b).state = .reserved)
    (hy : (s.entry b).holder = some y) :
    Calm ((s.setEntry b (s.entry b).toFaulted).cutPath y b) (s.faultBlock b) := by
  unfold State.faultBlock
  dsimp only
  rw [hst, hy]
  exact (modBrake_calm ..).trans (modSwitch_calm ..)

theorem toFaulted_sameBoats (s : State) (b : BlockId) : SameBoats s (s.setEntry b (s.entry b).toFaulted) := by
  refine ⟨fun c => ?_, fun c => ?_, fun x => rfl, rfl⟩
  all_goals
    rw [setEntry_entry]
    split
    case isTrue h => rw [h]; rfl
    case isFalse => rfl

theorem faulted_aligned {s : State} {b : BlockId} (hs : Board s) (hst : (s.entry b).state ≠ .reserved) :
    Aligned (s.setEntry b (s.entry b).toFaulted) := by
  refine hs.aligned.of_sameBoats (toFaulted_sameBoats s b) (fun c x => ?_) hs.aligned.path fun c x hc hx => ?_
  · rw [setEntry_entry]
    split
    case isTrue h => exact iff_of_false (fun h => nomatch h.1) (h ▸ hs.not_mem_path hst x)
    case isFalse => exact hs.aligned.reserved c x
  · rw [setEntry_entry] at hc
    split at hc
    · exact nomatch hc
    · exact hs.aligned.rests c x hc hx

/-- The path of a boat that loses a RESERVED block. -/
theorem Board.cut_path {s : State} {b : BlockId} {y : BoatId} (hs : Board s) (hb : b ∈ s.pathOf y) :
    s.pathOf y = beforeBlock b (s.pathOf y) ++ b :: afterBlock b (s.pathOf y) ∧
      b ∉ beforeBlock b (s.pathOf y) ∧ b ∉ afterBlock b (s.pathOf y) ∧
      ∀ c ∈ afterBlock b (s.pathOf y), c ∉ beforeBlock b (s.pathOf y) := by
  have hsplit := path_split hb
  have hnodup := (hs.aligned.path y).1
  rw [hsplit] at hnodup
  obtain ⟨-, hafter, hdisjoint⟩ := List.nodup_append.mp hnodup
  refine ⟨hsplit, fun h => hdisjoint b h b List.mem_cons_self rfl, (List.nodup_cons.mp hafter).1, fun c hc h => ?_⟩
  exact hdisjoint c h c (List.mem_cons_of_mem b hc) rfl

theorem cut_entry {s : State} {b : BlockId} {y : BoatId} (hs : Board s) (hb : b ∈ s.pathOf y) (c : BlockId) :
    ((s.setEntry b (s.entry b).toFaulted).cutPath y b).entry c =
      if c = b then (s.entry b).toFaulted
      else if c ∈ afterBlock b (s.pathOf y) then .bare .clear else s.entry c := by
  obtain ⟨hsplit, -, hafter, -⟩ := hs.cut_path hb
  show (State.clearReserved _ (afterBlock b (s.pathOf y))).entry c = _
  rw [clearReserved_entry]
  show (if c ∈ afterBlock b (s.pathOf y) ∧ ((s.setEntry b (s.entry b).toFaulted).entry c).state = .reserved then _
    else (s.setEntry b (s.entry b).toFaulted).entry c) = _
  rw [setEntry_entry]
  by_cases hc : c = b
  · rw [if_pos hc, if_pos hc, if_neg fun h => hafter ?_]
    exact Eq.subst (motive := (· ∈ afterBlock b (s.pathOf y))) hc h.1
  · rw [if_neg hc, if_neg hc]
    by_cases hmem : c ∈ afterBlock b (s.pathOf y)
    · have hpath : c ∈ s.pathOf y := by
        rw [hsplit]
        exact List.mem_append_right _ (List.mem_cons_of_mem b hmem)
      rw [if_pos hmem, if_pos ⟨hmem, (hs.reserved_of_mem hpath).1⟩]
    · rw [if_neg hmem, if_neg fun h => hmem h.1]

theorem cut_aligned {s : State} {b : BlockId} {y : BoatId} (hs : Board s) (hb : b ∈ s.pathOf y) :
    Aligned ((s.setEntry b (s.entry b).toFaulted).cutPath y b) := by
  obtain ⟨hsplit, hbefore, -, hdisjoint⟩ := hs.cut_path hb
  have hentry := cut_entry hs hb
  have hmem (c : BlockId) (hc : c ∈ afterBlock b (s.pathOf y)) : c ∈ s.pathOf y := by
    rw [hsplit]
    exact List.mem_append_right _ (List.mem_cons_of_mem b hc)
  obtain ⟨pos, hpos⟩ := exists_placeOf_of_mem hb
  have hpath : ((s.setEntry b (s.entry b).toFaulted).cutPath y b).pathOf y = beforeBlock b (s.pathOf y) := by
    rw [State.cutPath, State.pathOf, clearReserved_slot]
    exact setPath_pathOf_self (s := s.setEntry b (s.entry b).toFaulted) hpos _
  refine hs.shortened (y := y) ⟨fun c => ?_, fun c => ?_, fun x => ?_, cutPath_layout ..⟩ (fun x hx => ?_) ?_
    (fun c hc hnot => ?_) (fun c hc x => ?_) fun c x hc hx => ?_
  · rw [hentry]
    split
    case isTrue h => rw [h]; rfl
    split
    case isTrue h => rw [(hs.reserved_of_mem (hmem c h)).2.2.1]; rfl
    · rfl
  · rw [hentry]
    split
    case isTrue h => rw [h]; rfl
    split
    case isTrue h => rw [(hs.reserved_of_mem (hmem c h)).2.2.2]; rfl
    · rfl
  · rw [State.cutPath, State.placeOf, clearReserved_slot]
    exact setPath_placeOf (s.setEntry b (s.entry b).toFaulted) y x _
  · rw [State.cutPath, State.pathOf, clearReserved_slot]
    exact setPath_pathOf_ne (s.setEntry b (s.entry b).toFaulted) _ hx
  · rw [hpath]
    exact (List.sublist_append_left ..).trans (sublist_of_eq hsplit.symm)
  · rw [hpath] at hnot
    rw [hentry]
    split
    · exact nofun
    case isFalse hne =>
      rw [hsplit] at hc
      obtain hc | hc := List.mem_append.mp hc
      · exact absurd hc hnot
      · obtain hc | hc := List.mem_cons.mp hc
        · exact absurd hc hne
        · rw [if_pos hc]
          exact nofun
  · rw [hpath] at hc
    unfold State.reservedFor
    rw [hentry]
    split
    case isTrue h => exact absurd (hc (h ▸ hb)) (h ▸ hbefore)
    split
    case isTrue h => exact absurd (hc (hmem c h)) (hdisjoint c h)
    · rfl
  · rw [hentry] at hc
    split at hc
    · exact nomatch hc
    · split at hc
      · exact nomatch hc
      · exact .inl hc

theorem faultBlock_board {s : State} (b : BlockId) (hs : Board s) : Board (s.faultBlock b) := by
  refine ⟨⟨faultBlock_tableSound b hs.tabled.sound⟩, ?_⟩
  by_cases hst : (s.entry b).state = .reserved
  · obtain ⟨y, hy⟩ := Option.isSome_iff_exists.mp (Entry.sound_reserved (hs.tabled.sound b) hst).1
    exact (faultBlock_cut hst hy).aligned (cut_aligned hs ((hs.aligned.reserved b y).mp ⟨hst, hy⟩))
  · exact (faultBlock_calm hst).aligned (faulted_aligned hs hst)

theorem faultAt_board {s : State} (k : FaultKind) (b : BlockId) (x : Option BoatId) (d : Details) (hs : Board s) :
    Board (s.faultAt k b x d) :=
  (bayFaulted_calm ..).board ((raise_calm ..).board (faultBlock_board b hs))

theorem driveFault_board {s : State} (k : FaultKind) (b : BlockId) (d : Details) (hs : Board s) :
    Board (s.driveFault k b d) := by
  unfold State.driveFault
  dsimp only
  split
  · exact (raise_calm ..).board ((modSwitch_calm ..).board hs)
  · exact faultAt_board k b _ d hs

/-! ### Grants (R33) -/

theorem granted_entry {s : State} {b : BlockId} {x : BoatId} {p : List BlockId} (c : BlockId) :
    (s.granted b x p).entry c = if c = b then s.grantedEntry b p
      else if c ∈ p then { Entry.bare .reserved with holder := some x } else s.entry c := by
  rw [State.granted, setEntry_entry]
  congr 1
  exact reserve_entry s x p c

theorem granted_aligned {s : State} {b : BlockId} {x : BoatId} {p : List BlockId} (hs : Board s)
    (hst : (s.entry b).state = .occupied) (hx : (s.entry b).occupant = some x)
    (hclear : ∀ c ∈ p, (s.entry c).state = .clear) (hnodup : p.Nodup) (hlength : p.length ≤ 8) :
    Aligned (s.granted b x p) := by
  have heq := (Entry.sound_occupied (hs.tabled.sound b) hst).2
  have hplace : s.placeOf x = some b := hs.place_of_occupant hx (by rw [heq]; rfl)
  have hb : b ∉ p := fun h => absurd (hst.symm.trans (hclear b h)) (by decide)
  have hempty (c : BlockId) (hc : c ∈ p) : s.entry c = .bare .clear := by
    rw [Entry.sound_empty (hs.tabled.sound c) (by rw [hclear c hc]; decide), hclear c hc]
  have hslot (y : BoatId) : (s.reserve x p).slot y = s.slot y := by rw [State.slot, reserve_roster, State.slot]
  have hpath : (s.granted b x p).pathOf x = p := setPath_pathOf_self (s := s.reserve x p) (pos := b)
    (by rw [placeOf_congr (hslot x), hplace]) p
  have hothers (y : BoatId) (hy : y ≠ x) : (s.granted b x p).pathOf y = s.pathOf y :=
    (setPath_pathOf_ne (s.reserve x p) p hy).trans (pathOf_congr (hslot y))
  refine hs.aligned.of_sameBoats ⟨fun c => ?_, fun c => ?_, fun y => ?_, reserve_layout s x p⟩ (fun c y => ?_)
    (fun y => ?_) fun c y hc hy => ?_
  · rw [granted_entry]
    split
    case isTrue h => rw [h]; rfl
    split
    case isTrue h => rw [hempty c h]; rfl
    · rfl
  · rw [granted_entry]
    split
    case isTrue h => rw [h]; rfl
    split
    case isTrue h => rw [hempty c h]; rfl
    · rfl
  · exact (setPath_placeOf (s.reserve x p) x y p).trans (placeOf_congr (hslot y))
  · rw [granted_entry]
    by_cases hy : y = x
    · rw [hy, hpath]
      split
      case isTrue h => exact iff_of_false (fun h => nomatch h.1) (h ▸ hb)
      split
      case isTrue h => exact iff_of_true ⟨rfl, rfl⟩ h
      case isFalse h =>
        refine iff_of_false (fun hres => ?_) h
        have hmem := (hs.aligned.reserved c x).mp hres
        rw [hs.aligned.rests b x hst hx] at hmem
        cases hmem
    · rw [hothers y hy]
      split
      case isTrue h =>
        exact iff_of_false (fun h => nomatch h.1) (h ▸ hs.not_mem_path (by rw [hst]; decide) y)
      split
      case isTrue h =>
        refine iff_of_false (fun hres => hy (Option.some.inj hres.2).symm) (hs.not_mem_path ?_ y)
        rw [hclear c h]
        decide
      · exact hs.aligned.reserved c y
  · by_cases hy : y = x
    · rw [hy, hpath]
      exact ⟨hnodup, hlength⟩
    · rw [hothers y hy]
      exact hs.aligned.path y
  · rw [granted_entry] at hc
    split at hc
    · exact nomatch hc
    case isFalse hcb =>
      split at hc
      · exact nomatch hc
      · have hne : y ≠ x := by
          rintro rfl
          have hoccupied := (Entry.sound_occupied (hs.tabled.sound c) hc).2
          have hcplace := hs.place_of_occupant hy (by rw [hoccupied]; rfl)
          rw [hplace] at hcplace
          exact hcb (Option.some.inj hcplace).symm
        rw [hothers y hne]
        exact hs.aligned.rests c y hc hy

theorem grant_board {s : State} {b : BlockId} (q : Requester) {p : List BlockId} (hs : Board s)
    (hst : (s.entry b).state = .occupied) (hpath : s.pathFrom b = some p) (hclear : ∀ c ∈ p, (s.entry c).state = .clear) :
    Board (s.grant b q p) := by
  obtain ⟨x, hx⟩ := Option.isSome_iff_exists.mp (Entry.sound_occupied (hs.tabled.sound b) hst).1
  refine ⟨⟨grant_tableSound q p hst hs.tabled.sound⟩, (grant_calm q p hx).aligned ?_⟩
  obtain ⟨-, hlength, hnodup⟩ := pathFrom_sound hpath
  exact granted_aligned hs hst hx hclear hnodup hlength

theorem finish_board {s : State} (hs : Board s) : Board s.finish :=
  finish_keeps (fun _ _ h => h.board) (fun _ _ q _ hp ht => by
    obtain ⟨-, hst, -, hpath, hclear⟩ := readyPath_eq_some hp
    exact grant_board q ht hst hpath hclear) hs

end Sys2Proof.Machine
end

section
/-! PROOFS. Boats and blocks at arrivals and clearances, and at the census. -/

namespace Sys2Proof.Machine

open Sys2Proof

/-! ### Arrivals (R42, R43) -/

/-- What a normal arrival of `x` from `p` in `n` changes of the boats and their blocks. -/
structure Arrived (s t : State) (p n : BlockId) (x : BoatId) : Prop where
  layout : t.layout = s.layout
  place : ∀ y, t.placeOf y = if y = x then some n else s.placeOf y
  path : ∀ y, t.pathOf y = if y = x then (s.pathOf x).tail else s.pathOf y
  kept : ∀ c, c ≠ n → (t.entry c).state = (s.entry c).state ∧ (t.entry c).holder = (s.entry c).holder
  left : (t.entry p).occupant = some x ∧ (t.entry p).nose = true
  entered : (t.entry n).occupant = some x ∧ (t.entry n).nose = false ∧ (t.entry n).state ≠ .reserved ∧
    ((t.entry n).state = .occupied → (s.pathOf x).getLast? = some n)
  behind : ∀ c, c ≠ n → c ≠ p → (s.entry c).occupant = some x → (t.entry c).occupant = none
  others : ∀ c, c ≠ n → (s.entry c).occupant ≠ some x →
    (t.entry c).occupant = (s.entry c).occupant ∧ (t.entry c).nose = (s.entry c).nose

theorem mem_predecessors {L : LayoutStore} {b p : BlockId} {leg : Leg} (h : L.successor b leg = some p) :
    b ∈ L.predecessors p := by
  obtain ⟨r, hr, hsucc⟩ := Option.bind_eq_some_iff.mp h
  rw [LayoutStore.predecessors, List.mem_filter, hr]
  refine ⟨List.mem_finRange b, ?_⟩
  show (r.mainSuccessor == p || r.successor .spur == some p) = true
  rw [Bool.or_eq_true, beq_iff_eq, beq_iff_eq]
  cases leg with
  | main => exact .inl (Option.some.inj hsucc)
  | spur => exact .inr hsucc

/-- The blocks that a boat has left behind are FAULTED, but for the one it is leaving (R41, R43). -/
theorem left_behind {s : State} {p c : BlockId} {x : BoatId} (hs : Board s) (hplace : s.placeOf x = some p)
    (hpath : s.pathOf x ≠ []) (hoverlap : s.overlapped p x = false) (hc : c ≠ p) (hx : (s.entry c).occupant = some x) :
    (s.entry c).state = .faulted := by
  obtain ⟨hst | hst | hst, -⟩ := Entry.sound_occupant (hs.tabled.sound c) hx
  · exact absurd (hs.aligned.rests c x hst hx) hpath
  · obtain ⟨pos, hpos, heq | ⟨-, leg, hsucc⟩⟩ := hs.aligned.stands c x hx
    · exact absurd (Option.some.inj (hplace.symm.trans (heq ▸ hpos))).symm hc
    · rw [hplace] at hpos
      cases hpos
      have hover : s.overlapped p x = true :=
        List.any_eq_true.mpr ⟨c, mem_predecessors hsucc, by rw [hx, hst]; simp⟩
      rw [hoverlap] at hover
      cases hover
  · exact hst

theorem Arrived.aligned {s t : State} {p n : BlockId} {x : BoatId} {leg : Leg} (h : Arrived s t p n x) (hs : Board s)
    (hsucc : s.layout.successor p leg = some n) (hx : (s.entry p).occupant = some x) (hst : (s.entry p).state ≠ .occupied)
    (hhead : (s.pathOf x).head? = some n) : Aligned t := by
  obtain ⟨rest, hpath⟩ : ∃ rest, s.pathOf x = n :: rest := List.head?_eq_some_iff.mp hhead
  have hmem : n ∈ s.pathOf x := by rw [hpath]; exact List.mem_cons_self
  obtain ⟨-, hholder, hnone, hnose⟩ := hs.reserved_of_mem hmem
  have hne : p ≠ n := by
    rintro rfl
    rw [hx] at hnone
    cases hnone
  obtain ⟨hnodup, hlength⟩ := hs.aligned.path x
  have hpathx : t.pathOf x = rest := by rw [h.path, if_pos rfl, hpath]; rfl
  have hpathy {y : BoatId} (hy : y ≠ x) : t.pathOf y = s.pathOf y := by rw [h.path, if_neg hy]
  have hplacex : t.placeOf x = some n := by rw [h.place, if_pos rfl]
  have hplacey {y : BoatId} (hy : y ≠ x) : t.placeOf y = s.placeOf y := by rw [h.place, if_neg hy]
  have hstands {c : BlockId} (hc : c ≠ n) (hcx : (t.entry c).occupant = some x) : c = p := by
    refine Classical.byContradiction fun hcp => ?_
    by_cases hbefore : (s.entry c).occupant = some x
    · rw [h.behind c hc hcp hbefore] at hcx
      cases hcx
    · rw [(h.others c hc hbefore).1] at hcx
      exact hbefore hcx
  have hother {c : BlockId} {y : BoatId} (hy : y ≠ x) (hcy : (t.entry c).occupant = some y) :
      (s.entry c).occupant = some y ∧ (t.entry c).nose = (s.entry c).nose := by
    have hcn : c ≠ n := by
      rintro rfl
      rw [h.entered.1] at hcy
      exact hy (Option.some.inj hcy).symm
    have hnot : (s.entry c).occupant ≠ some x := by
      intro hcx
      by_cases hcp : c = p
      · rw [hcp, h.left.1] at hcy
        exact hy (Option.some.inj hcy).symm
      · rw [h.behind c hcn hcp hcx] at hcy
        cases hcy
    obtain ⟨hocc, hnose⟩ := h.others c hcn hnot
    exact ⟨hocc ▸ hcy, hnose⟩
  refine ⟨fun b y hy => ?_, fun y pos hpos => ?_, fun y b c hb hc hbp hcp => ?_, fun b y => ?_, fun y => ?_,
    fun b y hb hy => ?_⟩
  · by_cases hyx : y = x
    · rw [hyx] at hy ⊢
      refine ⟨n, hplacex, ?_⟩
      by_cases hbn : b = n
      · exact .inl hbn.symm
      · rw [hstands hbn hy, h.layout]
        exact .inr ⟨h.left.2, leg, hsucc⟩
    · obtain ⟨hbefore, hnose⟩ := hother hyx hy
      rw [hplacey hyx, hnose, h.layout]
      exact hs.aligned.stands b y hbefore
  · by_cases hyx : y = x
    · rw [hyx, hplacex] at hpos
      cases hpos
      rw [hyx]
      exact ⟨h.entered.1, h.entered.2.1⟩
    · rw [hplacey hyx] at hpos
      obtain ⟨hocc, hnosepos⟩ := hs.aligned.holds y pos hpos
      have hposn : pos ≠ n := by
        rintro rfl
        rw [hnone] at hocc
        cases hocc
      have hnot : (s.entry pos).occupant ≠ some x := by
        rw [hocc]
        exact fun heq => hyx (Option.some.inj heq)
      rw [(h.others pos hposn hnot).1, (h.others pos hposn hnot).2]
      exact ⟨hocc, hnosepos⟩
  · by_cases hyx : y = x
    · rw [hyx, hplacex] at hbp hcp
      rw [hyx] at hb hc
      rw [hstands (fun heq => hbp (by rw [heq])) hb, hstands (fun heq => hcp (by rw [heq])) hc]
    · rw [hplacey hyx] at hbp hcp
      exact hs.aligned.once y b c (hother hyx hb).1 (hother hyx hc).1 hbp hcp
  · by_cases hbn : b = n
    · rw [hbn]
      refine iff_of_false (fun hres => h.entered.2.2.1 hres.1) fun hb => ?_
      by_cases hyx : y = x
      · rw [hyx, hpathx] at hb
        rw [hpath] at hnodup
        exact (List.nodup_cons.mp hnodup).1 hb
      · rw [hpathy hyx] at hb
        have hholdery := (hs.reserved_of_mem hb).2.1
        rw [hholder] at hholdery
        exact hyx (Option.some.inj hholdery).symm
    · rw [(h.kept b hbn).1, (h.kept b hbn).2, hs.aligned.reserved b y]
      by_cases hyx : y = x
      · rw [hyx, hpathx, hpath, List.mem_cons]
        exact ⟨fun hb => hb.resolve_left hbn, .inr⟩
      · rw [hpathy hyx]
  · by_cases hyx : y = x
    · rw [hyx, hpathx]
      rw [hpath] at hnodup hlength
      exact ⟨(List.nodup_cons.mp hnodup).2, Nat.le_trans (Nat.le_succ _) hlength⟩
    · rw [hpathy hyx]
      exact hs.aligned.path y
  · by_cases hyx : y = x
    · rw [hyx] at hy ⊢
      rw [hpathx]
      by_cases hbn : b = n
      · have hlast := h.entered.2.2.2 (hbn ▸ hb)
        rw [hpath] at hlast hnodup
        refine Classical.byContradiction fun hrest => ?_
        rw [List.getLast?_cons, List.getLast?_eq_some_getLast hrest] at hlast
        refine (List.nodup_cons.mp hnodup).1 ?_
        rw [← Option.some.inj hlast]
        exact List.getLast_mem hrest
      · rw [(h.kept b hbn).1, hstands hbn hy] at hb
        exact absurd hb hst
    · obtain ⟨hbefore, -⟩ := hother hyx hy
      have hbn : b ≠ n := by
        rintro rfl
        rw [hnone] at hbefore
        cases hbefore
      rw [hpathy hyx]
      exact hs.aligned.rests b y ((h.kept b hbn).1 ▸ hb) hbefore

theorem endFaultedRecords_entry (s : State) (us : List BlockId) (b : BlockId) :
    (us.foldl State.endFaultedRecord s).entry b =
      if b ∈ us then { s.entry b with occupant := none, nose := false } else s.entry b := by
  induction us generalizing s with
  | nil => rw [if_neg List.not_mem_nil]; rfl
  | cons u us ih =>
    rw [List.foldl_cons, ih, endFaultedRecord_entry]
    by_cases hb : b = u
    · simp [hb]
    · simp [hb]

theorem endFaultedRecord_sameTrack (s : State) (u : BlockId) :
    (s.endFaultedRecord u).layout = s.layout ∧ SameTrack s (s.endFaultedRecord u) :=
  ⟨(vacateBay_calm (s.modEntry u _) u).layout, (vacateBay_calm (s.modEntry u _) u).track⟩

theorem endFaultedRecords_sameTrack (s : State) (us : List BlockId) :
    (us.foldl State.endFaultedRecord s).layout = s.layout ∧ SameTrack s (us.foldl State.endFaultedRecord s) := by
  induction us generalizing s with
  | nil => exact ⟨rfl, .of_roster rfl⟩
  | cons u us ih =>
    obtain ⟨hlayout, htrack⟩ := endFaultedRecord_sameTrack s u
    obtain ⟨hlayout', htrack'⟩ := ih (s.endFaultedRecord u)
    exact ⟨hlayout'.trans hlayout, fun x => ⟨(htrack' x).1.trans (htrack x).1, (htrack' x).2.trans (htrack x).2⟩⟩

theorem moveNose_entry {s : State} {p n : BlockId} (x : BoatId) (h : p ≠ n) (c : BlockId) :
    (s.moveNose p n x).entry c =
      if c = p then (s.entry p).leftBy (s.after (s.clearanceLimit p))
      else if c = n then
        enteredEntry x (s.layout.holdable n) ((s.pathOf x).getLast? == some n) (s.after (s.transitLimit n))
      else s.entry c := by
  unfold State.moveNose State.modEntry
  extract_lets holdable terminal t u
  have hu (d : BlockId) : u.entry d = if d = n then enteredEntry x holdable terminal (s.after (s.transitLimit n))
      else s.entry d := setEntry_entry ..
  rw [setEntry_entry, hu, hu, if_neg h]
  rfl

theorem moveNose_slot (s : State) (p n : BlockId) (x y : BoatId) :
    (s.moveNose p n x).slot y = if y = x then (s.slot x).advance n else s.slot y := by
  show (s.setSlot x _).slot y = _
  split
  case isTrue h => rw [h, setSlot_slot_self]; rfl
  case isFalse h => exact setSlot_slot_ne s _ h

theorem moveNose_placeOf {s : State} {p n : BlockId} {x : BoatId} (h : s.placeOf x = some p) (y : BoatId) :
    (s.moveNose p n x).placeOf y = if y = x then some n else s.placeOf y := by
  obtain ⟨bt, path, hslot⟩ := placeOf_eq_some.mp h
  rw [State.placeOf, moveNose_slot]
  split
  · rw [hslot]
    rfl
  · rfl

theorem moveNose_pathOf {s : State} {p n : BlockId} {x : BoatId} (h : s.placeOf x = some p) (y : BoatId) :
    (s.moveNose p n x).pathOf y = if y = x then (s.pathOf x).tail else s.pathOf y := by
  obtain ⟨bt, path, hslot⟩ := placeOf_eq_some.mp h
  rw [State.pathOf, moveNose_slot]
  split
  · rw [State.pathOf, hslot]
    rfl
  · rfl

theorem enteredEntry_state (x : BoatId) (holdable terminal : Bool) (t : Time) :
    (enteredEntry x holdable terminal t).state = if holdable && terminal then .occupied else .releasing := rfl

/-- The arrival, up to the end of the boat's FAULTED records. -/
theorem arrived_of_moveNose {s u : State} {p n : BlockId} {x : BoatId} (hs : Board s) (hu : Calm (s.moveNose p n x) u)
    (hx : (s.entry p).occupant = some x) (hplace : s.placeOf x = some p) (hhead : (s.pathOf x).head? = some n)
    (hoverlap : s.overlapped p x = false) :
    Arrived s ((u.faultedRecords p x).foldl State.endFaultedRecord u) p n x := by
  obtain ⟨rest, hpath⟩ : ∃ rest, s.pathOf x = n :: rest := List.head?_eq_some_iff.mp hhead
  have hmem : n ∈ s.pathOf x := by rw [hpath]; exact List.mem_cons_self
  have hne : p ≠ n := ne_of_reserved hs.tabled.sound hx (hs.reserved_of_mem hmem).1
  obtain ⟨hlayout, htrack⟩ := endFaultedRecords_sameTrack u (u.faultedRecords p x)
  have hn : n ∉ u.faultedRecords p x := by
    rw [mem_faultedRecords, hu.state, moveNose_entry x hne, if_neg hne.symm, if_pos rfl, enteredEntry_state]
    rintro ⟨-, hst, -⟩
    split at hst <;> cases hst
  have hp : p ∉ u.faultedRecords p x := fun hmem => (mem_faultedRecords.mp hmem).1 rfl
  have hrecords {c : BlockId} (hcn : c ≠ n) (hcp : c ≠ p) :
      c ∈ u.faultedRecords p x ↔ (s.entry c).state = .faulted ∧ (s.entry c).occupant = some x := by
    rw [mem_faultedRecords, hu.state, hu.occupant, moveNose_entry x hne, if_neg hcp, if_neg hcn]
    exact and_iff_right hcp
  refine ⟨?_, fun y => ?_, fun y => ?_, fun c hcn => ?_, ?_, ?_, fun c hcn hcp hcx => ?_, fun c hcn hcx => ?_⟩
  · exact hlayout.trans hu.layout
  · exact ((htrack y).1.trans (hu.track y).1).trans (moveNose_placeOf hplace y)
  · exact ((htrack y).2.trans (hu.track y).2).trans (moveNose_pathOf hplace y)
  · rw [endFaultedRecords_entry]
    have hcore : (u.entry c).state = (s.entry c).state ∧ (u.entry c).holder = (s.entry c).holder := by
      rw [hu.state, hu.holder, moveNose_entry x hne, if_neg hcn]
      split
      case isTrue h => rw [h]; exact ⟨rfl, rfl⟩
      case isFalse => exact ⟨rfl, rfl⟩
    split <;> exact hcore
  · rw [endFaultedRecords_entry, if_neg hp, hu.occupant, hu.nose, moveNose_entry x hne, if_pos rfl]
    exact ⟨hx, rfl⟩
  · rw [endFaultedRecords_entry, if_neg hn, hu.occupant, hu.nose, hu.state, moveNose_entry x hne, if_neg hne.symm,
      if_pos rfl, enteredEntry_state]
    refine ⟨rfl, rfl, by split <;> exact nofun, fun hst => ?_⟩
    refine Classical.byContradiction fun hlast => ?_
    rw [beq_eq_false_iff_ne.mpr hlast, Bool.and_false] at hst
    cases hst
  · have hst := left_behind hs hplace (by rw [hpath]; exact nofun) hoverlap hcp hcx
    rw [endFaultedRecords_entry, if_pos ((hrecords hcn hcp).mpr ⟨hst, hcx⟩)]
  · have hcp : c ≠ p := by
      rintro rfl
      exact hcx hx
    rw [endFaultedRecords_entry, if_neg fun h => hcx ((hrecords hcn hcp).mp h).2, hu.occupant, hu.nose,
      moveNose_entry x hne, if_neg hcp, if_neg hcn]
    exact ⟨rfl, rfl⟩

theorem normalArrival_arrived {s : State} {p n : BlockId} {x : BoatId} (leg : Leg) (eye : PointId) (hs : Board s)
    (hx : (s.entry p).occupant = some x) (hplace : s.placeOf x = some p) (hhead : (s.pathOf x).head? = some n)
    (hoverlap : s.overlapped p x = false) :
    ∃ u, Arrived s u p n x ∧ Calm u (s.normalArrival p n leg eye x) := by
  unfold State.normalArrival
  extract_lets s1 count s2 s3 s4 s5 s6
  have h3 : Calm s1 s3 := .after (t := s2) (append_calm ..) (.of_board rfl rfl rfl)
  refine ⟨s4, arrived_of_moveNose hs h3 hx hplace hhead hoverlap, ?_⟩
  have h5 : Calm s4 s5 := by
    simp only [s5]
    split
    · exact modBoat_calm ..
    · exact .refl _
  have h6 : Calm s4 s6 := (h5.trans (openTagWindow_calm ..)).trans (openPassage_calm ..)
  split
  · exact h6.trans (berth_calm ..)
  · exact h6

theorem noseArrival_board {s : State} (p : BlockId) (leg : Leg) (eye : PointId) (hs : Board s) :
    Board (s.noseArrival p leg eye) := by
  refine ⟨⟨noseArrival_tableSound p leg eye hs.tabled.sound⟩, ?_⟩
  unfold State.noseArrival
  split
  · exact hs.aligned
  case h_2 n hsucc =>
    dsimp only
    split
    · exact (append_calm ..).aligned hs.aligned
    split
    · exact (raise_calm ..).aligned hs.aligned
    split
    · exact (faultAt_board _ _ _ _ hs).aligned
    case isFalse hst =>
      split
      · exact (faultAt_board _ _ _ _ hs).aligned
      case h_2 x hx =>
        split
        · exact (faultAt_board _ _ _ _ hs).aligned
        case isFalse hoverlap =>
          split
          case isFalse => exact (faultAt_board _ _ _ _ hs).aligned
          case isTrue hexpects =>
            obtain ⟨-, -, hplace, hhead⟩ := (expects_iff ..).mp hexpects
            obtain ⟨u, harrived, hcalm⟩ := normalArrival_arrived leg eye hs hx hplace hhead
              (eq_false_of_ne_true hoverlap)
            exact hcalm.aligned (harrived.aligned hs hsucc hx hst hhead)

end Sys2Proof.Machine
end

section
/-! PROOFS. Boats and blocks agree after every act, and in CONFIGURE none has a boat. -/

namespace Sys2Proof.Machine

open Sys2Proof

/-! ### Blocks that are emptied (R46, R75, R194, R195) -/

/-- A block that no boat has as its position is emptied. -/
theorem emptied_aligned {s : State} {b : BlockId} (st : BlockState) (hs : Board s) (hb : (s.entry b).state ≠ .reserved)
    (hx : ∀ x, (s.entry b).occupant = some x → (s.entry b).nose = true) : Aligned (s.setEntry b (.bare st)) := by
  have hkept {c : BlockId} (hc : c ≠ b) : (s.setEntry b (.bare st)).entry c = s.entry c := setEntry_entry_ne s _ hc
  have hempty : (s.setEntry b (.bare st)).entry b = .bare st := setEntry_entry_self ..
  have hne {c : BlockId} {x : BoatId} (hc : ((s.setEntry b (.bare st)).entry c).occupant = some x) : c ≠ b := by
    rintro rfl
    rw [hempty] at hc
    cases hc
  refine ⟨fun c x hc => ?_, fun x pos hpos => ?_, fun x c d hc hd => ?_, fun c x => ?_, hs.aligned.path, fun c x hc hcx => ?_⟩
  · have hcb := hne hc
    rw [hkept hcb] at hc ⊢
    exact hs.aligned.stands c x hc
  · obtain ⟨hocc, hnose⟩ := hs.aligned.holds x pos hpos
    have hposb : pos ≠ b := by
      rintro rfl
      exact absurd (hnose.symm.trans (hx x hocc)) (by decide)
    rw [hkept hposb]
    exact ⟨hocc, hnose⟩
  · rw [hkept (hne hc)] at hc
    rw [hkept (hne hd)] at hd
    exact hs.aligned.once x c d hc hd
  · by_cases hcb : c = b
    · rw [hcb, hempty]
      refine iff_of_false (fun h => ?_) (hs.not_mem_path hb x)
      cases h.2
    · rw [hkept hcb]
      exact hs.aligned.reserved c x
  · have hcb := hne hcx
    rw [hkept hcb] at hc hcx
    exact hs.aligned.rests c x hc hcx

theorem tailClearance_board {s : State} (p : BlockId) (leg : Leg) (eye : PointId) (hs : Board s) :
    Board (s.tailClearance p leg eye) := by
  refine ⟨⟨tailClearance_tableSound p leg eye hs.tabled.sound⟩, ?_⟩
  unfold State.tailClearance
  split
  · exact hs.aligned
  case h_2 n hsucc =>
    dsimp only
    split
    · exact (entryCleared_calm ..).aligned ((endTagWindow_calm ..).aligned ((append_calm ..).aligned hs.aligned))
    split
    case isTrue hends =>
      refine (entryCleared_calm ..).aligned ((vacateBay_calm ..).aligned ((trapUnmeasured_calm ..).aligned
        ((endTagWindow_calm ..).aligned ?_)))
      simp only [State.endsCrossing, Bool.and_eq_true, beq_iff_eq] at hends
      obtain ⟨⟨hst, hnose⟩, -⟩ := hends
      exact emptied_aligned .clear hs (by rw [hst]; decide) fun _ _ => hnose
    · exact (entryCleared_calm ..).aligned ((endTagWindow_calm ..).aligned ((raise_calm ..).aligned hs.aligned))

theorem deliverEdge_board {s : State} (p : PointId) (on : Bool) (hs : Board s) : Board (s.deliverEdge p on) := by
  unfold State.deliverEdge
  split
  · exact hs
  · split
    case h_1 => exact hs
    case h_2 =>
      split
      · exact noseArrival_board _ _ _ hs
      · exact tailClearance_board _ _ _ hs
    case h_3 =>
      split
      · exact (trapEye1_calm ..).board hs
      · exact hs
    case h_4 =>
      split
      · exact (trapEye2_calm ..).board hs
      · exact hs
    case h_5 => exact hs
    case h_6 => exact (positionEdge_calm ..).board hs

theorem census_board {s : State} {b : BlockId} {st : BlockState} (hs : Board s)
    (hst : st ∈ [BlockState.unverified, .clear, .outOfService])
    (h : (s.entry b).state ∈ [BlockState.unverified, .clear, .outOfService, .faulted])
    (ho : (s.entry b).state = .faulted → (s.entry b).occupant = none) : Board (s.setEntry b (.bare st)) := by
  have hst' : st ∈ [BlockState.unverified, .clear, .outOfService] ++ [.faulted] := List.mem_append_left _ hst
  refine ⟨⟨setEntry_tableSound (bare_sound hst') hs.tabled.sound⟩, emptied_aligned st hs ?_ fun x hx => ?_⟩
  · intro hres
    rw [hres] at h
    exact absurd h (by decide)
  · obtain ⟨hbusy | hbusy | hbusy, -⟩ := Entry.sound_occupant (hs.tabled.sound b) hx
    · rw [hbusy] at h
      exact absurd h (by decide)
    · rw [hbusy] at h
      exact absurd h (by decide)
    · rw [ho hbusy] at hx
      cases hx

/-! ### PLACE BOAT (R77) -/

/-- The block table and the roster at PLACE BOAT; all else that it does is calm. -/
def State.seated (s : State) (x : BoatId) (t : Boat) (b : BlockId) : State :=
  (s.setEntry b { Entry.bare .occupied with occupant := some x }).setSlot x (.onTrack t b [])

theorem place_calm (s : State) (x : BoatId) (t : Boat) (b : BlockId) (guests : Bool) :
    Calm (s.seated x { t with guests, load := if guests then none else some 0 } b) (s.place x t b guests) := by
  unfold State.place
  exact .after (berth_calm ..) (modBrake_calm ..)

theorem seated_aligned {s : State} {x : BoatId} {t : Boat} {b : BlockId} (u : Boat) (hs : Board s)
    (h : s.slot x = .absent t) (hb : (s.entry b).state ∈ [BlockState.unverified, .clear]) : Aligned (s.seated x u b) := by
  have hempty := Entry.sound_empty (hs.tabled.sound b)
    (List.mem_append_left (as := [BlockState.unverified, .clear]) [.outOfService] hb)
  have hplacex : s.placeOf x = none := by rw [State.placeOf, h]; rfl
  have hpathx : s.pathOf x = [] := by rw [State.pathOf, h]; rfl
  have habsent (c : BlockId) : (s.entry c).occupant ≠ some x := by
    intro hc
    obtain ⟨pos, hpos, -⟩ := hs.aligned.stands c x hc
    rw [hplacex] at hpos
    cases hpos
  have hentry (c : BlockId) : (s.seated x u b).entry c =
      if c = b then { Entry.bare .occupied with occupant := some x } else s.entry c := setEntry_entry ..
  have hslot (y : BoatId) (hy : y ≠ x) : (s.seated x u b).slot y = s.slot y :=
    setSlot_slot_ne (s.setEntry b { Entry.bare .occupied with occupant := some x }) _ hy
  have hself : (s.seated x u b).slot x = .onTrack u b [] := setSlot_slot_self ..
  have hoccupant {c : BlockId} {y : BoatId} (hc : ((s.seated x u b).entry c).occupant = some y) :
      c = b ∧ y = x ∨ c ≠ b ∧ y ≠ x ∧ (s.entry c).occupant = some y := by
    rw [hentry] at hc
    split at hc
    case isTrue hcb => exact .inl ⟨hcb, (Option.some.inj hc).symm⟩
    case isFalse hcb => exact .inr ⟨hcb, fun hy => habsent c (hy ▸ hc), hc⟩
  have hplace : (s.seated x u b).placeOf x = some b := by rw [State.placeOf, hself]; rfl
  have hpath (y : BoatId) : (s.seated x u b).pathOf y = s.pathOf y := by
    by_cases hy : y = x
    · rw [hy, hpathx, State.pathOf, hself]
      rfl
    · exact pathOf_congr (hslot y hy)
  refine ⟨fun c y hc => ?_, fun y pos hpos => ?_, fun y c d hc hd hcp hdp => ?_, fun c y => ?_, fun y => ?_,
    fun c y hst hc => ?_⟩
  · obtain ⟨rfl, rfl⟩ | ⟨hcb, hy, hbefore⟩ := hoccupant hc
    · exact ⟨c, hplace, .inl rfl⟩
    · rw [placeOf_congr (hslot y hy), hentry, if_neg hcb]
      exact hs.aligned.stands c y hbefore
  · by_cases hy : y = x
    · rw [hy, hplace] at hpos
      cases hpos
      rw [hy, hentry, if_pos rfl]
      exact ⟨rfl, rfl⟩
    · rw [placeOf_congr (hslot y hy)] at hpos
      obtain ⟨hocc, hnose⟩ := hs.aligned.holds y pos hpos
      have hposb : pos ≠ b := by
        rintro rfl
        rw [hempty] at hocc
        cases hocc
      rw [hentry, if_neg hposb]
      exact ⟨hocc, hnose⟩
  · obtain ⟨rfl, rfl⟩ | ⟨-, hy, hc⟩ := hoccupant hc
    · exact absurd hplace hcp
    · obtain ⟨-, hyx⟩ | ⟨-, -, hd⟩ := hoccupant hd
      · exact absurd hyx hy
      · rw [placeOf_congr (hslot y hy)] at hcp hdp
        exact hs.aligned.once y c d hc hd hcp hdp
  · rw [hpath, hentry]
    split
    case isTrue hcb =>
      refine iff_of_false (fun hres => nomatch hres.1) (hs.not_mem_path ?_ y)
      rw [hcb, hempty]
      intro hres
      change (s.entry b).state = .reserved at hres
      rw [hres] at hb
      exact absurd hb (by decide)
    case isFalse => exact hs.aligned.reserved c y
  · rw [hpath]
    exact hs.aligned.path y
  · rw [hpath]
    obtain ⟨-, rfl⟩ | ⟨hcb, -, hbefore⟩ := hoccupant hc
    · exact hpathx
    · rw [hentry, if_neg hcb] at hst
      exact hs.aligned.rests c y hst hbefore

theorem place_board {s : State} {x : BoatId} {t : Boat} {b : BlockId} (guests : Bool) (hs : Board s)
    (h : s.slot x = .absent t) (hb : s.placeable b = true) : Board (s.place x t b guests) := by
  refine ⟨⟨place_tableSound x t b guests hs.tabled.sound⟩, (place_calm ..).aligned (seated_aligned _ hs h ?_)⟩
  simp only [State.placeable, Bool.and_eq_true, Bool.or_eq_true, beq_iff_eq] at hb
  obtain ⟨-, hb | hb⟩ := hb
  all_goals
    rw [hb]
    decide

/-! ### REMOVE BOAT (R78) -/

theorem without_bare (e : Entry) : ∃ st ∈ [BlockState.unverified, .clear, .outOfService, .faulted], e.without = .bare st := by
  unfold Entry.without
  split
  case h_1 | h_2 | h_3 => exact ⟨.clear, by decide, rfl⟩
  case h_4 h1 h2 h3 =>
    refine ⟨e.state, ?_, rfl⟩
    cases hst : e.state
    case occupied => exact absurd hst h1
    case releasing => exact absurd hst h2
    case reserved => exact absurd hst h3
    all_goals decide

theorem foldl_modEntry_entry {bs : List BlockId} (h : bs.Nodup) (f : Entry → Entry) (s : State) (c : BlockId) :
    (bs.foldl (fun u b => u.modEntry b f) s).entry c = if c ∈ bs then f (s.entry c) else s.entry c := by
  induction bs generalizing s with
  | nil => rw [if_neg List.not_mem_nil]; rfl
  | cons b bs ih =>
    obtain ⟨hb, hbs⟩ := List.nodup_cons.mp h
    rw [List.foldl_cons, ih hbs, State.modEntry, setEntry_entry]
    by_cases hc : c = b
    · rw [if_pos hc, hc, if_neg hb, if_pos List.mem_cons_self]
    · rw [if_neg hc]
      simp only [List.mem_cons, hc, false_or]

theorem foldl_modEntry_roster (bs : List BlockId) (f : Entry → Entry) (s : State) :
    (bs.foldl (fun u b => u.modEntry b f) s).roster = s.roster :=
  foldl_keeps State.roster _ (fun _ _ => setEntry_roster ..) bs s

theorem foldl_modEntry_layout (bs : List BlockId) (f : Entry → Entry) (s : State) :
    (bs.foldl (fun u b => u.modEntry b f) s).layout = s.layout :=
  foldl_keeps State.layout _ (fun _ _ => setEntry_layout ..) bs s

/-- The blocks that have a boat. -/
def State.losing (s : State) (x : BoatId) : List BlockId := allBlocks.filter fun b => (s.entry b).has x

theorem mem_losing {s : State} {x : BoatId} {b : BlockId} :
    b ∈ s.losing x ↔ (s.entry b).occupant = some x ∨ (s.entry b).holder = some x := by
  simp [State.losing, allBlocks, Entry.has]

/-- The block table and the roster at REMOVE BOAT; all else that it does is calm. -/
def State.lifted (s : State) (x : BoatId) (t : Boat) : State :=
  ((s.losing x).foldl (fun u b => u.modEntry b (·.without)) s).setSlot x (.absent { t with load := none })

theorem remove_calm (s : State) (x : BoatId) (t : Boat) : Calm (s.lifted x t) (s.remove x t) := by
  unfold State.remove
  extract_lets held losing s1 s2 s3
  exact (Calm.of_board (s := s2) (t := s3) rfl rfl rfl).trans (.foldl vacateBay_calm held s3)

theorem lifted_entry (s : State) (x : BoatId) (t : Boat) (c : BlockId) :
    (s.lifted x t).entry c = if c ∈ s.losing x then (s.entry c).without else s.entry c :=
  foldl_modEntry_entry ((List.nodup_finRange 32).filter _) _ s c

theorem lifted_slot (s : State) (x : BoatId) (t : Boat) (y : BoatId) :
    (s.lifted x t).slot y = if y = x then .absent { t with load := none } else s.slot y := by
  split
  case isTrue h => rw [h, State.lifted, setSlot_slot_self]
  case isFalse h =>
    rw [State.lifted, setSlot_slot_ne _ _ h, State.slot, foldl_modEntry_roster, State.slot]

theorem lifted_aligned {s : State} {x : BoatId} (t : Boat) (hs : Board s) : Aligned (s.lifted x t) := by
  have hentry := lifted_entry s x t
  have hlayout : (s.lifted x t).layout = s.layout := foldl_modEntry_layout ..
  have hslot (y : BoatId) (hy : y ≠ x) : (s.lifted x t).slot y = s.slot y := by rw [lifted_slot, if_neg hy]
  have hself : (s.lifted x t).slot x = .absent { t with load := none } := by rw [lifted_slot, if_pos rfl]
  have hpathx : (s.lifted x t).pathOf x = [] := by rw [State.pathOf, hself]; rfl
  have hempty {c : BlockId} (hc : c ∈ s.losing x) : ∃ st ∈ [BlockState.unverified, .clear, .outOfService, .faulted],
      (s.lifted x t).entry c = .bare st := by
    obtain ⟨st, hst, heq⟩ := without_bare (s.entry c)
    exact ⟨st, hst, by rw [hentry, if_pos hc, heq]⟩
  have hkept {c : BlockId} (hc : c ∉ s.losing x) : (s.lifted x t).entry c = s.entry c := by rw [hentry, if_neg hc]
  have hoccupant {c : BlockId} {y : BoatId} (hc : ((s.lifted x t).entry c).occupant = some y) :
      c ∉ s.losing x ∧ y ≠ x ∧ (s.entry c).occupant = some y := by
    have hnot : c ∉ s.losing x := by
      intro hmem
      obtain ⟨st, -, heq⟩ := hempty hmem
      rw [heq] at hc
      cases hc
    rw [hkept hnot] at hc
    exact ⟨hnot, fun hy => hnot (mem_losing.mpr (.inl (hy ▸ hc))), hc⟩
  have hstays {c : BlockId} {y : BoatId} (hy : y ≠ x) (hc : (s.entry c).occupant = some y) : c ∉ s.losing x := by
    intro hmem
    obtain hocc | hholder := mem_losing.mp hmem
    · rw [hc] at hocc
      exact hy (Option.some.inj hocc)
    · rw [(Entry.sound_occupant (hs.tabled.sound c) hc).2] at hholder
      cases hholder
  refine ⟨fun c y hc => ?_, fun y pos hpos => ?_, fun y c d hc hd hcp hdp => ?_, fun c y => ?_, fun y => ?_,
    fun c y hst hc => ?_⟩
  · obtain ⟨hnot, hy, hbefore⟩ := hoccupant hc
    rw [placeOf_congr (hslot y hy), hkept hnot, hlayout]
    exact hs.aligned.stands c y hbefore
  · by_cases hy : y = x
    · rw [hy, State.placeOf, hself] at hpos
      cases hpos
    · rw [placeOf_congr (hslot y hy)] at hpos
      obtain ⟨hocc, hnose⟩ := hs.aligned.holds y pos hpos
      rw [hkept (hstays hy hocc)]
      exact ⟨hocc, hnose⟩
  · obtain ⟨-, hy, hc⟩ := hoccupant hc
    obtain ⟨-, -, hd⟩ := hoccupant hd
    rw [placeOf_congr (hslot y hy)] at hcp hdp
    exact hs.aligned.once y c d hc hd hcp hdp
  · by_cases hmem : c ∈ s.losing x
    · obtain ⟨st, -, heq⟩ := hempty hmem
      refine iff_of_false (fun hres => ?_) fun hc => ?_
      · rw [heq] at hres
        cases hres.2
      · have hy : y ≠ x := by
          rintro rfl
          rw [hpathx] at hc
          cases hc
        rw [pathOf_congr (hslot y hy)] at hc
        obtain ⟨-, hholder, hnone, -⟩ := hs.reserved_of_mem hc
        obtain hocc | hx := mem_losing.mp hmem
        · rw [hnone] at hocc
          cases hocc
        · rw [hholder] at hx
          exact hy (Option.some.inj hx)
    · rw [hkept hmem, hs.aligned.reserved c y]
      by_cases hy : y = x
      · rw [hy, hpathx]
        refine iff_of_false (fun hc => hmem (mem_losing.mpr (.inr (hs.reserved_of_mem hc).2.1))) List.not_mem_nil
      · rw [pathOf_congr (hslot y hy)]
  · by_cases hy : y = x
    · rw [hy, hpathx]
      exact ⟨List.nodup_nil, Nat.zero_le _⟩
    · rw [pathOf_congr (hslot y hy)]
      exact hs.aligned.path y
  · obtain ⟨hnot, hy, hbefore⟩ := hoccupant hc
    rw [hkept hnot] at hst
    rw [pathOf_congr (hslot y hy)]
    exact hs.aligned.rests c y hst hbefore

theorem remove_board {s : State} (x : BoatId) (t : Boat) (hs : Board s) : Board (s.remove x t) :=
  ⟨⟨remove_tableSound x t hs.tabled.sound⟩, (remove_calm ..).aligned (lifted_aligned t hs)⟩

end Sys2Proof.Machine
end

section
/-! PROOFS. Every act keeps boats and blocks agreed, and leaves no boat on the track in CONFIGURE. -/

namespace Sys2Proof.Machine

open Sys2Proof

/-- An entry written with the same core moves no boat. -/
theorem setEntry_cores {s : State} {b : BlockId} {e : Entry} (h : e.core = (s.entry b).core) (c : BlockId) :
    ((s.setEntry b e).entry c).core = (s.entry c).core := by
  rw [setEntry_entry]
  split
  case isTrue hc => rw [h, hc]
  case isFalse => rfl

/-- A release that is commanded again moves no boat. -/
theorem commanded_aligned {s : State} {b : BlockId} {e : Entry} (h : e.core = (s.entry b).core) (hs : Aligned s) :
    Aligned ((s.setEntry b e).firePulse b) :=
  (firePulse_calm ..).aligned (hs.of_cores (setEntry_cores h) (.of_roster rfl) rfl)

theorem transitEvent_board {s : State} {b : BlockId} {d : Time} (h : s.transitDue b = some d) (hs : Board s) :
    Board (s.transitEvent b d) := by
  have hstall := stall_board hs (transitDue_releasing h) (transitDue_nose hs.tabled.sound h).1
  refine ⟨⟨transitEvent_tableSound h hs.tabled.sound⟩, ?_⟩
  unfold State.transitEvent
  dsimp only
  split
  case h_2 => exact hstall.aligned
  case h_1 =>
    split
    · exact commanded_aligned (by rfl) hs.aligned
    · exact hstall.aligned

theorem resumeRelease_board {s : State} (b : BlockId) (hs : Board s) : Board (s.resumeRelease b) := by
  refine ⟨⟨resumeRelease_tableSound b hs.tabled.sound⟩, ?_⟩
  unfold State.resumeRelease
  dsimp only
  split
  case h_2 => exact hs.aligned
  case h_1 r x hr hx =>
    split
    case isFalse => exact hs.aligned
    case isTrue hf =>
      obtain ⟨hst, hn⟩ := frozen_nose hs.tabled.sound hr hf
      split
      · exact (stall_board hs hst hn).aligned
      · exact commanded_aligned (by rfl) hs.aligned

theorem resumeFrozen_board {s : State} (hs : Board s) : Board s.resumeFrozen :=
  foldl_preserves (fun _ b ht => resumeRelease_board b ht) _ hs

/-! ### Boards without boats -/

/-- No boat has a position. -/
def State.offTrack (s : State) : Prop := ∀ x, s.placeOf x = none ∧ s.pathOf x = []

theorem vacant_board {s : State} (hs : Tabled s) (hvacant : s.vacant) (htrack : s.offTrack) : Board s := by
  have hoccupant {b : BlockId} {x : BoatId} (h : (s.entry b).occupant = some x) : False := by
    rw [(hvacant b).1] at h
    cases h
  have hpath (x : BoatId) : s.pathOf x = [] := (htrack x).2
  refine ⟨hs, ⟨fun b x hx => (hoccupant hx).elim, fun x pos hpos => ?_, fun x b c hx => (hoccupant hx).elim, fun b x => ?_,
    fun x => ?_, fun b x _ hx => (hoccupant hx).elim⟩⟩
  · rw [(htrack x).1] at hpos
    cases hpos
  · rw [hpath, (hvacant b).2]
    exact iff_of_false (fun h => nomatch h.2) List.not_mem_nil
  · rw [hpath]
    exact ⟨List.nodup_nil, Nat.zero_le _⟩

/-- A vacant board has no boat on the track. -/
theorem Board.offTrack {s : State} (hs : Board s) (hvacant : s.vacant) : s.offTrack := by
  have hplace (x : BoatId) : s.placeOf x = none := by
    cases hpos : s.placeOf x with
    | none => rfl
    | some pos =>
      have hocc := (hs.aligned.holds x pos hpos).1
      rw [(hvacant pos).1] at hocc
      cases hocc
  refine fun x => ⟨hplace x, List.eq_nil_iff_forall_not_mem.mpr fun b hb => ?_⟩
  obtain ⟨pos, hpos⟩ := exists_placeOf_of_mem hb
  rw [hplace] at hpos
  cases hpos

theorem offTrack_of_roster {s t : State} (h : t.roster = s.roster) (hs : s.offTrack) : t.offTrack := by
  intro x
  rw [State.placeOf, State.pathOf, State.slot, h]
  exact hs x

theorem vacant_of_bare {s : State} {st : BlockId → BlockState} (h : ∀ b, s.entry b = .bare (st b)) : s.vacant := by
  intro b
  rw [h]
  exact ⟨rfl, rfl⟩

theorem forget_vacant (s : State) : s.forget.vacant :=
  vacant_of_bare (st := s.layout.setupState) fun _ => vget_vmap ..

theorem forget_offTrack (s : State) : s.forget.offTrack := by
  intro x
  have hslot : s.forget.slot x = (s.slot x).offTrack := vget_vmap ..
  rw [State.placeOf, State.pathOf, hslot]
  cases s.slot x <;> exact ⟨rfl, rfl⟩

theorem forget_board (s : State) : Board s.forget := vacant_board ⟨forget_tableSound s⟩ (forget_vacant s) (forget_offTrack s)

theorem setUp_vacant (s : State) : s.setUp.vacant := vacant_of_bare (setUp_entry s)

theorem setUp_board {s : State} (hs : s.offTrack) : Board s.setUp :=
  vacant_board ⟨setUp_tableSound s⟩ (setUp_vacant s) (offTrack_of_roster (setUp_roster s) hs)

theorem powerOn_vacant (s : State) (pins : BitVec 2) (open1 open2 : Bool) (on : List PointId) :
    (s.powerOn pins open1 open2 on).vacant := vacant_of_bare (powerOn_entry s pins open1 open2 on)

theorem powerOn_offTrack (s : State) (pins : BitVec 2) (open1 open2 : Bool) (on : List PointId) :
    (s.powerOn pins open1 open2 on).offTrack := by
  intro x
  have hslot : (s.powerOn pins open1 open2 on).slot x = .unused := Vector.getElem_replicate ..
  rw [State.placeOf, State.pathOf, hslot]
  exact ⟨rfl, rfl⟩

theorem powerOn_board (s : State) (pins : BitVec 2) (open1 open2 : Bool) (on : List PointId) :
    Board (s.powerOn pins open1 open2 on) :=
  vacant_board ⟨powerOn_tableSound s pins open1 open2 on⟩ (powerOn_vacant s pins open1 open2 on) (powerOn_offTrack s pins open1 open2 on)

/-! ### What happens in CONFIGURE leaves it without boats -/

theorem vacant_not_busy {s : State} (hs : Board s) (hvacant : s.vacant) (b : BlockId) :
    (s.entry b).state ≠ .releasing ∧ (s.entry b).state ≠ .occupied ∧ (s.entry b).state ≠ .reserved := by
  refine ⟨fun hst => ?_, fun hst => ?_, fun hst => ?_⟩
  · have hocc := (Entry.sound_releasing (hs.tabled.sound b) hst).1
    rw [(hvacant b).1] at hocc
    cases hocc
  · have hocc := (Entry.sound_occupied (hs.tabled.sound b) hst).1
    rw [(hvacant b).1] at hocc
    cases hocc
  · have hholder := (Entry.sound_reserved (hs.tabled.sound b) hst).1
    rw [(hvacant b).2] at hholder
    cases hholder

theorem setEntry_vacant {s : State} {b : BlockId} {e : Entry} (he : e.occupant = none ∧ e.holder = none)
    (hs : s.vacant) : (s.setEntry b e).vacant := by
  intro c
  rw [setEntry_entry]
  split
  · exact he
  · exact hs c

theorem faultAt_vacant {s : State} (k : FaultKind) (b : BlockId) (x : Option BoatId) (d : Details) (hs : Board s)
    (hvacant : s.vacant) : (s.faultAt k b x d).vacant := by
  have hentry : (s.setEntry b (s.entry b).toFaulted).vacant := setEntry_vacant ⟨(hvacant b).1, rfl⟩ hvacant
  have hcalm : Calm (s.setEntry b (s.entry b).toFaulted) (s.faultAt k b x d) :=
    ((faultBlock_calm (vacant_not_busy hs hvacant b).2.2).trans (raise_calm ..)).trans (bayFaulted_calm ..)
  exact hcalm.vacant hentry

theorem driveFault_vacant {s : State} (k : FaultKind) (b : BlockId) (d : Details) (hs : Board s) (hvacant : s.vacant) :
    (s.driveFault k b d).vacant := by
  unfold State.driveFault
  dsimp only
  split
  · exact (raise_calm ..).vacant ((modSwitch_calm ..).vacant hvacant)
  · exact faultAt_vacant k b _ d hs hvacant

theorem remove_vacant {s : State} (x : BoatId) (t : Boat) (hs : s.vacant) : (s.remove x t).vacant := by
  refine (remove_calm s x t).vacant fun c => ?_
  rw [lifted_entry]
  split
  · obtain ⟨st, -, heq⟩ := without_bare (s.entry c)
    rw [heq]
    exact ⟨rfl, rfl⟩
  · exact hs c

theorem happens_vacant {s t : State} (h : Happens s t) (hm : s.mode = .configure) (hs : Board s) (hvacant : s.vacant) :
    t.vacant := by
  have hbusy := vacant_not_busy hs hvacant
  cases h with
  | weighCloses => exact (closeWindow_calm ..).vacant hvacant
  | transitPasses b d h => exact absurd (transitDue_releasing h) (hbusy b).1
  | crossingFails k b h => exact absurd h (hbusy b).1
  | entryExpires => exact (expireEntry_calm ..).vacant hvacant
  | headwayEnds => exact hvacant
  | driveFails => exact driveFault_vacant _ _ _ hs hvacant
  | channelFails c x k b d =>
    have hcalm := setChannel_calm s c x
    exact driveFault_vacant k b d (hcalm.board hs) (hcalm.vacant hvacant)
  | trapFails => exact (trapFails_calm ..).vacant hvacant
  | holdEngages => exact hvacant
  | pulseEnds => exact hvacant
  | tagRead => exact (takeTag_calm ..).vacant hvacant
  | edge p on =>
    rw [State.deliverEdge, if_pos hm]
    exact hvacant
  | stopLine k => exact (raise_calm ..).vacant hvacant
  | held => exact (enterHolding_calm ..).vacant hvacant
  | halted => exact (enterHalted_calm ..).vacant hvacant
  | census => exact setEntry_vacant ⟨rfl, rfl⟩ hvacant
  | placed _ _ _ _ _ _ hne => exact absurd hm hne
  | removed x t => exact remove_vacant x t hvacant
  | rerouted => exact (reroute_calm ..).vacant hvacant
  | canceled => exact ((cancelEntry_calm ..).trans (setPhase_calm ..)).vacant hvacant
  | denied => exact (((removeEntry_calm ..).trans (dispatchReport_calm ..)).trans (setPhase_calm ..)).vacant hvacant
  | consented => exact ((putEntry_calm ..).trans (dispatchReport_calm ..)).vacant hvacant
  | stepped b p h => exact absurd h (hbusy b).2.1
  | rideLinkLost =>
    exact (((discardSlotOf_calm ..).trans (withdrawConsents_calm ..)).trans (linkLost_calm ..)).vacant hvacant
  | stationLinkLost => exact ((discardSlotOf_calm ..).trans (cancelAll_calm ..)).vacant hvacant

/-! ### What happens before an event's end -/

theorem clear_of_find {s : State} {p : List BlockId} (h : p.find? (fun c => !s.isClear c) = none) :
    ∀ c ∈ p, (s.entry c).state = .clear := by
  intro c hc
  have hclear := List.find?_eq_none.mp h c hc
  simpa [State.isClear] using hclear

theorem happens_board {s t : State} (h : Happens s t) (hs : Board s) : Board t := by
  cases h with
  | weighCloses => exact (closeWindow_calm ..).board hs
  | transitPasses b d h => exact transitEvent_board h hs
  | crossingFails => exact faultAt_board _ _ _ _ hs
  | entryExpires => exact (expireEntry_calm ..).board hs
  | headwayEnds b =>
    have hcalm : Calm s (s.endHeadway b) := .of_board rfl rfl rfl
    exact hcalm.board hs
  | driveFails => exact driveFault_board _ _ _ hs
  | channelFails => exact driveFault_board _ _ _ ((setChannel_calm ..).board hs)
  | trapFails => exact (trapFails_calm ..).board hs
  | holdEngages b =>
    have hcalm : Calm s (s.engageHold b) := .of_board rfl rfl rfl
    exact hcalm.board hs
  | pulseEnds => exact (setChannel_calm ..).board hs
  | tagRead => exact (takeTag_calm ..).board hs
  | edge => exact deliverEdge_board _ _ hs
  | stopLine k =>
    have hcalm : Calm s (s.setMc { s.mc.setContact k true with stopActive := true }) := .of_board rfl rfl rfl
    exact (raise_calm ..).board (hcalm.board hs)
  | held => exact (enterHolding_calm ..).board hs
  | halted => exact (enterHalted_calm ..).board hs
  | census b st h ho hst => exact census_board hs hst h ho
  | placed _ _ _ guests h hb => exact place_board guests hs h hb
  | removed => exact remove_board _ _ hs
  | rerouted => exact (reroute_calm ..).board hs
  | canceled => exact ((cancelEntry_calm ..).trans (setPhase_calm ..)).board hs
  | denied => exact (((removeEntry_calm ..).trans (dispatchReport_calm ..)).trans (setPhase_calm ..)).board hs
  | consented => exact ((putEntry_calm ..).trans (dispatchReport_calm ..)).board hs
  | stepped b p h hp hc => exact grant_board .step hs h hp (clear_of_find hc)
  | rideLinkLost => exact (((discardSlotOf_calm ..).trans (withdrawConsents_calm ..)).trans (linkLost_calm ..)).board hs
  | stationLinkLost => exact ((discardSlotOf_calm ..).trans (cancelAll_calm ..)).board hs

/-! ### Mode changes -/

theorem restartUnits_board (s : State) : Board s.restartUnits := (restartUnits_calm s).board (forget_board s)

theorem configureUnits_board (s : State) : Board s.configureUnits := (configureUnits_calm s).board (forget_board s)

theorem prepared_board {s : State} (m : ModeReq) (hm : s.mode ∈ m.modes) (hs : Board s)
    (hvacant : s.mode = .configure → s.vacant) : Board (s.prepared m) := by
  have hcalm := changed_calm s m
  have hchanged := hcalm.board hs
  unfold State.prepared
  split
  · have hmode : s.mode = .configure := by simpa [ModeReq.modes] using hm
    exact setUp_board (hchanged.offTrack (hcalm.vacant (hvacant hmode)))
  · exact restartUnits_board _
  · exact configureUnits_board _
  · exact hchanged
  · exact hchanged
  · split
    · exact resumeFrozen_board hchanged
    · exact hchanged

theorem target_configure {m : ModeReq} {mode : Mode} {runMode : RunMode} (h : m.target mode runMode = .configure) :
    m = .enterConfigure := by
  cases m
  case enterConfigure => rfl
  case resume =>
    rw [ModeReq.target] at h
    split at h
    · cases h
    · cases runMode <;> cases h
  all_goals cases h

theorem mode_of_mc {s t : State} (h : t.mc = s.mc) : t.mode = s.mode := congrArg ModeController.mode h

/-- Only ENTER CONFIGURE leads to CONFIGURE (R180). -/
theorem prepared_configure {s : State} {m : ModeReq} (hm : (s.prepared m).mode = .configure) : m = .enterConfigure := by
  refine target_configure (mode := s.mode) (runMode := s.mc.runMode) ?_
  rw [← changed_mode]
  unfold State.prepared at hm
  split at hm
  · exact mode_of_mc (setUp_mc _) ▸ hm
  · exact mode_of_mc (restartUnits_mc _) ▸ hm
  · exact mode_of_mc (configureUnits_mc _) ▸ hm
  · exact hm
  · exact hm
  · split at hm
    · exact (resumeFrozen_event _).configure.mp hm
    · exact hm

/-! ### Every act -/

/-- Boats and blocks agree, and in CONFIGURE no block has a boat. -/
structure OnTrack (s : State) : Prop where
  board : Board s
  vacant : s.mode = .configure → s.vacant

theorem OnTrack.of_calm {s t : State} (h : Calm s t) (hm : t.mode = .configure → s.mode = .configure) (hs : OnTrack s) :
    OnTrack t := ⟨h.board hs.board, fun hmode => h.vacant (hs.vacant (hm hmode))⟩

theorem setSlot_offTrack_calm {s : State} {x : BoatId} {t : Slot} (h : (s.slot x).position = none ∧ (s.slot x).path = [])
    (ht : t.position = none ∧ t.path = []) : Calm s (s.setSlot x t) := by
  refine ⟨fun _ => rfl, id, fun y => ?_, rfl⟩
  by_cases hy : y = x
  · rw [hy, State.pathOf, State.pathOf, setSlot_slot_self, h.1, h.2, ht.1, ht.2]
    exact ⟨rfl, rfl⟩
  · rw [State.pathOf, State.pathOf, setSlot_slot_ne s t hy]
    exact ⟨rfl, rfl⟩

theorem queueDispatch_calm (s : State) (b : BlockId) (x : BoatId) (afterPrevious : Bool) :
    Calm s (s.queueDispatch b x afterPrevious) := by
  unfold State.queueDispatch
  exact .after (setPhase_calm ..) (.after (dispatchReport_calm ..) (.of_board rfl rfl rfl))

theorem deed_onTrack {s t : State} (h : Deed s t) (hs : OnTrack s) : OnTrack t := by
  cases h with
  | outside h => exact hs.of_calm (.of_board h.outer.table h.outer.roster h.outer.layout) (h.outer.mode ▸ id)
  | @ended u h =>
    have hboard := finish_board (happens_board h hs.board)
    refine ⟨hboard, fun hm => ?_⟩
    have hu : u.mode = .configure := (finish_event u).configure.mp hm
    rw [finish_configure u hu]
    have hconfigure := h.event.configure.mp hu
    exact happens_vacant h hconfigure hs.board (hs.vacant hconfigure)
  | quiet h =>
    have hentry (b : BlockId) : t.entry b = s.entry b := by rw [State.entry, h.table, State.entry]
    have hcalm : Calm s t := ⟨fun b => by rw [hentry], tableSound_of_table h.table, h.track,
      (surroundings_layout h.surroundings).1⟩
    exact hs.of_calm hcalm (h.mode ▸ id)
  | queued b x afterPrevious =>
    exact hs.of_calm (queueDispatch_calm s b x afterPrevious) (mode_of_mc (queueDispatch_mc s b x afterPrevious) ▸ id)
  | enrolled x code tare h =>
    exact hs.of_calm (setSlot_offTrack_calm (by rw [h]; exact ⟨rfl, rfl⟩) ⟨rfl, rfl⟩) id
  | retired x t h =>
    exact hs.of_calm (setSlot_offTrack_calm (by rw [h]; exact ⟨rfl, rfl⟩) ⟨rfl, rfl⟩) id
  | writes L w v hm =>
    have hvacant := hs.vacant hm
    exact ⟨vacant_board ⟨hs.board.tabled.sound⟩ hvacant (hs.board.offTrack hvacant), fun _ => hvacant⟩
  | carriedOut m g hm =>
    rw [carryOut_eq]
    refine ⟨finish_board (prepared_board m hm hs.board hs.vacant), fun hmode => ?_⟩
    have hprepared : (s.prepared m).mode = .configure := (finish_event _).configure.mp hmode
    obtain rfl := prepared_configure hprepared
    rw [finish_configure _ hprepared]
    exact (configureUnits_calm _).vacant (forget_vacant _)

theorem act_onTrack (s t : State) (h : Act s t) (hs : OnTrack s) : OnTrack t := by
  cases h with
  | linked h => exact hs.of_calm (.of_board h.outer.table h.outer.roster h.outer.layout) (h.outer.mode ▸ id)
  | powerOn pins open1 open2 on => exact ⟨powerOn_board .., fun _ => powerOn_vacant s pins open1 open2 on⟩
  | deed h => exact deed_onTrack h hs

/-- Settles O58: boats move only at arrivals, PLACE BOAT and REMOVE BOAT; everything else shortens a path, reserves one for a
boat at rest or moves nothing. -/
theorem stepsKeepBoatsAndBlocksAgreed : Obligations.StepsKeepBoatsAndBlocksAgreed := by
  unfold Obligations.StepsKeepBoatsAndBlocksAgreed
  intro s t htable htrack h
  obtain ⟨haligned, hvacant⟩ := (trackSound_iff s).mp htrack
  have ht := step_keeps act_onTrack h ⟨⟨⟨htable⟩, haligned⟩, hvacant⟩
  exact (trackSound_iff t).mpr ⟨ht.board.aligned, ht.vacant⟩

end Sys2Proof.Machine
end

section
/-! PROOFS. Power-on reset, and the first command of the queue. -/

namespace Sys2Proof.Machine

open Sys2Proof

/-! ### The part right after power-on reset -/

/-- The state of the reset is what power-on reset makes with every pin low. -/
theorem reset_eq_powerOn : State.reset = State.reset.powerOn 0 false false [] := by
  have hpoints : State.reset.points = (State.reset.powerOn 0 false false []).points := by
    refine Vector.ext fun i hi => ?_
    have hpowered : ((State.reset.powerOn 0 false false []).points)[i] =
        { (State.reset.points)[i] with raw := false, level := false } := vget_vmap (i := ⟨i, hi⟩) ..
    have hreset : (State.reset.points)[i] =
        { raw := false, invert := false, filter := 5, level := false, pending := none, glitches := 0 } :=
      Vector.getElem_replicate ..
    rw [hpowered, hreset]
  show State.reset = { State.reset with points := (State.reset.powerOn 0 false false []).points }
  rw [← hpoints]

theorem powerOn_point (s : State) (pins : BitVec 2) (open1 open2 : Bool) (on : List PointId) (p : PointId) :
    (s.powerOn pins open1 open2 on).point p =
      { raw := on.contains p, invert := false, filter := 5, level := on.contains p, pending := none, glitches := 0 } := by
  have hpoint : (s.powerOn pins open1 open2 on).point p =
      { State.reset.point p with raw := on.contains p, level := on.contains p } := vget_vmap ..
  have hreset : State.reset.point p =
      { raw := false, invert := false, filter := 5, level := false, pending := none, glitches := 0 } :=
    Vector.getElem_replicate ..
  rw [hpoint, hreset]

theorem powerOn_justPoweredOn (s : State) (pins : BitVec 2) (open1 open2 : Bool) (on : List PointId) :
    (s.powerOn pins open1 open2 on).justPoweredOn := by
  refine ⟨rfl, ⟨fun b => Vector.getElem_replicate .., fun m => Vector.getElem_replicate .., rfl, rfl⟩, fun b => powerOn_entry ..,
    ⟨fun x => Vector.getElem_replicate .., fun p => Vector.getElem_replicate ..⟩,
    ⟨fun b => Vector.getElem_replicate .., rfl, rfl, fun b => Vector.getElem_replicate .., fun m => Vector.getElem_replicate ..,
      fun b => Vector.getElem_replicate .., fun b => Vector.getElem_replicate ..⟩, fun p => ?_,
    fun c => Vector.getElem_replicate .., ⟨rfl, rfl, rfl, rfl, rfl, rfl, rfl⟩, fun l => ?_, ⟨rfl, rfl, rfl⟩,
    ⟨rfl, rfl, fun l => ?_⟩, ⟨fun b => Vector.getElem_replicate .., rfl, rfl, fun l => ?_⟩⟩
  · rw [powerOn_point]
    exact ⟨rfl, rfl, rfl, rfl, rfl⟩
  · cases l <;> exact ⟨rfl, rfl, rfl, rfl, rfl, rfl⟩
  · cases l <;> rfl
  · cases l <;> exact ⟨rfl, rfl, rfl, rfl, rfl⟩

/-- Settles O3: power-on reset is the state of the reset with the levels at the pins. -/
theorem powerOnResetSetsUpThePart : Obligations.PowerOnResetSetsUpThePart := by
  unfold Obligations.PowerOnResetSetsUpThePart
  refine ⟨?_, rfl, fun pins open1 open2 on s => ⟨s.powerOn pins open1 open2 on, rfl, powerOn_justPoweredOn .., rfl, rfl, rfl,
    fun p => ?_, rfl⟩⟩
  · rw [reset_eq_powerOn]
    exact powerOn_justPoweredOn ..
  · rw [powerOn_point]

/-! ### The invariants -/

theorem powerOn_trackSound (s : State) (pins : BitVec 2) (open1 open2 : Bool) (on : List PointId) :
    (s.powerOn pins open1 open2 on).trackSound :=
  (trackSound_iff _).mpr ⟨(powerOn_board s pins open1 open2 on).aligned, fun _ => powerOn_vacant s pins open1 open2 on⟩

/-- Settles O53: the reset is a power-on reset with the pins low, and power-on reset leaves tables, lists and links empty. -/
theorem resetMeetsTheInvariants : Obligations.ResetMeetsTheInvariants := by
  unfold Obligations.ResetMeetsTheInvariants
  intro pins open1 open2 on t ht
  obtain ⟨pins', open1', open2', on', rfl⟩ : ∃ pins open1 open2 on, t = State.reset.powerOn pins open1 open2 on := by
    obtain rfl | hexec := ht
    · exact ⟨0, false, false, [], reset_eq_powerOn⟩
    · cases hexec
      exact ⟨pins, open1, open2, on, rfl⟩
  obtain ⟨hpermit, hsafe, hmoves⟩ := powerOn_modeSound State.reset pins' open1' open2' on'
  obtain ⟨hring, hattention⟩ := powerOn_reportsSound State.reset pins' open1' open2' on'
  exact ⟨hpermit, hsafe, hmoves, powerOn_portsSound State.reset pins' open1' open2' on', hring, hattention,
    powerOn_tableSound State.reset pins' open1' open2' on', powerOn_trackSound ..,
    powerOn_dispatchSound .., powerOn_codesDistinct State.reset pins' open1' open2' on', fun hm => absurd rfl hm, powerOn_generationSound ..⟩

/-! ### Steps -/

/-- Settles O1: the step takes the command off the queue and carries it out. -/
theorem stepRunsTheFrontCommand : Obligations.StepRunsTheFrontCommand := by
  unfold Obligations.StepRunsTheFrontCommand
  intro s c rest h
  rw [step, h]
  rfl

end Sys2Proof.Machine
end

section
/-! PROOFS. The commands of the deadlines: each is queued when its deadline is present and reached, and acts only then. -/

namespace Sys2Proof.Machine

open Sys2Proof

/-! ### Each sort of deadline, as the unit sees it and as the statement gives it -/

theorem isSome_filter_reached {α : Type} (now : Time) (o : Option α) (f : α → Time) :
    (o.filter fun a => reached now (f a)).isSome = due now (o.map f) := by
  cases o with
  | none => rfl
  | some a =>
    rw [Option.filter, Option.map_some]
    cases h : reached now (f a) <;> simp [due, h]

theorem weighDue_isSome (s : State) (b : BlockId) : (s.weighDue b).isSome = s.hasReached (.weighWindowDeadline b) :=
  isSome_filter_reached ..

theorem transitDue_isSome (s : State) (b : BlockId) :
    (s.transitDue b).isSome = ((s.entry b).state == .releasing && due s.timeBase (s.entry b).transit) := by
  have hfilter := isSome_filter_reached s.timeBase (s.entry b).transit id
  rw [Option.map_id_fun, id] at hfilter
  rw [State.transitDue, ← hfilter]
  split
  case isTrue h => rw [beq_iff_eq.mpr h, Bool.true_and]; rfl
  case isFalse h => rw [beq_eq_false_iff_ne.mpr h, Bool.false_and]; rfl

theorem holdableTransitDue_isSome (s : State) (b : BlockId) :
    (s.holdableTransitDue b).isSome = s.hasReached (.holdableTransitDeadline b) := by
  show _ = (s.layout.holdable b && (s.entry b).state == .releasing && due s.timeBase (s.entry b).transit)
  rw [Bool.and_assoc, ← transitDue_isSome, State.holdableTransitDue]
  cases s.layout.holdable b <;> rfl

theorem lostDue_eq (s : State) (b : BlockId) : s.lostDue b = s.hasReached (.lostBoat b) := by
  rw [State.lostDue, transitDue_isSome, ← Bool.and_assoc]
  rfl

theorem slotDue_isSome (s : State) : s.slotDue.isSome = s.hasReached .slotDeadline := isSome_filter_reached ..

theorem travelDue_isSome (s : State) (b : BlockId) : (s.travelDue b).isSome = s.hasReached (.switchTravel b) := by
  rw [State.travelDue, Option.isSome_map]
  exact isSome_filter_reached ..

theorem trapDue_isSome (s : State) (b : BlockId) :
    (s.trapDue b).isSome = due s.timeBase (((s.brake b).bind (·.passage)).bind (·.deadline)) := by
  unfold State.trapDue
  cases (s.brake b).bind (·.passage) with
  | none => rfl
  | some p =>
    rw [Option.bind_some, Option.filter]
    cases due s.timeBase p.deadline <;> rfl

theorem checkDue_isSome (s : State) (c : ChannelId) : (s.checkDue c).isSome = s.hasReached (.checkDeadline c) := by
  show _ = ((s.channel c).owner.isSome && due s.timeBase (s.channel c).check)
  rw [State.checkDue]
  cases due s.timeBase (s.channel c).check
  · exact (Bool.and_false _).symm
  · exact (Bool.and_true _).symm

theorem positionDue_isSome (s : State) (c : ChannelId) : (s.positionDue c).isSome = s.hasReached (.positionDeadline c) := by
  show _ = ((s.channel c).owner.isSome && due s.timeBase (s.channel c).position)
  rw [State.positionDue]
  cases due s.timeBase (s.channel c).position
  · exact (Bool.and_false _).symm
  · exact (Bool.and_true _).symm

theorem hasReached_consent (s : State) (seq : Byte) :
    s.hasReached (.consentDeadline seq) = true ↔ ∃ e ∈ s.dispatch, e.expired s.timeBase = true ∧ e.seq = seq := by
  show (s.dispatch.any fun e => e.seq == seq && e.expired s.timeBase) = true ↔ _
  simp only [List.any_eq_true, Bool.and_eq_true, beq_iff_eq, and_comm]

theorem hasReached_trap (s : State) (b : BlockId) :
    s.hasReached (.trapDeadline b) = ((s.brakeRec b).isSome && (s.trapDue b).isSome) := by
  rw [trapDue_isSome]
  rfl

/-! ### The commands queued -/

theorem mem_map_filter {α : Type} {xs : List α} {p : α → Bool} {f : α → Instr} {c : Instr} (hall : ∀ a, a ∈ xs) :
    c ∈ (xs.filter p).map f ↔ ∃ a, p a = true ∧ f a = c := by
  simp only [List.mem_map, List.mem_filter, hall, true_and]

theorem mem_links (l : Link) : l ∈ ([.a, .b, .s] : List Link) := by cases l <;> decide

/-- The commands queued, by sort of deadline. -/
theorem mem_dueCommands {s : State} {c : Instr} : c ∈ s.dueCommands ↔
    (∃ l, s.hasReached (.supervisionDeadline l) = true ∧ .supervisionDeadline l = c) ∨
    (∃ p, s.hasReached (.inputAcceptance p) = true ∧ .inputAcceptance p = c) ∨
    (∃ b, s.hasReached (.weighWindowDeadline b) = true ∧ .weighWindowDeadline b = c) ∨
    (∃ b, s.hasReached (.holdableTransitDeadline b) = true ∧ .holdableTransitDeadline b = c) ∨
    (∃ b, s.hasReached (.lostBoat b) = true ∧ .lostBoat b = c) ∨
    (∃ b, s.hasReached (.stuckAtBoundary b) = true ∧ .stuckAtBoundary b = c) ∨
    (∃ seq, s.hasReached (.consentDeadline seq) = true ∧ .consentDeadline seq = c) ∨
    (s.hasReached .slotDeadline = true ∧ .slotDeadline = c) ∨
    (∃ b, s.hasReached (.headwayDeadline b) = true ∧ .headwayDeadline b = c) ∨
    (∃ b, s.hasReached (.switchTravel b) = true ∧ .switchTravel b = c) ∨
    (∃ b, s.hasReached (.trapDeadline b) = true ∧ .trapDeadline b = c) ∨
    (∃ b, s.hasReached (.stopDelayDeadline b) = true ∧ .stopDelayDeadline b = c) ∨
    (∃ h, s.hasReached (.pulseDeadline h) = true ∧ .pulseDeadline h = c) ∨
    (∃ h, s.hasReached (.checkDeadline h) = true ∧ .checkDeadline h = c) ∨
    (∃ h, s.hasReached (.positionDeadline h) = true ∧ .positionDeadline h = c) ∨
    (∃ l, s.hasReached (.holdOffDeadline l) = true ∧ .holdOffDeadline l = c) := by
  have hconsent : c ∈ (s.dispatch.filter (·.expired s.timeBase)).map (fun e => .consentDeadline e.seq) ↔
      ∃ seq, s.hasReached (.consentDeadline seq) = true ∧ .consentDeadline seq = c := by
    simp only [List.mem_map, List.mem_filter, hasReached_consent]
    constructor
    · rintro ⟨e, ⟨he, hexpired⟩, rfl⟩
      exact ⟨e.seq, ⟨e, he, hexpired, rfl⟩, rfl⟩
    · rintro ⟨_, ⟨e, he, hexpired, rfl⟩, rfl⟩
      exact ⟨e, ⟨he, hexpired⟩, rfl⟩
  have hslot : c ∈ (if s.slotDue.isSome then [Instr.slotDeadline] else []) ↔
      s.hasReached .slotDeadline = true ∧ .slotDeadline = c := by
    rw [slotDue_isSome]
    cases s.hasReached .slotDeadline <;> simp [eq_comm]
  have hblocks : ∀ b : BlockId, b ∈ allBlocks := List.mem_finRange
  unfold State.dueCommands
  simp only [List.mem_append, or_assoc, hconsent, hslot, mem_map_filter mem_links, mem_map_filter hblocks,
    mem_map_filter (List.mem_finRange (n := 96)), mem_map_filter (List.mem_finRange (n := 32)), weighDue_isSome,
    holdableTransitDue_isSome, lostDue_eq, travelDue_isSome, ← hasReached_trap, checkDue_isSome, positionDue_isSome]
  rfl

theorem mem_dueCommands_iff (s : State) (c : Instr) : c ∈ s.dueCommands ↔ s.hasReached c = true := by
  rw [mem_dueCommands]
  constructor
  · rintro (⟨_, h, rfl⟩ | ⟨_, h, rfl⟩ | ⟨_, h, rfl⟩ | ⟨_, h, rfl⟩ | ⟨_, h, rfl⟩ | ⟨_, h, rfl⟩ | ⟨_, h, rfl⟩ | ⟨h, rfl⟩ |
      ⟨_, h, rfl⟩ | ⟨_, h, rfl⟩ | ⟨_, h, rfl⟩ | ⟨_, h, rfl⟩ | ⟨_, h, rfl⟩ | ⟨_, h, rfl⟩ | ⟨_, h, rfl⟩ | ⟨_, h, rfl⟩)
    all_goals exact h
  · intro h
    cases c
    case supervisionDeadline | inputAcceptance | weighWindowDeadline | holdableTransitDeadline | lostBoat | stuckAtBoundary |
        consentDeadline | slotDeadline | headwayDeadline | switchTravel | trapDeadline | stopDelayDeadline | pulseDeadline |
        checkDeadline | positionDeadline | holdOffDeadline => simp [h]
    all_goals cases h

/-! ### The commands carried out -/

/-- Every command has a meaning in every state. -/
theorem exec_total (c : Instr) (s : State) : ∃ t, exec c s = .next t := by
  cases c <;> exact ⟨_, rfl⟩

theorem consentDue_none {s : State} {seq : Byte} (h : s.hasReached (.consentDeadline seq) = false) :
    s.consentDue seq = none := by
  rw [State.consentDue, Option.filter_eq_none_iff]
  intro e he hexpired
  have hreached : s.hasReached (.consentDeadline seq) = true :=
    (hasReached_consent s seq).mpr ⟨e, List.mem_of_find?_eq_some he, hexpired, entryOfSeq_seq he⟩
  rw [h] at hreached
  cases hreached

theorem eq_none_of_isSome {α : Type} {o : Option α} {v : Bool} (h : o.isSome = v) (hv : v = false) : o = none :=
  Option.isSome_eq_false_iff.mp (h.trans hv) |> Option.isNone_iff_eq_none.mp

/-- A deadline's command changes nothing while the deadline is absent or not reached. -/
theorem exec_not_reached {s : State} {c : Instr} (hc : isDeadline c = true) (h : s.hasReached c = false) :
    exec c s = .next s := by
  have hoff {u : State} {d : Bool} (hd : d = false) : (if d then u else s) = s := by rw [hd]; rfl
  cases c
  case supervisionDeadline l => exact congrArg _ (hoff (d := s.supervisionDue l) h)
  case inputAcceptance p => exact congrArg _ (hoff (d := s.acceptanceDue p) h)
  case weighWindowDeadline b =>
    rw [exec, execWeighWindowDeadline, eq_none_of_isSome (weighDue_isSome s b) h]
  case holdableTransitDeadline b =>
    rw [exec, execHoldableTransitDeadline, eq_none_of_isSome (holdableTransitDue_isSome s b) h]
  case lostBoat b => exact congrArg _ (hoff ((lostDue_eq s b).trans h))
  case stuckAtBoundary b => exact congrArg _ (hoff (d := s.stuckDue b) h)
  case consentDeadline seq => rw [exec, execConsentDeadline, consentDue_none h]
  case slotDeadline => rw [exec, execSlotDeadline, eq_none_of_isSome (slotDue_isSome s) h]
  case headwayDeadline b => exact congrArg _ (hoff (d := s.headwayDue b) h)
  case switchTravel b => rw [exec, execSwitchTravel, eq_none_of_isSome (travelDue_isSome s b) h]
  case trapDeadline b =>
    rw [hasReached_trap, Bool.and_eq_false_iff] at h
    rw [exec, execTrapDeadline]
    obtain hrec | hdue := h
    · rw [eq_none_of_isSome rfl hrec]
    · rw [eq_none_of_isSome rfl hdue]
      cases s.brakeRec b <;> rfl
  case stopDelayDeadline b => exact congrArg _ (hoff (d := s.stopDelayDue b) h)
  case pulseDeadline c => exact congrArg _ (hoff (d := s.pulseDue c) h)
  case checkDeadline c => rw [exec, execCheckDeadline, eq_none_of_isSome (checkDue_isSome s c) h]
  case positionDeadline c => rw [exec, execPositionDeadline, eq_none_of_isSome (positionDue_isSome s c) h]
  case holdOffDeadline l => exact congrArg _ (hoff (d := s.holdOffDue l) h)
  all_goals cases hc

theorem step_idle {s : State} (h : s.pending = []) : step s = .next s.tick := by
  rw [step, h]

/-- Settles O2: the queue is filled with the deadlines reached, whose commands look at the same deadlines again. -/
theorem timeRunsAndEveryCommandIsCarriedOut : Obligations.TimeRunsAndEveryCommandIsCarriedOut := by
  unfold Obligations.TimeRunsAndEveryCommandIsCarriedOut
  refine ⟨fun s hidle => ⟨fun hnone => ?_, fun hsome => ?_⟩, mem_dueCommands_iff, exec_total, fun s c => exec_not_reached⟩
  · rw [step_idle hidle, State.tick, hnone]
  · rw [step_idle hidle, State.tick]
    split
    case h_1 hnil => exact absurd hnil hsome
    case h_2 => rfl

end Sys2Proof.Machine
end

section
/-! PROOFS. The checks of a request in their order, and owners that refuse. -/

namespace Sys2Proof.Machine

open Sys2Proof

/-! ### Owners that refuse change nothing (R212) -/

/-- A refusal leaves the state; MISMATCH is none. -/
structure RefusalKeeps (s : State) (r : Reply × State) : Prop where
  state : r.1.status ≠ .ok → r.1.status ≠ .pending → r.1.status ≠ .mismatch → r.2 = s

theorem RefusalKeeps.ok {s : State} {r : Reply × State} (h : r.1.status = .ok) : RefusalKeeps s r :=
  ⟨fun hok => absurd h hok⟩

theorem RefusalKeeps.pending {s : State} {r : Reply × State} (h : r.1.status = .pending) : RefusalKeeps s r :=
  ⟨fun _ hpending => absurd h hpending⟩

theorem RefusalKeeps.mismatch {s : State} {r : Reply × State} (h : r.1.status = .mismatch) : RefusalKeeps s r :=
  ⟨fun _ _ hmismatch => absurd h hmismatch⟩

theorem RefusalKeeps.same {s : State} (r : Reply) : RefusalKeeps s (r, s) := ⟨fun _ _ _ => rfl⟩

theorem decideSlot_keeps (s : State) (l : ControlLink) (m : ModeReq) (g : Option Nat) :
    RefusalKeeps s (s.decideSlot l m g) := by
  unfold State.decideSlot
  split
  · exact .pending rfl
  · dsimp only
    split
    · split <;> exact .pending rfl
    · split
      · exact .ok rfl
      · exact .mismatch rfl

theorem modeRequest_keeps (s : State) (l : Link) (m : ModeReq) (g : Option Nat) : RefusalKeeps s (s.modeRequest l m g) := by
  unfold State.modeRequest
  split
  · exact .same _
  · exact .same _
  · exact decideSlot_keeps ..

theorem holdRequest_keeps (s : State) : RefusalKeeps s s.holdRequest := by
  unfold State.holdRequest
  split <;> exact .ok rfl

theorem haltRequest_keeps (s : State) : RefusalKeeps s s.haltRequest := by
  unfold State.haltRequest
  split <;> exact .ok rfl

theorem verifyClear_keeps (s : State) (b : BlockId) : RefusalKeeps s (s.verifyClear b) := by
  unfold State.verifyClear
  split
  · exact .ok rfl
  · exact .same _
  · exact .same _

theorem placeBoat_keeps (s : State) (x : BoatId) (b : BlockId) (guests : Bool) :
    RefusalKeeps s (s.placeBoat x b guests) := by
  unfold State.placeBoat
  split
  · exact .same _
  · split
    · exact .ok rfl
    · exact .same _

theorem removeBoat_keeps (s : State) (x : BoatId) : RefusalKeeps s (s.removeBoat x) := by
  unfold State.removeBoat
  split
  · exact .same _
  · exact .same _
  · exact .ok rfl

theorem restoreBlock_keeps (s : State) (b : BlockId) : RefusalKeeps s (s.restoreBlock b) := by
  unfold State.restoreBlock
  split
  · exact .ok rfl
  · exact .same _

theorem setService_keeps (s : State) (b : BlockId) (into : Bool) : RefusalKeeps s (s.setService b into) := by
  unfold State.setService
  split
  · unfold State.putIn
    split
    · exact .same _
    · split
      · exact .ok rfl
      · exact .same _
  · unfold State.takeOut
    split
    · exact .ok rfl
    · exact .ok rfl
    · exact .same _
    · exact .same _

theorem enroll_keeps (s : State) (x : BoatId) (code tare : Nat) : RefusalKeeps s (s.enroll x code tare) := by
  unfold State.enroll
  split
  · exact .same _
  · split
    · exact .same _
    · exact .ok rfl

theorem retire_keeps (s : State) (x : BoatId) : RefusalKeeps s (s.retire x) := by
  unfold State.retire
  split
  · exact .ok rfl
  · exact .same _

theorem setRoute_keeps (s : State) (x : BoatId) (r : Route) : RefusalKeeps s (s.setRoute x r) := by
  unfold State.setRoute
  split
  · exact .same _
  · exact .ok rfl

theorem setExpedite_keeps (s : State) (x : BoatId) (v : Bool) : RefusalKeeps s (s.setExpedite x v) := by
  unfold State.setExpedite
  split
  · exact .same _
  · exact .ok rfl

theorem clearCheck_keeps (s : State) (x : BoatId) : RefusalKeeps s (s.clearCheck x) := by
  unfold State.clearCheck
  split
  · exact .same _
  · exact .ok rfl

theorem declare_keeps (s : State) (b : BlockId) (p : Phase) (k : WeighKind) : RefusalKeeps s (s.declare b p k) := by
  unfold State.declare
  split
  · exact .same _
  split
  · exact .same _
  split
  · exact .same _
  split
  · exact .ok rfl
  · exact .same _

theorem dispatchRequest_keeps (s : State) (b : BlockId) (afterPrevious : Bool) :
    RefusalKeeps s (s.dispatchRequest b afterPrevious) := by
  unfold State.dispatchRequest
  split
  · exact .same _
  · exact .same _
  · exact .same _
  split
  · exact .same _
  split
  · exact .same _
  split
  · exact .same _
  · exact .ok rfl

theorem cancelRequest_keeps (s : State) (l : Link) (seq : Byte) : RefusalKeeps s (s.cancelRequest l seq) := by
  unfold State.cancelRequest
  split
  · exact .same _
  · exact .ok rfl

theorem consentRequest_keeps (s : State) (l : Link) (seq : Byte) : RefusalKeeps s (s.consentRequest l seq) := by
  unfold State.consentRequest
  split
  · exact .same _
  · exact .same _
  · unfold State.consentTo
    split
    · exact .same _
    · exact .ok rfl

theorem denyRequest_keeps (s : State) (l : Link) (seq : Byte) : RefusalKeeps s (s.denyRequest l seq) := by
  unfold State.denyRequest
  split
  · exact .same _
  · exact .same _
  · exact .ok rfl

theorem stepRequest_keeps (s : State) (b : BlockId) : RefusalKeeps s (s.stepRequest b) := by
  unfold State.stepRequest
  split
  · exact .same _
  split
  · exact .same _
  split
  · exact .same _
  split
  · exact .same _
  split
  · exact .same _
  · exact .ok rfl

theorem clearZone_keeps (s : State) (b : BlockId) : RefusalKeeps s (s.clearZone b) := by
  unfold State.clearZone
  split
  · exact .same _
  · exact .ok rfl

theorem own_keeps (s : State) (l : Link) (c : Call) : RefusalKeeps s (s.own l c) := by
  cases c with
  | modeRequest m g => exact modeRequest_keeps ..
  | hold => exact holdRequest_keeps ..
  | halt => exact haltRequest_keeps ..
  | verifyClear => exact verifyClear_keeps ..
  | placeBoat => exact placeBoat_keeps ..
  | removeBoat => exact removeBoat_keeps ..
  | restoreBlock => exact restoreBlock_keeps ..
  | setService => exact setService_keeps ..
  | enroll => exact enroll_keeps ..
  | retire => exact retire_keeps ..
  | setRoute => exact setRoute_keeps ..
  | setExpedite => exact setExpedite_keeps ..
  | clearCheck => exact clearCheck_keeps ..
  | unloaded | loaded => exact declare_keeps ..
  | dispatch => exact dispatchRequest_keeps ..
  | cancel => exact cancelRequest_keeps ..
  | consent => exact consentRequest_keeps ..
  | deny => exact denyRequest_keeps ..
  | step => exact stepRequest_keeps ..
  | clearZone => exact clearZone_keeps ..
  | readLayout | readStatus | readBlock | readBoat | readQueue | readCounters => exact .same _
  | writeBlock | writeMerge | writeSettings | writeWindow | writePoint | clearFault | readReports | clearCounters |
      setAttention => exact .ok rfl

/-! ### The checks (R212) -/

theorem decide_role {s : State} {l : Link} {r : Req} (h : roleAllows l r = false) (args : List Byte) :
    s.decide l r args = (.bare .notPermitted, s) := by
  rw [State.decide, if_pos h]

theorem decide_argument {s : State} {l : Link} {r : Req} {args : List Byte} {o : Option Nat} (hrole : roleAllows l r = true)
    (h : readArgs r args = .error o) : s.decide l r args = (badArgument o, s) := by
  rw [State.decide, if_neg (by rw [hrole]; decide), h]

theorem decide_mode {s : State} {l : Link} {r : Req} {args : List Byte} {c : Call} (hrole : roleAllows l r = true)
    (hargs : readArgs r args = .ok c) (h : takenIn r s.mode = false) : s.decide l r args = (.bare .mode, s) := by
  rw [State.decide, if_neg (by rw [hrole]; decide), hargs]
  exact if_pos h

theorem decide_window {s : State} {l : Link} {r : Req} {args : List Byte} {c : Call} (hrole : roleAllows l r = true)
    (hargs : readArgs r args = .ok c) (hmode : takenIn r s.mode = true) (h : s.inWindow l c = false) :
    s.decide l r args = (.bare .window, s) := by
  rw [State.decide, if_neg (by rw [hrole]; decide), hargs]
  exact (if_neg (by rw [hmode]; decide)).trans (if_pos h)

/-- A request put while a response of its link is being sent waits in the queue, which holds 2 (R203, R208). -/
theorem enqueue_room {s : State} {l : Link} (f : Frame) (h : (s.port l).queue.length < 2) :
    s.enqueue l f = s.setPort l { s.port l with queue := (s.port l).queue ++ [f] } := by
  have hready : (s.port l).ready = true := decide_eq_true h
  rw [State.enqueue]
  exact if_pos hready

theorem enqueue_full {s : State} {l : Link} (f : Frame) (h : 2 ≤ (s.port l).queue.length) : s.enqueue l f = s := by
  have hready : ¬ (s.port l).ready = true := by
    rw [LinkPort.ready, decide_eq_true_eq]
    exact Nat.not_lt.mpr h
  rw [State.enqueue]
  exact if_neg hready

theorem present_busy {s : State} {l : Link} (h : (s.port l).sending ≠ none) (r : Req) (tag : Byte) (args : List Byte) :
    s.present l r tag args = s.enqueue l { code := BitVec.ofNat 8 r.code, tag, args } := by
  rw [State.present, if_neg (by rwa [Option.isNone_iff_eq_none])]

theorem presentUnknown_busy {s : State} {l : Link} (h : (s.port l).sending ≠ none) (code tag : Byte) (args : List Byte) :
    s.presentUnknown l code tag args = s.enqueue l { code, tag, args } := by
  rw [State.presentUnknown, if_neg (by rwa [Option.isNone_iff_eq_none])]

theorem presentUnknown_idle {s : State} {l : Link} {code : Byte} (h : (s.port l).sending = none)
    (hcode : Req.ofCode code.toNat = none) (tag : Byte) (args : List Byte) :
    s.presentUnknown l code tag args = s.sends l code tag .unknownRequest [] := by
  rw [State.presentUnknown, if_pos (by rw [h]; rfl), State.serveFrame]
  dsimp only
  rw [hcode]
  rfl

/-- Settles O4: the checks follow each other in `State.decide`, and each owner changes the state only where it accepts. -/
theorem requestsPassTheChecksInOrder : Obligations.RequestsPassTheChecksInOrder := by
  unfold Obligations.RequestsPassTheChecksInOrder
  refine ⟨fun s l r tag args hidle => ⟨fun hrole => ?_, fun hrole => ⟨fun hargs => ?_, fun i hargs => ?_, fun c hargs =>
    ⟨fun hmode => ?_, fun hmode hwindow => ?_, fun hmode hwindow => ?_, (own_keeps s l c).state⟩⟩⟩,
    fun s l code tag args hformed hidle => ?_, fun s l tag args hbusy => ⟨fun r => ⟨fun hroom => ?_, fun hfull => ?_⟩,
    fun code => ⟨fun hroom => ?_, fun hfull => ?_⟩⟩⟩
  · rw [exec_idle hidle, decide_role hrole]
    rfl
  · rw [exec_idle hidle, decide_argument hrole hargs]
    rfl
  · rw [exec_idle hidle, decide_argument hrole hargs]
    rfl
  · rw [exec_idle hidle, decide_mode hrole hargs hmode]
    rfl
  · rw [exec_idle hidle, decide_window hrole hargs hmode hwindow]
    rfl
  · rw [exec_idle hidle, decide_own hrole hargs hmode hwindow]
  · simp only [Instr.wellFormed, Bool.and_eq_true, Option.isNone_iff_eq_none] at hformed
    exact congrArg _ (presentUnknown_idle hidle hformed.2 tag args)
  · rw [exec_requestCommand, present_busy hbusy, enqueue_room _ hroom]
  · rw [exec_requestCommand, present_busy hbusy, enqueue_full _ hfull]
  · exact congrArg _ ((presentUnknown_busy hbusy code tag args).trans (enqueue_room _ hroom))
  · exact congrArg _ ((presentUnknown_busy hbusy code tag args).trans (enqueue_full _ hfull))

end Sys2Proof.Machine
end

section
/-! PROOFS. The bytes of a layout record are read back as the record. -/

namespace Sys2Proof.Machine

open Sys2Proof

/-! ### Numbers in bytes -/

theorem fin_mod {n : Nat} (hn : n ≤ 256) (x : Fin n) : x.val % 256 = x.val := Nat.mod_eq_of_lt (Nat.lt_of_lt_of_le x.isLt hn)

theorem fin_ofNat_val {n : Nat} [NeZero n] (x : Fin n) : Fin.ofNat n x.val = x := by
  apply Fin.ext
  exact Nat.mod_eq_of_lt x.isLt

/-- Two bytes carry a number below 65536. -/
theorem arg2_of_bytes {args : List Byte} {i v : Nat} (hv : v < 65536) (h0 : arg1 args i = v / 256 % 256)
    (h1 : arg1 args (i + 1) = v % 256) : arg2 args i = v := by
  rw [arg2, h0, h1]
  omega

/-! ### The sections of a block record in its bytes (R15) -/

/-- The fields of every kind stand in the bytes. -/
structure ReadsCommon (args : List Byte) (r : BlockRecord) : Prop where
  inService : arg1 args 2 = r.inService.toNat
  mainSuccessor : arg1 args 3 = r.mainSuccessor.val
  mainEye : arg1 args 5 = r.mainEye.val
  tagPort : arg1 args 7 = (r.tagPort.map (·.val)).getD 255
  transitLimit : arg2 args 12 = r.transitLimit
  clearanceLimit : arg2 args 14 = r.clearanceLimit

structure ReadsDrive (args : List Byte) (d : DriveSection) : Prop where
  channel : arg1 args 8 = d.channel.val
  feedback : arg1 args 9 = (d.feedback.map (·.val)).getD 255
  checkTime : arg2 args 16 = d.checkTime

structure ReadsBrake (args : List Byte) (k : BrakeSection) : Prop where
  eye1 : arg1 args 25 = k.eye1.val
  eye2 : arg1 args 26 = k.eye2.val
  trapLength : arg2 args 27 = k.trapLength
  targetSpeed : arg2 args 29 = k.targetSpeed
  brakeLength : arg2 args 31 = k.brakeLength
  forceStep : arg2 args 33 = k.forceStep
  idleLevel : arg1 args 35 = k.idleLevel
  minimumLevel : arg1 args 36 = k.minimumLevel
  trapTimeout : arg2 args 37 = k.trapTimeout
  zoneMode : arg1 args 41 = k.zoneMode.code

structure ReadsBay (args : List Byte) (y : BaySection) : Prop where
  role : arg1 args 42 = y.role.code
  frontCell : arg1 args 43 = y.frontCell.val
  rearCell : arg1 args 44 = y.rearCell.val
  maxLoad : arg2 args 45 = y.maxLoad

structure ReadsLaunch (args : List Byte) (y : LaunchSection) : Prop where
  headway : arg1 args 19 = y.headway
  kickRetries : arg1 args 20 = y.kickRetries
  kickPulse : arg2 args 21 = y.kickPulse

structure ReadsSwitch (args : List Byte) (y : SwitchSection) : Prop where
  spurSuccessor : arg1 args 4 = y.spurSuccessor.val
  spurEye : arg1 args 6 = y.spurEye.val
  mainPosition : arg1 args 10 = y.mainPosition.val
  spurPosition : arg1 args 11 = y.spurPosition.val
  travelLimit : arg2 args 23 = y.travelLimit

/-- The fields of a record's kind stand in the bytes. -/
def ReadsFields (args : List Byte) : KindFields → Prop
  | .bay d y => ReadsDrive args d ∧ ReadsBay args y
  | .queue d park => ReadsDrive args d ∧ arg1 args 18 = park.toNat
  | .launch d y => ReadsDrive args d ∧ ReadsLaunch args y
  | .lift d => ReadsDrive args d
  | .run => True
  | .trim d k => ReadsDrive args d ∧ ReadsBrake args k
  | .runout d k delay => ReadsDrive args d ∧ ReadsBrake args k ∧ arg2 args 39 = delay
  | .switch d y => ReadsDrive args d ∧ ReadsSwitch args y

/-! ### A record from bytes that carry its sections -/

theorem ReadsDrive.driveOf_eq {args : List Byte} {d : DriveSection} (h : ReadsDrive args d) : driveOf args = d := by
  rw [driveOf, h.channel, h.checkTime, optFin_eq (by decide) h.feedback, fin_ofNat_val]

theorem ReadsBrake.brakeOf_eq {args : List Byte} {k : BrakeSection} (h : ReadsBrake args k) : brakeOf args = k := by
  have hzone : ZoneMode.ofCode k.zoneMode.code = k.zoneMode := by cases k.zoneMode <;> rfl
  rw [brakeOf, h.eye1, h.eye2, h.trapLength, h.targetSpeed, h.brakeLength, h.forceStep, h.idleLevel, h.minimumLevel,
    h.trapTimeout, h.zoneMode, hzone, fin_ofNat_val, fin_ofNat_val]

theorem toNat_beq_one (v : Bool) : (v.toNat == 1) = v := by cases v <;> rfl

theorem kindFieldsOf_reads {args : List Byte} {r : BlockRecord} (h : ReadsFields args r.fields) :
    kindFieldsOf r.kind args = r.fields := by
  unfold BlockRecord.kind
  cases hf : r.fields with
  | bay d y =>
    rw [hf] at h
    obtain ⟨hd, hy⟩ := h
    have hrole : BayRole.ofCode y.role.code = y.role := by cases y.role <;> rfl
    simp only [kindFieldsOf, hd.driveOf_eq, hy.role, hy.frontCell, hy.rearCell, hy.maxLoad, hrole, fin_ofNat_val]
  | queue d park =>
    rw [hf] at h
    simp only [kindFieldsOf, h.1.driveOf_eq, h.2, toNat_beq_one]
  | launch d y =>
    rw [hf] at h
    obtain ⟨hd, hy⟩ := h
    simp only [kindFieldsOf, hd.driveOf_eq, hy.headway, hy.kickRetries, hy.kickPulse]
  | lift d =>
    rw [hf] at h
    have hd : ReadsDrive args d := h
    simp only [kindFieldsOf, hd.driveOf_eq]
  | run => rfl
  | trim d k =>
    rw [hf] at h
    simp only [kindFieldsOf, h.1.driveOf_eq, h.2.brakeOf_eq]
  | runout d k delay =>
    rw [hf] at h
    obtain ⟨hd, hk, hdelay⟩ := h
    simp only [kindFieldsOf, hd.driveOf_eq, hk.brakeOf_eq, hdelay]
  | switch d y =>
    rw [hf] at h
    obtain ⟨hd, hy⟩ := h
    simp only [kindFieldsOf, hd.driveOf_eq, hy.spurSuccessor, hy.spurEye, hy.mainPosition, hy.spurPosition, hy.travelLimit,
      fin_ofNat_val]

theorem recordOf_reads {args : List Byte} {r : BlockRecord} (hc : ReadsCommon args r) (hf : ReadsFields args r.fields) :
    recordOf r.kind args = r := by
  rw [recordOf, kindFieldsOf_reads hf, hc.inService, hc.mainSuccessor, hc.mainEye, optFin_eq (by decide) hc.tagPort,
    hc.transitLimit, hc.clearanceLimit, toNat_beq_one, fin_ofNat_val, fin_ofNat_val]

/-! ### The bytes of a record carry its sections -/

theorem recordBytes_common {r : BlockRecord} (b : BlockId) (h : r.inRange = true) : ReadsCommon (recordBytes b r) r := by
  obtain ⟨-, -, -, h2, h3, -, h5, -, h7, -, -, -, -, h12, h13, h14, h15, -⟩ := recordBytes_at b r
  simp only [BlockRecord.inRange, Bool.and_eq_true, decide_eq_true_eq] at h
  refine ⟨by rw [h2, boolNat_mod], by rw [h3, fin_mod (by decide)], by rw [h5, fin_mod (by decide)], ?_,
    arg2_of_bytes (by omega) h12 h13, arg2_of_bytes (by omega) h14 h15⟩
  rw [h7, optVal_mod (by decide)]

theorem recordBytes_drive {r : BlockRecord} {d : DriveSection} (b : BlockId) (hd : r.drive = some d)
    (h : d.inRange = true) : ReadsDrive (recordBytes b r) d := by
  obtain ⟨-, -, -, -, -, -, -, -, -, h8, h9, -, -, -, -, -, -, h16, h17, -⟩ := recordBytes_at b r
  rw [hd] at h8 h9 h16 h17
  simp only [DriveSection.inRange, Bool.and_eq_true, decide_eq_true_eq] at h
  refine ⟨h8.trans (fin_mod (by decide) _), h9.trans (optVal_mod (by decide) _), arg2_of_bytes (by omega) h16 h17⟩

theorem recordBytes_brake {r : BlockRecord} {k : BrakeSection} (b : BlockId) (hk : r.brake = some k)
    (h : k.inRange = true) : ReadsBrake (recordBytes b r) k := by
  obtain ⟨-, -, -, -, -, -, -, -, -, -, -, -, -, -, -, -, -, -, -, -, -, -, -, -, -, -, h25, h26, h27, h28, h29, h30, h31, h32,
    h33, h34, h35, h36, h37, h38, -, -, h41, -⟩ := recordBytes_at b r
  rw [hk] at h25 h26 h27 h28 h29 h30 h31 h32 h33 h34 h35 h36 h37 h38 h41
  simp only [BrakeSection.inRange, Bool.and_eq_true, decide_eq_true_eq] at h
  have hzone : k.zoneMode.code % 256 = k.zoneMode.code := by cases k.zoneMode <;> rfl
  have hbyte {n : Nat} (hn : n ≤ 15) : n % 256 = n := by omega
  exact ⟨h25.trans (fin_mod (by decide) _), h26.trans (fin_mod (by decide) _), arg2_of_bytes (by omega) h27 h28,
    arg2_of_bytes (by omega) h29 h30, arg2_of_bytes (by omega) h31 h32, arg2_of_bytes (by omega) h33 h34,
    h35.trans (hbyte (n := k.idleLevel) (by omega)), h36.trans (hbyte (n := k.minimumLevel) (by omega)), arg2_of_bytes (by omega) h37 h38, h41.trans hzone⟩

theorem recordBytes_bay {r : BlockRecord} {y : BaySection} (b : BlockId) (hy : r.bay = some y) (h : y.maxLoad ≤ 1500) :
    ReadsBay (recordBytes b r) y := by
  obtain ⟨-, -, -, -, -, -, -, -, -, -, -, -, -, -, -, -, -, -, -, -, -, -, -, -, -, -, -, -, -, -, -, -, -, -, -, -, -, -, -, -, -,
    -, -, h42, h43, h44, h45, h46⟩ := recordBytes_at b r
  rw [hy] at h42 h43 h44 h45 h46
  have hrole : y.role.code % 256 = y.role.code := by cases y.role <;> rfl
  exact ⟨h42.trans hrole, h43.trans (fin_mod (by decide) _), h44.trans (fin_mod (by decide) _),
    arg2_of_bytes (by omega) h45 h46⟩

theorem recordBytes_launch {r : BlockRecord} {y : LaunchSection} (b : BlockId) (hy : r.launch = some y)
    (h : y.headway ≤ 120 ∧ y.kickRetries ≤ 3 ∧ y.kickPulse ≤ 2000) : ReadsLaunch (recordBytes b r) y := by
  obtain ⟨-, -, -, -, -, -, -, -, -, -, -, -, -, -, -, -, -, -, -, -, h19, h20, h21, h22, -⟩ := recordBytes_at b r
  rw [hy] at h19 h20 h21 h22
  exact ⟨h19.trans (Nat.mod_eq_of_lt (a := y.headway) (by omega)),
    h20.trans (Nat.mod_eq_of_lt (a := y.kickRetries) (by omega)), arg2_of_bytes (by omega) h21 h22⟩

theorem recordBytes_switch {r : BlockRecord} {y : SwitchSection} (b : BlockId) (hy : r.switch = some y)
    (h : y.travelLimit ≤ 10000) : ReadsSwitch (recordBytes b r) y := by
  obtain ⟨-, -, -, -, -, h4, -, h6, -, -, -, h10, h11, -, -, -, -, -, -, -, -, -, -, -, h23, h24, -⟩ := recordBytes_at b r
  rw [hy] at h4 h6 h10 h11 h23 h24
  exact ⟨h4.trans (fin_mod (by decide) _), h6.trans (fin_mod (by decide) _), h10.trans (fin_mod (by decide) _),
    h11.trans (fin_mod (by decide) _), arg2_of_bytes (by omega) h23 h24⟩

theorem recordBytes_park (b : BlockId) (r : BlockRecord) : arg1 (recordBytes b r) 18 = r.park.toNat := by
  obtain ⟨-, -, -, -, -, -, -, -, -, -, -, -, -, -, -, -, -, -, -, h18, -⟩ := recordBytes_at b r
  rw [h18, boolNat_mod]

theorem recordBytes_stopDelay {r : BlockRecord} {delay : Nat} (b : BlockId) (hr : r.stopDelay = some delay)
    (h : delay ≤ 5000) : arg2 (recordBytes b r) 39 = delay := by
  obtain ⟨-, -, -, -, -, -, -, -, -, -, -, -, -, -, -, -, -, -, -, -, -, -, -, -, -, -, -, -, -, -, -, -, -, -, -, -, -, -, -, -, h39,
    h40, -⟩ := recordBytes_at b r
  rw [hr] at h39 h40
  exact arg2_of_bytes (by omega) h39 h40

theorem recordBytes_fields {r : BlockRecord} (b : BlockId) (h : r.inRange = true) :
    ReadsFields (recordBytes b r) r.fields := by
  have hfields : r.fields.inRange = true := (Bool.and_eq_true_iff.mp h).2
  cases hf : r.fields with
  | bay d y =>
    simp only [hf, KindFields.inRange, Bool.and_eq_true, decide_eq_true_eq] at hfields
    exact ⟨recordBytes_drive b (by rw [BlockRecord.drive, hf]) hfields.1.1,
      recordBytes_bay b (by rw [BlockRecord.bay, hf]) hfields.2⟩
  | queue d park =>
    rw [hf] at hfields
    exact ⟨recordBytes_drive b (by rw [BlockRecord.drive, hf]) hfields,
      (recordBytes_park b r).trans (by rw [BlockRecord.park, hf])⟩
  | launch d y =>
    simp only [hf, KindFields.inRange, Bool.and_eq_true, decide_eq_true_eq] at hfields
    obtain ⟨⟨⟨⟨⟨hd, -⟩, hheadway⟩, hretries⟩, -⟩, hpulse⟩ := hfields
    exact ⟨recordBytes_drive b (by rw [BlockRecord.drive, hf]) hd,
      recordBytes_launch b (by rw [BlockRecord.launch, hf]) ⟨hheadway, hretries, hpulse⟩⟩
  | lift d =>
    rw [hf] at hfields
    exact recordBytes_drive b (by rw [BlockRecord.drive, hf]) hfields
  | run => exact trivial
  | trim d k =>
    rw [hf, KindFields.inRange, Bool.and_eq_true] at hfields
    exact ⟨recordBytes_drive b (by rw [BlockRecord.drive, hf]) hfields.1,
      recordBytes_brake b (by rw [BlockRecord.brake, hf]) hfields.2⟩
  | runout d k delay =>
    simp only [hf, KindFields.inRange, Bool.and_eq_true, decide_eq_true_eq] at hfields
    obtain ⟨⟨hd, hk⟩, hdelay⟩ := hfields
    exact ⟨recordBytes_drive b (by rw [BlockRecord.drive, hf]) hd, recordBytes_brake b (by rw [BlockRecord.brake, hf]) hk,
      recordBytes_stopDelay b (by rw [BlockRecord.stopDelay, hf]) hdelay⟩
  | switch d y =>
    simp only [hf, KindFields.inRange, Bool.and_eq_true, decide_eq_true_eq] at hfields
    exact ⟨recordBytes_drive b (by rw [BlockRecord.drive, hf]) hfields.1.1,
      recordBytes_switch b (by rw [BlockRecord.switch, hf]) hfields.2⟩

/-! ### Fields in range (R16) -/

theorem accepts_byte {args : List Byte} {offset v lo hi : Nat} {applies : Kind → Bool} (h : arg1 args offset = v)
    (hv : lo ≤ v ∧ v ≤ hi) : (required offset false lo hi applies).accepts args = true := by
  simp [FieldRange.accepts, FieldRange.value, required, h, hv]

theorem accepts_word {args : List Byte} {offset v lo hi : Nat} {applies : Kind → Bool} (h : arg2 args offset = v)
    (hv : lo ≤ v ∧ v ≤ hi) : (required offset true lo hi applies).accepts args = true := by
  simp [FieldRange.accepts, FieldRange.value, required, h, hv]

theorem accepts_fin {args : List Byte} {offset n : Nat} {applies : Kind → Bool} {x : Fin (n + 1)}
    (h : arg1 args offset = x.val) : (required offset false 0 n applies).accepts args = true :=
  accepts_byte h ⟨Nat.zero_le _, Nat.le_of_lt_succ x.isLt⟩

theorem accepts_optional {args : List Byte} {offset n : Nat} {applies : Kind → Bool} {o : Option (Fin (n + 1))}
    (h : arg1 args offset = (o.map (·.val)).getD 255) : (optionalByte offset n applies).accepts args = true := by
  cases o with
  | none => simp [FieldRange.accepts, FieldRange.value, optionalByte, h]
  | some x =>
    have hx : x.val ≤ n := Nat.le_of_lt_succ x.isLt
    simp [FieldRange.accepts, FieldRange.value, optionalByte, h, hx]

/-- Each section that a record's kind has is in range and stands in the bytes. -/
theorem drive_of_hasDrive {args : List Byte} {r : BlockRecord} (hf : ReadsFields args r.fields)
    (h : r.fields.inRange = true) (hk : hasDrive r.kind = true) : ∃ d, ReadsDrive args d ∧ d.inRange = true := by
  unfold BlockRecord.kind at hk
  cases hr : r.fields with
  | run => rw [hr] at hk; cases hk
  | lift d => rw [hr] at hf h; exact ⟨d, hf, h⟩
  | queue d park => rw [hr] at hf h; exact ⟨d, hf.1, h⟩
  | bay d y | launch d y | trim d k | runout d k delay | switch d y =>
    rw [hr] at hf h
    simp only [KindFields.inRange, Bool.and_eq_true, and_assoc] at h
    exact ⟨d, hf.1, h.1⟩

theorem brake_of_isBrakeKind {args : List Byte} {r : BlockRecord} (hf : ReadsFields args r.fields)
    (h : r.fields.inRange = true) (hk : isBrakeKind r.kind = true) : ∃ k, ReadsBrake args k ∧ k.inRange = true := by
  unfold BlockRecord.kind at hk
  cases hr : r.fields with
  | trim d k =>
    rw [hr] at hf h
    exact ⟨k, hf.2, (Bool.and_eq_true_iff.mp h).2⟩
  | runout d k delay =>
    rw [hr] at hf h
    simp only [KindFields.inRange, Bool.and_eq_true] at h
    exact ⟨k, hf.2.1, h.1.2⟩
  | bay | queue | launch | lift | run | switch => rw [hr] at hk; cases hk

theorem bay_of_kind {args : List Byte} {r : BlockRecord} (hf : ReadsFields args r.fields) (h : r.fields.inRange = true)
    (hk : (r.kind == .bay) = true) : ∃ y, ReadsBay args y ∧ 100 ≤ y.maxLoad ∧ y.maxLoad ≤ 1500 := by
  unfold BlockRecord.kind at hk
  cases hr : r.fields with
  | bay d y =>
    rw [hr] at hf h
    simp only [KindFields.inRange, Bool.and_eq_true, decide_eq_true_eq] at h
    exact ⟨y, hf.2, h.1.2, h.2⟩
  | queue | launch | lift | run | trim | runout | switch => rw [hr] at hk; cases hk

theorem launch_of_kind {args : List Byte} {r : BlockRecord} (hf : ReadsFields args r.fields) (h : r.fields.inRange = true)
    (hk : (r.kind == .launch) = true) : ∃ y, ReadsLaunch args y ∧ (5 ≤ y.headway ∧ y.headway ≤ 120) ∧ y.kickRetries ≤ 3 ∧
      100 ≤ y.kickPulse ∧ y.kickPulse ≤ 2000 := by
  unfold BlockRecord.kind at hk
  cases hr : r.fields with
  | launch d y =>
    rw [hr] at hf h
    simp only [KindFields.inRange, Bool.and_eq_true, decide_eq_true_eq] at h
    obtain ⟨⟨⟨⟨⟨-, hlow⟩, hhigh⟩, hretries⟩, hpulse⟩, hpulse'⟩ := h
    exact ⟨y, hf.2, ⟨hlow, hhigh⟩, hretries, hpulse, hpulse'⟩
  | bay | queue | lift | run | trim | runout | switch => rw [hr] at hk; cases hk

theorem switch_of_kind {args : List Byte} {r : BlockRecord} (hf : ReadsFields args r.fields) (h : r.fields.inRange = true)
    (hk : (r.kind == .switch) = true) : ∃ y, ReadsSwitch args y ∧ 500 ≤ y.travelLimit ∧ y.travelLimit ≤ 10000 := by
  unfold BlockRecord.kind at hk
  cases hr : r.fields with
  | switch d y =>
    rw [hr] at hf h
    simp only [KindFields.inRange, Bool.and_eq_true, decide_eq_true_eq] at h
    exact ⟨y, hf.2, h.1.2, h.2⟩
  | bay | queue | launch | lift | run | trim | runout => rw [hr] at hk; cases hk

theorem park_of_kind {args : List Byte} {r : BlockRecord} (hf : ReadsFields args r.fields)
    (hk : (r.kind == .queue) = true) : arg1 args 18 = r.park.toNat := by
  unfold BlockRecord.kind at hk
  unfold BlockRecord.park
  cases hr : r.fields with
  | queue d park => rw [hr] at hf; exact hf.2
  | bay | launch | lift | run | trim | runout | switch => rw [hr] at hk; cases hk

theorem stopDelay_of_kind {args : List Byte} {r : BlockRecord} (hf : ReadsFields args r.fields) (h : r.fields.inRange = true)
    (hk : (r.kind == .runout) = true) : arg2 args 39 ≤ 5000 := by
  unfold BlockRecord.kind at hk
  cases hr : r.fields with
  | runout d k delay =>
    rw [hr] at hf h
    simp only [KindFields.inRange, Bool.and_eq_true, decide_eq_true_eq] at h
    rw [hf.2.2]
    exact h.2
  | bay | queue | launch | lift | run | trim | switch => rw [hr] at hk; cases hk

theorem toNat_le_one (v : Bool) : 0 ≤ v.toNat ∧ v.toNat ≤ 1 := by cases v <;> decide

theorem blockFields_accept {args : List Byte} {r : BlockRecord} (hc : ReadsCommon args r) (hf : ReadsFields args r.fields)
    (h : r.inRange = true) : ∀ f ∈ blockFields, f.applies r.kind = true → f.accepts args = true := by
  simp only [BlockRecord.inRange, Bool.and_eq_true, decide_eq_true_eq] at h
  obtain ⟨⟨⟨⟨htransit, htransit'⟩, hclearance⟩, hclearance'⟩, hfields⟩ := h
  have hdrive := drive_of_hasDrive hf hfields
  have hbrake := brake_of_isBrakeKind hf hfields
  have hbay := bay_of_kind hf hfields
  have hlaunch := launch_of_kind hf hfields
  have hswitch := switch_of_kind hf hfields
  simp only [BrakeSection.inRange, DriveSection.inRange, Bool.and_eq_true, decide_eq_true_eq] at hdrive hbrake
  unfold blockFields
  simp only [List.forall_mem_cons]
  refine ⟨fun _ => accepts_byte hc.inService (toNat_le_one _), fun _ => accepts_fin hc.mainSuccessor, fun hk => ?_,
    fun _ => accepts_fin hc.mainEye, fun hk => ?_, fun _ => accepts_optional hc.tagPort, fun hk => ?_, fun hk => ?_,
    fun hk => ?_, fun hk => ?_, fun _ => accepts_word hc.transitLimit ⟨htransit, htransit'⟩,
    fun _ => accepts_word hc.clearanceLimit ⟨hclearance, hclearance'⟩, fun hk => ?_,
    fun hk => accepts_byte (park_of_kind hf hk) (toNat_le_one _), fun hk => ?_, fun hk => ?_, fun hk => ?_, fun hk => ?_,
    fun hk => ?_, fun hk => ?_, fun hk => ?_, fun hk => ?_, fun hk => ?_, fun hk => ?_, fun hk => ?_, fun hk => ?_,
    fun hk => ?_, fun hk => accepts_word rfl ⟨Nat.zero_le _, stopDelay_of_kind hf hfields hk⟩, fun hk => ?_, fun hk => ?_,
    fun hk => ?_, fun hk => ?_, fun hk => ?_, fun f hf => absurd hf List.not_mem_nil⟩
  case refine_1 => obtain ⟨y, hy, -⟩ := hswitch hk; exact accepts_fin hy.spurSuccessor
  case refine_2 => obtain ⟨y, hy, -⟩ := hswitch hk; exact accepts_fin hy.spurEye
  case refine_3 => obtain ⟨d, hd, -⟩ := hdrive hk; exact accepts_fin hd.channel
  case refine_4 => obtain ⟨d, hd, -⟩ := hdrive hk; exact accepts_optional hd.feedback
  case refine_5 => obtain ⟨y, hy, -⟩ := hswitch hk; exact accepts_fin hy.mainPosition
  case refine_6 => obtain ⟨y, hy, -⟩ := hswitch hk; exact accepts_fin hy.spurPosition
  case refine_7 => obtain ⟨d, hd, htime⟩ := hdrive hk; exact accepts_word hd.checkTime htime
  case refine_8 => obtain ⟨y, hy, hheadway, -⟩ := hlaunch hk; exact accepts_byte hy.headway hheadway
  case refine_9 => obtain ⟨y, hy, -, hretries, -⟩ := hlaunch hk; exact accepts_byte hy.kickRetries ⟨Nat.zero_le _, hretries⟩
  case refine_10 => obtain ⟨y, hy, -, -, hpulse⟩ := hlaunch hk; exact accepts_word hy.kickPulse hpulse
  case refine_11 => obtain ⟨y, hy, htravel⟩ := hswitch hk; exact accepts_word hy.travelLimit htravel
  case refine_21 =>
    obtain ⟨k, hk, -⟩ := hbrake hk
    refine accepts_byte hk.zoneMode ?_
    cases k.zoneMode <;> decide
  case refine_22 =>
    obtain ⟨y, hy, -⟩ := hbay hk
    refine accepts_byte hy.role ?_
    cases y.role <;> decide
  case refine_23 => obtain ⟨y, hy, -⟩ := hbay hk; exact accepts_fin hy.frontCell
  case refine_24 => obtain ⟨y, hy, -⟩ := hbay hk; exact accepts_fin hy.rearCell
  case refine_25 => obtain ⟨y, hy, hload⟩ := hbay hk; exact accepts_word hy.maxLoad hload
  all_goals obtain ⟨k, hk, hrange⟩ := hbrake hk
  case refine_12 => exact accepts_fin hk.eye1
  case refine_13 => exact accepts_fin hk.eye2
  case refine_14 => exact accepts_word hk.trapLength (by omega)
  case refine_15 => exact accepts_word hk.targetSpeed (by omega)
  case refine_16 => exact accepts_word hk.brakeLength (by omega)
  case refine_17 => exact accepts_word hk.forceStep (by omega)
  case refine_18 => exact accepts_byte hk.idleLevel (by omega)
  case refine_19 => exact accepts_byte hk.minimumLevel (by omega)
  case refine_20 => exact accepts_word hk.trapTimeout (by omega)

theorem firstBadField_none {args : List Byte} {r : BlockRecord} (hc : ReadsCommon args r) (hf : ReadsFields args r.fields)
    (h : r.inRange = true) : firstBadField r.kind args = none := by
  rw [firstBadField, Option.map_eq_none_iff, List.find?_eq_none]
  intro f hmem hbad
  rw [Bool.and_eq_true] at hbad
  rw [blockFields_accept hc hf h f hmem hbad.1] at hbad
  exact absurd hbad.2 (by decide)

theorem ofCode_kind (k : Kind) : Kind.ofCode k.code = some k := by cases k <;> rfl

theorem readWriteBlock_record (b : BlockId) {r : BlockRecord} (h : r.inRange = true) :
    readWriteBlock (recordBytes b r) = .ok (b, some r) := by
  obtain ⟨hlength, h0, h1, -⟩ := recordBytes_at b r
  have hcommon := recordBytes_common b h
  have hfields := recordBytes_fields b h
  have hcode : arg1 (recordBytes b r) 1 = r.kind.code := by
    rw [h1]
    cases r.kind <;> rfl
  rw [readWriteBlock, hlength, argFin_eq (h0.trans (fin_mod (by decide) b)), hcode, ofCode_kind,
    except_bind_ok]
  dsimp only
  rw [firstBadField_none hcommon hfields h, recordOf_reads hcommon hfields]
  rfl

theorem readWriteBlock_removal (b : BlockId) : readWriteBlock (b1 b.val) = .ok (b, none) := by
  have h0 : arg1 (b1 b.val) 0 = b.val := arg1_b1 b.val [] (Nat.lt_trans b.isLt (by decide))
  rw [readWriteBlock, argFin_eq h0]
  rfl

end Sys2Proof.Machine
end

section
/-! PROOFS. The bytes of merge records, settings and windows are read back, and what each layout write leaves. -/

namespace Sys2Proof.Machine

open Sys2Proof

/-! ### Bytes of a list -/

theorem arg1_append_left {xs ys : List Byte} {i : Nat} (h : i < xs.length) : arg1 (xs ++ ys) i = arg1 xs i := by
  rw [arg1, arg1, List.getD_eq_getElem?_getD, List.getD_eq_getElem?_getD, List.getElem?_append_left h]

theorem arg1_append_right {xs ys : List Byte} {i : Nat} (h : xs.length ≤ i) :
    arg1 (xs ++ ys) i = arg1 ys (i - xs.length) := by
  rw [arg1, arg1, List.getD_eq_getElem?_getD, List.getD_eq_getElem?_getD, List.getElem?_append_right h]

/-- The byte at the end of a part of the bytes. -/
theorem arg1_b1_at {xs ys : List Byte} {i n : Nat} (h : xs.length = i) (hn : n < 256) : arg1 (xs ++ (b1 n ++ ys)) i = n := by
  rw [arg1_append_right (Nat.le_of_eq h), h, Nat.sub_self]
  exact arg1_b1 n ys hn

/-- The blocks of a list stand in the bytes from an offset on. -/
def ListAt (args : List Byte) (offset : Nat) : List BlockId → Prop
  | [] => True
  | b :: bs => arg1 args offset = b.val ∧ ListAt args (offset + 1) bs

theorem listAt_bytes (xs ys : List Byte) (bs : List BlockId) :
    ListAt (xs ++ ((bs.flatMap fun b => b1 b.val) ++ ys)) xs.length bs := by
  induction bs generalizing xs with
  | nil => trivial
  | cons b bs ih =>
    rw [List.flatMap_cons, List.append_assoc]
    refine ⟨arg1_b1_at rfl (Nat.lt_trans b.isLt (by decide)), ?_⟩
    have hrest := ih (xs ++ b1 b.val)
    rw [List.append_assoc, List.length_append] at hrest
    exact hrest

theorem readFeeder_listAt {args : List Byte} {offset : Nat} {bs sofar : List BlockId} (h : ListAt args offset bs)
    (hnodup : (sofar ++ bs).Nodup) : readFeeder args bs.length offset sofar = .ok (sofar ++ bs) := by
  induction bs generalizing offset sofar with
  | nil => rw [List.append_nil]; rfl
  | cons b bs ih =>
    obtain ⟨hb, hbs⟩ := h
    have hnot : b ∉ sofar := fun hmem => (List.nodup_append.mp hnodup).2.2 b hmem b List.mem_cons_self rfl
    rw [List.length_cons, readFeeder, argFin_eq hb, except_bind_ok, if_neg (by simpa using hnot)]
    rw [ih hbs (by rwa [List.append_assoc, List.singleton_append]), List.append_assoc, List.singleton_append]

/-! ### Merge records (R12, R17) -/

/-- A merge record stands in the bytes. -/
structure ReadsMerge (args : List Byte) (r : MergeRecord) : Prop where
  mergeBlock : arg1 args 1 = r.mergeBlock.val
  input0 : arg1 args 2 = r.input0.val
  input1 : arg1 args 3 = r.input1.val
  feeder0 : ListAt args 5 r.feeder0
  feeder1 : ListAt args (6 + r.feeder0.length) r.feeder1
  tLow : arg1 args (6 + r.feeder0.length + r.feeder1.length) = r.tLow
  tHigh : arg1 args (6 + r.feeder0.length + r.feeder1.length + 1) = r.tHigh
  burst : arg1 args (6 + r.feeder0.length + r.feeder1.length + 2) = r.burst
  preferred : arg1 args (6 + r.feeder0.length + r.feeder1.length + 3) = r.preferred.code

theorem distinct_nodup {ns : List Nat} (h : distinct ns = true) : ns.Nodup := by
  induction ns with
  | nil => exact .nil
  | cons n ns ih =>
    rw [distinct, Bool.and_eq_true, Bool.not_eq_true', List.contains_eq_mem, decide_eq_false_iff_not] at h
    exact List.nodup_cons.mpr ⟨h.1, ih h.2⟩

/-- A feeder in range has 1 to 4 blocks, none twice. -/
theorem feederInRange_iff {bs : List BlockId} (h : feederInRange bs = true) :
    (1 ≤ bs.length ∧ bs.length ≤ 4) ∧ bs.Nodup := by
  simp only [feederInRange, Bool.and_eq_true, decide_eq_true_eq] at h
  exact ⟨h.1, List.Pairwise.of_map _ (fun _ _ hne heq => hne (congrArg _ heq)) (distinct_nodup h.2)⟩

theorem readMergeFields_reads {args : List Byte} {r : MergeRecord} (hr : ReadsMerge args r) (h : r.inRange = true) :
    readMergeFields args r.feeder0.length r.feeder1.length = .ok r := by
  simp only [MergeRecord.inRange, Bool.and_eq_true, bne_iff_ne, decide_eq_true_eq, and_assoc] at h
  obtain ⟨hne, hf0, hf1, hlow, hlowhigh, hhigh, hburst, hburst'⟩ := h
  obtain ⟨hlength0, hnodup0⟩ := feederInRange_iff hf0
  obtain ⟨hlength1, hnodup1⟩ := feederInRange_iff hf1
  have hpreferred : argBool args (6 + r.feeder0.length + r.feeder1.length + 3) = .ok (r.preferred == .in1) := by
    refine argBool_eq (hr.preferred.trans ?_)
    cases r.preferred <;> rfl
  rw [readMergeFields, argFin_eq hr.mergeBlock, argFin_eq hr.input0, argFin_eq hr.input1]
  simp only [except_bind_ok]
  rw [if_neg hne.symm, argIn_eq hlength0.1 hlength0.2, readFeeder_listAt (sofar := []) hr.feeder0 hnodup0,
    argIn_eq hlength1.1 hlength1.2, readFeeder_listAt (sofar := []) hr.feeder1 hnodup1]
  simp only [except_bind_ok]
  rw [hr.tLow, argIn_eq hlow (Nat.le_trans hlowhigh hhigh), except_bind_ok, hr.tHigh, argIn_eq hlowhigh hhigh, except_bind_ok,
    hr.burst, argIn_eq hburst hburst', except_bind_ok, hpreferred, except_bind_ok]
  have hinput : (if (r.preferred == .in1) = true then MergeInput.in1 else .in0) = r.preferred := by
    cases r.preferred <;> rfl
  rw [hinput]
  rfl

theorem length_blockBytes (bs : List BlockId) : (bs.flatMap fun b => b1 b.val).length = bs.length := by
  induction bs with
  | nil => rfl
  | cons b bs ih => rw [List.flatMap_cons, List.length_append, ih, b1, List.length_singleton, List.length_cons, Nat.add_comm]

theorem length_b1 (n : Nat) : (b1 n).length = 1 := rfl

theorem length_mergeBytes (m : MergeId) (r : MergeRecord) :
    (mergeBytes m r).length = 10 + r.feeder0.length + r.feeder1.length := by
  simp only [mergeBytes, blockListBytes, List.length_append, length_b1, length_blockBytes]
  omega

/-- The bytes of a merge record before its first feeder's blocks. -/
def mergeHead (m : MergeId) (r : MergeRecord) : List Byte :=
  b1 m.val ++ b1 r.mergeBlock.val ++ b1 r.input0.val ++ b1 r.input1.val ++ b1 r.feeder0.length

/-- The bytes of a merge record after its feeders. -/
def mergeTail (r : MergeRecord) : List Byte := b1 r.tLow ++ b1 r.tHigh ++ b1 r.burst ++ b1 r.preferred.code

/-- The blocks of a feeder. -/
def feederBytes (bs : List BlockId) : List Byte := bs.flatMap fun b => b1 b.val

theorem mergeBytes_eq (m : MergeId) (r : MergeRecord) : mergeBytes m r =
    mergeHead m r ++ (feederBytes r.feeder0 ++ (b1 r.feeder1.length ++ (feederBytes r.feeder1 ++ mergeTail r))) := by
  simp only [mergeBytes, mergeHead, mergeTail, blockListBytes, feederBytes, List.append_assoc]

theorem mergeHead_at (m : MergeId) (r : MergeRecord) (ys : List Byte) : arg1 (mergeHead m r ++ ys) 0 = m.val % 256 ∧
    arg1 (mergeHead m r ++ ys) 1 = r.mergeBlock.val % 256 ∧ arg1 (mergeHead m r ++ ys) 2 = r.input0.val % 256 ∧
    arg1 (mergeHead m r ++ ys) 3 = r.input1.val % 256 ∧ arg1 (mergeHead m r ++ ys) 4 = r.feeder0.length % 256 := by
  simp [mergeHead, arg1, b1]

theorem mergeTail_at (r : MergeRecord) : arg1 (mergeTail r) 0 = r.tLow % 256 ∧ arg1 (mergeTail r) 1 = r.tHigh % 256 ∧
    arg1 (mergeTail r) 2 = r.burst % 256 ∧ arg1 (mergeTail r) 3 = r.preferred.code % 256 := by
  simp [mergeTail, arg1, b1]

theorem mergeBytes_reads (m : MergeId) {r : MergeRecord} (h : r.inRange = true) :
    ReadsMerge (mergeBytes m r) r ∧ arg1 (mergeBytes m r) 0 = m.val ∧ arg1 (mergeBytes m r) 4 = r.feeder0.length ∧
      arg1 (mergeBytes m r) (5 + r.feeder0.length) = r.feeder1.length := by
  simp only [MergeRecord.inRange, Bool.and_eq_true, bne_iff_ne, decide_eq_true_eq, and_assoc] at h
  obtain ⟨-, hf0, hf1, hlow, hlowhigh, hhigh, hburst, hburst'⟩ := h
  have hlength0 := (feederInRange_iff hf0).1
  have hlength1 := (feederInRange_iff hf1).1
  have hsmall {n : Nat} (hn : n ≤ 4) : n % 256 = n := Nat.mod_eq_of_lt (by omega)
  have hbytes0 : (feederBytes r.feeder0).length = r.feeder0.length := length_blockBytes _
  have hbytes1 : (feederBytes r.feeder1).length = r.feeder1.length := length_blockBytes _
  have hhead : (mergeHead m r).length = 5 := rfl
  have hcount : (mergeHead m r ++ feederBytes r.feeder0).length = 5 + r.feeder0.length := by
    rw [List.length_append, hhead, hbytes0]
  have hblocks : (mergeHead m r ++ feederBytes r.feeder0 ++ b1 r.feeder1.length).length = 6 + r.feeder0.length := by
    rw [List.length_append, hcount, length_b1]
    omega
  have htail {j n : Nat} (hj : arg1 (mergeTail r) j = n % 256) (hn : n ≤ 4) :
      arg1 (mergeBytes m r) (6 + r.feeder0.length + r.feeder1.length + j) = n := by
    have hfront : (mergeHead m r ++ feederBytes r.feeder0 ++ b1 r.feeder1.length ++ feederBytes r.feeder1).length =
        6 + r.feeder0.length + r.feeder1.length := by
      rw [List.length_append, hblocks, hbytes1]
    rw [mergeBytes_eq, ← List.append_assoc, ← List.append_assoc, ← List.append_assoc,
      arg1_append_right (by omega), hfront, Nat.add_sub_cancel_left, hj, hsmall hn]
  obtain ⟨h0, h1, h2, h3, h4⟩ := mergeHead_at m r
    (feederBytes r.feeder0 ++ (b1 r.feeder1.length ++ (feederBytes r.feeder1 ++ mergeTail r)))
  rw [← mergeBytes_eq] at h0 h1 h2 h3 h4
  obtain ⟨t0, t1, t2, t3⟩ := mergeTail_at r
  refine ⟨⟨h1.trans (fin_mod (by decide) _), h2.trans (fin_mod (by decide) _), h3.trans (fin_mod (by decide) _), ?_, ?_,
    htail t0 (by omega), htail t1 hhigh, htail t2 hburst', htail t3 ?_⟩, h0.trans (fin_mod (by decide) _),
    h4.trans (hsmall hlength0.2), ?_⟩
  · rw [mergeBytes_eq]
    exact listAt_bytes (mergeHead m r) _ r.feeder0
  · rw [mergeBytes_eq, ← List.append_assoc, ← List.append_assoc, ← hblocks]
    exact listAt_bytes _ _ r.feeder1
  · cases r.preferred <;> decide
  · rw [mergeBytes_eq, ← List.append_assoc]
    exact arg1_b1_at hcount (by omega)

theorem readWriteMerge_record (m : MergeId) {r : MergeRecord} (h : r.inRange = true) :
    readWriteMerge (mergeBytes m r) = .ok (m, some r) := by
  obtain ⟨hreads, h0, h4, h5⟩ := mergeBytes_reads m h
  have hlength := length_mergeBytes m r
  rw [readWriteMerge, if_neg (by omega)]
  dsimp only
  rw [h4, h5, if_pos hlength, argFin_eq h0, except_bind_ok, readMergeFields_reads hreads h]
  rfl

theorem readWriteMerge_removal (m : MergeId) : readWriteMerge (b1 m.val) = .ok (m, none) := by
  have h0 : arg1 (b1 m.val) 0 = m.val := arg1_b1 m.val [] (Nat.lt_trans m.isLt (by decide))
  rw [readWriteMerge, argFin_eq h0]
  rfl

/-! ### Settings (R13, R17) -/

theorem settingsBytes_at (t : Settings) :
    (arg1 (settingsBytes t) 0 = t.consentWindow / 256 % 256 ∧ arg1 (settingsBytes t) 1 = t.consentWindow % 256) ∧
    (arg1 (settingsBytes t) 2 = t.linkTimeout / 256 % 256 ∧ arg1 (settingsBytes t) 3 = t.linkTimeout % 256) ∧
    (arg1 (settingsBytes t) 4 = t.unweighedAllowance / 256 % 256 ∧ arg1 (settingsBytes t) 5 = t.unweighedAllowance % 256) ∧
    (arg1 (settingsBytes t) 6 = t.tareTolerance / 256 % 256 ∧ arg1 (settingsBytes t) 7 = t.tareTolerance % 256) ∧
    (arg1 (settingsBytes t) 8 = t.spreadTolerance / 256 % 256 ∧ arg1 (settingsBytes t) 9 = t.spreadTolerance % 256) ∧
    (arg1 (settingsBytes t) 10 = t.settleTime / 256 % 256 ∧ arg1 (settingsBytes t) 11 = t.settleTime % 256) ∧
    (arg1 (settingsBytes t) 12 = t.minimumGuestLoad / 256 % 256 ∧ arg1 (settingsBytes t) 13 = t.minimumGuestLoad % 256) := by
  simp [settingsBytes, arg1, b2]

theorem readWriteSettings_record {t : Settings} (h : t.inRange = true) : readWriteSettings (settingsBytes t) = .ok t := by
  simp only [Settings.inRange, Bool.and_eq_true, decide_eq_true_eq, and_assoc] at h
  obtain ⟨⟨h0, h1⟩, ⟨h2, h3⟩, ⟨h4, h5⟩, ⟨h6, h7⟩, ⟨h8, h9⟩, ⟨h10, h11⟩, h12, h13⟩ := settingsBytes_at t
  rw [readWriteSettings, arg2_of_bytes (by omega) h0 h1, arg2_of_bytes (by omega) h2 h3, arg2_of_bytes (by omega) h4 h5,
    arg2_of_bytes (by omega) h6 h7, arg2_of_bytes (by omega) h8 h9, arg2_of_bytes (by omega) h10 h11,
    arg2_of_bytes (by omega) h12 h13, argIn_eq (by omega) (by omega), argIn_eq (by omega) (by omega),
    argIn_eq (by omega) (by omega), argIn_eq (by omega) (by omega), argIn_eq (by omega) (by omega),
    argIn_eq (by omega) (by omega), argIn_eq (by omega) (by omega)]
  rfl

/-- Settles O8: each field stands at its offset, is in the range it is read with, and is read as the value it was. -/
theorem layoutBytesReadBack : Obligations.LayoutBytesReadBack := by
  unfold Obligations.LayoutBytesReadBack
  exact ⟨fun b r h => ⟨(recordBytes_at b r).1, readWriteBlock_record b h⟩, readWriteBlock_removal,
    fun m r h => readWriteMerge_record m h, readWriteMerge_removal, fun t h => readWriteSettings_record h⟩

end Sys2Proof.Machine
end

section
/-! PROOFS. The layout writes. -/

namespace Sys2Proof.Machine

open Sys2Proof

theorem writeBlock_eq {s : State} {g : Nat} (hg : g = if s.layout.generation = 65535 then 1 else s.layout.generation + 1)
    (b : BlockId) (r : Option BlockRecord) : s.writeBlock b r = (.okWith (b2 g),
      { s with layout := { s.layout with blocks := vput s.layout.blocks b r, generation := g } }) := by
  rw [hg]
  rfl

theorem readArgs_writeBlock {args : List Byte} {b : BlockId} {r : Option BlockRecord}
    (h : readWriteBlock args = .ok (b, r)) : readArgs .writeBlock args = .ok (.writeBlock b r) := by
  rw [readArgs, h]
  rfl

/-- Settles O6: the bytes are read as the record, and the owner replaces it and counts the write. -/
theorem writeBlockStoresTheRecord : Obligations.WriteBlockStoresTheRecord := by
  unfold Obligations.WriteBlockStoresTheRecord
  intro s l tag b g hs hwindow hg
  have hwrite {args : List Byte} {r : Option BlockRecord} (h : readWriteBlock args = .ok (b, r)) :
      exec (.writeBlock l tag args) s = .next ((s.writeBlock b r).2.replies l .writeBlock tag (s.writeBlock b r).1.status
        (s.writeBlock b r).1.data) :=
    exec_own_window (r := .writeBlock) tag hs (readArgs_writeBlock h) rfl hwindow
  refine ⟨fun r hr => ?_, ?_⟩
  · rw [hwrite (readWriteBlock_record b hr), writeBlock_eq hg]
    rfl
  · rw [hwrite (readWriteBlock_removal b), writeBlock_eq hg]
    rfl

theorem writeMerge_eq {s : State} {g : Nat} (hg : g = if s.layout.generation = 65535 then 1 else s.layout.generation + 1)
    (m : MergeId) (r : Option MergeRecord) : s.writeMerge m r = (.okWith (b2 g),
      { s with layout := { s.layout with merges := vput s.layout.merges m r, generation := g } }) := by
  rw [hg]
  rfl

theorem writeSettings_eq {s : State} {g : Nat} (hg : g = if s.layout.generation = 65535 then 1 else s.layout.generation + 1)
    (t : Settings) : s.writeSettings t = (.okWith (b2 g),
      { s with layout := { s.layout with settings := t, generation := g } }) := by
  rw [hg]
  rfl

theorem writeWindow_eq {s : State} {g : Nat} (hg : g = if s.layout.generation = 65535 then 1 else s.layout.generation + 1)
    (k : Link) (second : Bool) (w : Window) : s.writeWindow k second w = (.okWith (b2 g),
      { s with windows := s.windows.put k ((s.windows.get k).write second w), layout := { s.layout with generation := g } }) := by
  rw [hg]
  rfl

theorem writePoint_eq {s : State} {g : Nat} (hg : g = if s.layout.generation = 65535 then 1 else s.layout.generation + 1)
    (p : PointId) (invert : Bool) (filter : Nat) : s.writePoint p invert filter = (.okWith (b2 g),
      { s with points := vput s.points p { s.point p with
                 invert := invert, filter := filter, pending := none, level := (s.point p).raw != invert },
               layout := { s.layout with generation := g } }) := by
  rw [hg]
  rfl

theorem readArgs_writeMerge {args : List Byte} {m : MergeId} {r : Option MergeRecord}
    (h : readWriteMerge args = .ok (m, r)) : readArgs .writeMerge args = .ok (.writeMerge m r) := by
  rw [readArgs, h]
  rfl

theorem linkOfCode_linkCode (k : Link) : linkOfCode (linkCode k) = k := by cases k <;> rfl

theorem fourBytes_at (i j k n : Nat) : arg1 (b1 i ++ b1 j ++ b1 k ++ b1 n) 0 = i % 256 ∧
    arg1 (b1 i ++ b1 j ++ b1 k ++ b1 n) 1 = j % 256 ∧ arg1 (b1 i ++ b1 j ++ b1 k ++ b1 n) 2 = k % 256 ∧
    arg1 (b1 i ++ b1 j ++ b1 k ++ b1 n) 3 = n % 256 := by
  simp [arg1, b1]

theorem threeBytes_at (i j k : Nat) : arg1 (b1 i ++ b1 j ++ b1 k) 0 = i % 256 ∧
    arg1 (b1 i ++ b1 j ++ b1 k) 1 = j % 256 ∧ arg1 (b1 i ++ b1 j ++ b1 k) 2 = k % 256 := by
  simp [arg1, b1]

/-- A window as R214 allows it passes the checks of R215. -/
theorem window_checks {w : Window} (h : w.allowed = true) : w.size < 256 ∧ ¬ (w.size = 0 ∧ w.base.val ≠ 0) ∧
    ¬ (w.size ≠ 0 ∧ w.base.val % w.size ≠ 0) ∧ windowSizes.contains w.size = true := by
  rw [Window.allowed, Bool.or_eq_true, Bool.and_eq_true, Bool.and_eq_true, beq_iff_eq, beq_iff_eq, beq_iff_eq] at h
  obtain ⟨hsize, hbase⟩ | ⟨hsize, hmultiple⟩ := h
  · rw [hsize, hbase]
    decide
  · rw [List.contains_eq_mem, decide_eq_true_eq] at hsize
    have hlist : windowSizes.contains w.size = true := by
      rw [List.contains_eq_mem, decide_eq_true_eq]
      exact List.mem_cons_of_mem 0 hsize
    have hpositive : w.size < 256 ∧ w.size ≠ 0 := by
      simp only [List.mem_cons, List.not_mem_nil, or_false] at hsize
      omega
    exact ⟨hpositive.1, fun h => hpositive.2 h.1, fun h => h.2 hmultiple, hlist⟩

/-- A window as R214 allows it is read back (R215). -/
theorem readArgs_writeWindow (k : Link) (second : Bool) {w : Window} (h : w.allowed = true) :
    readArgs .writeWindow (b1 (linkCode k) ++ b1 second.toNat ++ b1 w.base.val ++ b1 w.size) =
      .ok (.writeWindow k second w) := by
  obtain ⟨hsmall, hoff, hmultiple, hsize⟩ := window_checks h
  obtain ⟨h0, h1, h2, h3⟩ := fourBytes_at (linkCode k) second.toNat w.base.val w.size
  generalize hargs : b1 (linkCode k) ++ b1 second.toNat ++ b1 w.base.val ++ b1 w.size = args at h0 h1 h2 h3 ⊢
  have hlength : args.length = 4 := by rw [← hargs]; rfl
  have hlink : argFin 3 args 0 = .ok ⟨linkCode k, by cases k <;> decide⟩ :=
    argFin_eq (h0.trans (by cases k <;> rfl))
  rw [Nat.mod_eq_of_lt hsmall] at h3
  rw [readArgs, readWriteWindow, argLength, if_pos hlength, hlink, argBool_eq (h1.trans (boolNat_mod second)),
    argFin_eq (h2.trans (fin_mod (by decide) w.base)), h3]
  simp only [except_bind_ok, except_pure, if_neg hoff, if_neg hmultiple, hsize, Bool.not_true, linkOfCode_linkCode]
  rfl

theorem readArgs_writePoint (p : PointId) (invert : Bool) {filter : Nat} (h : filter ≤ 50) :
    readArgs .writePoint (b1 p.val ++ flagByte invert ++ b1 filter) = .ok (.writePoint p invert filter) := by
  obtain ⟨h0, h1, h2⟩ := threeBytes_at p.val invert.toNat filter
  unfold flagByte
  generalize hargs : b1 p.val ++ b1 invert.toNat ++ b1 filter = args at h0 h1 h2 ⊢
  have hlength : args.length = 3 := by rw [← hargs]; rfl
  rw [Nat.mod_eq_of_lt (by omega)] at h2
  rw [readArgs, readWritePoint, argLength, if_pos hlength, argFin_eq (h0.trans (fin_mod (by decide) p)),
    argBool_eq (h1.trans (boolNat_mod invert)), h2, argIn_eq (Nat.zero_le _) h]
  rfl

/-- Settles O7: each write is read as one record, and its owner replaces that record and counts the write. -/
theorem layoutWritesReplaceOneThing : Obligations.LayoutWritesReplaceOneThing := by
  unfold Obligations.LayoutWritesReplaceOneThing
  intro s l tag g hg
  refine ⟨fun m hs => ?_, fun t hs ht => ?_, fun k w hs hw => ?_, fun p invert filter hs hfilter => ?_⟩
  · have hwrite {args : List Byte} {r : Option MergeRecord} (h : readWriteMerge args = .ok (m, r)) :
        exec (.writeMerge l tag args) s = .next ((s.writeMerge m r).2.replies l .writeMerge tag (s.writeMerge m r).1.status
          (s.writeMerge m r).1.data) :=
      exec_own_anywhere (r := .writeMerge) tag hs (readArgs_writeMerge h) rfl
    refine ⟨fun r hr => ?_, ?_⟩
    · rw [hwrite (readWriteMerge_record m hr), writeMerge_eq hg]
      rfl
    · rw [hwrite (readWriteMerge_removal m), writeMerge_eq hg]
      rfl
  · have hargs : readArgs .writeSettings (settingsBytes t) = .ok (.writeSettings t) := by
      rw [readArgs, readWriteSettings_record ht]
      rfl
    refine (exec_own_anywhere (r := .writeSettings) tag hs hargs rfl).trans ?_
    rw [State.own, writeSettings_eq hg]
    rfl
  · have hwrite (second : Bool) :=
      exec_own_anywhere (r := .writeWindow) tag hs (readArgs_writeWindow k second hw) rfl
    simp only [State.own, writeWindow_eq hg] at hwrite
    exact ⟨hwrite false, hwrite true⟩
  · refine (exec_own_anywhere (r := .writePoint) tag hs (readArgs_writePoint p invert hfilter) rfl).trans ?_
    rw [State.own, writePoint_eq hg]
    rfl

end Sys2Proof.Machine
end

section
/-! PROOFS. The READ requests: each returns the data of its part and changes nothing else. -/

namespace Sys2Proof.Machine

open Sys2Proof

/-! ### A READ request as it runs -/

/-- The READ requests that answer with data alone: every link may make them, in every mode. -/
theorem exec_read {s : State} {l : Link} {r : Req} {tag : Byte} {args : List Byte} {c : Call} {data : List Byte}
    (hidle : (s.port l).sending = none) (hrole : ∀ k, roleAllows k r = true) (hmode : takenIn r s.mode = true)
    (hargs : readArgs r args = .ok c) (hown : s.own l c = (.okWith data, s)) (hwindow : s.windowBlock c = none) :
    exec (requestCommand r l tag args) s = .next (s.replies l r tag .ok data) := by
  rw [exec_own_anywhere tag ⟨hidle, hrole l, hmode⟩ hargs hwindow, hown]
  rfl

/-! ### READ STATUS (R217) -/

theorem msLeft_eq (now d : Time) : msLeft now d = remainingMs now d := by
  rw [msLeft, remainingMs, remainingUs]
  split
  · rfl
  · rfl

/-- The 4 bytes of a link in READ STATUS. -/
def State.linkItems (s : State) (k : Link) : List Byte :=
  b1 (s.port k).supervision.isSome.toNat ++ b1 (s.port k).queue.length ++
    b2 (match (s.port k).supervision with
      | some v => msLeft s.timeBase v.deadline
      | none => 0)

/-- The 34 bytes of READ STATUS, item by item. -/
def State.statusItems (s : State) : List Byte :=
  b1 s.mode.code ++ b1 s.mc.runMode.toMode.code ++ b1 s.mc.permit.toNat ++ b1 s.mc.stopActive.toNat ++
    (match s.mc.slot with
      | some p => b1 p.request.req.code ++ b2 (p.generation.getD 65535) ++ b1 (linkCode p.link.link) ++
          b2 (msLeft s.timeBase p.deadline)
      | none => b1 255 ++ b2 65535 ++ b1 255 ++ b2 0) ++
    (match s.mc.fault with
      | some f => b1 f.kind.code ++ b1 f.cls.code ++ b1 ((f.block.map (·.val)).getD 255) ++
          b1 ((f.boat.map (·.val)).getD 255) ++ b4 f.time.toNat
      | none => b1 255 ++ b1 255 ++ b1 255 ++ b1 255 ++ b4 0) ++
    b1 s.mc.further ++ b2 s.layout.generation ++ b1 s.rate.toNat ++
    [Link.a, .b, .s].flatMap s.linkItems

theorem statusData_eq (s : State) : s.statusData = s.statusItems := by
  have hrequest (m : ModeReq) : m.req.code = m.code := by cases m <;> rfl
  have hlink (l : ControlLink) : linkCode l.link = l.code := by cases l <;> rfl
  have hport (k : Link) : s.linkItems k = portBytes s.timeBase (s.port k) := by
    rw [State.linkItems]
    simp only [msLeft_eq]
    rfl
  rw [State.statusItems]
  simp only [List.flatMap_cons, List.flatMap_nil, List.append_nil, hport, hrequest, hlink, msLeft_eq, ← List.append_assoc]
  rw [State.statusData]
  cases s.mc.slot <;> cases s.mc.fault <;> rfl

theorem length_statusData (s : State) : s.statusData.length = 34 := by
  rw [State.statusData]
  have hslot (now : Time) (p : Option PendingSlot) : (slotBytes now p).length = 6 := by cases p <;> rfl
  have hfault (f : Option FaultRecord) : (faultBytes f).length = 8 := by cases f <;> rfl
  have hport (now : Time) (p : LinkPort) : (portBytes now p).length = 4 := rfl
  simp only [List.length_append, hslot, hfault, hport]
  rfl

/-! ### READ QUEUE (R122) -/

/-- The 10 bytes of a dispatch entry, item by item. -/
def DispatchEntry.items (e : DispatchEntry) (now : Time) : List Byte :=
  [e.seq] ++ b1 e.bay.val ++ b1 e.boat.val ++
    b1 (e.afterPrevious.toNat + 2 * e.consentA.toNat + 4 * e.consentB.toNat + 8 * (e.consentA && e.consentB).toNat +
      match e.timer with
      | .running _ => 0
      | .suspended _ => 16
      | .stopped => 32) ++
    b4 e.timerStart.toNat ++
    b2 (match e.timer with
      | .running d => msLeft now d
      | .suspended left => (left + 999) / 1000
      | .stopped => 0)

theorem entryBytes_eq (e : DispatchEntry) (now : Time) : e.bytes now = e.items now := by
  have hstate (n : Nat) : e.afterPrevious.toNat + 2 * consentsCode e.consentA e.consentB + 8 * e.consented.toNat + n =
      e.afterPrevious.toNat + 2 * e.consentA.toNat + 4 * e.consentB.toNat + 8 * (e.consentA && e.consentB).toNat + n := by
    rw [consentsCode, DispatchEntry.consented]
    omega
  rw [DispatchEntry.bytes, DispatchEntry.stateByte, DispatchEntry.items, hstate]
  cases e.timer with
  | running d => simp only [msLeft_eq]; rfl
  | suspended left => rfl
  | stopped => rfl

theorem length_entryBytes (e : DispatchEntry) (now : Time) : (e.bytes now).length = 10 := rfl

theorem length_queueData (s : State) : s.queueData.length = 2 + 10 * s.dispatch.length := by
  have hflat (es : List DispatchEntry) : (es.flatMap fun e => e.bytes s.timeBase).length = 10 * es.length := by
    induction es with
    | nil => rfl
    | cons e es ih => rw [List.flatMap_cons, List.length_append, ih, length_entryBytes, List.length_cons]; omega
  rw [State.queueData, List.length_append, hflat]
  rfl

/-! ### READ BOAT (R79) and READ BLOCK (R58) -/

/-- The record of a slot, item by item. -/
def State.boatItems (s : State) (x : BoatId) : List Byte :=
  b1 x.val ++ b1 (match s.slot x with
    | .unused => 0
    | .absent _ => 1
    | .onTrack _ _ _ => 2) ++
  match s.boat x with
  | none => []
  | some bt => b3 bt.tagCode ++ b2 bt.tare ++ b2 (bt.load.getD 65535) ++ b1 bt.guests.toNat ++
      b1 (((s.slot x).position.map (·.val)).getD 255) ++ b1 (s.pathOf x).length ++
      ((s.pathOf x).flatMap fun c => b1 c.val) ++ b1 bt.route.code ++ b1 bt.check.toNat ++ b1 bt.expedite.toNat ++
      b3 bt.laps.toNat ++ b2 (bt.lastSpeed.getD 65535) ++
      b2 (bt.tare + bt.load.getD s.layout.settings.unweighedAllowance)

theorem boatData_eq (s : State) (x : BoatId) : s.boatData x = s.boatItems x := by
  rw [State.boatData, State.boatItems, State.boat, State.pathOf]
  cases hslot : s.slot x with
  | unused => rfl
  | absent t =>
    simp only [State.enrolledBytes, blockListBytes, Slot.boat, Slot.path, Slot.position, List.append_assoc]
    rfl
  | onTrack t pos path =>
    simp only [State.enrolledBytes, blockListBytes, Slot.boat, Slot.path, Slot.position, List.append_assoc]
    rfl

/-- The entry of a block, item by item. -/
def State.entryItems (s : State) (b : BlockId) : List Byte :=
  b1 b.val ++ b1 (((s.layout.kind b).map (·.code)).getD 255) ++ b1 (s.entry b).state.code ++
    b1 (((s.entry b).occupant.map (·.val)).getD 255) ++ b1 (((s.entry b).holder.map (·.val)).getD 255) ++
    b1 (s.entry b).nose.toNat ++ b2 (((s.entry b).transit.map (msLeft s.timeBase)).getD 65535) ++
    b2 (((s.entry b).clearance.map (msLeft s.timeBase)).getD 65535) ++
    (match (s.entry b).release with
      | some r => b1 1 ++ b1 r.path.length ++ (r.path.flatMap fun c => b1 c.val) ++ b1 r.retries ++ b1 r.frozen.toNat
      | none => b1 0) ++
    b3 (vget s.passages b)

theorem entryData_eq (s : State) (b : BlockId) : s.entryData b = s.entryItems b := by
  have hms : msLeft s.timeBase = remainingMs s.timeBase := funext (msLeft_eq s.timeBase)
  rw [State.entryData, State.entryItems, hms]
  cases (s.entry b).release with
  | none => rfl
  | some r =>
    simp only [Option.map_some, optRecord, releaseBytes, blockListBytes, List.append_assoc]
    rfl

/-- The byte that names a part (R218). -/
def BlockPart.selector : BlockPart → Nat
  | .entry => 0
  | .units => 1
  | .drive => 2

theorem twoBytes_at (i j : Nat) : arg1 (b1 i ++ b1 j) 0 = i % 256 ∧ arg1 (b1 i ++ b1 j) 1 = j % 256 := by
  simp [arg1, b1]

theorem readArgs_readBlock (b : BlockId) (part : BlockPart) :
    readArgs .readBlock (b1 b.val ++ b1 part.selector) = .ok (.readBlock b part) := by
  obtain ⟨h0, h1⟩ := twoBytes_at b.val part.selector
  rw [readArgs, argLength, argFin_eq (h0.trans (fin_mod (by decide) b)), h1]
  cases part <;> rfl

/-! ### READ LAYOUT (R19) -/

theorem layoutOutcome_eq (s : State) : s.layoutData .outcome = b2 s.layout.generation ++
    match s.layout.validate with
    | some (check, block) => b1 check ++ b1 block
    | none => b1 0 ++ b1 255 := by
  rw [State.layoutData]
  cases s.layout.validate <;> rfl

theorem readLayoutPart_block (b : BlockId) : readLayoutPart (b1 1 ++ b1 b.val) = .ok (.block b) := by
  have h1 := (twoBytes_at 1 b.val).2.trans (fin_mod (by decide) b)
  show (argFin 32 (b1 1 ++ b1 b.val) 1).map LayoutPart.block = _
  rw [argFin_eq h1]
  rfl

theorem readLayoutPart_merge (m : MergeId) : readLayoutPart (b1 2 ++ b1 m.val) = .ok (.merge m) := by
  have h1 := (twoBytes_at 2 m.val).2.trans (fin_mod (by decide) m)
  show (argFin 2 (b1 2 ++ b1 m.val) 1).map LayoutPart.merge = _
  rw [argFin_eq h1]
  rfl

theorem readArgs_readLayout {args : List Byte} {part : LayoutPart} (h : readLayoutPart args = .ok part) :
    readArgs .readLayout args = .ok (.readLayout part) := by
  rw [readArgs, h]
  rfl

/-! ### READ COUNTERS (R225) -/

theorem drop_take_finRange {m k : Nat} [NeZero m] (h : k + 16 ≤ m) :
    ((List.finRange m).drop k).take 16 = (List.range 16).map fun i => Fin.ofNat m (k + i) := by
  refine List.ext_getElem ?_ fun i hi hi' => ?_
  · rw [List.length_take, List.length_drop, List.length_finRange, List.length_map, List.length_range]
    omega
  · rw [List.length_map, List.length_range] at hi'
    rw [List.getElem_take, List.getElem_drop, List.getElem_finRange, List.getElem_map, List.getElem_range]
    apply Fin.ext
    exact (Nat.mod_eq_of_lt (by omega)).symm

theorem window_flatMap {m k : Nat} [NeZero m] (h : k + 16 ≤ m) (f : Fin m → List Byte) :
    ((List.range 16).flatMap fun i => f (Fin.ofNat m (k + i))) = (((List.finRange m).drop k).take 16).flatMap f := by
  rw [drop_take_finRange h, List.flatMap_map]

theorem readCounterPart_passages {n : Nat} (h : n ≤ 1) : readCounterPart (b1 1 ++ b1 (16 * n)) = .ok (.passages (16 * n)) := by
  obtain ⟨h0, h1⟩ := twoBytes_at 1 (16 * n)
  rw [Nat.mod_eq_of_lt (by omega)] at h1
  rw [readCounterPart, h0, h1]
  exact if_pos (by omega)

theorem readCounterPart_glitches {n : Nat} (h : n ≤ 5) : readCounterPart (b1 2 ++ b1 (16 * n)) = .ok (.glitches (16 * n)) := by
  obtain ⟨h0, h1⟩ := twoBytes_at 2 (16 * n)
  rw [Nat.mod_eq_of_lt (by omega)] at h1
  rw [readCounterPart, h0, h1]
  exact if_pos (by omega)

theorem readArgs_readCounters {args : List Byte} {part : CounterPart} (h : readCounterPart args = .ok part) :
    readArgs .readCounters args = .ok (.readCounters part) := by
  rw [readArgs, h]
  rfl

/-- Settles O9: each READ is answered with its part's data, which the items spell out. -/
theorem readsChangeOnlyTheResponse : Obligations.ReadsChangeOnlyTheResponse := by
  unfold Obligations.ReadsChangeOnlyTheResponse
  refine ⟨by decide, fun s l tag hidle => ?_⟩
  have hrole {r : Req} (hs : roleAllows .s r = true) (k : Link) : roleAllows k r = true := by
    cases k with
    | a => rfl
    | b => rfl
    | s => exact hs
  have hblock (b : BlockId) (part : BlockPart) := exec_read (tag := tag) (r := .readBlock) hidle (hrole rfl) rfl
    (readArgs_readBlock b part) rfl rfl
  have hlayout {args : List Byte} {part : LayoutPart} (h : readLayoutPart args = .ok part) :=
    exec_read (tag := tag) (r := .readLayout) hidle (hrole rfl) rfl (readArgs_readLayout h) rfl rfl
  have hcounters {args : List Byte} {part : CounterPart} (h : readCounterPart args = .ok part) :=
    exec_read (tag := tag) (r := .readCounters) hidle (hrole rfl) rfl (readArgs_readCounters h) rfl rfl
  refine ⟨⟨?_, length_statusData s⟩, ⟨?_, length_queueData s⟩, fun x => ?_, fun b => ⟨?_, hblock b .units, hblock b .drive⟩,
    ⟨?_, fun b => hlayout (readLayoutPart_block b), fun m => hlayout (readLayoutPart_merge m), hlayout (part := .settings) rfl,
      hlayout (part := .windows) rfl⟩,
    hcounters (part := .links) rfl, fun n hn => ?_, fun n hn => ?_, hcounters (part := .bays) rfl,
    hcounters (part := .whole) rfl, hcounters (part := .commands) rfl⟩
  · exact exec_read (r := .readStatus) (c := .readStatus) hidle (hrole rfl) rfl rfl
      (congrArg (fun data => (Reply.okWith data, s)) (statusData_eq s)) rfl
  · refine (exec_read (r := .readQueue) (c := .readQueue) hidle (hrole rfl) rfl rfl rfl rfl).trans ?_
    rw [State.queueData]
    simp only [entryBytes_eq]
    rfl
  · refine (exec_read (r := .readBoat) (c := .readBoat x) hidle (hrole rfl) rfl ?_ rfl rfl).trans ?_
    · rw [readArgs, readOneSlot_b1]
      rfl
    · rw [boatData_eq]
      rfl
  · refine (hblock b .entry).trans ?_
    rw [State.blockData, entryData_eq]
    rfl
  · refine (hlayout (part := .outcome) rfl).trans ?_
    rw [layoutOutcome_eq] <;> rfl
  · refine (hcounters (readCounterPart_passages hn)).trans ?_
    rw [State.counterData, window_flatMap (by omega) fun b => b2 (vget s.passages b)]
  · refine (hcounters (readCounterPart_glitches hn)).trans ?_
    rw [State.counterData, window_flatMap (by omega) fun p => b2 (s.point p).glitches]

end Sys2Proof.Machine
end

section
/-! PROOFS. The end of an event outside RUN: what units are to do is derived afresh, and HOLDING settles. -/

namespace Sys2Proof.Machine

open Sys2Proof

/-! ### Derived afresh (R29) -/

theorem rederived_refresh (s : State) : Rederived s s.refreshSwitches.refreshBrakes.refreshChannels := rfl

theorem finish_rederived {s : State} (hrun : s.mode ≠ .run) (hholding : s.mode ≠ .holding) : Rederived s s.finish := by
  by_cases hconfigure : s.mode = .configure
  · rw [finish_configure s hconfigure]
    rfl
  · rw [finish_still s hconfigure hrun hholding]
    exact rederived_refresh s

theorem finish_rederived_of_moving {s : State} (hholding : s.mode = .holding) (hmoving : s.moving = true) :
    Rederived s s.finish := by
  have hstill : ¬(s.refreshSwitches.refreshBrakes.refreshChannels.mode = .holding ∧
      s.refreshSwitches.refreshBrakes.refreshChannels.moving = false) := by
    rintro ⟨-, hnone⟩
    exact absurd (hmoving.symm.trans hnone) nofun
  rw [finish_holding s hholding, State.settle, if_neg hstill]
  exact rederived_refresh s

theorem Rederived.keeps_surroundings {u t : State} (h : Rederived u t) : t.surroundings = u.surroundings := by
  unfold Rederived at h
  rw [h]
  rfl

theorem Rederived.tells {u t : State} (h : Rederived u t) : Tells u t [] :=
  .of_surroundings h.keeps_surroundings h.keeps_reports

/-! ### HOLDING settled (R189) -/

/-- Between modes in which no consent timer runs the dispatch entries stay. -/
theorem retime_still {old new : Mode} (hold : isRunMode old = false) (hnew : isRunMode new = false) (e : DispatchEntry)
    (now : Time) : e.retime now old new = e := by
  unfold DispatchEntry.retime
  rw [hold, hnew]
  cases e.timer <;> rfl

theorem changeMode_dispatch_still {s : State} {new : Mode} (c : ChangeCause) (hold : isRunMode s.mode = false)
    (hnew : isRunMode new = false) : (s.changeMode new c).dispatch = s.dispatch := by
  rw [changeMode_dispatch]
  simp only [retime_still hold hnew, List.map_id']

theorem finish_settled {s : State} (hholding : s.mode = .holding) (hstill : s.moving = false) :
    s.finish = s.refreshSwitches.refreshBrakes.refreshChannels.changeMode .held .settled := by
  have hsettles : s.refreshSwitches.refreshBrakes.refreshChannels.mode = .holding ∧
      s.refreshSwitches.refreshBrakes.refreshChannels.moving = false := ⟨hholding, hstill⟩
  rw [finish_holding s hholding, State.settle, if_pos hsettles]

theorem finish_settled_mc {s : State} (hholding : s.mode = .holding) (hstill : s.moving = false) :
    s.finish.mc = { s.mc with mode := .held, permit := true, slot := none } := by
  rw [finish_settled hholding hstill, changeMode_mc]
  rfl

theorem finish_dispatch_holding {s : State} (hholding : s.mode = .holding) : s.finish.dispatch = s.dispatch := by
  cases hmoving : s.moving with
  | true => exact (finish_rederived_of_moving hholding hmoving).keeps_dispatch
  | false =>
    rw [finish_settled hholding hmoving]
    refine changeMode_dispatch_still _ ?_ rfl
    exact (congrArg isRunMode hholding : isRunMode s.mode = _)

theorem finish_dispatch {s : State} (hrun : s.mode ≠ .run) : s.finish.dispatch = s.dispatch := by
  by_cases hholding : s.mode = .holding
  · exact finish_dispatch_holding hholding
  · exact (finish_rederived hrun hholding).keeps_dispatch

theorem finish_settled_tells {s : State} (hholding : s.mode = .holding) (hstill : s.moving = false)
    (hslot : s.mc.slot = none) : Tells s s.finish [.of .mode none none 1 4 5 4] := by
  have htells := changeMode_tells s.refreshSwitches.refreshBrakes.refreshChannels .held .settled
  have hreports : s.refreshSwitches.refreshBrakes.refreshChannels.slotReports 0 = [] := by
    show s.slotReports 0 = []
    rw [State.slotReports, hslot]
  have hmode : s.refreshSwitches.refreshBrakes.refreshChannels.mode = .holding := hholding
  rw [hreports, hmode] at htells
  rw [finish_settled hholding hstill]
  exact (rederived_refresh s).tells.trans htells

/-- Settles O49: outside RUN an event ends with switches, brakes and channels derived afresh, and with HOLDING settled. -/
theorem eventsEndWithoutGrantsOutsideRun : Obligations.EventsEndWithoutGrantsOutsideRun := by
  unfold Obligations.EventsEndWithoutGrantsOutsideRun
  refine fun s => ⟨finish_configure s, finish_rederived, fun hholding => ⟨fun hmoving => ?_, fun hstill => ?_⟩,
    finish_surroundings s⟩
  · exact finish_rederived_of_moving hholding ((moving_iff s).mpr hmoving)
  · have hmc := finish_settled_mc hholding (moving_false s hstill)
    have hrun : s.mode ≠ .run := by rw [hholding]; nofun
    obtain ⟨htable, hroster, hbays, hlaunches, harbiters⟩ := finish_kept s hrun
    rw [State.mode, hmc]
    exact ⟨rfl, rfl, rfl, rfl, rfl, htable, hroster, hbays, finish_dispatch_holding hholding, hlaunches, harbiters⟩

end Sys2Proof.Machine
end

section
/-! PROOFS. Faults, the stop line, HOLD and HALT, and the requests that clear what was recorded. -/

namespace Sys2Proof.Machine

open Sys2Proof

/-! ### A fault taken (R196, R197) -/

theorem faultTaken_of_record {s t : State} {k : FaultKind} {b : Option BlockId} {x : Option BoatId}
    (hfault : t.mc.fault = (s.mc.recordFault k b x s.timeBase).fault)
    (hfurther : t.mc.further = (s.mc.recordFault k b x s.timeBase).further) : FaultTaken s t k b x := by
  unfold FaultTaken
  rw [hfault, hfurther]
  unfold ModeController.recordFault
  cases s.mc.fault <;> exact ⟨rfl, rfl⟩

theorem raise_faultTaken (s : State) (k : FaultKind) (b : Option BlockId) (x : Option BoatId) (d : Details) :
    FaultTaken s (s.raise k b x d) k b x :=
  faultTaken_of_record (raise_taken s k b x d).1 (raise_taken s k b x d).2

theorem moves_iff_frozen (s : State) (c : BlockId) (t : State)
    (htable : t.table = if s.mode.moves = true then vmap (fun _ (e : Entry) => e.freeze) s.table else s.table) :
    t.entry c = if s.mode.moves then (s.entry c).halted else s.entry c := by
  rw [State.entry, htable]
  split
  · rw [vget_vmap, freeze_eq_halted]
    rfl
  · rfl

theorem othersKept_nil {s t : State} (h : OthersKept s t []) (changed : List BlockId) : OthersKept s t changed :=
  fun c _ => h c List.not_mem_nil

theorem raise_othersKept {k : FaultKind} (hk : k.cls = .halt) (s : State) (b : Option BlockId) (x : Option BoatId)
    (d : Details) : OthersKept s (s.raise k b x d) [] := by
  refine fun c _ => moves_iff_frozen s c _ ?_
  rw [raise_table]
  simp only [hk, true_and]

theorem raise_table_of_ne {k : FaultKind} (hk : k.cls ≠ .halt) (s : State) (b : Option BlockId) (x : Option BoatId)
    (d : Details) : (s.raise k b x d).table = s.table := by
  rw [raise_table, if_neg (fun h => hk h.1)]

/-- Settles O18: a fault is recorded, reported and then applied to the mode. -/
theorem faultsAreRecordedAndApplied : Obligations.FaultsAreRecordedAndApplied := by
  unfold Obligations.FaultsAreRecordedAndApplied
  rintro s k block boat d1 d2 d3 d4 t rfl
  exact ⟨raise_faultTaken .., raise_mode .., raise_roster .., raise_surroundings .., fun hk => raise_table_of_ne hk ..,
    fun hk => raise_othersKept hk s block boat _, (raise_tells s k block boat _).reportsAdded⟩

/-! ### The end of an event after a change to HALTED -/

theorem modeAfterFault_halt_still (m : Mode) :
    modeAfterFault .halt m ≠ .run ∧ modeAfterFault .halt m ≠ .holding ∧ modeAfterFault .halt m ≠ .manual ∧
      modeAfterFault .halt m ≠ .held := by
  cases m <;> exact ⟨nofun, nofun, nofun, nofun⟩

/-- After a fault of HALT class an event ends with what is derived afresh alone. -/
theorem raise_halt_finish {k : FaultKind} (hk : k.cls = .halt) (s : State) (b : Option BlockId) (x : Option BoatId)
    (d : Details) : Rederived (s.raise k b x d) (s.raise k b x d).finish := by
  obtain ⟨hrun, hholding, -, -⟩ := modeAfterFault_halt_still s.mode
  rw [← hk, ← raise_mode s k b x d] at hrun hholding
  exact finish_rederived hrun hholding

theorem Rederived.keeps_entry {u t : State} (h : Rederived u t) (b : BlockId) : t.entry b = u.entry b := by
  rw [State.entry, h.keeps_table]
  rfl

theorem Rederived.keeps_mode {u t : State} (h : Rederived u t) : t.mode = u.mode := by
  rw [State.mode, h.keeps_mc]
  rfl

/-! ### The stop line (R191) -/

theorem raise_contacts (s : State) (k : FaultKind) (b : Option BlockId) (x : Option BoatId) (d : Details) :
    (s.raise k b x d).mc.stopActive = s.mc.stopActive ∧ (s.raise k b x d).mc.contact1Open = s.mc.contact1Open ∧
      (s.raise k b x d).mc.contact2Open = s.mc.contact2Open := by
  rw [raise_mc, recordFault_keeps]
  dsimp only
  split <;> exact ⟨rfl, rfl, rfl⟩

/-- The ride with a contact open and the stop line ACTIVE, before the fault is raised. -/
def State.stopped (s : State) (k : StopContact) : State :=
  s.setMc { s.mc.setContact k true with stopActive := true }

theorem stopOpens_inactive {s : State} (h : s.mc.stopActive = false) (k : StopContact) :
    s.stopOpens k = ((s.stopped k).raise .stopLine none none (detail)).finish := by
  rw [State.stopOpens, h]
  rfl

theorem stopOpens_active {s : State} (h : s.mc.stopActive = true) (k : StopContact) :
    s.stopOpens k = s.setMc (s.mc.setContact k true) := by
  rw [State.stopOpens, h]
  rfl

theorem stopCloses_second (s : State) :
    s.stopCloses .second = { s with mc := { s.mc with contact2Open := false, stopActive := s.mc.contact1Open } } := by
  simp only [State.stopCloses, ModeController.setContact, Bool.or_false, State.setMc]

theorem stopped_contacts (s : State) (k : StopContact) :
    (s.stopped k).mc.contact1Open = (s.mc.contact1Open || k == .first) ∧
      (s.stopped k).mc.contact2Open = (s.mc.contact2Open || k == .second) := by
  cases k
  · exact ⟨(Bool.or_true _).symm, (Bool.or_false _).symm⟩
  · exact ⟨(Bool.or_false _).symm, (Bool.or_true _).symm⟩

/-- The contacts are no part of what a fault reads. -/
theorem stopped_keeps (s : State) (k : StopContact) :
    (s.stopped k).mc.fault = s.mc.fault ∧ (s.stopped k).mc.further = s.mc.further ∧ (s.stopped k).mode = s.mode ∧
      (s.stopped k).mc.slot = s.mc.slot := by
  cases k <;> exact ⟨rfl, rfl, rfl, rfl⟩

theorem stopped_faultReports (s : State) (k : StopContact) (d1 d2 d3 d4 : Nat) :
    (s.stopped k).faultReports .stopLine none none d1 d2 d3 d4 = s.faultReports .stopLine none none d1 d2 d3 d4 := by
  cases k <;> rfl

/-- What the fault finds in the stopped ride it would find in the ride before. -/
theorem stopped_faultTaken {s t : State} {k : StopContact} (h : FaultTaken (s.stopped k) t .stopLine none none) :
    FaultTaken s t .stopLine none none := by
  cases k <;> exact h

theorem stopOpens_raises {s t : State} {k : StopContact} (h : s.mc.stopActive = false) (ht : s.stopOpens k = t) :
    t.mc.stopActive = true ∧ (t.mc.contact1Open = (s.mc.contact1Open || k == .first)) ∧
      (t.mc.contact2Open = (s.mc.contact2Open || k == .second)) ∧ FaultTaken s t .stopLine none none ∧
      t.mode = modeAfterFault .halt s.mode ∧ OthersKept s t [] ∧ t.surroundings = s.surroundings ∧
      ReportsAdded s t (s.faultReports .stopLine none none 0 0 0 0) := by
  have hderived := raise_halt_finish (k := .stopLine) rfl (s.stopped k) none none (detail)
  rw [← stopOpens_inactive h k, ht] at hderived
  obtain ⟨hactive, hfirst, hsecond⟩ := raise_contacts (s.stopped k) .stopLine none none (detail)
  obtain ⟨hopen1, hopen2⟩ := stopped_contacts s k
  obtain ⟨-, -, hmode, -⟩ := stopped_keeps s k
  obtain ⟨hfault, hfurther⟩ := raise_taken (s.stopped k) .stopLine none none (detail)
  rw [← hderived.keeps_mc] at hactive hfirst hsecond hfault hfurther
  refine ⟨hactive, hfirst.trans hopen1, hsecond.trans hopen2, stopped_faultTaken (faultTaken_of_record hfault hfurther),
    ?_, fun c hc => ?_, ?_, ?_⟩
  · rw [hderived.keeps_mode, raise_mode, hmode]
    rfl
  · rw [hderived.keeps_entry, raise_othersKept (k := .stopLine) rfl (s.stopped k) none none (detail) c hc, hmode]
    rfl
  · rw [hderived.keeps_surroundings, raise_surroundings]
    rfl
  · have htells := raise_tells (s.stopped k) .stopLine none none (detail)
    rw [stopped_faultReports] at htells
    exact ((htells.after_quiet rfl (fun _ => rfl) rfl).trans_nothing hderived.tells).reportsAdded

/-- Settles O17: the first contact to open raises STOP_LINE, and contacts alone tell whether the stop line is ACTIVE. -/
theorem stopLineHaltsTheRide : Obligations.StopLineHaltsTheRide := by
  unfold Obligations.StopLineHaltsTheRide
  intro s k
  refine ⟨fun h => ⟨s.stopOpens k, rfl, stopOpens_raises h rfl⟩, fun h => ?_, ?_, ?_⟩
  · rw [exec, execStopLineOpens, stopOpens_active h]
    cases k <;> rfl
  · rfl
  · rw [exec, execStopLineCloses, stopCloses_second]

/-! ### Clearing what was recorded (R159, R197, R225) -/

/-- CLEAR ZONE CONDITION at a brake block. -/
theorem clearZone_of_brake {s : State} {b : BlockId} {k : Brake} (h : s.brake b = some k) :
    s.clearZone b = (.ok, { s with brakes := vput s.brakes b (some { k with zone := .empty }) }) := by
  rw [State.clearZone, h]
  dsimp only
  rw [State.modBrake, h]
  rfl

/-- Settles O19: each clearing request empties what it names and nothing else. -/
theorem clearRequestsEmptyWhatTheyName : Obligations.ClearRequestsEmptyWhatTheyName := by
  unfold Obligations.ClearRequestsEmptyWhatTheyName
  intro s l tag
  refine ⟨fun hadmits => ?_, fun b hadmits hwindow => ⟨fun hnone => ?_, fun k hsome => ?_⟩, fun hadmits => ?_⟩
  · refine (exec_own_anywhere (c := .clearFault) tag hadmits rfl rfl).trans (congrArg _ ?_)
    show (s.setMc _).replies l .clearFault tag .ok (_ ++ _) = _
    cases s.mc.fault <;> rfl
  · refine (exec_own_window (c := .clearZone b) tag hadmits ?_ rfl hwindow).trans ?_
    · rw [readArgs, readOneBlock_b1]
      rfl
    · rw [show s.own l (.clearZone b) = s.clearZone b from rfl, State.clearZone, hnone]
      rfl
  · refine (exec_own_window (c := .clearZone b) tag hadmits ?_ rfl hwindow).trans ?_
    · rw [readArgs, readOneBlock_b1]
      rfl
    · rw [show s.own l (.clearZone b) = s.clearZone b from rfl, clearZone_of_brake hsome]
      rfl
  · exact exec_own_anywhere (c := .clearCounters) tag hadmits rfl rfl

end Sys2Proof.Machine
end

section
/-! PROOFS. HOLD and HALT. -/

namespace Sys2Proof.Machine

open Sys2Proof

/-- A response on its way reports nothing. -/
theorem replies_tells (u : State) (l : Link) (r : Req) (tag : Byte) (st : Status) (d : List Byte) :
    Tells u (u.replies l r tag st d) [] := by
  refine .nothing rfl (fun k => ?_) rfl
  rw [State.up, State.up]
  cases l <;> cases k <;> rfl

/-! ### HOLD (R188, R189) -/

theorem isRunMode_iff (m : Mode) : isRunMode m = true ↔ m = .run ∨ m = .manual := by
  cases m <;> decide

theorem moving_congr {s t : State} (h : t.table = s.table) : t.moving = s.moving := by
  rw [State.moving, State.moving]
  simp only [State.entry, h]

/-- A ride that enters HOLDING goes on to HELD when nothing moves. -/
theorem enterHolding_finish_mode (s : State) (c : ChangeCause) :
    (s.moving = true → (s.enterHolding c).finish.mode = .holding) ∧
      (s.moving = false → (s.enterHolding c).finish.mode = .held) := by
  have hmode : (s.enterHolding c).mode = .holding := by rw [State.mode, enterHolding_mc]
  have hmoving : (s.enterHolding c).moving = s.moving := moving_congr (enterHolding_table s c)
  refine ⟨fun h => ?_, fun h => ?_⟩
  · rw [(finish_rederived_of_moving hmode (hmoving.trans h)).keeps_mode, hmode]
  · rw [State.mode, finish_settled_mc hmode (hmoving.trans h)]

theorem enterHolding_finish_mc (s : State) (c : ChangeCause) :
    (s.enterHolding c).finish.mc.runMode = s.mc.runMode ∧ (s.enterHolding c).finish.mc.permit = true ∧
      (s.enterHolding c).finish.mc.slot = none ∧ (s.enterHolding c).finish.mc.fault = s.mc.fault ∧
      (s.enterHolding c).finish.mc.further = s.mc.further := by
  obtain hmc | ⟨-, hmc⟩ := finish_mc (s.enterHolding c)
  all_goals
    rw [hmc, enterHolding_mc]
    exact ⟨rfl, rfl, rfl, rfl, rfl⟩

theorem enterHolding_finish_tells (s : State) (c : ChangeCause) :
    (s.moving = true → Tells s (s.enterHolding c).finish (s.stopReports .holding c.code 0)) ∧
      (s.moving = false → Tells s (s.enterHolding c).finish (s.stopReports .holding c.code 0 ++ [.of .mode none none 1 4 5 4])) := by
  have hmode : (s.enterHolding c).mode = .holding := by rw [State.mode, enterHolding_mc]
  have hslot : (s.enterHolding c).mc.slot = none := by rw [enterHolding_mc]
  have hmoving : (s.enterHolding c).moving = s.moving := moving_congr (enterHolding_table s c)
  have htells := enterHolding_tells s c
  exact ⟨fun h => htells.trans_nothing (finish_rederived_of_moving hmode (hmoving.trans h)).tells,
    fun h => htells.trans (finish_settled_tells hmode (hmoving.trans h) hslot)⟩

/-- What entering HOLDING and the end of the event keep of the ride. -/
theorem enterHolding_finish_kept (s : State) (c : ChangeCause) :
    (s.enterHolding c).finish.table = s.table ∧ (s.enterHolding c).finish.roster = s.roster ∧
      (s.enterHolding c).finish.bays = s.bays ∧ (s.enterHolding c).finish.launches = s.launches ∧
      (s.enterHolding c).finish.arbiters = s.arbiters ∧
      (s.enterHolding c).finish.dispatch = s.dispatch.map fun e => e.voided s.timeBase s.layout.settings.consentWindow := by
  have hmode : (s.enterHolding c).mode = .holding := by rw [State.mode, enterHolding_mc]
  have hrun : (s.enterHolding c).mode ≠ .run := by rw [hmode]; nofun
  obtain ⟨htable, hroster, hbays, hlaunches, harbiters⟩ := finish_kept (s.enterHolding c) hrun
  exact ⟨htable.trans (enterHolding_table s c), hroster.trans (enterHolding_roster s c), hbays.trans (enterHolding_bays s c),
    hlaunches.trans (enterHolding_launches s c), harbiters.trans (enterHolding_arbiters s c),
    (finish_dispatch hrun).trans (enterHolding_dispatch s c)⟩

theorem exec_hold {s : State} {l : Link} (tag : Byte) (h : (s.port l).sending = none) :
    exec (.hold l tag []) s =
      .next (s.holdRequest.2.replies l .hold tag s.holdRequest.1.status s.holdRequest.1.data) :=
  exec_own_anywhere (r := .hold) (c := .hold) tag ⟨h, by cases l <;> rfl, rfl⟩ rfl rfl

theorem holdRequest_of_run {s : State} (h : s.mode = .run ∨ s.mode = .manual) :
    s.holdRequest = (.okWith (b1 4), (s.enterHolding .holdRequest).finish) := by
  rw [State.holdRequest, if_pos ((isRunMode_iff _).mpr h)]
  rfl

theorem holdRequest_of_ne {s : State} (hrun : s.mode ≠ .run) (hmanual : s.mode ≠ .manual) :
    s.holdRequest = (.okWith (b1 s.mode.code), s) := by
  rw [State.holdRequest, if_neg fun h => ((isRunMode_iff _).mp h).elim hrun hmanual]

/-- Settles O15: in RUN or MANUAL a HOLD enters HOLDING, which settles at the end of the event. -/
theorem holdStopsGranting : Obligations.HoldStopsGranting := by
  unfold Obligations.HoldStopsGranting
  refine fun s l tag hsending => ⟨fun hmode => ?_, fun hrun hmanual => ?_⟩
  · rw [exec_hold tag hsending, holdRequest_of_run hmode]
    obtain ⟨hholding, hheld⟩ := enterHolding_finish_mode s .holdRequest
    obtain ⟨hmoving, hsettled⟩ := enterHolding_finish_tells s .holdRequest
    obtain ⟨hrunMode, hpermit, hslot, hfault, -⟩ := enterHolding_finish_mc s .holdRequest
    obtain ⟨htable, hroster, hbays, hlaunches, harbiters, hdispatch⟩ := enterHolding_finish_kept s .holdRequest
    have hsurroundings : (s.enterHolding .holdRequest).finish.surroundings = s.surroundings :=
      (finish_surroundings _).trans (enterHolding_surroundings ..)
    have hwindows : (s.enterHolding .holdRequest).finish.tagWindows = s.tagWindows :=
      (finish_tagWindows _).trans (enterHolding_tagWindows ..)
    have hpassages : (s.enterHolding .holdRequest).finish.passages = s.passages :=
      (finish_passages _).trans (enterHolding_passages ..)
    have hnext : (s.enterHolding .holdRequest).finish.nextDispatch = s.nextDispatch :=
      (finish_nextDispatch _).trans (enterHolding_nextDispatch ..)
    refine ⟨_, rfl, replies_surroundings hsurroundings .., fun h => ?_, fun h => ?_, hrunMode, hpermit, hslot, hfault, htable,
      hroster, hbays, hlaunches, harbiters, hwindows, hpassages, hnext, hdispatch⟩
    · have hm := (moving_iff s).mpr h
      exact ⟨hholding hm, ((hmoving hm).trans_nothing (replies_tells ..)).reportsAdded⟩
    · have hm := moving_false s h
      exact ⟨hheld hm, ((hsettled hm).trans_nothing (replies_tells ..)).reportsAdded⟩
  · rw [exec_hold tag hsending, holdRequest_of_ne hrun hmanual]
    rfl

/-! ### HALT (R190) -/

theorem haltable_eq_moves (m : Mode) : haltable m = m.moves := by cases m <;> rfl

theorem dropMove_eq_stopped (w : SwitchRecord) : w.dropMove = w.stopped := by
  obtain ⟨reading, move, held⟩ := w
  cases move <;> rfl

/-- Outside RUN and MANUAL no switch is positioned. -/
theorem positionSwitch_still {s : State} (h : isRunMode s.mode = false) (b : BlockId) (w : SwitchRecord) :
    s.positionSwitch b w = w := by
  unfold State.positionSwitch
  split
  · rfl
  · rw [h]
    rfl

theorem refreshSwitches_still {s : State} (h : isRunMode s.mode = false) : s.refreshSwitches = s := by
  have hsame : vmap (fun b (w : Option SwitchRecord) => w.map (s.positionSwitch b)) s.switches = s.switches := by
    refine Vector.ext fun i hi => ?_
    refine (vget_vmap (i := ⟨i, hi⟩) ..).trans ?_
    have hid : s.positionSwitch ⟨i, hi⟩ = id := funext (positionSwitch_still h _)
    show Option.map (s.positionSwitch ⟨i, hi⟩) _ = _
    rw [hid, Option.map_id]
    rfl
  rw [State.refreshSwitches, hsame]

theorem finish_switches_halted {s : State} (h : s.mode = .halted) : s.finish.switches = s.switches := by
  rw [finish_halted h, refreshSwitches_still (by rw [h]; rfl)]
  rfl

theorem finish_channel_halted {s : State} (h : s.mode = .halted) {c : ChannelId} {b : BlockId} {r : BlockRecord}
    {d : DriveSection} (howner : (s.finish.channel c).owner = some b) (hr : s.record b = some r) (hd : r.drive = some d) :
    (s.finish.channel c).command = safeCommand r.kind ∧ (s.finish.channel c).pulse = none := by
  have hmode : s.refreshSwitches.refreshBrakes.mode = .halted := h
  rw [finish_halted h, refreshChannels_channel] at howner ⊢
  rw [refreshChannel_owner] at howner
  exact refreshChannel_safe hmode howner hr hd

theorem exec_halt {s : State} {l : Link} (tag : Byte) (h : (s.port l).sending = none) :
    exec (.halt l tag []) s =
      .next (s.haltRequest.2.replies l .halt tag s.haltRequest.1.status s.haltRequest.1.data) :=
  exec_own_anywhere (r := .halt) (c := .halt) tag ⟨h, by cases l <;> rfl, rfl⟩ rfl rfl

/-- Settles O16: where the ride may move a HALT enters HALTED, whose safe commands the end of the event derives. -/
theorem haltStopsTheRide : Obligations.HaltStopsTheRide := by
  unfold Obligations.HaltStopsTheRide
  refine fun s l tag hsending => ⟨fun hmoves => ?_, fun hmoves => ?_⟩
  · have hrequest : s.haltRequest = (.okWith (b1 6), (s.enterHalted .haltRequest).finish) := by
      rw [State.haltRequest, haltable_eq_moves, if_pos hmoves]
      rfl
    rw [exec_halt tag hsending, hrequest]
    have hmode : (s.enterHalted .haltRequest).mode = .halted := by rw [State.mode, enterHalted_mc]
    have hderived : Rederived (s.enterHalted .haltRequest) (s.enterHalted .haltRequest).finish :=
      finish_rederived (by rw [hmode]; nofun) (by rw [hmode]; nofun)
    have hmc : (s.enterHalted .haltRequest).finish.mc = { s.mc with mode := .halted, permit := false, slot := none } :=
      hderived.keeps_mc.trans (enterHalted_mc ..)
    have hentry (b : BlockId) : (s.enterHalted .haltRequest).finish.entry b = (s.entry b).halted := by
      rw [hderived.keeps_entry, State.entry, enterHalted_table, vget_vmap, freeze_eq_halted]
      rfl
    have hswitch (b : BlockId) : (s.enterHalted .haltRequest).finish.switchRec b = (s.switchRec b).map (·.stopped) := by
      rw [State.switchRec, finish_switches_halted hmode, enterHalted_switches, vget_vmap,
        funext dropMove_eq_stopped]
      rfl
    have hsurroundings : (s.enterHalted .haltRequest).finish.surroundings = s.surroundings :=
      (finish_surroundings _).trans (enterHalted_surroundings ..)
    have htells := ((enterHalted_tells s .haltRequest).trans_nothing hderived.tells).trans_nothing
      (replies_tells (s.enterHalted .haltRequest).finish l .halt tag .ok (b1 6))
    have hlayout : (s.enterHalted .haltRequest).layout = s.layout := enterHalted_layout ..
    refine ⟨_, rfl, replies_surroundings hsurroundings .., congrArg (·.mode) hmc, congrArg (·.runMode) hmc,
      congrArg (·.permit) hmc, congrArg (·.slot) hmc, congrArg (·.fault) hmc, hentry,
      hderived.keeps_roster.trans (enterHalted_roster ..), hderived.keeps_bays.trans (enterHalted_bays ..),
      hderived.keeps_launches.trans (enterHalted_launches ..), (finish_tagWindows _).trans (enterHalted_tagWindows ..),
      hswitch, htells.reportsAdded, hderived.keeps_dispatch.trans (enterHalted_dispatch ..), fun ch b r dr howner hr hd => ?_⟩
    rw [State.record, ← hlayout] at hr
    exact finish_channel_halted hmode howner hr hd
  · have hrequest : s.haltRequest = (.okWith (b1 s.mode.code), s) := by
      rw [State.haltRequest, haltable_eq_moves, hmoves]
      rfl
    rw [exec_halt tag hsending, hrequest]
    rfl

end Sys2Proof.Machine
end

section
/-! PROOFS. The matching ENTER STANDBY: the change of mode, the units set up from the layout, and the end of the event. -/

namespace Sys2Proof.Machine

open Sys2Proof

/-! ### The change of mode (R185, R199) -/

theorem changed_mc (s : State) (m : ModeReq) :
    (s.changed m).mc = { s.mc with
      mode := m.target s.mode s.mc.runMode
      runMode := runModeAfter (m.target s.mode s.mc.runMode) s.mc.runMode
      permit := permitOf (m.target s.mode s.mc.runMode)
      slot := none } := changeMode_mc ..

theorem changed_tells (s : State) (m : ModeReq) :
    Tells s (s.changed m) [.of .mode none none 1 s.mode.code (m.target s.mode s.mc.runMode).code 0] :=
  (changeMode_tells (s.setMc { s.mc with slot := none }) (m.target s.mode s.mc.runMode) .request).after_quiet
    rfl (fun _ => rfl) rfl

/-! ### The end of an event in STANDBY and HALTED -/

theorem finish_at_rest {s : State} (h : s.mode = .standby) : s.finish = s.refreshBrakes.refreshChannels := by
  rw [finish_still s (by rw [h]; nofun) (by rw [h]; nofun) (by rw [h]; nofun), refreshSwitches_still (by rw [h]; rfl)]

theorem refreshChannel_of_unowned {s : State} {c : Channel} (h : c.owner = none) : s.refreshChannel c = c := by
  rw [State.refreshChannel, h]

theorem refreshChannel_pulse_none {s : State} {c : Channel} (h : c.pulse = none) : (s.refreshChannel c).pulse = none := by
  unfold State.refreshChannel
  split
  · exact h
  split
  · exact h
  split
  · exact h
  · simp only [h, ite_self]

/-- Where the block table is as it was set up, a brake's demand is at the idle level. -/
theorem demandOf_setup {s : State} {b : BlockId} {r : BrakeSection} (k : Brake) (hr : (s.record b).bind (·.brake) = some r)
    (hentry : s.entry b = .bare (s.layout.setupState b)) : s.demandOf b k = r.idleLevel := by
  obtain ⟨rec, hrec, hbrake⟩ := Option.bind_eq_some_iff.mp hr
  refine demandOf_of_idle hrec hbrake ?_
  rw [hentry]
  show s.layout.setupState b ∈ _
  unfold LayoutStore.setupState
  split
  · split <;> decide
  · decide

/-! ### The units set up (R186) -/

theorem setUp_bay (s : State) (b : BlockId) : s.setUp.bay b = if s.layout.kind b = some .bay then
    some (Bay.vacant (((s.bay b).map (·.weighs)).getD 0) (((s.bay b).map (·.failures)).getD 0)) else none :=
  vget_vmap ..

theorem setUp_launchRec (s : State) (b : BlockId) : s.setUp.launchRec b =
    if s.layout.kind b = some .launch then some { lastLaunch := none, headway := none } else none :=
  vget_vmap ..

theorem setUp_arbiter (s : State) (m : MergeId) : s.setUp.arbiter m = (s.layout.merge m).map fun _ => Arbiter.initial :=
  vget_vmap ..

theorem setUp_switchRec (s : State) (b : BlockId) :
    s.setUp.switchRec b = ((s.record b).bind (·.switch)).map s.freshSwitch :=
  vget_vmap ..

theorem setUp_brake (s : State) (b : BlockId) : s.setUp.brake b = ((s.record b).bind (·.brake)).map Brake.fresh :=
  vget_vmap ..

theorem setUp_channel (s : State) (c : ChannelId) :
    s.setUp.channel c = { Channel.unowned with owner := s.layout.ownerOf c } :=
  vget_vmap ..

theorem freshSwitch_eq (s : State) (z : SwitchSection) :
    s.freshSwitch z = match (s.point z.mainPosition).level, (s.point z.spurPosition).level with
      | true, false => { reading := .main, move := none, held := some .main }
      | false, true => { reading := .spur, move := none, held := some .spur }
      | _, _ => { reading := .none, move := none, held := none } := by
  unfold State.freshSwitch readingOf
  cases (s.point z.mainPosition).level <;> cases (s.point z.spurPosition).level <;> rfl

theorem freshSwitch_of_points {s t : State} (h : t.points = s.points) (z : SwitchSection) :
    t.freshSwitch z = s.freshSwitch z := by
  rw [State.freshSwitch, State.point, State.point, h]
  rfl

/-- The units as they are set up, at the end of the event. -/
theorem setUp_finish_channel {s : State} (h : s.mode = .standby) (c : ChannelId) :
    (s.setUp.finish.channel c).owner = s.layout.ownerOf c ∧ (s.setUp.finish.channel c).pulse = none ∧
      ((s.setUp.finish.channel c).owner = none → (s.setUp.finish.channel c).command = .deEnergised) := by
  have hmode : s.setUp.mode = .standby := (mode_of_mc (setUp_mc s)).trans h
  have hchannel : s.setUp.refreshBrakes.channel c = { Channel.unowned with owner := s.layout.ownerOf c } := setUp_channel s c
  rw [finish_at_rest hmode, refreshChannels_channel, hchannel]
  refine ⟨refreshChannel_owner .., refreshChannel_pulse_none rfl, fun howner => ?_⟩
  rw [refreshChannel_owner] at howner
  rw [refreshChannel_of_unowned howner]
  rfl

theorem setUp_finish_brake {s : State} (h : s.mode = .standby) (b : BlockId) :
    s.setUp.finish.brake b = ((s.record b).bind (·.brake)).map Brake.fresh := by
  have hmode : s.setUp.mode = .standby := (mode_of_mc (setUp_mc s)).trans h
  have hentry : s.setUp.entry b = .bare (s.setUp.layout.setupState b) := by rw [setUp_entry, setUp_layout]
  rw [finish_at_rest hmode]
  refine (refreshBrakes_brake s.setUp b).trans ?_
  rw [setUp_brake]
  cases hr : (s.record b).bind (·.brake) with
  | none => rfl
  | some r =>
    have hr' : (s.setUp.record b).bind (·.brake) = some r := by
      rw [State.record, setUp_layout]
      exact hr
    exact congrArg (fun n => some { Brake.fresh r with demand := n }) (demandOf_setup (Brake.fresh r) hr' hentry)

/-! ### ENTER STANDBY -/

theorem modeRefusal_standby {s : State} (h : s.layout.validate = none) :
    s.modeRefusal .enterStandby (some s.layout.generation) = none := by
  show s.standbyRefusal _ = none
  rw [State.standbyRefusal, if_neg (not_not_intro rfl), h]
  rfl

/-- A change of mode is one of the Mode Controller, the timers of the dispatch list and the reports alone. -/
theorem changed_keeps (s : State) (m : ModeReq) :
    (s.changed m).layout = s.layout ∧ (s.changed m).bays = s.bays ∧ (s.changed m).points = s.points ∧
      (s.changed m).roster = s.roster ∧ (s.changed m).table = s.table ∧ (s.changed m).nextDispatch = s.nextDispatch :=
  ⟨changeMode_layout .., changeMode_bays .., changeMode_points .., changeMode_roster .., changeMode_table ..,
    changeMode_nextDispatch ..⟩

/-- Settles O13: every unit is set up from the validated layout, and the end of the event leaves the set-up. -/
theorem matchedEnterStandbySetsUp : Obligations.MatchedEnterStandbySetsUp := by
  unfold Obligations.MatchedEnterStandbySetsUp
  intro s c other tag d hadmits hgeneration hvalid hne hslot
  have hconfigure : s.mode = .configure := by simpa [ModeReq.modes] using admits_mode (m := .enterStandby) hadmits
  have hexec := exec_matched (tag := tag) hadmits hgeneration (modeRefusal_standby hvalid) hne hslot
  have hcarried : s.carryOut .enterStandby = (s.changed .enterStandby).setUp.finish := carryOut_eq s .enterStandby
  have hsurroundings : (s.changed .enterStandby).setUp.finish.surroundings = s.surroundings := by
    rw [finish_surroundings, setUp_surroundings, changed_surroundings]
  have htold := changed_tells s .enterStandby
  rw [hconfigure] at htold
  rw [hcarried] at hexec
  obtain ⟨hlayout, hbays, hpoints, hroster, -, hnext⟩ := changed_keeps s .enterStandby
  have hmc := changed_mc s .enterStandby
  have hdispatch : (s.changed .enterStandby).dispatch = s.dispatch :=
    changeMode_dispatch_still (s := s.setMc { s.mc with slot := none }) .request (congrArg isRunMode hconfigure) rfl
  generalize s.changed .enterStandby = u at hexec hcarried hsurroundings htold hlayout hbays hpoints hroster hnext hmc hdispatch
  have hstandby : u.mode = .standby := congrArg (·.mode) hmc
  have hmode : u.setUp.mode = .standby := (mode_of_mc (setUp_mc u)).trans hstandby
  have hderived : Rederived u.setUp u.setUp.finish := finish_rederived (by rw [hmode]; nofun) (by rw [hmode]; nofun)
  have hend : u.setUp.finish.mc = _ := (hderived.keeps_mc.trans (setUp_mc u)).trans hmc
  have htells : Tells s u.setUp.finish [.of .mode none none 1 0 1 0] :=
    (htold.trans_nothing (.of_surroundings (setUp_surroundings u) (setUp_reports u))).trans_nothing hderived.tells
  have hrecord (b : BlockId) : u.record b = s.record b := by rw [State.record, hlayout]; rfl
  refine ⟨_, hexec, replies_surroundings hsurroundings .., (htells.trans_nothing (replies_tells ..)).reportsAdded,
    congrArg (·.mode) hend, congrArg (·.slot) hend, congrArg (·.permit) hend, congrArg (·.runMode) hend,
    congrArg (·.fault) hend, (hderived.keeps_roster.trans (setUp_roster u)).trans hroster,
    (hderived.keeps_nextDispatch.trans (setUp_nextDispatch u)).trans hnext, ?_, fun b => ?_, fun b => ?_, fun b => ?_,
    fun m => ?_, fun b => ?_, fun b => ?_, fun ch b howner => ?_, fun ch => ?_, fun b r dr hr hdr => ?_⟩
  · exact congrArg (List.map (·.seq)) ((hderived.keeps_dispatch.trans (setUp_dispatch u)).trans hdispatch)
  · exact ((hderived.keeps_entry b).trans (setUp_entry u b)).trans (by rw [hlayout]; rfl)
  · exact (congrArg (vget · b) hderived.keeps_bays).trans ((setUp_bay u b).trans (by rw [hlayout, State.bay, hbays]; rfl))
  · exact (congrArg (vget · b) hderived.keeps_launches).trans ((setUp_launchRec u b).trans (by rw [hlayout]))
  · exact (congrArg (vget · m) hderived.keeps_arbiters).trans ((setUp_arbiter u m).trans (by rw [hlayout]; rfl))
  · have hswitch : (u.setUp.finish.replies c.link .enterStandby tag .ok (b1 1)).switchRec b =
        ((s.record b).bind (·.switch)).map u.freshSwitch := by
      rw [← hrecord, ← setUp_switchRec, finish_at_rest hmode]
      rfl
    refine ⟨fun hnone => ?_, fun z hz => ?_⟩
    · exact hswitch.trans (by rw [hnone]; rfl)
    · rw [hz, Option.map_some, freshSwitch_of_points hpoints] at hswitch
      exact hswitch.trans (congrArg some (freshSwitch_eq s z))
  · exact (setUp_finish_brake hstandby b).trans (by rw [hrecord]; rfl)
  · refine ownerOf_some (L := s.layout) (Eq.trans ?_ howner)
    rw [← hlayout]
    exact (setUp_finish_channel hstandby ch).1.symm
  · exact (setUp_finish_channel hstandby ch).2
  · refine (congrArg Option.isSome (setUp_finish_channel hstandby dr.channel).1).trans ?_
    rw [hlayout]
    exact ownerOf_isSome hr hdr

end Sys2Proof.Machine
end

section
/-! PROOFS. The matching RESTART and ENTER CONFIGURE: what they forget, and what the units keep. -/

namespace Sys2Proof.Machine

open Sys2Proof

/-! ### Every bay VACANT (R80, R101) -/

theorem setPhase_phaseReports_ne (s : State) {b c : BlockId} (p q : Phase) (h : c ≠ b) :
    (s.setPhase b p).phaseReports c q = s.phaseReports c q := by
  rw [State.phaseReports, State.phaseReports, setPhase_bay_ne s p h, State.entry, setPhase_table]
  rfl

/-- Several bays moved to a phase one after the other report as each would alone. -/
theorem setPhases_tells {bs : List BlockId} (h : bs.Nodup) (s : State) (p : Phase) :
    Tells s (bs.foldl (fun t b => t.setPhase b p) s) (bs.flatMap fun b => s.phaseReports b p) := by
  induction bs generalizing s with
  | nil => exact .refl s
  | cons b bs ih =>
    obtain ⟨hb, hbs⟩ := List.nodup_cons.mp h
    have hrest : (bs.flatMap fun c => (s.setPhase b p).phaseReports c p) = bs.flatMap fun c => s.phaseReports c p :=
      flatMap_congr_on fun c hc => setPhase_phaseReports_ne s p p fun hcb => hb (hcb ▸ hc)
    rw [List.foldl_cons, List.flatMap_cons, ← hrest]
    exact (setPhase_tells s b p).trans (ih hbs _)

theorem setPhases_bay {bs : List BlockId} {c : BlockId} (hc : c ∈ bs) (s : State) (p : Phase) :
    (bs.foldl (fun t b => t.setPhase b p) s).bay c = (s.bay c).map fun y => { y with phase := p } := by
  induction bs generalizing s with
  | nil => cases hc
  | cons b bs ih =>
    rw [List.foldl_cons]
    by_cases hbs : c ∈ bs
    · rw [ih hbs, setPhase_bay]
      split
      case isTrue h => rw [h, Option.map_map]; rfl
      case isFalse => rfl
    · have hb : c = b := (List.mem_cons.mp hc).resolve_right hbs
      subst hb
      have hrest : (bs.foldl (fun t b => t.setPhase b p) (s.setPhase c p)).bay c = (s.setPhase c p).bay c := by
        refine List.foldlRecOn (motive := fun t : State => t.bay c = (s.setPhase c p).bay c) bs _ rfl fun t ht b hb => ?_
        have hne : c ≠ b := fun hcb => hbs (hcb ▸ hb)
        rw [setPhase_bay_ne t p hne, ht]
      rw [hrest, setPhase_bay_self]

/-! ### What is forgotten (R61, R80, R123, R134, R187) -/

/-- `t` is a ride that has lost the picture `s` had of it. -/
structure Forgotten (s t : State) : Prop where
  mc : t.mc = s.mc
  entry : ∀ b, t.entry b = .bare (s.layout.setupState b)
  slot : ∀ x, t.slot x = (s.slot x).offTrack
  tagWindow : ∀ p, vget t.tagWindows p = none
  dispatch : t.dispatch = []
  nextDispatch : t.nextDispatch = s.nextDispatch
  arbiter : ∀ m, t.arbiter m = (s.arbiter m).map fun _ => Arbiter.initial
  launchRec : ∀ b, t.launchRec b = (s.launchRec b).map fun _ => { lastLaunch := none, headway := none }
  bay : ∀ b, t.bay b = (s.bay b).map fun y => Bay.vacant y.weighs y.failures
  counts : t.passages = s.passages ∧ t.tagDiscards = s.tagDiscards ∧ t.trapStrays = s.trapStrays
  surroundings : t.surroundings = s.surroundings
  tells : Tells s t (allBlocks.flatMap fun b => match s.bay b with
    | some y => bayReport b none y.phase .vacant
    | none => [])

theorem Forgotten.of_rederived {s t u : State} (hs : Forgotten s t) (h : Rederived t u) : Forgotten s u := by
  have htells := hs.tells.trans_nothing h.tells
  unfold Rederived at h
  rw [h] at htells ⊢
  exact ⟨hs.mc, hs.entry, hs.slot, hs.tagWindow, hs.dispatch, hs.nextDispatch, hs.arbiter, hs.launchRec, hs.bay, hs.counts,
    hs.surroundings, htells⟩

/-- The bays made VACANT leave every other part as it is. -/
theorem vacateAll_keeps {γ : Type} (v : State → γ) (h : ∀ t b, v (State.setPhase t b .vacant) = v t) (s : State) :
    v s.vacateAll = v s := foldl_keeps v _ h _ s

theorem forget_bay (s : State) (b : BlockId) : s.forget.bay b = (s.bay b).map (·.dropped) := vget_vmap ..

theorem forget_tells (s : State) : Tells s s.forget.vacateAll (allBlocks.flatMap fun b => match s.bay b with
    | some y => bayReport b none y.phase .vacant
    | none => []) := by
  have htells := setPhases_tells (List.nodup_finRange 32) s.forget .vacant
  have hreports (b : BlockId) : s.forget.phaseReports b .vacant = match s.bay b with
      | some y => bayReport b none y.phase .vacant
      | none => [] := by
    have hoccupant : (s.forget.entry b).occupant = none := (forget_vacant s b).1
    rw [State.phaseReports, forget_bay, hoccupant]
    cases s.bay b <;> rfl
  rw [funext hreports] at htells
  exact htells.after_quiet rfl (fun _ => rfl) rfl

theorem forget_forgotten (s : State) : Forgotten s s.forget.vacateAll where
  mc := vacateAll_mc _
  entry b := (congrArg (vget · b) (vacateAll_keeps State.table (fun t b => setPhase_table t b _) s.forget)).trans (vget_vmap ..)
  slot x := (congrArg (vget · x) (vacateAll_keeps State.roster (fun t b => setPhase_roster t b _) s.forget)).trans (vget_vmap ..)
  tagWindow p := (congrArg (vget · p) (vacateAll_keeps State.tagWindows (fun t b => setPhase_tagWindows t b _) s.forget)).trans
    (Vector.getElem_replicate ..)
  dispatch := vacateAll_keeps State.dispatch (fun t b => setPhase_dispatch t b _) s.forget
  nextDispatch := vacateAll_keeps State.nextDispatch (fun t b => setPhase_nextDispatch t b _) s.forget
  arbiter m := (congrArg (vget · m) (vacateAll_keeps State.arbiters (fun t b => setPhase_arbiters t b _) s.forget)).trans
    (vget_vmap ..)
  launchRec b := (congrArg (vget · b) (vacateAll_keeps State.launches (fun t b => setPhase_launches t b _) s.forget)).trans
    (vget_vmap ..)
  bay b := by
    have hbay : s.forget.vacateAll.bay b = (s.forget.bay b).map fun y => { y with phase := .vacant } :=
      setPhases_bay (List.mem_finRange b) ..
    rw [hbay, forget_bay, Option.map_map]
    rfl
  counts := ⟨vacateAll_keeps State.passages (fun t b => setPhase_passages t b _) s.forget,
    vacateAll_keeps State.tagDiscards (fun t b => setPhase_tagDiscards t b _) s.forget,
    vacateAll_keeps State.trapStrays (fun t b => setPhase_trapStrays t b _) s.forget⟩
  surroundings := vacateAll_keeps State.surroundings (fun t b => setPhase_surroundings t b _) s.forget
  tells := forget_tells s

/-! ### The units (R130, R142, R167, R172) -/

/-- RESTART on switches and channels. -/
theorem restartUnits_rederived (s : State) : Rederived s.forget.vacateAll s.restartUnits := by
  unfold State.restartUnits
  generalize s.forget.vacateAll = u
  rfl

theorem configureUnits_rederived (s : State) : Rederived s.forget.vacateAll s.configureUnits := by
  unfold State.configureUnits
  generalize s.forget.vacateAll = u
  rfl

theorem restartUnits_switchRec (s : State) (b : BlockId) :
    s.restartUnits.switchRec b = (s.switchRec b).map (·.restarted) := by
  have hkept : s.forget.vacateAll.switches = s.switches :=
    vacateAll_keeps State.switches (fun t b => setPhase_switches t b _) s.forget
  unfold State.restartUnits
  generalize s.forget.vacateAll = u at hkept ⊢
  refine (vget_vmap ..).trans ?_
  rw [hkept]
  rfl

theorem configureUnits_switchRec (s : State) (b : BlockId) :
    s.configureUnits.switchRec b = (s.switchRec b).map (·.idled) := by
  have hkept : s.forget.vacateAll.switches = s.switches :=
    vacateAll_keeps State.switches (fun t b => setPhase_switches t b _) s.forget
  unfold State.configureUnits
  generalize s.forget.vacateAll = u at hkept ⊢
  refine (vget_vmap ..).trans ?_
  rw [hkept]
  rfl

theorem restartUnits_channel (s : State) (c : ChannelId) : s.restartUnits.channel c = (s.channel c).restarted := by
  have hkept : s.forget.vacateAll.channels = s.channels :=
    vacateAll_keeps State.channels (fun t b => setPhase_channels t b _) s.forget
  unfold State.restartUnits
  generalize s.forget.vacateAll = u at hkept ⊢
  refine (vget_vmap ..).trans ?_
  rw [hkept]
  rfl

theorem configureUnits_channel (s : State) (c : ChannelId) : s.configureUnits.channel c = .unowned := by
  unfold State.configureUnits
  generalize s.forget.vacateAll = u
  exact Vector.getElem_replicate ..

theorem forgotten_brake (s : State) (b : BlockId) : s.forget.vacateAll.brake b = (s.brake b).map (·.reset) :=
  (congrArg (vget · b) (vacateAll_keeps State.brakes (fun t b => setPhase_brakes t b _) s.forget)).trans (vget_vmap ..)

theorem restartUnits_brake (s : State) (b : BlockId) : s.restartUnits.brake b = (s.brake b).map (·.reset) := by
  have hbrake := forgotten_brake s b
  unfold State.restartUnits
  generalize s.forget.vacateAll = u at hbrake ⊢
  exact hbrake

/-- ENTER CONFIGURE on switches and channels, before the brakes' demands. -/
theorem configureUnits_refreshed (s : State) : ∃ u : State, s.configureUnits = u.refreshBrakes ∧
    Rederived s.forget.vacateAll u ∧ ∀ b, u.brake b = (s.brake b).map (·.reset) := by
  have hbrake := forgotten_brake s
  unfold State.configureUnits
  generalize s.forget.vacateAll = u at hbrake ⊢
  exact ⟨_, rfl, rfl, hbrake⟩

/-- The brake records of a ride forgotten, once their demands are derived: those of before, with demands at the idle level. -/
theorem forgotten_refreshBrakes {s u : State} (h : Forgotten s u) (hbrake : ∀ b, u.brake b = (s.brake b).map (·.reset))
    (b : BlockId) :
    (s.brake b = none → u.refreshBrakes.brake b = none) ∧
      ∀ k r, s.brake b = some k → (s.record b).bind (·.brake) = some r →
        u.refreshBrakes.brake b = some { k with passage := none, demand := r.idleLevel, hold := false, stopDelay := none } := by
  have hlayout := (surroundings_layout h.surroundings).1
  rw [refreshBrakes_brake, hbrake]
  refine ⟨fun hnone => by rw [hnone]; rfl, fun k r hk hr => ?_⟩
  have hentry : u.entry b = .bare (u.layout.setupState b) := by rw [h.entry, hlayout]
  have hr' : (u.record b).bind (·.brake) = some r := by
    rw [State.record, hlayout]
    exact hr
  rw [hk]
  exact congrArg (fun n => some { k.reset with demand := n }) (demandOf_setup k.reset hr' hentry)

theorem rederived_derived (u : State) : Rederived u u.refreshBrakes.refreshChannels := rfl

/-- RESTART and the end of its event. -/
theorem restartUnits_finish {s : State} (h : s.mode = .standby) :
    s.restartUnits.finish = s.restartUnits.refreshBrakes.refreshChannels :=
  finish_at_rest ((mode_of_mc (restartUnits_mc s)).trans h)

/-! ### RESTART and ENTER CONFIGURE carried out -/

/-- What RESTART and ENTER CONFIGURE make of the units, from the ride right after the change of mode. -/
structure UnitsForgotten (m : ModeReq) (s t : State) : Prop where
  forgotten : Forgotten s t
  brake : ∀ b, (s.brake b = none → t.brake b = none) ∧
    ∀ k r, s.brake b = some k → (s.record b).bind (·.brake) = some r →
      t.brake b = some { k with passage := none, demand := r.idleLevel, hold := false, stopDelay := none }
  switchRec : ∀ b, t.switchRec b = (s.switchRec b).map fun w =>
    { reading := w.reading, move := none, held := if m = .restart then w.reading.leg else w.held }
  channel : ∀ c, (t.channel c).pulse = none ∧ (t.channel c).owner = (if m = .restart then (s.channel c).owner else none) ∧
    (m = .enterConfigure → t.channel c = .unowned)

theorem restart_forgets {s : State} (h : s.mode = .standby) : UnitsForgotten .restart s s.restartUnits.finish := by
  have hforgotten := (forget_forgotten s).of_rederived (restartUnits_rederived s)
  have hbrake := forgotten_refreshBrakes hforgotten (restartUnits_brake s)
  have hswitch := restartUnits_switchRec s
  have hchannels := restartUnits_channel s
  rw [restartUnits_finish h]
  generalize s.restartUnits = u at hforgotten hbrake hswitch hchannels ⊢
  refine ⟨hforgotten.of_rederived (rederived_derived u), hbrake, hswitch, fun c => ?_⟩
  have hchannel : u.refreshBrakes.channel c = (s.channel c).restarted := hchannels c
  rw [refreshChannels_channel, hchannel]
  exact ⟨refreshChannel_pulse_none rfl, refreshChannel_owner .., nofun⟩

theorem configure_forgets (s : State) : UnitsForgotten .enterConfigure s s.configureUnits := by
  obtain ⟨u, hrefreshed, hderived, hbrake⟩ := configureUnits_refreshed s
  refine ⟨(forget_forgotten s).of_rederived (configureUnits_rederived s), fun b => ?_, configureUnits_switchRec s, fun c => ?_⟩
  · rw [hrefreshed]
    exact forgotten_refreshBrakes ((forget_forgotten s).of_rederived hderived) hbrake b
  · rw [configureUnits_channel]
    exact ⟨rfl, rfl, fun _ => rfl⟩

theorem carryOut_forgets {s : State} {m : ModeReq} (hm : m ∈ [ModeReq.restart, .enterConfigure]) :
    UnitsForgotten m (s.changed m) (s.carryOut m) := by
  have hcases : m = .restart ∨ m = .enterConfigure := by simpa using hm
  obtain rfl | rfl := hcases
  · rw [carryOut_eq]
    exact restart_forgets (changed_mode ..)
  · exact configure_forgets _

/-- The units and the track are the same right after the change of mode. -/
theorem changed_units (s : State) (m : ModeReq) :
    (s.changed m).arbiters = s.arbiters ∧ (s.changed m).launches = s.launches ∧ (s.changed m).brakes = s.brakes ∧
      (s.changed m).switches = s.switches ∧ (s.changed m).channels = s.channels ∧ (s.changed m).passages = s.passages ∧
      (s.changed m).tagDiscards = s.tagDiscards ∧ (s.changed m).trapStrays = s.trapStrays :=
  ⟨changeMode_arbiters .., changeMode_launches .., changeMode_brakes .., changeMode_switches .., changeMode_channels ..,
    changeMode_passages .., changeMode_tagDiscards .., changeMode_trapStrays ..⟩

theorem UnitsForgotten.of_changed {m : ModeReq} {s t u : State} (h : UnitsForgotten m u t)
    (hlayout : u.layout = s.layout) (hbrakes : u.brakes = s.brakes) (hswitches : u.switches = s.switches)
    (hchannels : u.channels = s.channels) :
    (∀ b, (s.brake b = none → t.brake b = none) ∧
      ∀ k r, s.brake b = some k → (s.record b).bind (·.brake) = some r →
        t.brake b = some { k with passage := none, demand := r.idleLevel, hold := false, stopDelay := none }) ∧
      (∀ b, t.switchRec b = (s.switchRec b).map fun w =>
        { reading := w.reading, move := none, held := if m = .restart then w.reading.leg else w.held }) ∧
      ∀ c, (t.channel c).pulse = none ∧ (t.channel c).owner = (if m = .restart then (s.channel c).owner else none) ∧
        (m = .enterConfigure → t.channel c = .unowned) := by
  obtain ⟨-, hbrake, hswitch, hchannel⟩ := h
  simp only [State.brake, State.record, State.switchRec, State.channel, hlayout, hbrakes, hswitches, hchannels] at hbrake hswitch hchannel
  exact ⟨hbrake, hswitch, hchannel⟩

theorem slot_offTrack (t : Slot) : t.offTrack = match t with
    | .unused => .unused
    | .absent bt => .absent { bt with load := none }
    | .onTrack bt _ _ => .absent { bt with load := none } := by
  cases t <;> rfl

theorem modeRefusal_forgetting {m : ModeReq} (hm : m ∈ [ModeReq.restart, .enterConfigure]) (s : State) (g : Option Nat) :
    s.modeRefusal m g = none := by
  have hcases : m = .restart ∨ m = .enterConfigure := by simpa using hm
  obtain rfl | rfl := hcases <;> rfl

theorem target_forgetting {m : ModeReq} (hm : m ∈ [ModeReq.restart, .enterConfigure]) (mode : Mode) (runMode : RunMode) :
    m.target mode runMode = (if m = .restart then .standby else .configure) := by
  have hcases : m = .restart ∨ m = .enterConfigure := by simpa using hm
  obtain rfl | rfl := hcases <;> rfl

/-- Only ENTER STANDBY has arguments (R180). -/
theorem argBytes_of_ne {m : ModeReq} (h : m ≠ .enterStandby) (g : Nat) : m.argBytes g = [] ∧ m.quotes g = none := by
  cases m
  case enterStandby => exact absurd rfl h
  all_goals exact ⟨rfl, rfl⟩

/-- The matching request of the other link, for a request that quotes nothing. -/
theorem exec_matched_unquoted {s : State} {m : ModeReq} {c other : ControlLink} (tag : Byte) {d : Time}
    (hm : m ≠ .enterStandby) (hadmits : s.admits c.link m.req) (hr : s.modeRefusal m none = none) (hne : other ≠ c)
    (hslot : s.mc.slot = some { request := m, generation := none, link := other, deadline := d }) :
    exec (requestCommand m.req c.link tag []) s =
      .next ((s.carryOut m).replies c.link m.req tag .ok (b1 (m.target s.mode s.mc.runMode).code)) := by
  obtain ⟨hargs, hquotes⟩ := argBytes_of_ne hm 0
  rw [← hargs]
  rw [← hquotes] at hr hslot
  exact exec_matched hadmits (by decide) hr hne hslot

theorem forgetting_mode {m : ModeReq} (r : RunMode) :
    permitOf (if m = .restart then .standby else .configure) = false ∧
      runModeAfter (if m = .restart then .standby else .configure) r = r ∧
      (if m = .restart then Mode.standby else .configure).code = (if m = .restart then 1 else 0) := by
  by_cases h : m = .restart
  · rw [if_pos h, if_pos h]
    exact ⟨rfl, rfl, rfl⟩
  · rw [if_neg h, if_neg h]
    exact ⟨rfl, rfl, rfl⟩

/-- Settles O14: the change of mode, then everything a ride forgets, the units keeping their records. -/
theorem matchedRestartAndConfigureForget : Obligations.MatchedRestartAndConfigureForget := by
  unfold Obligations.MatchedRestartAndConfigureForget
  intro s m c other tag d hm hadmits hne hslot
  have hstandby : m ≠ .enterStandby := by
    rintro rfl
    exact absurd hm (by decide)
  have hexec := exec_matched_unquoted tag hstandby hadmits (modeRefusal_forgetting hm s none) hne hslot
  have hforgets := carryOut_forgets (s := s) hm
  have htold := changed_tells s m
  have hmc := changed_mc s m
  have hsurroundings := carryOut_surroundings s m
  have hkept := changed_keeps s m
  have hunits := changed_units s m
  obtain ⟨hpermit, hrunMode, hcode⟩ := forgetting_mode (m := m) s.mc.runMode
  rw [target_forgetting hm, hcode] at hexec htold
  rw [target_forgetting hm, hpermit, hrunMode] at hmc
  generalize s.changed m = u at hforgets htold hmc hkept hunits
  obtain ⟨hlayout, hbays, -, hroster, -, hnext⟩ := hkept
  obtain ⟨harbiters, hlaunches, hbrakes, hswitches, hchannels, hpassages, hdiscards, hstrays⟩ := hunits
  obtain ⟨hbrake, hswitch, hchannel⟩ := hforgets.of_changed hlayout hbrakes hswitches hchannels
  have hforgotten := hforgets.forgotten
  have hend := hforgotten.mc.trans hmc
  have htells := (htold.trans hforgotten.tells).trans_nothing
    (replies_tells _ c.link m.req tag .ok (b1 (if m = .restart then 1 else 0)))
  simp only [State.bay, hbays] at htells
  refine ⟨_, hexec, congrArg (·.mode) hend, htells.reportsAdded, replies_surroundings hsurroundings ..,
    congrArg (·.slot) hend, congrArg (·.permit) hend, congrArg (·.runMode) hend, congrArg (·.fault) hend,
    congrArg (·.further) hend, congrArg (·.stopActive) hend, fun b => ?_, fun x => ?_, hforgotten.tagWindow,
    hforgotten.dispatch, hforgotten.nextDispatch.trans hnext, fun k => ?_, fun b => ?_, fun b => ?_, hbrake, hswitch, hchannel,
    hforgotten.counts.1.trans hpassages, hforgotten.counts.2.1.trans hdiscards, hforgotten.counts.2.2.trans hstrays⟩
  · exact (hforgotten.entry b).trans (by rw [hlayout]; rfl)
  · exact (hforgotten.slot x).trans (by rw [slot_offTrack, State.slot, hroster]; rfl)
  · exact (hforgotten.arbiter k).trans (by rw [State.arbiter, harbiters]; rfl)
  · exact (hforgotten.launchRec b).trans (by rw [State.launchRec, hlaunches]; rfl)
  · exact (hforgotten.bay b).trans (by rw [State.bay, hbays]; rfl)

end Sys2Proof.Machine
end

section
/-! PROOFS. What one grant does: the rule of each unit's part in it, joined to `GrantMade`. -/

namespace Sys2Proof.Machine

open Sys2Proof

/-! ### The turns of the merge arbiters (R135, R139) -/

/-- Whose turn it is at a merge, apart from how many boats wait. -/
def Arbiter.turn (a : Arbiter) : Option MergeInput × Nat := (a.holder, a.burstRemaining)

theorem recount_turn (a : Arbiter) (r : MergeRecord) (table : Vector Entry 32) (b : BlockId) :
    (a.recount r table b).turn = a.turn := by
  unfold Arbiter.recount Arbiter.turn
  cases r.feeder0.contains b <;> cases r.feeder1.contains b <;> rfl

/-- The turns of every merge of a state. -/
def State.turns (s : State) (m : MergeId) : Option (Option MergeInput × Nat) := (s.arbiter m).map Arbiter.turn

theorem setEntry_turns (s : State) (b : BlockId) (e : Entry) : (s.setEntry b e).turns = s.turns := by
  funext m
  unfold State.turns State.arbiter State.setEntry
  dsimp only
  split
  · rfl
  · rw [recountAll, vget_vmap]
    cases vget s.arbiters m with
    | none => rfl
    | some a =>
      cases s.layout.merge m with
      | none => rfl
      | some r => exact congrArg some (recount_turn a r _ b)

theorem reserve_turns (s : State) (x : BoatId) (p : List BlockId) : (s.reserve x p).turns = s.turns :=
  foldl_keeps State.turns _ (fun t b => setEntry_turns t b _) p s

theorem granted_turns (s : State) (b : BlockId) (x : BoatId) (p : List BlockId) : (s.granted b x p).turns = s.turns :=
  (setEntry_turns ..).trans (reserve_turns s x p)

theorem afterGrant_turn (a : Arbiter) (burst : Nat) (i : MergeInput) :
    (a.afterGrant burst i).turn =
      (some i, if a.holder = some i ∧ 0 < a.burstRemaining then a.burstRemaining - 1 else burst - 1) := by
  unfold Arbiter.afterGrant Arbiter.turn
  split
  case isTrue h => rw [← h.1]
  case isFalse => rfl

theorem bookGrant_of_input {s : State} {b : BlockId} {p : List BlockId} {m : MergeId} {r : MergeRecord} {i : MergeInput}
    (hm : p.getLast?.bind s.layout.mergeAt = some (m, r)) (hi : r.inputOf b p = some i) :
    s.bookGrant b p = { s with arbiters := vput s.arbiters m ((s.arbiter m).map (·.afterGrant r.burst i)) } := by
  rw [State.bookGrant, terminalOf, hm]
  dsimp only
  rw [hi]

theorem bookGrant_arbiter_ne {s : State} {b : BlockId} {p : List BlockId} {m : MergeId}
    (h : ∀ r, p.getLast?.bind s.layout.mergeAt ≠ some (m, r)) : (s.bookGrant b p).arbiter m = s.arbiter m := by
  unfold State.bookGrant terminalOf
  cases hmerge : p.getLast?.bind s.layout.mergeAt with
  | none => rfl
  | some mr =>
    obtain ⟨m', r⟩ := mr
    have hne : m ≠ m' := by
      rintro rfl
      exact h r hmerge
    dsimp only
    split
    · rfl
    · exact vget_vput_ne _ _ hne

theorem bookGrant_isSome (s : State) (b : BlockId) (p : List BlockId) (m : MergeId) :
    ((s.bookGrant b p).arbiter m).isSome = (s.arbiter m).isSome := by
  unfold State.bookGrant
  split
  · rfl
  · split
    · rfl
    case h_2 m' _ _ _ _ _ =>
      by_cases h : m = m'
      · rw [h, State.arbiter, vget_vput_self, Option.isSome_map]
      · rw [State.arbiter, vget_vput_ne _ _ h]
        rfl

/-! ### Kickers and launches (R127, R170) -/

theorem firePulse_of_launch {s : State} {b : BlockId} {r : BlockRecord} {d : DriveSection} {l : LaunchSection}
    (hr : s.record b = some r) (hf : r.fields = .launch d l) :
    s.firePulse b = s.setChannel d.channel { s.channel d.channel with pulse := some (s.timeBase + msSpan l.kickPulse) } := by
  rw [State.firePulse, hr]
  dsimp only
  rw [hf]
  rfl

theorem firePulse_of_other {s : State} {b : BlockId} (h : ∀ r d l, s.record b = some r → r.fields ≠ .launch d l) :
    s.firePulse b = s := by
  unfold State.firePulse
  split
  · rfl
  case h_2 r hr =>
    split
    case h_1 d l hf => exact absurd hf (h r d l hr)
    · rfl

theorem writeLaunch_launchRec_ne (s : State) {b c : BlockId} (h : c ≠ b) : (s.writeLaunch b).launchRec c = s.launchRec c := by
  unfold State.writeLaunch
  split
  · rfl
  · exact vget_vput_ne _ _ h

theorem writeLaunch_launchRec_self {s : State} {b : BlockId} {r : BlockRecord} {l : LaunchSection} {rec : LaunchRecord}
    (hr : s.record b = some r) (hl : r.launch = some l) (hrec : s.launchRec b = some rec) :
    (s.writeLaunch b).launchRec b =
      some { lastLaunch := some s.timeBase, headway := some (s.timeBase + msSpan (l.headway * 1000)) } := by
  rw [State.writeLaunch, hr, Option.bind_some, hl, hrec]
  exact vget_vput_self ..

theorem writeLaunch_isSome (s : State) (b c : BlockId) : ((s.writeLaunch b).launchRec c).isSome = (s.launchRec c).isSome := by
  by_cases h : c = b
  · unfold State.writeLaunch
    split
    · rfl
    · rw [h, State.launchRec, vget_vput_self, Option.isSome_map]
  · rw [writeLaunch_launchRec_ne s h]

/-! ### Bays (R90) -/

/-- A bay from which a boat has been released. -/
def Bay.released (y : Bay) : Bay := { y with phase := .released, returnPhase := some (returnPhaseOf y.phase), weigh := none }

theorem bayGranted_of_some {s : State} {b : BlockId} {y : Bay} (h : s.bay b = some y) :
    s.bayGranted b = (s.setBay b { y with returnPhase := some (returnPhaseOf y.phase), weigh := none }).setPhase b .released := by
  rw [State.bayGranted, h]

theorem bayGranted_of_none {s : State} {b : BlockId} (h : s.bay b = none) : s.bayGranted b = s := by
  rw [State.bayGranted, h]

theorem bayGranted_bay (s : State) (b : BlockId) : (s.bayGranted b).bay b = (s.bay b).map (·.released) := by
  cases h : s.bay b with
  | none => rw [bayGranted_of_none h, h]; rfl
  | some y =>
    rw [bayGranted_of_some h, setPhase_bay_self, setBay_bay_self]
    rfl

theorem bayGranted_bay_ne (s : State) {b c : BlockId} (h : c ≠ b) : (s.bayGranted b).bay c = s.bay c := by
  cases hb : s.bay b with
  | none => rw [bayGranted_of_none hb]
  | some y => rw [bayGranted_of_some hb, setPhase_bay_ne _ _ h, setBay_bay_ne s _ h]

theorem bayGranted_tells (s : State) (b : BlockId) : Tells s (s.bayGranted b) (s.phaseReports b .released) := by
  cases h : s.bay b with
  | none =>
    rw [bayGranted_of_none h, State.phaseReports, h]
    exact .refl s
  | some y =>
    have htells := setPhase_tells (s.setBay b { y with returnPhase := some (returnPhaseOf y.phase), weigh := none }) b .released
    rw [State.phaseReports, setBay_bay_self] at htells
    rw [bayGranted_of_some h, State.phaseReports, h]
    exact htells.after_quiet rfl (fun _ => rfl) rfl

/-! ### The grant in one piece -/

/-- A grant but for what the requester does with its entry and for the bay. -/
def State.grantedUnits (s : State) (b : BlockId) (x : BoatId) (p : List BlockId) : State :=
  ((((s.granted b x p).firePulse b).modBrake b (·.letGo)).writeLaunch b).bookGrant b p

theorem grant_eq {s : State} {b : BlockId} {x : BoatId} (q : Requester) (p : List BlockId)
    (hx : (s.entry b).occupant = some x) :
    s.grant b q p = ((s.grantedUnits b x p).tellRequester b q p).bayGranted b := by
  have heq : ((s.reserve x p).setPath x p).setEntry b
      { s.entry b with
        state := .releasing
        transit := some (((s.reserve x p).setPath x p).after (((s.reserve x p).setPath x p).transitLimit b))
        release := some { path := p, retries := kickRetriesOf (((s.reserve x p).setPath x p).record b), frozen := false } } =
      s.granted b x p := by
    have hrecord : ((s.reserve x p).setPath x p).record b = s.record b := reserve_record s x p b
    have hafter (n : Nat) : ((s.reserve x p).setPath x p).after n = s.after n := by
      rw [State.after, setPath_timeBase, reserve_timeBase, State.after]
    rw [State.granted, State.grantedEntry, hafter, State.transitLimit, State.transitLimit, hrecord]
  unfold State.grant
  dsimp only
  split
  case h_1 hnone => rw [hx] at hnone; cases hnone
  case h_2 y hy =>
    rw [hx] at hy
    cases hy
    rw [heq]
    rfl

section
variable (s : State) (b : BlockId) (x : BoatId) (p : List BlockId)

theorem granted_view {γ : Type} (v : State → γ) (htable : ∀ t x, v { t with table := x } = v t)
    (hroster : ∀ t x, v { t with roster := x } = v t) (harbiters : ∀ t x, v { t with arbiters := x } = v t) :
    v (s.granted b x p) = v s := by
  rw [State.granted, setEntry_view v htable harbiters, setPath_view v hroster, reserve_view v htable harbiters]

theorem granted_record (c : BlockId) : (s.granted b x p).record c = s.record c := by
  rw [State.record, granted_view s b x p State.layout (fun _ _ => rfl) (fun _ _ => rfl) (fun _ _ => rfl)]
  rfl

theorem granted_roster : (s.granted b x p).roster = vput s.roster x ((s.slot x).withPath p) := by
  rw [State.granted, setEntry_roster, State.setPath, setSlot_roster, reserve_roster, State.slot, reserve_roster]
  rfl

theorem grantedUnits_table : (s.grantedUnits b x p).table = (s.granted b x p).table := by
  rw [State.grantedUnits, bookGrant_table, writeLaunch_table, modBrake_table, firePulse_table]

theorem grantedUnits_roster : (s.grantedUnits b x p).roster = (s.granted b x p).roster := by
  rw [State.grantedUnits, bookGrant_roster, writeLaunch_roster, modBrake_roster, firePulse_roster]

theorem grantedUnits_bays : (s.grantedUnits b x p).bays = s.bays := by
  rw [State.grantedUnits, bookGrant_bays, writeLaunch_bays, modBrake_bays, firePulse_bays,
    granted_view s b x p State.bays (fun _ _ => rfl) (fun _ _ => rfl) (fun _ _ => rfl)]

theorem grantedUnits_dispatch : (s.grantedUnits b x p).dispatch = s.dispatch := by
  rw [State.grantedUnits, bookGrant_dispatch, writeLaunch_dispatch, modBrake_dispatch, firePulse_dispatch,
    granted_view s b x p State.dispatch (fun _ _ => rfl) (fun _ _ => rfl) (fun _ _ => rfl)]

theorem grantedUnits_reports : (s.grantedUnits b x p).reports = s.reports := by
  rw [State.grantedUnits, bookGrant_reports, writeLaunch_reports, modBrake_reports, firePulse_reports,
    granted_view s b x p State.reports (fun _ _ => rfl) (fun _ _ => rfl) (fun _ _ => rfl)]

theorem grantedUnits_surroundings : (s.grantedUnits b x p).surroundings = s.surroundings := by
  rw [State.grantedUnits, bookGrant_surroundings, writeLaunch_surroundings, modBrake_surroundings, firePulse_surroundings,
    granted_view s b x p State.surroundings (fun _ _ => rfl) (fun _ _ => rfl) (fun _ _ => rfl)]

theorem grantedUnits_channels : (s.grantedUnits b x p).channels = (s.firePulse b).channels := by
  have hchannels : (s.granted b x p).channels = s.channels :=
    granted_view s b x p State.channels (fun _ _ => rfl) (fun _ _ => rfl) (fun _ _ => rfl)
  have htime : (s.granted b x p).timeBase = s.timeBase :=
    granted_view s b x p State.timeBase (fun _ _ => rfl) (fun _ _ => rfl) (fun _ _ => rfl)
  rw [State.grantedUnits, bookGrant_channels, writeLaunch_channels, modBrake_channels, State.firePulse, State.firePulse,
    granted_record]
  split
  · exact hchannels
  · split
    · rw [setChannel_channels, State.after, State.channel, hchannels, htime]
      rfl
    · exact hchannels

theorem grantedUnits_brakes : (s.grantedUnits b x p).brakes = vput s.brakes b ((s.brake b).map (·.letGo)) := by
  have hbrakes : ((s.granted b x p).firePulse b).brakes = s.brakes := by
    rw [firePulse_brakes, granted_view s b x p State.brakes (fun _ _ => rfl) (fun _ _ => rfl) (fun _ _ => rfl)]
  rw [State.grantedUnits, bookGrant_brakes, writeLaunch_brakes, modBrake_brakes, State.brake, hbrakes]
  rfl

theorem grantedUnits_launches : (s.grantedUnits b x p).launches = (s.writeLaunch b).launches := by
  have hlaunches : (((s.granted b x p).firePulse b).modBrake b (·.letGo)).launches = s.launches := by
    rw [modBrake_launches, firePulse_launches,
      granted_view s b x p State.launches (fun _ _ => rfl) (fun _ _ => rfl) (fun _ _ => rfl)]
  have htime : (((s.granted b x p).firePulse b).modBrake b (·.letGo)).timeBase = s.timeBase := by
    rw [modBrake_timeBase, firePulse_timeBase,
      granted_view s b x p State.timeBase (fun _ _ => rfl) (fun _ _ => rfl) (fun _ _ => rfl)]
  have hrecord : (((s.granted b x p).firePulse b).modBrake b (·.letGo)).record b = s.record b := by
    rw [State.record, modBrake_layout, firePulse_layout]
    exact granted_record s b x p b
  rw [State.grantedUnits, bookGrant_launches, State.writeLaunch, State.writeLaunch, hrecord]
  split
  · exact hlaunches
  · rw [State.launchRec, State.launchRec, State.after, State.after, hlaunches, htime]

/-- Before a grant is booked the arbiters' turns are those of the state. -/
theorem unbooked_turns :
    ((((s.granted b x p).firePulse b).modBrake b (·.letGo)).writeLaunch b).turns = s.turns := by
  rw [writeLaunch_view State.turns (fun _ _ => rfl), modBrake_view State.turns (fun _ _ => rfl),
    firePulse_view State.turns (fun _ _ => rfl), granted_turns]

theorem unbooked_layout : ((((s.granted b x p).firePulse b).modBrake b (·.letGo)).writeLaunch b).layout = s.layout := by
  rw [writeLaunch_layout, modBrake_layout, firePulse_layout,
    granted_view s b x p State.layout (fun _ _ => rfl) (fun _ _ => rfl) (fun _ _ => rfl)]

end

theorem turns_eq_some {s t : State} {m : MergeId} {a : Arbiter} (h : t.turns = s.turns) (ha : s.arbiter m = some a) :
    ∃ n, t.arbiter m = some n ∧ n.holder = a.holder ∧ n.burstRemaining = a.burstRemaining := by
  have hm := congrFun h m
  rw [State.turns, State.turns, ha, Option.map_some, Option.map_eq_some_iff] at hm
  obtain ⟨n, hn, hturn⟩ := hm
  exact ⟨n, hn, congrArg Prod.fst hturn, congrArg Prod.snd hturn⟩

/-- A grant into a merge block passes the turn (R139). -/
theorem grantedUnits_arbiter {s : State} {b : BlockId} (x : BoatId) {p : List BlockId} {m : MergeId} {a : Arbiter}
    (ha : s.arbiter m = some a) : ∃ n, (s.grantedUnits b x p).arbiter m = some n ∧
      (∀ r i, p.getLast?.bind s.layout.mergeAt = some (m, r) → r.inputOf b p = some i →
        n.holder = some i ∧
        n.burstRemaining = if a.holder = some i ∧ 0 < a.burstRemaining then a.burstRemaining - 1 else r.burst - 1) ∧
      ((∀ r, p.getLast?.bind s.layout.mergeAt ≠ some (m, r)) →
        n.holder = a.holder ∧ n.burstRemaining = a.burstRemaining) := by
  have hturns := unbooked_turns s b x p
  have hlayout := unbooked_layout s b x p
  unfold State.grantedUnits
  generalize (((s.granted b x p).firePulse b).modBrake b (·.letGo)).writeLaunch b = u at hturns hlayout ⊢
  obtain ⟨n, hn, hholder, hburst⟩ := turns_eq_some hturns ha
  by_cases hmerge : ∃ r i, p.getLast?.bind s.layout.mergeAt = some (m, r) ∧ r.inputOf b p = some i
  · obtain ⟨r, i, hr, hi⟩ := hmerge
    have hbooked : (u.bookGrant b p).arbiter m = some (n.afterGrant r.burst i) := by
      rw [bookGrant_of_input (hlayout ▸ hr) hi, State.arbiter, vget_vput_self, hn]
      rfl
    have hturn := afterGrant_turn n r.burst i
    rw [hholder, hburst] at hturn
    refine ⟨_, hbooked, fun r' i' hr' hi' => ?_, fun hnone => absurd hr (hnone r)⟩
    cases hr.symm.trans hr'
    cases hi.symm.trans hi'
    exact ⟨congrArg Prod.fst hturn, congrArg Prod.snd hturn⟩
  · have hbooked : (u.bookGrant b p).arbiter m = u.arbiter m := by
      by_cases hr : ∃ r, p.getLast?.bind s.layout.mergeAt = some (m, r)
      · obtain ⟨r, hr⟩ := hr
        have hi : r.inputOf b p = none := Option.eq_none_iff_forall_not_mem.mpr fun i hi => hmerge ⟨r, i, hr, hi⟩
        rw [State.bookGrant, terminalOf, hlayout, hr]
        dsimp only
        rw [hi]
      · exact bookGrant_arbiter_ne fun r h => hr ⟨r, hlayout ▸ h⟩
    exact ⟨n, hbooked.trans hn, fun r i hr hi => absurd ⟨r, i, hr, hi⟩ hmerge, fun _ => ⟨hholder, hburst⟩⟩

end Sys2Proof.Machine
end

section
/-! PROOFS. A grant makes the changes of R33, R90, R119, R127, R139 together, and tells what they report. -/

namespace Sys2Proof.Machine

open Sys2Proof

section
variable {s : State} {b : BlockId} {x : BoatId}

theorem grant_units_view (q : Requester) (p : List BlockId) (hx : (s.entry b).occupant = some x) {γ : Type} (v : State → γ)
    (hbays : ∀ t y, v { t with bays := y } = v t) (hdispatch : ∀ t y, v { t with dispatch := y } = v t)
    (hreports : ∀ t y, v { t with reports := y } = v t) : v (s.grant b q p) = v (s.grantedUnits b x p) := by
  rw [grant_eq q p hx, bayGranted_view v hbays hreports, tellRequester_view v hdispatch hreports]

theorem grant_entry (q : Requester) (p : List BlockId) (hx : (s.entry b).occupant = some x) (c : BlockId) :
    (s.grant b q p).entry c = if c = b then s.grantedEntry b p
      else if c ∈ p then { Entry.bare .reserved with holder := some x } else s.entry c := by
  rw [← granted_entry, State.entry, State.entry, ← grantedUnits_table,
    grant_units_view q p hx State.table (fun _ _ => rfl) (fun _ _ => rfl) (fun _ _ => rfl)]

theorem grant_roster (q : Requester) (p : List BlockId) (hx : (s.entry b).occupant = some x) :
    (s.grant b q p).roster = vput s.roster x ((s.slot x).withPath p) := by
  rw [grant_units_view q p hx State.roster (fun _ _ => rfl) (fun _ _ => rfl) (fun _ _ => rfl), grantedUnits_roster,
    granted_roster]

theorem grant_slot_self (q : Requester) (p : List BlockId) (hx : (s.entry b).occupant = some x) :
    (s.grant b q p).slot x = (s.slot x).withPath p := by
  rw [State.slot, grant_roster q p hx, vget_vput_self]

theorem grant_slot_ne (q : Requester) (p : List BlockId) (hx : (s.entry b).occupant = some x) {y : BoatId} (hy : y ≠ x) :
    (s.grant b q p).slot y = s.slot y := by
  rw [State.slot, grant_roster q p hx, vget_vput_ne _ _ hy]
  rfl

theorem grant_launchRec (q : Requester) (p : List BlockId) (hx : (s.entry b).occupant = some x) (c : BlockId) :
    (s.grant b q p).launchRec c = (s.writeLaunch b).launchRec c := by
  rw [State.launchRec, grant_units_view q p hx State.launches (fun _ _ => rfl) (fun _ _ => rfl) (fun _ _ => rfl),
    grantedUnits_launches]
  rfl

theorem grant_channels (q : Requester) (p : List BlockId) (hx : (s.entry b).occupant = some x) :
    (s.grant b q p).channels = (s.firePulse b).channels := by
  rw [grant_units_view q p hx State.channels (fun _ _ => rfl) (fun _ _ => rfl) (fun _ _ => rfl), grantedUnits_channels]

theorem grant_brakes (q : Requester) (p : List BlockId) (hx : (s.entry b).occupant = some x) :
    (s.grant b q p).brakes = vput s.brakes b ((s.brake b).map (·.letGo)) := by
  rw [grant_units_view q p hx State.brakes (fun _ _ => rfl) (fun _ _ => rfl) (fun _ _ => rfl), grantedUnits_brakes]

theorem grant_arbiter (q : Requester) (p : List BlockId) (hx : (s.entry b).occupant = some x) (m : MergeId) :
    (s.grant b q p).arbiter m = (s.grantedUnits b x p).arbiter m := by
  rw [State.arbiter, grant_units_view q p hx State.arbiters (fun _ _ => rfl) (fun _ _ => rfl) (fun _ _ => rfl)]
  rfl

theorem told_bays (s : State) (b : BlockId) (q : Requester) (p : List BlockId) : (s.tellRequester b q p).bays = s.bays :=
  tellRequester_view State.bays (fun _ _ => rfl) (fun _ _ => rfl) ..

theorem grant_bay (q : Requester) (p : List BlockId) (hx : (s.entry b).occupant = some x) :
    (s.grant b q p).bay b = (s.bay b).map (·.released) := by
  rw [grant_eq q p hx, bayGranted_bay, State.bay, told_bays, grantedUnits_bays]
  rfl

theorem grant_bay_ne (q : Requester) (p : List BlockId) (hx : (s.entry b).occupant = some x) {c : BlockId} (hc : c ≠ b) :
    (s.grant b q p).bay c = s.bay c := by
  rw [grant_eq q p hx, bayGranted_bay_ne _ hc, State.bay, told_bays, grantedUnits_bays]
  rfl

theorem grant_dispatch (q : Requester) (p : List BlockId) (hx : (s.entry b).occupant = some x) :
    (s.grant b q p).dispatch = ((s.grantedUnits b x p).tellRequester b q p).dispatch := by
  rw [grant_eq q p hx, bayGranted_dispatch]

/-- The entry of the block of a grant, with the limits of its record. -/
theorem grantedEntry_of_record (s : State) {b : BlockId} {r : BlockRecord} (p : List BlockId) (hr : s.record b = some r) :
    s.grantedEntry b p = { s.entry b with
      state := .releasing
      transit := some (s.timeBase + msSpan r.transitLimit)
      release := some { path := p, frozen := false, retries := match r.launch with
        | some n => n.kickRetries
        | none => 0 } } := by
  have hretries : kickRetriesOf (some r) = match r.launch with
      | some n => n.kickRetries
      | none => 0 := by
    show (r.launch.map (·.kickRetries)).getD 0 = _
    cases r.launch <;> rfl
  rw [State.grantedEntry, State.transitLimit, hr, hretries]
  rfl

/-- Every unit's part in a grant of a path that does not lead back to its block. -/
theorem grantMade_of_occupant (q : Requester) {p : List BlockId} (hx : (s.entry b).occupant = some x) (hb : b ∉ p) :
    GrantMade s (s.grant b q p) b x p := by
  refine ⟨⟨fun r hr => ?_, fun c hc => ?_, fun c hc hcb => ?_⟩, ⟨fun bt pos old hslot => ?_, fun y hy => grant_slot_ne q p hx hy⟩,
    ⟨fun r n rec hr hn hrec => ?_, fun c hc => ?_⟩, ⟨fun r dr ln hr hf => ?_, fun hother => ?_⟩,
    ⟨fun k hk => ?_, fun c hc => ?_⟩, ⟨fun y hy => ?_, fun c hc => grant_bay_ne q p hx hc⟩, fun m a ha => ?_,
    grant_mc .., grant_switches .., grant_passages .., grant_tagWindows .., grant_tagDiscards .., grant_trapStrays ..,
    grant_nextDispatch .., grant_surroundings ..⟩
  · exact (grant_entry q p hx b).trans ((if_pos rfl).trans (grantedEntry_of_record s p hr))
  · have hcb : c ≠ b := fun h => hb (h ▸ hc)
    rw [grant_entry q p hx, if_neg hcb, if_pos hc]
  · rw [grant_entry q p hx, if_neg hcb, if_neg hc]
  · rw [grant_slot_self q p hx, hslot]
    rfl
  · rw [grant_launchRec q p hx, writeLaunch_launchRec_self hr hn hrec]
  · rw [grant_launchRec q p hx, writeLaunch_launchRec_ne s hc]
  · rw [grant_channels q p hx, firePulse_of_launch hr hf]
    rfl
  · rw [grant_channels q p hx, firePulse_of_other fun r d l hr => hother r d l hr]
  · rw [State.brake, grant_brakes q p hx, vget_vput_self, hk]
    rfl
  · rw [State.brake, grant_brakes q p hx, vget_vput_ne _ _ hc]
    rfl
  · rw [grant_bay q p hx, hy]
    rfl
  · rw [grant_arbiter q p hx]
    exact grantedUnits_arbiter x ha

/-! ### What a grant tells (R101, R121) -/

/-- What the bay of a grant reports, as it finds its block. -/
theorem told_phaseReports (q : Requester) (p : List BlockId) (hx : (s.entry b).occupant = some x) :
    ((s.grantedUnits b x p).tellRequester b q p).phaseReports b .released = match s.bay b with
      | some y => bayReport b (some x) y.phase .released
      | none => [] := by
  have htable : ((s.grantedUnits b x p).tellRequester b q p).table = (s.granted b x p).table :=
    (tellRequester_view State.table (fun _ _ => rfl) (fun _ _ => rfl) ..).trans (grantedUnits_table s b x p)
  have hoccupant : (((s.grantedUnits b x p).tellRequester b q p).entry b).occupant = some x := by
    rw [State.entry, htable]
    refine (congrArg Entry.occupant (granted_entry (s := s) b)).trans ?_
    rw [if_pos rfl]
    exact hx
  rw [State.phaseReports, hoccupant, State.bay, told_bays, grantedUnits_bays]
  rfl

/-- A grant tells what its requester tells and then what its bay tells. -/
theorem grant_tells (q : Requester) (p : List BlockId) (hx : (s.entry b).occupant = some x) {rs : List Told}
    (hq : Tells (s.grantedUnits b x p) ((s.grantedUnits b x p).tellRequester b q p) rs) :
    Tells s (s.grant b q p) (rs ++ match s.bay b with
      | some y => bayReport b (some x) y.phase .released
      | none => []) := by
  have hunits : Tells s (s.grantedUnits b x p) [] :=
    .of_surroundings (grantedUnits_surroundings s b x p) (grantedUnits_reports s b x p)
  have hbay := bayGranted_tells ((s.grantedUnits b x p).tellRequester b q p) b
  rw [told_phaseReports q p hx] at hbay
  rw [grant_eq q p hx]
  exact hunits.trans (hq.trans hbay)

theorem tellRequester_dispatch_tells (s : State) (b : BlockId) (e : DispatchEntry) (p : List BlockId) :
    Tells s (s.tellRequester b (.dispatch e) p)
      [.of .dispatch (some e.bay) (some e.boat) 2 e.seq.toNat ((p.getLast?.map (·.val)).getD 255) 0] := by
  have hterminal : (p.getLast?.map (·.val)).getD 255 ≤ 65535 := by
    cases p.getLast? with
    | none => decide
    | some c => exact Nat.le_of_lt (Nat.lt_trans c.isLt (by decide))
  exact (dispatchReport_tells (s.removeEntry e) e .granted hterminal (Nat.zero_le _)).after_quiet rfl (fun _ => rfl) rfl

theorem grant_scheduler_dispatch (p : List BlockId) (hx : (s.entry b).occupant = some x) :
    (s.grant b .scheduler p).dispatch = s.dispatch := by
  rw [grant_dispatch .scheduler p hx]
  exact grantedUnits_dispatch s b x p

theorem grant_entry_dispatch (e : DispatchEntry) (p : List BlockId) (hx : (s.entry b).occupant = some x) :
    (s.grant b (.dispatch e) p).dispatch = s.dispatch.filter (fun d => d.seq != e.seq) := by
  rw [grant_dispatch (.dispatch e) p hx, ← grantedUnits_dispatch s b x p]
  exact dispatchReport_dispatch ..

end

end Sys2Proof.Machine
end

section
/-! PROOFS. The asking for grants at the end of an event in RUN, read as the statements give it: who asks, what may go, what
a merge names; and that it ends with nobody left who may go. -/

namespace Sys2Proof.Machine

open Sys2Proof

/-! ### Who asks, and what may go (R31, R118, R124) -/

theorem confirmed_iff (s : State) (b : BlockId) :
    (match s.layout.kind b with
      | some .switch => (s.switchRec b).map (·.reading) == some (s.chosenLeg b).reading
      | _ => true) = true ↔
    (s.layout.kind b = some .switch → ∃ w, s.switchRec b = some w ∧ w.reading = (s.chosenLeg b).reading) := by
  split
  case h_1 h => simp [h]
  case h_2 h => exact iff_of_true rfl fun hswitch => (h hswitch).elim

/-- The conditions of R31, as the unit checks them and as the statements give them. -/
theorem readyPath_iff (s : State) (b : BlockId) (p : List BlockId) :
    s.readyPath b = some p ↔ ∃ x, s.mayGo b x p := by
  have hconfirmed := confirmed_iff s b
  have hclear : p.all s.isClear = true ↔ ∀ c ∈ p, (s.entry c).state = .clear := by
    simp [State.isClear]
  unfold State.readyPath
  dsimp only
  rw [Option.ite_none_right_eq_some, Option.filter_eq_some_iff, hclear]
  simp only [Bool.and_eq_true, beq_iff_eq, Option.isNone_iff_eq_none, isRunMode_iff, Option.isSome_iff_exists]
  constructor
  · rintro ⟨⟨⟨⟨⟨hmode, hst⟩, x, hx⟩, hrelease⟩, hswitch⟩, hpath, hp⟩
    exact ⟨x, hmode, hst, hx, hrelease, hconfirmed.mp hswitch, hpath, hp⟩
  · rintro ⟨x, hmode, hst, hx, hrelease, hswitch, hpath, hp⟩
    exact ⟨⟨⟨⟨⟨hmode, hst⟩, x, hx⟩, hrelease⟩, hconfirmed.mpr hswitch⟩, hpath, hp⟩

/-- The row of R124 for a block's kind, as the unit checks it and as the statements give it. -/
theorem kindEligible_iff {s : State} {b : BlockId} {r : BlockRecord} (hr : s.record b = some r) :
    s.kindEligible b r = true ↔ s.rowEligible b := by
  have hrow : s.rowEligible b ↔ match r.kind with
      | .bay => ∃ y, s.bay b = some y ∧ y.phase = .cleared
      | .queue => r.park = true → ∀ x bt, (s.entry b).occupant = some x → s.boat x = some bt → bt.route = .station
      | .launch => ∀ n, s.launchRec b = some n → n.headway = none
      | .lift => True
      | .runout => ∃ k, s.brake b = some k ∧ k.hold = true
      | .switch => ∃ w, s.switchRec b = some w ∧ w.reading = (s.chosenLeg b).reading ∧ w.move = none
      | .run | .trim => False := by
    constructor
    · rintro ⟨r', hr', hrow⟩
      cases hr.symm.trans hr'
      exact hrow
    · exact fun hrow => ⟨r, hr, hrow⟩
  rw [hrow, State.kindEligible]
  cases r.kind
  case bay => simp
  case queue =>
    have hstation (bt : Boat) : bt.route = .station ↔ ¬bt.route = .storage := by cases bt.route <;> decide
    cases r.park
    · simp
    · simp only [hstation, Bool.true_and, Bool.not_eq_true', beq_eq_false_iff_ne, ne_eq, Option.map_eq_some_iff,
        Option.bind_eq_some_iff, not_exists, not_and, forall_const]
      exact ⟨fun h x bt hx hbt => h bt ⟨x, hx, hbt⟩, fun h bt ⟨x, hx, hbt⟩ => h x bt hx hbt⟩
  case launch => cases s.launchRec b <;> simp
  case lift => simp
  case runout => cases s.brake b <;> simp
  case switch => cases s.switchRec b <;> simp
  case run => simp
  case trim => simp

theorem eligible_iff (s : State) (b : BlockId) : s.eligible b = true ↔ s.asksBy b .scheduler := by
  unfold State.eligible State.asksBy
  simp only [Bool.and_eq_true, beq_iff_eq, Option.isNone_iff_eq_none, and_assoc]
  refine and_congr_right fun _ => and_congr_right fun _ => and_congr_right fun _ => ?_
  split
  case h_1 r hr => exact kindEligible_iff hr
  case h_2 hr =>
    refine iff_of_false nofun ?_
    rintro ⟨r, hr', -⟩
    cases hr.symm.trans hr'

theorem orderedEntry_iff {es : List DispatchEntry} {e : DispatchEntry} (he : e ∈ es) :
    orderedEntry es e = true ↔ e.consentA = true ∧ e.consentB = true ∧
      (e.afterPrevious = true → ∀ d, es.head? = some d → d.seq = e.seq) := by
  cases es with
  | nil => cases he
  | cons d es =>
    simp only [orderedEntry, DispatchEntry.consented, Bool.and_eq_true, Bool.or_eq_true, Bool.not_eq_true', beq_iff_eq,
      List.head?_cons, Option.some.injEq, forall_eq', and_assoc]
    cases e.afterPrevious <;> simp

theorem isCandidate_iff {s : State} {e : DispatchEntry} (he : e ∈ s.dispatch) :
    s.isCandidate e = true ↔ s.asksBy e.bay (.dispatch e) := by
  unfold State.isCandidate State.asksBy State.mayBeSent
  rw [Bool.and_eq_true, beq_iff_eq, orderedEntry_iff he]
  exact ⟨fun ⟨hm, h⟩ => ⟨hm, ⟨he, h⟩, rfl⟩, fun ⟨hm, ⟨_, h⟩, _⟩ => ⟨hm, h⟩⟩

theorem asksBy_of_requesterOf {s : State} {b : BlockId} {q : Requester} (h : s.requesterOf b = some q) : s.asksBy b q := by
  unfold State.requesterOf at h
  split at h
  case isTrue heligible =>
    cases h
    exact (eligible_iff s b).mp heligible
  case isFalse =>
    obtain ⟨e, he, rfl⟩ := Option.map_eq_some_iff.mp h
    have hfound := List.find?_some he
    rw [Bool.and_eq_true, beq_iff_eq] at hfound
    obtain ⟨hbay, hcandidate⟩ := hfound
    exact hbay ▸ (isCandidate_iff (List.mem_of_find?_eq_some he)).mp hcandidate

/-- Whoever asks is one the unit asks for. -/
theorem mem_askers_of_asksBy {s : State} {b : BlockId} {q : Requester} (h : s.asksBy b q) :
    b ∈ s.askers ∧ (s.requesterOf b).isSome = true := by
  unfold State.askers State.requesterOf
  cases q with
  | scheduler =>
    have heligible := (eligible_iff s b).mpr h
    rw [if_pos heligible]
    exact ⟨List.mem_append_left _ (List.mem_filter.mpr ⟨List.mem_finRange b, heligible⟩), rfl⟩
  | dispatch e =>
    have hmem : e ∈ s.dispatch := h.2.1.1
    have hbay : e.bay = b := h.2.2
    have hcandidate := (isCandidate_iff hmem).mpr (hbay.symm ▸ h)
    refine ⟨List.mem_append_right _ (List.mem_map.mpr ⟨e, List.mem_filter.mpr ⟨hmem, hcandidate⟩, hbay⟩), ?_⟩
    split
    · rfl
    · rw [Option.isSome_map, List.find?_isSome]
      exact ⟨e, hmem, by rw [Bool.and_eq_true, beq_iff_eq]; exact ⟨hbay, hcandidate⟩⟩
  | step => exact h.elim

/-! ### What a merge names (R12, R32, R137, R138) -/

theorem mergeAt_mergeBlock {L : LayoutStore} {b : BlockId} {m : MergeId} {r : MergeRecord} (h : L.mergeAt b = some (m, r)) :
    r.mergeBlock = b := by
  obtain ⟨m', -, hm'⟩ := List.exists_of_findSome?_eq_some h
  split at hm'
  · split at hm'
    case isTrue hblock =>
      cases hm'
      exact hblock
    case isFalse => cases hm'
  · cases hm'

theorem candidateAt_iff (s : State) (r : MergeRecord) (i : MergeInput) (h : BlockId) (q : Requester) (p : List BlockId) :
    s.candidateAt r i = some (h, q, p) ↔ (r.feeder i).head? = some h ∧ s.requesterOf h = some q ∧ s.readyPath h = some p ∧
      terminalOf p = some r.mergeBlock ∧ r.inputOf h p = some i := by
  unfold State.candidateAt
  cases (r.feeder i).head? with
  | none => simp
  | some h' =>
    dsimp only
    constructor
    · intro hsome
      split at hsome
      case h_2 => cases hsome
      case h_1 hq hp =>
        rw [Option.ite_none_right_eq_some] at hsome
        obtain ⟨⟨hterminal, hinput⟩, hsame⟩ := hsome
        cases hsame
        exact ⟨rfl, hq, hp, hterminal, hinput⟩
    · rintro ⟨hhead, hq, hp, hterminal, hinput⟩
      cases hhead
      rw [hq, hp]
      dsimp only
      rw [if_pos ⟨hterminal, hinput⟩]

theorem arbitrate_named {s : State} {m : MergeId} {r : MergeRecord} {c : BlockId × Requester × List BlockId}
    (h : s.arbitrate m r = some c) : ∃ i, s.candidateAt r i = some c ∧
      (s.candidateAt r i.other = none ∨
        contestWinner ((s.arbiter m).getD .initial) r.preferred (s.level r ((s.arbiter m).getD .initial)) = i) := by
  unfold State.arbitrate at h
  split at h
  case h_1 h0 h1 =>
    dsimp only at h
    split at h
    case h_1 hwinner => exact ⟨.in0, h0.trans h, .inr hwinner⟩
    case h_2 hwinner => exact ⟨.in1, h1.trans h, .inr hwinner⟩
  case h_2 h0 h1 => exact ⟨.in0, h0.trans h, .inl h1⟩
  case h_3 h0 h1 => exact ⟨.in1, h1.trans h, .inl h0⟩
  case h_4 => cases h

theorem arbitrate_of_candidate {s : State} {m : MergeId} {r : MergeRecord} {i : MergeInput}
    {c : BlockId × Requester × List BlockId} (h : s.candidateAt r i = some c) : (s.arbitrate m r).isSome = true := by
  unfold State.arbitrate
  split
  · dsimp only
    split <;> rfl
  · rfl
  · rfl
  case h_4 h0 h1 =>
    cases i
    · cases h.symm.trans h0
    · cases h.symm.trans h1

theorem awarded_of_candidate {s : State} {m : MergeId} {r : MergeRecord} {i : MergeInput} {h : BlockId} {q : Requester}
    {p : List BlockId} {c : BlockId} (hc : s.layout.mergeAt c = some (m, r)) (hi : s.candidateAt r i = some (h, q, p))
    (hother : s.candidateAt r i.other = none ∨
      contestWinner ((s.arbiter m).getD .initial) r.preferred (s.level r ((s.arbiter m).getD .initial)) = i) :
    s.awarded h p := by
  obtain ⟨hhead, -, -, hterminal, hinput⟩ := (candidateAt_iff s r i h q p).mp hi
  have hmerge : p.getLast?.bind s.layout.mergeAt = some (m, r) := by
    rw [terminalOf] at hterminal
    rw [hterminal, Option.bind_some, mergeAt_mergeBlock hc, hc]
  intro m' r' hm'
  cases hmerge.symm.trans hm'
  exact ⟨i, hinput, hhead, hother⟩

/-! ### One asking, and all of it (R31 to R33, R125) -/

/-- A grant that asking brings is one that is asked for, allowed and awarded. -/
theorem askFor_asked {s t : State} {b : BlockId} (h : s.askFor b = some t) :
    ∃ c q x p, s.asksBy c q ∧ s.mayGo c x p ∧ s.awarded c p ∧ t = s.grant c q p := by
  unfold State.askFor at h
  split at h
  case h_2 => cases h
  case h_1 p q hp hq =>
    split at h
    case h_1 hnone =>
      cases h
      obtain ⟨x, hmay⟩ := (readyPath_iff s b p).mp hp
      refine ⟨b, q, x, p, asksBy_of_requesterOf hq, hmay, fun m r hm => ?_, rfl⟩
      cases hnone.symm.trans hm
    case h_2 m r hm =>
      obtain ⟨⟨c, q', p'⟩, hnamed, rfl⟩ := Option.map_eq_some_iff.mp h
      obtain ⟨i, hi, hother⟩ := arbitrate_named hnamed
      obtain ⟨-, hq', hp', -, -⟩ := (candidateAt_iff s r i c q' p').mp hi
      obtain ⟨x, hmay⟩ := (readyPath_iff s c p').mp hp'
      obtain ⟨last, -, hlast⟩ := Option.bind_eq_some_iff.mp hm
      exact ⟨c, q', x, p', asksBy_of_requesterOf hq', hmay, awarded_of_candidate hlast hi hother, rfl⟩

theorem grantLoop_grantedFrom (n : Nat) (s : State) : GrantedFrom s (grantLoop n s) := by
  induction n generalizing s with
  | zero => exact .done s
  | succ n ih =>
    rw [grantLoop]
    split
    case h_1 t ht =>
      obtain ⟨b, -, hb⟩ := List.exists_of_findSome?_eq_some ht
      obtain ⟨c, q, x, p, hasks, hmay, hawarded, rfl⟩ := askFor_asked hb
      exact .more hasks hmay hawarded (ih _)
    case h_2 => exact .done s

/-- What every grant that is asked for, allowed and awarded keeps, any number of them keep. -/
theorem GrantedFrom.keeps {P : State → Prop}
    (h : ∀ s b x p q, s.asksBy b q → s.mayGo b x p → P s → P (s.grant b q p)) {s u : State} (hu : GrantedFrom s u)
    (hs : P s) : P u := by
  induction hu with
  | done => exact hs
  | more hasks hmay _ _ ih => exact ih (h _ _ _ _ _ hasks hmay hs)

/-- The OCCUPIED blocks: each grant makes one fewer. -/
def State.occupiedBlocks (s : State) : List BlockId := allBlocks.filter fun b => (s.entry b).state = .occupied

theorem mem_occupiedBlocks {s : State} {b : BlockId} : b ∈ s.occupiedBlocks ↔ (s.entry b).state = .occupied := by
  simp [State.occupiedBlocks, allBlocks]

theorem grant_fewer_occupied {s : State} {b : BlockId} {x : BoatId} {p : List BlockId} (q : Requester)
    (h : s.mayGo b x p) : (s.grant b q p).occupiedBlocks.length < s.occupiedBlocks.length := by
  obtain ⟨-, hst, hx, -⟩ := h
  have hgone : b ∉ (s.grant b q p).occupiedBlocks := fun hb => by
    rw [mem_occupiedBlocks, grant_entry q p hx, if_pos rfl] at hb
    cases hb
  have hsubset : b :: (s.grant b q p).occupiedBlocks ⊆ s.occupiedBlocks := by
    refine List.cons_subset.mpr ⟨mem_occupiedBlocks.mpr hst, fun c hc => ?_⟩
    rw [mem_occupiedBlocks, grant_entry q p hx] at hc
    rw [mem_occupiedBlocks]
    split at hc
    · cases hc
    · split at hc
      · cases hc
      · exact hc
  have hnodup : (b :: (s.grant b q p).occupiedBlocks).Nodup :=
    List.nodup_cons.mpr ⟨hgone, List.Pairwise.filter _ (List.nodup_finRange 32)⟩
  exact hnodup.length_le_of_subset hsubset

theorem askFor_of_none_occupied {s : State} (h : s.occupiedBlocks.length = 0) (b : BlockId) : s.askFor b = none := by
  have hready : s.readyPath b = none := by
    refine Option.eq_none_iff_forall_ne_some.mpr fun p hp => ?_
    obtain ⟨x, -, hst, -⟩ := (readyPath_iff s b p).mp hp
    have hmem := mem_occupiedBlocks.mpr hst
    rw [List.length_eq_zero_iff.mp h] at hmem
    cases hmem
  rw [State.askFor, hready]

/-- The asking ends with no asker to whom a grant would be made. -/
theorem grantLoop_askers {n : Nat} {s : State} (h : s.occupiedBlocks.length ≤ n) :
    ∀ b ∈ (grantLoop n s).askers, (grantLoop n s).askFor b = none := by
  induction n generalizing s with
  | zero => exact fun b _ => askFor_of_none_occupied (Nat.le_zero.mp h) b
  | succ n ih =>
    rw [grantLoop]
    split
    case h_1 t ht =>
      obtain ⟨b, -, hb⟩ := List.exists_of_findSome?_eq_some ht
      obtain ⟨c, q, x, p, -, hmay, -, rfl⟩ := askFor_asked hb
      exact ih (by have := grant_fewer_occupied q hmay; omega)
    case h_2 hnone => exact List.findSome?_eq_none_iff.mp hnone

/-- An asker that may go and to whom no grant is made waits for the arbiter of a merge, which does not see it at the head of
the input its path comes in by. -/
theorem askFor_none_merge {s : State} {b : BlockId} {q : Requester} {x : BoatId} {p : List BlockId} (hnone : s.askFor b = none)
    (hasks : s.asksBy b q) (hmay : s.mayGo b x p) :
    ∃ m r, p.getLast?.bind s.layout.mergeAt = some (m, r) ∧
      ∀ i, ¬((r.feeder i).head? = some b ∧ r.inputOf b p = some i) := by
  have hp := (readyPath_iff s b p).mpr ⟨x, hmay⟩
  obtain ⟨q', hq⟩ := Option.isSome_iff_exists.mp (mem_askers_of_asksBy hasks).2
  rw [State.askFor, hp, hq] at hnone
  dsimp only at hnone
  split at hnone
  case h_1 => cases hnone
  case h_2 m r hm =>
    refine ⟨m, r, hm, ?_⟩
    rintro i ⟨hhead, hinput⟩
    obtain ⟨last, hlast, hmerge⟩ := Option.bind_eq_some_iff.mp hm
    have hterminal : terminalOf p = some r.mergeBlock := by rw [mergeAt_mergeBlock hmerge, hlast]
    have hcandidate := (candidateAt_iff s r i b q' p).mpr ⟨hhead, hq, hp, hterminal, hinput⟩
    have hsome := arbitrate_of_candidate (m := m) hcandidate
    rw [Option.map_eq_none_iff.mp hnone] at hsome
    cases hsome

end Sys2Proof.Machine
end

section
/-! PROOFS. The end of an event in RUN: it grants what may go, and nothing else changes. -/

namespace Sys2Proof.Machine

open Sys2Proof

theorem mayGo_not_mem {s : State} {b : BlockId} {x : BoatId} {p : List BlockId} (h : s.mayGo b x p) : b ∉ p := by
  obtain ⟨-, hst, -, -, -, -, hclear⟩ := h
  exact fun hb => absurd (hst.symm.trans (hclear b hb)) nofun

/-- The ride as the grants at the end of an event find it. -/
theorem finish_run_switches {s : State} (h : s.mode = .run) :
    { s with switches := s.finish.switches } = s.refreshSwitches := by
  have hswitches : s.finish.switches = s.refreshSwitches.switches := by
    rw [finish_run s h]
    exact grantLoop_view State.switches (fun _ _ => rfl) (fun _ _ => rfl) (fun _ _ => rfl) (fun _ _ => rfl)
      (fun _ _ => rfl) (fun _ _ => rfl) (fun _ _ => rfl) (fun _ _ => rfl) (fun _ _ => rfl) 32 s.refreshSwitches
  rw [hswitches]
  rfl

theorem finish_run_rederived {s : State} (h : s.mode = .run) : Rederived (grantLoop 32 s.refreshSwitches) s.finish := by
  rw [finish_run s h]
  exact rederived_derived _

theorem occupiedBlocks_le (s : State) : s.occupiedBlocks.length ≤ 32 :=
  Nat.le_trans (List.length_filter_le ..) (Nat.le_of_eq List.length_finRange)

/-- Settles O51: the asking grants only what is asked for, allowed and awarded, and ends with nothing left to grant. -/
theorem runGrantsWhatMayGo : Obligations.RunGrantsWhatMayGo := by
  unfold Obligations.RunGrantsWhatMayGo
  refine ⟨fun s hrun => ⟨grantLoop 32 s.refreshSwitches, ?_, finish_run_rederived hrun, fun b q x p hasks hmay => ?_⟩,
    fun s b x p q hmay => ⟨grantMade_of_occupant q hmay.2.2.1 (mayGo_not_mem hmay), ?_, ?_⟩⟩
  · rw [finish_run_switches hrun]
    exact grantLoop_grantedFrom 32 _
  · have hnone := grantLoop_askers (occupiedBlocks_le s.refreshSwitches) b (mem_askers_of_asksBy hasks).1
    exact askFor_none_merge hnone hasks hmay
  · rintro rfl
    have hx := hmay.2.2.1
    exact ⟨grant_scheduler_dispatch p hx, (grant_tells .scheduler p hx (.refl _)).reportsAdded⟩
  · rintro e rfl
    have hx := hmay.2.2.1
    exact ⟨grant_entry_dispatch e p hx, (grant_tells (.dispatch e) p hx (tellRequester_dispatch_tells ..)).reportsAdded⟩

/-! ### What grants leave (R31, R33, R90, R127) -/

/-- A block as the grants of one event leave it. -/
def GrantedEntry (s t : State) (b : BlockId) : Prop :=
  t.entry b = s.entry b ∨
    ((s.entry b).state = .clear ∧ (t.entry b).state = .reserved ∧
      ∃ (a : BlockId) (x : BoatId) (r : Release), (t.entry b).holder = some x ∧ (s.entry a).state = .occupied ∧
        (t.entry a).state = .releasing ∧ (t.entry a).occupant = some x ∧ (t.entry a).release = some r ∧ b ∈ r.path) ∨
    ((s.entry b).state = .occupied ∧ (t.entry b).state = .releasing ∧
      (t.entry b).occupant = (s.entry b).occupant ∧ (t.entry b).release.isSome = true)

/-- The bay and the launch record of a block as the grants of one event leave them. -/
def GrantedUnits (s t : State) (b : BlockId) : Prop :=
  (t.bay b = s.bay b ∧ t.launchRec b = s.launchRec b) ∨
    ((s.entry b).state = .occupied ∧ (t.entry b).state = .releasing ∧
      (∀ y, s.bay b = some y → t.bay b = some y.released) ∧ (s.bay b = none → t.bay b = none) ∧
      ((t.launchRec b).isSome = (s.launchRec b).isSome))

theorem GrantedEntry.of_occupied {s t : State} {b : BlockId} (h : GrantedEntry s t b) (hst : (t.entry b).state = .occupied) :
    t.entry b = s.entry b := by
  obtain h | ⟨-, h, -⟩ | ⟨-, h, -⟩ := h
  · exact h
  · cases hst.symm.trans h
  · cases hst.symm.trans h

theorem GrantedEntry.of_clear {s t : State} {b : BlockId} (h : GrantedEntry s t b) (hst : (t.entry b).state = .clear) :
    t.entry b = s.entry b := by
  obtain h | ⟨-, h, -⟩ | ⟨-, h, -⟩ := h
  · exact h
  · cases hst.symm.trans h
  · cases hst.symm.trans h

/-- `t` is `s` after some grants, as far as the ride is concerned. -/
structure OnlyGranted (s t : State) : Prop where
  entry : ∀ b, GrantedEntry s t b
  units : ∀ b, GrantedUnits s t b
  arbiter : ∀ m, (t.arbiter m).isSome = (s.arbiter m).isSome
  boat : ∀ x, t.boat x = s.boat x ∧ (t.slot x).position = (s.slot x).position
  dispatch : ∀ e ∈ t.dispatch, e ∈ s.dispatch

section
variable {s t : State} {b : BlockId} {x : BoatId} {p : List BlockId}

theorem grantedEntry_after (q : Requester) (h : ∀ c, GrantedEntry s t c) (hmay : t.mayGo b x p) (c : BlockId) :
    GrantedEntry s (t.grant b q p) c := by
  obtain ⟨-, hst, hx, -, -, -, hclear⟩ := hmay
  have hb : (t.grant b q p).entry b = t.grantedEntry b p := by rw [grant_entry q p hx, if_pos rfl]
  by_cases hcb : c = b
  · subst hcb
    have hsame := (h c).of_occupied hst
    refine .inr (.inr ⟨hsame ▸ hst, ?_, ?_, ?_⟩)
    · rw [hb]
      rfl
    · rw [hb, ← hsame]
      rfl
    · rw [hb]
      rfl
  · by_cases hcp : c ∈ p
    · have hc : (t.grant b q p).entry c = { Entry.bare .reserved with holder := some x } := by
        rw [grant_entry q p hx, if_neg hcb, if_pos hcp]
      have hsame := (h c).of_clear (hclear c hcp)
      refine .inr (.inl ⟨hsame ▸ hclear c hcp, by rw [hc]; rfl, b, x,
        { path := p, retries := kickRetriesOf (t.record b), frozen := false }, by rw [hc], (h b).of_occupied hst ▸ hst,
        ?_, ?_, ?_, hcp⟩)
      · rw [hb]
        rfl
      · rw [hb]
        exact hx
      · rw [hb]
        rfl
    · have hkept {a : BlockId} (hab : a ≠ b) (hap : a ∉ p) : (t.grant b q p).entry a = t.entry a := by
        rw [grant_entry q p hx, if_neg hab, if_neg hap]
      have hbusy {a : BlockId} (ha : (t.entry a).state = .releasing) : (t.grant b q p).entry a = t.entry a :=
        hkept (fun hab => nomatch (hab ▸ ha).symm.trans hst) fun hap => nomatch ha.symm.trans (hclear a hap)
      unfold GrantedEntry
      rw [hkept hcb hcp]
      obtain hsame | ⟨hc, hreserved, a, y, r, hholder, ha, hreleasing, hy, hr, hmem⟩ | hreleased := h c
      · exact .inl hsame
      · refine .inr (.inl ⟨hc, hreserved, a, y, r, hholder, ha, ?_⟩)
        rw [hbusy hreleasing]
        exact ⟨hreleasing, hy, hr, hmem⟩
      · exact .inr (.inr hreleased)

theorem grantedUnits_after (q : Requester) (h : ∀ c, GrantedEntry s t c) (hunits : ∀ c, GrantedUnits s t c)
    (hmay : t.mayGo b x p) (c : BlockId) : GrantedUnits s (t.grant b q p) c := by
  obtain ⟨-, hst, hx, -, -, -, hclear⟩ := hmay
  by_cases hcb : c = b
  · subst hcb
    have hsame := (h c).of_occupied hst
    obtain ⟨hbay, hlaunch⟩ : t.bay c = s.bay c ∧ t.launchRec c = s.launchRec c := by
      obtain hkept | ⟨-, hreleasing, -⟩ := hunits c
      · exact hkept
      · cases hst.symm.trans hreleasing
    refine .inr ⟨hsame ▸ hst, ?_, fun y hy => ?_, fun hnone => ?_, ?_⟩
    · rw [grant_entry q p hx, if_pos rfl]
      rfl
    · rw [grant_bay q p hx, hbay, hy]
      rfl
    · rw [grant_bay q p hx, hbay, hnone]
      rfl
    · rw [grant_launchRec q p hx, writeLaunch_isSome, hlaunch]
  · have hbay : (t.grant b q p).bay c = t.bay c := grant_bay_ne q p hx hcb
    have hlaunch : (t.grant b q p).launchRec c = t.launchRec c := by
      rw [grant_launchRec q p hx, writeLaunch_launchRec_ne t hcb]
    unfold GrantedUnits
    rw [hbay, hlaunch]
    obtain hkept | ⟨hoccupied, hreleasing, hrest⟩ := hunits c
    · exact .inl hkept
    · have hcp : c ∉ p := fun hc => nomatch hreleasing.symm.trans (hclear c hc)
      refine .inr ⟨hoccupied, ?_, hrest⟩
      rw [grant_entry q p hx, if_neg hcb, if_neg hcp]
      exact hreleasing

theorem withPath_keeps (z : Slot) (p : List BlockId) : (z.withPath p).boat = z.boat ∧ (z.withPath p).position = z.position := by
  cases z <;> exact ⟨rfl, rfl⟩

theorem grant_boat (q : Requester) (p : List BlockId) (hx : (t.entry b).occupant = some x) (y : BoatId) :
    (t.grant b q p).boat y = t.boat y ∧ ((t.grant b q p).slot y).position = (t.slot y).position := by
  rw [State.boat, State.boat]
  by_cases hy : y = x
  · rw [hy, grant_slot_self q p hx]
    exact withPath_keeps ..
  · rw [grant_slot_ne q p hx hy]
    exact ⟨rfl, rfl⟩

theorem grant_arbiter_isSome (q : Requester) (p : List BlockId) (hx : (t.entry b).occupant = some x) (m : MergeId) :
    ((t.grant b q p).arbiter m).isSome = (t.arbiter m).isSome := by
  have hturns := congrArg Option.isSome (congrFun (unbooked_turns t b x p) m)
  rw [State.turns, State.turns, Option.isSome_map, Option.isSome_map] at hturns
  rw [grant_arbiter q p hx, State.grantedUnits, bookGrant_isSome, hturns]

theorem tellRequester_dispatch_subset (s : State) (b : BlockId) (q : Requester) (p : List BlockId) :
    ∀ e ∈ (s.tellRequester b q p).dispatch, e ∈ s.dispatch := by
  intro e he
  cases q with
  | scheduler => exact he
  | dispatch d =>
    have hfilter : (s.tellRequester b (.dispatch d) p).dispatch = s.dispatch.filter (fun e => e.seq != d.seq) :=
      dispatchReport_dispatch ..
    rw [hfilter] at he
    exact (List.mem_filter.mp he).1
  | step =>
    unfold State.tellRequester State.cancelOfBay at he
    dsimp only at he
    split at he
    case h_1 d hd =>
      have hfilter : (s.cancelEntry d .step 0).dispatch = s.dispatch.filter (fun e => e.seq != d.seq) :=
        dispatchReport_dispatch ..
      rw [hfilter] at he
      exact (List.mem_filter.mp he).1
    case h_2 => exact he

theorem onlyGranted_after (q : Requester) (h : OnlyGranted s t) (hmay : t.mayGo b x p) : OnlyGranted s (t.grant b q p) := by
  have hx := hmay.2.2.1
  refine ⟨grantedEntry_after q h.entry hmay, grantedUnits_after q h.entry h.units hmay,
    fun m => (grant_arbiter_isSome q p hx m).trans (h.arbiter m), fun y => ?_, fun e he => h.dispatch e ?_⟩
  · obtain ⟨hboat, hposition⟩ := grant_boat q p hx y
    exact ⟨hboat.trans (h.boat y).1, hposition.trans (h.boat y).2⟩
  · rw [grant_dispatch q p hx] at he
    rw [← grantedUnits_dispatch t b x p]
    exact tellRequester_dispatch_subset _ b q p e he

end

/-- Positioning switches changes nothing of the ride. -/
theorem refreshSwitches_onlyGranted (s : State) : OnlyGranted s s.refreshSwitches :=
  ⟨fun _ => .inl rfl, fun _ => .inl ⟨rfl, rfl⟩, fun _ => rfl, fun _ => ⟨rfl, rfl⟩, fun _ he => he⟩

theorem OnlyGranted.of_rederived {s t u : State} (h : OnlyGranted s t) (ht : Rederived t u) : OnlyGranted s u := by
  unfold Rederived at ht
  rw [ht]
  exact ⟨h.entry, h.units, h.arbiter, h.boat, h.dispatch⟩

theorem finish_onlyGranted {s : State} (h : s.mode = .run) : OnlyGranted s s.finish := by
  have hgranted := (grantLoop_grantedFrom 32 s.refreshSwitches).keeps
    (P := OnlyGranted s) (fun _ _ _ _ q _ hmay ht => onlyGranted_after q ht hmay) (refreshSwitches_onlyGranted s)
  exact hgranted.of_rederived (finish_run_rederived h)

theorem finish_run_switchRec {s : State} (h : s.mode = .run) (b : BlockId) :
    (s.finish.switchRec b).isSome = (s.switchRec b).isSome := by
  have hfound := congrArg State.switches (finish_run_switches h)
  have hswitches : s.finish.switches = s.refreshSwitches.switches := hfound
  rw [State.switchRec, hswitches, State.refreshSwitches, vget_vmap, Option.isSome_map]
  rfl

/-- Settles O50: the grants of one event, taken together, move only what a grant moves. -/
theorem eventsInRunOnlyGrant : Obligations.EventsInRunOnlyGrant := by
  unfold Obligations.EventsInRunOnlyGrant
  rintro s t hrun rfl
  obtain ⟨hentry, hunits, harbiter, hboat, hdispatch⟩ := finish_onlyGranted hrun
  exact ⟨finish_mc_of_ne (by rw [hrun]; nofun), hentry, hunits, harbiter, finish_run_switchRec hrun, hboat, hdispatch,
    finish_nextDispatch s, finish_passages s, finish_tagWindows s, finish_surroundings s⟩

end Sys2Proof.Machine
end

section
/-! PROOFS. The bays: every move of a bay to a phase is a record written and a phase set, and what that leaves and tells is
said once. -/

namespace Sys2Proof.Machine

open Sys2Proof

/-! ### A bay written and moved to a phase (R80, R101) -/

theorem vput_vput {α : Type} {n : Nat} (v : Vector α n) (i : Fin n) (x y : α) : vput (vput v i x) i y = vput v i y := by
  refine Vector.ext fun j hj => ?_
  show vget (vput (vput v i x) i y) ⟨j, hj⟩ = vget (vput v i y) ⟨j, hj⟩
  by_cases h : (⟨j, hj⟩ : Fin n) = i
  · rw [h, vget_vput_self, vget_vput_self]
  · rw [vget_vput_ne _ _ h, vget_vput_ne _ _ h, vget_vput_ne _ _ h]

theorem setBay_setBay (s : State) (b : BlockId) (y z : Bay) : (s.setBay b y).setBay b z = s.setBay b z :=
  congrArg (fun v => { s with bays := v }) (vput_vput s.bays b (some y) (some z))

/-- The state with a bay's record replaced and the bay then moved to a phase. -/
def State.moveBay (s : State) (b : BlockId) (y : Bay) (p : Phase) : State := (s.setBay b y).setPhase b p

section
variable (s : State) (b : BlockId) (y : Bay) (p : Phase)

theorem moveBay_bay : (s.moveBay b y p).bay b = some { y with phase := p } := by
  rw [State.moveBay, setPhase_bay_self, setBay_bay_self]
  rfl

theorem moveBay_bay_ne {c : BlockId} (h : c ≠ b) : (s.moveBay b y p).bay c = s.bay c := by
  rw [State.moveBay, setPhase_bay_ne _ _ h, setBay_bay_ne _ _ h]

theorem moveBay_tells : Tells s (s.moveBay b y p) (bayReport b (s.entry b).occupant y.phase p) := by
  have htells := setPhase_tells (s.setBay b y) b p
  rw [State.phaseReports, setBay_bay_self] at htells
  exact htells.after_quiet rfl (fun _ => rfl) rfl

/-- A bay's move is one of its record and the reports. -/
theorem moveBay_view {γ : Type} (v : State → γ) (hbays : ∀ t x, v { t with bays := x } = v t)
    (hreports : ∀ t x, v { t with reports := x } = v t) : v (s.moveBay b y p) = v s := by
  rw [State.moveBay, setPhase_view v hbays hreports, setBay_view v hbays]

end

theorem modBay_of_some {s : State} {b : BlockId} {y : Bay} (h : s.bay b = some y) (f : Bay → Bay) :
    s.modBay b f = s.setBay b (f y) := by
  rw [State.modBay, h]

theorem modBay_of_none {s : State} {b : BlockId} (h : s.bay b = none) (f : Bay → Bay) : s.modBay b f = s := by
  rw [State.modBay, h]

theorem setPhase_of_none {s : State} {b : BlockId} (h : s.bay b = none) (p : Phase) : s.setPhase b p = s := by
  rw [State.setPhase, h]

theorem vput_same {α : Type} {n : Nat} (v : Vector α n) (i : Fin n) : vput v i (vget v i) = v := by
  refine Vector.ext fun j hj => ?_
  show vget (vput v i (vget v i)) ⟨j, hj⟩ = vget v ⟨j, hj⟩
  by_cases h : (⟨j, hj⟩ : Fin n) = i
  · rw [h, vget_vput_self]
  · rw [vget_vput_ne _ _ h]

theorem setBay_same {s : State} {b : BlockId} {y : Bay} (h : s.bay b = some y) : s.setBay b y = s := by
  have hbays : vput s.bays b (some y) = s.bays := by
    rw [← h]
    exact vput_same ..
  rw [State.setBay, hbays]

theorem setPhase_eq_moveBay {s : State} {b : BlockId} {y : Bay} (h : s.bay b = some y) (p : Phase) :
    s.setPhase b p = s.moveBay b y p := by
  rw [State.moveBay, setBay_same h]

/-! ### Weighs (R84, R85, R95) -/

theorem openAttempt_first (s : State) (kind : WeighKind) (x : BoatId) : s.openAttempt kind x 1 = s.firstAttempt kind x := rfl

theorem startWeigh_eq {s : State} {b : BlockId} {y : Bay} {x : BoatId} (hy : s.bay b = some y)
    (hx : (s.entry b).occupant = some x) (kind : WeighKind) :
    s.startWeigh b kind = s.moveBay b { y with weigh := some (s.firstAttempt kind x) } kind.phase := by
  rw [State.startWeigh, hx]
  dsimp only
  rw [modBay_of_some hy]
  rfl

/-! ### BERTHED and its end (R82, R83) -/

theorem guestsIn_eq {s : State} {b : BlockId} {x : BoatId} {bt : Boat} (hx : (s.entry b).occupant = some x)
    (hbt : s.boat x = some bt) : s.guestsIn b = bt.guests := by
  rw [State.guestsIn, hx, Option.bind_some, hbt]

theorem bayRole_eq {s : State} {b : BlockId} {rec : BlockRecord} {z : BaySection} (hrec : s.record b = some rec)
    (hz : rec.bay = some z) : s.bayRole b = some z.role := by
  rw [State.bayRole, hrec, Option.bind_some, hz]
  rfl

/-- BERTHED ends in the phase of the bay's role and its boat's guests. -/
theorem endBerthed_eq {s : State} {b : BlockId} {y : Bay} {role : BayRole} {x : BoatId} {guests : Bool}
    (hy : s.bay b = some y) (hrole : s.bayRole b = some role) (hx : (s.entry b).occupant = some x)
    (hguests : s.guestsIn b = guests) :
    s.endBerthed b = s.moveBay b { s.afterBerthed y role x guests with phase := y.phase }
      (s.afterBerthed y role x guests).phase := by
  have hmod : s.modBay b (fun y => { y with entryEye := none }) = s.setBay b { y with entryEye := none } := modBay_of_some hy _
  have hrole' : (s.setBay b { y with entryEye := none }).bayRole b = some role := hrole
  have hguests' : (s.setBay b { y with entryEye := none }).guestsIn b = guests := hguests
  rw [State.endBerthed, hmod]
  dsimp only
  rw [hrole']
  dsimp only
  rw [hguests']
  have hbay : (s.setBay b { y with entryEye := none }).bay b = some { y with entryEye := none } := setBay_bay_self ..
  have hweigh : (s.setBay b { y with entryEye := none }).startWeigh b .tare =
      s.moveBay b { y with entryEye := none, weigh := some (s.firstAttempt .tare x) } .tareWeigh := by
    rw [startWeigh_eq hbay hx, State.moveBay, setBay_setBay]
    rfl
  cases role <;> cases guests
  case unload.false => exact hweigh
  case both.false => exact hweigh
  all_goals rfl

theorem afterBerthed_phase (s : State) (y : Bay) (role : BayRole) (x : BoatId) (guests : Bool) :
    (s.afterBerthed y role x guests).phase = berthedEndPhase role guests := by
  cases role <;> cases guests <;> rfl

theorem endBerthed_bay {s : State} {b : BlockId} {y : Bay} {role : BayRole} {x : BoatId} {guests : Bool}
    (hy : s.bay b = some y) (hrole : s.bayRole b = some role) (hx : (s.entry b).occupant = some x)
    (hguests : s.guestsIn b = guests) : (s.endBerthed b).bay b = some (s.afterBerthed y role x guests) := by
  rw [endBerthed_eq hy hrole hx hguests, moveBay_bay]

/-! ### What happens to a bay touches no other bay -/

theorem modBay_bay_ne (s : State) {b c : BlockId} (f : Bay → Bay) (h : c ≠ b) : (s.modBay b f).bay c = s.bay c := by
  unfold State.modBay
  split
  · rfl
  · exact setBay_bay_ne _ _ h

theorem startWeigh_bay_ne (s : State) {b c : BlockId} (k : WeighKind) (h : c ≠ b) : (s.startWeigh b k).bay c = s.bay c := by
  unfold State.startWeigh
  split
  · rfl
  · rw [setPhase_bay_ne _ _ h, modBay_bay_ne _ _ h]

theorem endBerthed_bay_ne (s : State) {b c : BlockId} (h : c ≠ b) : (s.endBerthed b).bay c = s.bay c := by
  unfold State.endBerthed
  dsimp only
  split
  · exact modBay_bay_ne _ _ h
  · split
    · rw [startWeigh_bay_ne _ _ h, modBay_bay_ne _ _ h]
    · rw [setPhase_bay_ne _ _ h, modBay_bay_ne _ _ h]

/-! ### A release taken back (R91) -/

/-- A bay that is not RELEASED takes no part. -/
theorem bayReturn_of_other {s : State} {b : BlockId}
    (h : ∀ y p, s.bay b = some y → y.phase = .released → y.returnPhase = some p → False) : s.bayReturn b = s := by
  unfold State.bayReturn
  split
  · rfl
  case h_2 y hy =>
    split
    case h_1 hphase hreturn => exact (h y _ hy hphase hreturn).elim
    case h_2 => rfl

/-- A RELEASED bay takes its return phase, and one that returns to BERTHED with no entry boundary ends it at once. -/
theorem bayReturn_eq {s : State} {b : BlockId} {y : Bay} {p : Phase} (hy : s.bay b = some y) (hphase : y.phase = .released)
    (hreturn : y.returnPhase = some p) :
    s.bayReturn b = if p = .berthed ∧ y.entryEye = none
      then (s.moveBay b { y with returnPhase := none } p).endBerthed b else s.moveBay b { y with returnPhase := none } p := by
  have hmod : s.modBay b (fun y => { y with returnPhase := none }) = s.setBay b { y with returnPhase := none } :=
    modBay_of_some hy _
  obtain ⟨phase, eye, back, status, weigh, weighs, failures⟩ := y
  cases hphase
  cases hreturn
  rw [State.bayReturn, hy]
  dsimp only
  rw [hmod]
  rfl

theorem bayReturn_bay_ne (s : State) {b c : BlockId} (h : c ≠ b) : (s.bayReturn b).bay c = s.bay c := by
  by_cases hreleased : ∃ y p, s.bay b = some y ∧ y.phase = .released ∧ y.returnPhase = some p
  · obtain ⟨y, p, hy, hphase, hreturn⟩ := hreleased
    rw [bayReturn_eq hy hphase hreturn]
    split
    · rw [endBerthed_bay_ne _ h, moveBay_bay_ne _ _ _ _ h]
    · rw [moveBay_bay_ne _ _ _ _ h]
  · rw [bayReturn_of_other fun y p hy hphase hreturn => hreleased ⟨y, p, hy, hphase, hreturn⟩]

/-! ### A weigh abandoned (R93) -/

theorem bayFaulted_of_none {s : State} {b : BlockId} (h : (s.bay b).bind (·.weigh) = none) : s.bayFaulted b = s := by
  rw [State.bayFaulted, h]

theorem bayFaulted_eq {s : State} {b : BlockId} {y : Bay} (hy : s.bay b = some y) :
    s.bayFaulted b = s.moveBay b { y.abandoned with phase := y.phase } y.abandoned.phase := by
  unfold State.bayFaulted Bay.abandoned
  rw [hy, Option.bind_some]
  cases y.weigh with
  | none =>
    dsimp only
    rw [← setPhase_eq_moveBay hy, State.setPhase, hy]
    exact (if_pos rfl).symm
  | some w =>
    have hmod : s.modBay b (fun y => { y with weigh := none }) = s.setBay b { y with weigh := none } := modBay_of_some hy _
    dsimp only
    rw [hmod]
    rfl

theorem bayFaulted_bay {s : State} {b : BlockId} {y : Bay} (hy : s.bay b = some y) :
    (s.bayFaulted b).bay b = some y.abandoned := by
  rw [bayFaulted_eq hy, moveBay_bay]

theorem bayFaulted_bay_ne (s : State) {b c : BlockId} (h : c ≠ b) : (s.bayFaulted b).bay c = s.bay c := by
  cases hy : s.bay b with
  | none =>
    rw [bayFaulted_of_none]
    rw [hy]
    rfl
  | some y => rw [bayFaulted_eq hy, moveBay_bay_ne _ _ _ _ h]

/-- What a bay reports when its block becomes FAULTED. -/
theorem bayFaulted_tells (s : State) (b : BlockId) : Tells s (s.bayFaulted b) (match s.bay b with
    | some y => bayReport b (s.entry b).occupant y.phase y.abandoned.phase
    | none => []) := by
  cases hy : s.bay b with
  | none =>
    rw [bayFaulted_of_none (by rw [hy]; rfl)]
    exact .refl s
  | some y =>
    rw [bayFaulted_eq hy]
    exact moveBay_tells ..

end Sys2Proof.Machine
end

section
/-! PROOFS. A block that becomes FAULTED: the block table and the path lists, the fault, the bay, the brake and the switch,
joined to `BlockFaulted`. -/

namespace Sys2Proof.Machine

open Sys2Proof

/-! ### What a fault reads (R196, R197) -/

theorem FaultTaken.congr {s t u v : State} {k : FaultKind} {b : Option BlockId} {x : Option BoatId}
    (h : FaultTaken s t k b x) (hmc : u.mc = s.mc) (htime : u.timeBase = s.timeBase) (hafter : v.mc = t.mc) :
    FaultTaken u v k b x := by
  unfold FaultTaken at h ⊢
  rw [hmc, htime, hafter]
  exact h

theorem faultReports_congr {s t : State} (hmc : t.mc = s.mc) (hdispatch : t.dispatch = s.dispatch) (k : FaultKind)
    (b : Option BlockId) (x : Option BoatId) (d1 d2 d3 d4 : Nat) :
    t.faultReports k b x d1 d2 d3 d4 = s.faultReports k b x d1 d2 d3 d4 := by
  unfold State.faultReports State.stopReports State.mode
  rw [hmc, hdispatch]

/-- A fault raised after a change that the Mode Controller, the dispatch list and the reports do not see. -/
theorem raise_after {s v : State} (hmc : v.mc = s.mc) (htime : v.timeBase = s.timeBase) (hdispatch : v.dispatch = s.dispatch)
    (htells : Tells s v []) (k : FaultKind) (b : Option BlockId) (x : Option BoatId) (d : Details) :
    FaultTaken s (v.raise k b x d) k b x ∧ (v.raise k b x d).mode = modeAfterFault k.cls s.mode ∧
      Tells s (v.raise k b x d) (s.faultReports k b x d.d1 d.d2 d.d3 d.d4) := by
  refine ⟨(raise_faultTaken v k b x d).congr hmc.symm htime.symm rfl, ?_, ?_⟩
  · rw [raise_mode, State.mode, State.mode, hmc]
  · rw [← faultReports_congr hmc hdispatch]
    exact htells.trans (raise_tells v k b x d)

/-- The block table after a fault raised after a change of some entries. -/
theorem raise_entry {k : FaultKind} (hk : k.cls = .halt) {s v : State} (hmode : v.mode = s.mode) (b : Option BlockId)
    (x : Option BoatId) (d : Details) (c : BlockId) :
    (v.raise k b x d).entry c = if s.mode.moves then (v.entry c).halted else v.entry c := by
  rw [← hmode]
  refine moves_iff_frozen v c _ ?_
  rw [raise_table]
  simp only [hk, true_and]

/-! ### The block, its boat's path, its brake and its switch (R26, R36, R149, R156, R172) -/

theorem toFaulted_eq (e : Entry) : e.toFaulted = e.faultedFrom := rfl

theorem halted_faultedFrom (e : Entry) : e.faultedFrom.halted = e.faultedFrom := rfl

theorem halted_clear : (Entry.bare .clear).halted = .bare .clear := rfl

theorem ite_same_of_eq {α : Type} {c : Bool} {x y : α} (h : x = y) : (if c then x else y) = y := by
  cases c
  · rfl
  · exact h

section
variable {s : State} {f : BlockId}

theorem faultBlock_of_ne (h : (s.entry f).state ≠ .reserved) :
    s.faultBlock f = ((s.setEntry f (s.entry f).toFaulted).modBrake f (·.letGo)).modSwitch f (·.dropMove) := by
  unfold State.faultBlock
  dsimp only
  split
  case h_1 hst _ => exact absurd hst h
  case h_2 => rfl

theorem faultBlock_of_reserved {y : BoatId} (h : (s.entry f).state = .reserved) (hy : (s.entry f).holder = some y) :
    s.faultBlock f =
      (((s.setEntry f (s.entry f).toFaulted).cutPath y f).modBrake f (·.letGo)).modSwitch f (·.dropMove) := by
  unfold State.faultBlock
  dsimp only
  rw [h, hy]

theorem faultBlock_entry_of_ne (h : (s.entry f).state ≠ .reserved) (c : BlockId) :
    (s.faultBlock f).entry c = if c = f then (s.entry f).faultedFrom else s.entry c := by
  rw [faultBlock_of_ne h]
  exact setEntry_entry ..

theorem faultBlock_roster_of_ne (h : (s.entry f).state ≠ .reserved) : (s.faultBlock f).roster = s.roster := by
  rw [faultBlock_of_ne h]
  rfl

theorem cutPath_entry (s : State) (y : BoatId) (f c : BlockId) : (s.cutPath y f).entry c =
    if c ∈ afterBlock f (s.pathOf y) ∧ (s.entry c).state = .reserved then .bare .clear else s.entry c :=
  clearReserved_entry (s.setPath y (beforeBlock f (s.pathOf y))) (afterBlock f (s.pathOf y)) c

theorem faultBlock_entry_of_reserved {y : BoatId} (h : (s.entry f).state = .reserved) (hy : (s.entry f).holder = some y)
    (c : BlockId) : (s.faultBlock f).entry c =
      if c = f then (s.entry f).faultedFrom
      else if c ∈ afterBlock f (s.pathOf y) ∧ (s.entry c).state = .reserved then .bare .clear else s.entry c := by
  have hcut := cutPath_entry (s.setEntry f (s.entry f).toFaulted) y f c
  rw [setEntry_entry] at hcut
  rw [faultBlock_of_reserved h hy]
  refine hcut.trans ?_
  split
  case isTrue hc => exact if_neg fun hres => nomatch hres.2
  case isFalse => rfl

theorem faultBlock_slot_of_reserved {y : BoatId} (h : (s.entry f).state = .reserved) (hy : (s.entry f).holder = some y)
    (z : BoatId) : (s.faultBlock f).slot z =
      if z = y then (s.slot y).withPath (beforeBlock f (s.pathOf y)) else s.slot z := by
  rw [faultBlock_of_reserved h hy]
  show (State.clearReserved _ (afterBlock f (s.pathOf y))).slot z = _
  rw [clearReserved_slot]
  show ((s.setEntry f (s.entry f).toFaulted).setSlot y _).slot z = _
  split
  case isTrue hz => rw [hz, setSlot_slot_self]; rfl
  case isFalse hz => rw [setSlot_slot_ne _ _ hz]; rfl

theorem faultBlock_entry_self : (s.faultBlock f).entry f = (s.entry f).faultedFrom := by
  by_cases hst : (s.entry f).state = .reserved
  · cases hy : (s.entry f).holder with
    | some y => rw [faultBlock_entry_of_reserved hst hy, if_pos rfl]
    | none =>
      unfold State.faultBlock
      dsimp only
      rw [hst, hy]
      exact setEntry_entry_self ..
  · rw [faultBlock_entry_of_ne hst, if_pos rfl]

theorem faultBlock_brake (c : BlockId) :
    (s.faultBlock f).brake c = if c = f then (s.brake f).map (·.letGo) else s.brake c := by
  have hbrakes : (s.faultBlock f).brakes = vput s.brakes f ((s.brake f).map (·.letGo)) := by
    unfold State.faultBlock
    dsimp only
    split
    · rw [modSwitch_brakes, modBrake_brakes, State.brake, cutPath_brakes]
      rfl
    · rfl
  rw [State.brake, hbrakes]
  split
  case isTrue h => rw [h, vget_vput_self]
  case isFalse h => exact vget_vput_ne _ _ h

theorem faultBlock_switches : (s.faultBlock f).switches = vput s.switches f ((s.switchRec f).map (·.dropMove)) := by
  unfold State.faultBlock
  dsimp only
  split
  · rw [modSwitch_switches, modBrake_switches, State.switchRec, modBrake_switches, cutPath_switches]
    rfl
  · rfl

theorem beforeBlock_append {before later : List BlockId} (h : f ∉ before) : beforeBlock f (before ++ f :: later) = before := by
  induction before with
  | nil => exact if_pos rfl
  | cons c before ih =>
    obtain ⟨hc, hrest⟩ := not_or.mp (mt List.mem_cons.mpr h)
    rw [List.cons_append, beforeBlock, if_neg (Ne.symm hc), ih hrest]

theorem afterBlock_append {before later : List BlockId} (h : f ∉ before) : afterBlock f (before ++ f :: later) = later := by
  induction before with
  | nil => exact if_pos rfl
  | cons c before ih =>
    obtain ⟨hc, hrest⟩ := not_or.mp (mt List.mem_cons.mpr h)
    rw [List.cons_append, afterBlock, if_neg (Ne.symm hc), ih hrest]

/-! ### The block, the fault and the bay together -/

theorem faultBlock_tells : Tells s (s.faultBlock f) [] :=
  .of_surroundings (faultBlock_surroundings s f) (faultBlock_reports s f)

theorem faultBlock_mode : (s.faultBlock f).mode = s.mode := mode_of_mc (faultBlock_mc s f)

/-- The block table and the path lists of a block that becomes FAULTED with a fault of HALT class. -/
theorem faultAt_pathCut {k : FaultKind} (hk : k.cls = .halt) (boat : Option BoatId) (d : Details) :
    PathCut s (s.faultAt k f boat d) f := by
  have hentry (c : BlockId) : (s.faultAt k f boat d).entry c =
      if s.mode.moves then ((s.faultBlock f).entry c).halted else (s.faultBlock f).entry c := by
    rw [State.faultAt, State.entry, bayFaulted_table]
    exact raise_entry hk faultBlock_mode (some f) boat d c
  have hroster : (s.faultAt k f boat d).roster = (s.faultBlock f).roster := by
    rw [State.faultAt, bayFaulted_roster, raise_roster]
  refine ⟨?_, fun hst => ⟨fun c hc => ?_, ?_⟩, fun y bt pos before later hst hy hslot hbefore hlater hreserved => ?_⟩
  · rw [hentry, faultBlock_entry_self]
    exact ite_same_of_eq (halted_faultedFrom _)
  · rw [hentry, faultBlock_entry_of_ne hst, if_neg fun h => hc (List.mem_singleton.mpr h)]
  · rw [hroster, faultBlock_roster_of_ne hst]
  · have hpath : s.pathOf y = before ++ f :: later := by
      rw [State.pathOf, hslot]
      rfl
    have hblock := faultBlock_entry_of_reserved hst hy
    have hboats := faultBlock_slot_of_reserved hst hy
    rw [hpath, afterBlock_append hbefore] at hblock
    rw [hpath, beforeBlock_append hbefore, hslot] at hboats
    refine ⟨fun c hc => ?_, fun c hc => ?_, ?_, fun z hz => ?_⟩
    · have hcf : c ≠ f := fun h => hlater (h ▸ hc)
      have hcut : c ∈ later ∧ (s.entry c).state = .reserved := ⟨hc, hreserved c hc⟩
      rw [hentry, hblock, if_neg hcf, if_pos hcut]
      exact ite_same_of_eq halted_clear
    · obtain ⟨hcf, hcl⟩ := not_or.mp (mt List.mem_cons.mpr hc)
      have hkept : ¬(c ∈ later ∧ (s.entry c).state = .reserved) := fun h => hcl h.1
      rw [hentry, hblock, if_neg hcf, if_neg hkept]
    · rw [State.slot, hroster]
      exact (hboats y).trans (if_pos rfl)
    · rw [State.slot, hroster]
      exact (hboats z).trans (if_neg hz)

/-- The switch of a block that becomes FAULTED holds no move. -/
theorem faultAt_switchRec (k : FaultKind) (boat : Option BoatId) (d : Details) :
    (s.faultAt k f boat d).switchRec f = (s.switchRec f).map (·.stopped) := by
  have hdropped : vget (s.faultBlock f).switches f = (s.switchRec f).map (·.stopped) := by
    rw [faultBlock_switches, vget_vput_self, funext dropMove_eq_stopped]
  have htwice (w : SwitchRecord) : w.stopped.dropMove = w.stopped := rfl
  rw [State.faultAt, State.switchRec, bayFaulted_switches, raise_switches]
  split
  · rw [vget_vmap, hdropped]
    cases s.switchRec f with
    | none => rfl
    | some w => exact congrArg some (htwice w)
  · exact hdropped

/-- A block becomes FAULTED with its fault. -/
theorem faultAt_blockFaulted {k : FaultKind} (hk : k.cls = .halt) (boat : Option BoatId) (d1 d2 d3 : Nat) :
    BlockFaulted s (s.faultAt k f boat { d1 := d1, d2 := d2, d3 := d3, d4 := 0 }) k f boat d1 d2 d3 := by
  obtain ⟨htaken, hmode, htells⟩ := raise_after (faultBlock_mc s f) (faultBlock_timeBase s f) (faultBlock_dispatch s f)
    faultBlock_tells k (some f) boat { d1 := d1, d2 := d2, d3 := d3, d4 := 0 }
  have hcut := faultAt_pathCut (s := s) (f := f) hk boat { d1 := d1, d2 := d2, d3 := d3, d4 := 0 }
  have hswitch := faultAt_switchRec (s := s) (f := f) k boat { d1 := d1, d2 := d2, d3 := d3, d4 := 0 }
  have hbays : ((s.faultBlock f).raise k (some f) boat { d1 := d1, d2 := d2, d3 := d3, d4 := 0 }).bays = s.bays := by
    rw [raise_bays, faultBlock_bays]
  have hbrake (c : BlockId) : (s.faultAt k f boat { d1 := d1, d2 := d2, d3 := d3, d4 := 0 }).brake c =
      if c = f then (s.brake f).map (·.letGo) else s.brake c := by
    rw [← faultBlock_brake, State.faultAt, State.brake, bayFaulted_brakes, raise_brakes]
    rfl
  have hoccupant : (((s.faultBlock f).raise k (some f) boat { d1 := d1, d2 := d2, d3 := d3, d4 := 0 }).entry f).occupant =
      (s.entry f).occupant := by
    have hfaulted := hcut.1
    rw [State.faultAt, State.entry, bayFaulted_table] at hfaulted
    have hkept := congrArg Entry.occupant hfaulted
    exact hkept
  have hbay := bayFaulted_tells ((s.faultBlock f).raise k (some f) boat { d1 := d1, d2 := d2, d3 := d3, d4 := 0 }) f
  rw [hoccupant] at hbay
  simp only [State.bay, hbays] at hbay
  have hmc : (s.faultAt k f boat { d1 := d1, d2 := d2, d3 := d3, d4 := 0 }).mc =
      ((s.faultBlock f).raise k (some f) boat { d1 := d1, d2 := d2, d3 := d3, d4 := 0 }).mc := bayFaulted_mc ..
  refine ⟨hcut, htaken.congr rfl rfl hmc, ?_, fun y hy => ?_, fun c hc => ?_, fun j hj => ?_, fun c hc => ?_,
    fun w hw => ?_, (htells.trans hbay).reportsAdded⟩
  · rw [← hk, State.mode, hmc]
    exact hmode
  · refine bayFaulted_bay ?_
    rw [State.bay, hbays]
    exact hy
  · rw [State.faultAt, bayFaulted_bay_ne _ hc, State.bay, hbays]
    rfl
  · rw [hbrake, if_pos rfl, hj]
    rfl
  · rw [hbrake, if_neg hc]
  · rw [hswitch, hw]
    rfl

end

/-! ### Stalls (R50) -/

section
variable {s : State} {b : BlockId} {x : BoatId}

theorem stall_eq (hx : (s.entry b).occupant = some x) :
    s.stall b = (((s.stalled b x).modBrake b fun k =>
      if (s.stalled b x).layout.kind b = some .runout then { k with hold := true } else k).raise .stalled (some b) (some x)
        (detail)).bayReturn b := by
  unfold State.stall
  dsimp only
  split
  case h_1 hnone => rw [hx] at hnone; cases hnone
  case h_2 y hy =>
    rw [hx] at hy
    cases hy
    rfl

/-- The ride at a stall, before its fault: the release taken back and a RUNOUT block's hold engaged. -/
def State.takenBackFrom (s : State) (b : BlockId) (x : BoatId) : State :=
  (s.stalled b x).modBrake b fun k =>
    if (s.stalled b x).layout.kind b = some .runout then { k with hold := true } else k

theorem stalled_view {γ : Type} (v : State → γ) (htable : ∀ t x, v { t with table := x } = v t)
    (hroster : ∀ t x, v { t with roster := x } = v t) (harbiters : ∀ t x, v { t with arbiters := x } = v t) :
    v (s.stalled b x) = v s := by
  rw [State.stalled, setPath_view v hroster, clearReserved_view v htable harbiters, setEntry_view v htable harbiters]

theorem takenBackFrom_view {γ : Type} (v : State → γ) (htable : ∀ t x, v { t with table := x } = v t)
    (hroster : ∀ t x, v { t with roster := x } = v t) (harbiters : ∀ t x, v { t with arbiters := x } = v t)
    (hbrakes : ∀ t x, v { t with brakes := x } = v t) : v (s.takenBackFrom b x) = v s := by
  rw [State.takenBackFrom, modBrake_view v hbrakes, stalled_view v htable hroster harbiters]

theorem takenBackFrom_entry (c : BlockId) : (s.takenBackFrom b x).entry c =
    if c = b then { s.entry b with state := .occupied, release := none, transit := none }
    else if c ∈ s.pathOf x ∧ (s.entry c).state = .reserved then .bare .clear else s.entry c := by
  show (State.clearReserved _ _).entry c = _
  rw [clearReserved_entry, setEntry_entry]
  split
  case isTrue hc => exact if_neg fun h => nomatch h.2
  case isFalse => rfl

theorem takenBackFrom_slot (y : BoatId) :
    (s.takenBackFrom b x).slot y = if y = x then (s.slot x).withPath [] else s.slot y := by
  show (State.setSlot _ x _).slot y = _
  split
  case isTrue h => rw [h, setSlot_slot_self, clearReserved_slot]; rfl
  case isFalse h => rw [setSlot_slot_ne _ _ h, clearReserved_slot]; rfl

theorem takenBackFrom_brake (c : BlockId) : (s.takenBackFrom b x).brake c =
    if c = b then (s.brake b).map fun k => if s.layout.kind b = some .runout then { k with hold := true } else k
    else s.brake c := by
  have hlayout : (s.stalled b x).layout = s.layout :=
    stalled_view State.layout (fun _ _ => rfl) (fun _ _ => rfl) fun _ _ => rfl
  have hbrake (c : BlockId) : (s.stalled b x).brake c = s.brake c :=
    congrArg (vget · c) (stalled_view State.brakes (fun _ _ => rfl) (fun _ _ => rfl) fun _ _ => rfl)
  rw [State.takenBackFrom, State.brake, modBrake_brakes, hlayout]
  by_cases h : c = b
  · rw [if_pos h, h, vget_vput_self, hbrake]
  · rw [if_neg h]
    exact (vget_vput_ne _ _ h).trans (hbrake c)

theorem takenBackFrom_tells : Tells s (s.takenBackFrom b x) [] :=
  .of_surroundings
    (takenBackFrom_view State.surroundings (fun _ _ => rfl) (fun _ _ => rfl) (fun _ _ => rfl) fun _ _ => rfl)
    (takenBackFrom_view State.reports (fun _ _ => rfl) (fun _ _ => rfl) (fun _ _ => rfl) fun _ _ => rfl)

/-- The stall's fault, before the bay is told. -/
def State.stallRaised (s : State) (b : BlockId) (x : BoatId) : State :=
  (s.takenBackFrom b x).raise .stalled (some b) (some x) (detail)

theorem stall_eq_bayReturn (hx : (s.entry b).occupant = some x) : s.stall b = (s.stallRaised b x).bayReturn b := stall_eq hx

theorem stallRaised_fault : FaultTaken s (s.stallRaised b x) .stalled (some b) (some x) ∧
    (s.stallRaised b x).mode = modeAfterFault .hold s.mode ∧
    Tells s (s.stallRaised b x) (s.faultReports .stalled (some b) (some x) 0 0 0 0) :=
  raise_after (takenBackFrom_view State.mc (fun _ _ => rfl) (fun _ _ => rfl) (fun _ _ => rfl) fun _ _ => rfl)
    (takenBackFrom_view State.timeBase (fun _ _ => rfl) (fun _ _ => rfl) (fun _ _ => rfl) fun _ _ => rfl)
    (takenBackFrom_view State.dispatch (fun _ _ => rfl) (fun _ _ => rfl) (fun _ _ => rfl) fun _ _ => rfl)
    takenBackFrom_tells .stalled (some b) (some x) (detail)

theorem stallRaised_table : (s.stallRaised b x).table = (s.takenBackFrom b x).table := raise_table_of_ne (by decide) ..

theorem stallRaised_entry (c : BlockId) : (s.stallRaised b x).entry c = (s.takenBackFrom b x).entry c :=
  congrArg (vget · c) stallRaised_table

theorem stallRaised_bay (c : BlockId) : (s.stallRaised b x).bay c = s.bay c := by
  have hbays : (s.stallRaised b x).bays = s.bays := (raise_bays ..).trans
    (takenBackFrom_view State.bays (fun _ _ => rfl) (fun _ _ => rfl) (fun _ _ => rfl) fun _ _ => rfl)
  rw [State.bay, hbays]
  rfl

theorem stall_entry (hx : (s.entry b).occupant = some x) (c : BlockId) :
    (s.stall b).entry c = if c = b then { s.entry b with state := .occupied, release := none, transit := none }
      else if c ∈ s.pathOf x ∧ (s.entry c).state = .reserved then .bare .clear else s.entry c := by
  rw [← takenBackFrom_entry, ← stallRaised_entry, stall_eq_bayReturn hx, State.entry, bayReturn_table]
  rfl

theorem stall_slot (hx : (s.entry b).occupant = some x) (y : BoatId) :
    (s.stall b).slot y = if y = x then (s.slot x).withPath [] else s.slot y := by
  rw [← takenBackFrom_slot (b := b), stall_eq_bayReturn hx, State.slot, bayReturn_roster, State.stallRaised, raise_roster]
  rfl

theorem stall_mc (hx : (s.entry b).occupant = some x) : (s.stall b).mc = (s.stallRaised b x).mc := by
  rw [stall_eq_bayReturn hx, bayReturn_mc]

theorem stall_brake (hx : (s.entry b).occupant = some x) (c : BlockId) : (s.stall b).brake c =
    if c = b then (s.brake b).map fun k => if s.layout.kind b = some .runout then { k with hold := true } else k
    else s.brake c := by
  rw [← takenBackFrom_brake (x := x), stall_eq_bayReturn hx, State.brake, bayReturn_brakes, State.stallRaised, raise_brakes]
  rfl

theorem stall_dispatch (hx : (s.entry b).occupant = some x) :
    (s.stall b).dispatch = (s.stallRaised b x).dispatch := by
  rw [stall_eq_bayReturn hx, bayReturn_dispatch]

theorem stall_bay_ne (hx : (s.entry b).occupant = some x) {c : BlockId} (hc : c ≠ b) : (s.stall b).bay c = s.bay c := by
  rw [stall_eq_bayReturn hx, bayReturn_bay_ne _ hc, stallRaised_bay]

/-- The occupant that a stall's bay report names. -/
theorem stallRaised_occupant (hx : (s.entry b).occupant = some x) : ((s.stallRaised b x).entry b).occupant = some x := by
  rw [stallRaised_entry, takenBackFrom_entry, if_pos rfl]
  exact hx

/-- A bay that was not RELEASED takes no part in the stall. -/
theorem stall_of_other (hx : (s.entry b).occupant = some x)
    (h : ∀ y p, s.bay b = some y → y.phase = .released → y.returnPhase = some p → False) : s.stall b = s.stallRaised b x := by
  rw [stall_eq_bayReturn hx]
  refine bayReturn_of_other fun y p hy => h y p ?_
  rw [← stallRaised_bay (x := x)]
  exact hy

/-- A RELEASED bay returns to its phase with the stall. -/
theorem stall_of_released (hx : (s.entry b).occupant = some x) {y : Bay} {p : Phase} (hy : s.bay b = some y)
    (hphase : y.phase = .released) (hreturn : y.returnPhase = some p) (heye : p ≠ .berthed ∨ y.entryEye ≠ none) :
    s.stall b = (s.stallRaised b x).moveBay b { y with returnPhase := none } p := by
  have hother : ¬(p = .berthed ∧ y.entryEye = none) := fun h => heye.elim (fun hp => hp h.1) fun he => he h.2
  rw [stall_eq_bayReturn hx, bayReturn_eq ((stallRaised_bay b).trans hy) hphase hreturn, if_neg hother]

end

end Sys2Proof.Machine
end

section
/-! PROOFS. RESUME from HALTED takes every frozen release, one block after the other, and no block sees another's (R56). -/

namespace Sys2Proof.Machine

open Sys2Proof

/-! ### One release (R56) -/

/-- The block's release is frozen and its boat waits to be commanded again. -/
def State.frozenAt (s : State) (b : BlockId) (r : Release) (x : BoatId) : Prop :=
  (s.entry b).release = some r ∧ (s.entry b).occupant = some x ∧ r.frozen = true

theorem frozenAt_unique {s : State} {b : BlockId} {r r' : Release} {x x' : BoatId} (h : s.frozenAt b r x)
    (h' : s.frozenAt b r' x') : r' = r ∧ x' = x := by
  obtain ⟨hr, hx, -⟩ := h
  obtain ⟨hr', hx', -⟩ := h'
  exact ⟨Option.some.inj (hr'.symm.trans hr), Option.some.inj (hx'.symm.trans hx)⟩

theorem resumeRelease_of_path {s : State} {b : BlockId} {r : Release} {x : BoatId} (h : s.frozenAt b r x)
    (hp : s.pathOf x ≠ []) : s.resumeRelease b = (s.setEntry b (s.resumedEntry b r)).firePulse b := by
  obtain ⟨hr, hx, hf⟩ := h
  unfold State.resumeRelease
  dsimp only
  split
  case h_1 r' x' hr' hx' =>
    cases hr.symm.trans hr'
    cases hx.symm.trans hx'
    rw [if_pos hf, if_neg fun hempty => hp (List.isEmpty_iff.mp hempty)]
    rfl
  case h_2 hnone => exact (hnone r x hr hx).elim

theorem resumeRelease_of_stall {s : State} {b : BlockId} {r : Release} {x : BoatId} (h : s.frozenAt b r x)
    (hp : s.pathOf x = []) : s.resumeRelease b = s.stall b := by
  obtain ⟨hr, hx, hf⟩ := h
  unfold State.resumeRelease
  dsimp only
  split
  case h_1 r' x' hr' hx' =>
    cases hr.symm.trans hr'
    cases hx.symm.trans hx'
    rw [if_pos hf, if_pos (List.isEmpty_iff.mpr hp)]
  case h_2 hnone => exact (hnone r x hr hx).elim

theorem resumeRelease_of_kept {s : State} {b : BlockId} (h : ∀ r x, ¬s.frozenAt b r x) : s.resumeRelease b = s := by
  unfold State.resumeRelease
  dsimp only
  split
  case h_1 r x hr hx => exact if_neg fun hf => h r x ⟨hr, hx, hf⟩
  case h_2 => rfl

/-- The entry of a block as RESUME leaves it. -/
def State.resumedAt (s : State) (b : BlockId) : Entry :=
  match (s.entry b).release, (s.entry b).occupant with
  | some r, some x =>
    if r.frozen = true then
      if s.pathOf x = [] then { s.entry b with state := .occupied, release := none, transit := none }
      else s.resumedEntry b r
    else s.entry b
  | _, _ => s.entry b

theorem resumedAt_of_path {s : State} {b : BlockId} {r : Release} {x : BoatId} (h : s.frozenAt b r x)
    (hp : s.pathOf x ≠ []) : s.resumedAt b = s.resumedEntry b r := by
  obtain ⟨hr, hx, hf⟩ := h
  rw [State.resumedAt, hr, hx]
  dsimp only
  rw [if_pos hf, if_neg hp]

theorem resumedAt_of_stall {s : State} {b : BlockId} {r : Release} {x : BoatId} (h : s.frozenAt b r x)
    (hp : s.pathOf x = []) :
    s.resumedAt b = { s.entry b with state := .occupied, release := none, transit := none } := by
  obtain ⟨hr, hx, hf⟩ := h
  have hfound : s.resumedAt b = if r.frozen = true then
      if s.pathOf x = [] then { s.entry b with state := .occupied, release := none, transit := none }
      else s.resumedEntry b r else s.entry b := by
    unfold State.resumedAt
    split
    case h_1 r' x' hr' hx' =>
      cases hr.symm.trans hr'
      cases hx.symm.trans hx'
      rfl
    case h_2 hnone => exact (hnone r x hr hx).elim
  rw [hfound, if_pos hf, if_pos hp]

theorem resumedAt_of_kept {s : State} {b : BlockId} (h : ∀ r x, ¬s.frozenAt b r x) : s.resumedAt b = s.entry b := by
  unfold State.resumedAt
  split
  case h_1 r x hr hx => exact if_neg fun hf => h r x ⟨hr, hx, hf⟩
  case h_2 => rfl

/-- The reports of one block's RESUME: those of a stall, where its boat has no path left. -/
def State.resumeReports (s : State) (b : BlockId) : List Told :=
  match (s.entry b).release, (s.entry b).occupant with
  | some r, some x =>
    if r.frozen = true ∧ s.pathOf x = [] then
      { kind := .fault, fault := some (.stalled, .hold), block := some b, boat := some x,
        details := { d1 := 0, d2 := 0, d3 := 0, d4 := 0 } } ::
      match s.bay b with
      | some y => (match y.phase, y.returnPhase with
        | .released, some ph => bayReport b (some x) .released ph
        | _, _ => [])
      | none => []
    else []
  | _, _ => []

theorem resumeReports_of_none {s : State} {b : BlockId} (h : ∀ r x, s.frozenAt b r x → s.pathOf x ≠ []) :
    s.resumeReports b = [] := by
  unfold State.resumeReports
  split
  case h_1 r x hr hx => exact if_neg fun hfrozen => h r x ⟨hr, hx, hfrozen.1⟩ hfrozen.2
  case h_2 => rfl

theorem resumeReports_of_stall {s : State} {b : BlockId} {r : Release} {x : BoatId} (h : s.frozenAt b r x)
    (hp : s.pathOf x = []) : s.resumeReports b =
      { kind := .fault, fault := some (.stalled, .hold), block := some b, boat := some x,
        details := { d1 := 0, d2 := 0, d3 := 0, d4 := 0 } } ::
      match s.bay b with
      | some y => (match y.phase, y.returnPhase with
        | .released, some ph => bayReport b (some x) .released ph
        | _, _ => [])
      | none => [] := by
  obtain ⟨hr, hx, hf⟩ := h
  unfold State.resumeReports
  split
  case h_1 r' x' hr' hx' =>
    cases hr.symm.trans hr'
    cases hx.symm.trans hx'
    rw [if_pos ⟨hf, hp⟩]
  case h_2 hnone => exact (hnone r x hr hx).elim

/-! ### A stall while HOLDING -/

theorem stallRaised_mc_holding {s : State} (hm : s.mode = .holding) (b : BlockId) (x : BoatId) :
    (s.stallRaised b x).mc = s.mc.recordFault .stalled (some b) (some x) s.timeBase := by
  have hmc : (s.takenBackFrom b x).mc = s.mc :=
    takenBackFrom_view State.mc (fun _ _ => rfl) (fun _ _ => rfl) (fun _ _ => rfl) fun _ _ => rfl
  have htime : (s.takenBackFrom b x).timeBase = s.timeBase :=
    takenBackFrom_view State.timeBase (fun _ _ => rfl) (fun _ _ => rfl) (fun _ _ => rfl) fun _ _ => rfl
  have hmode : (s.takenBackFrom b x).mode = .holding := (mode_of_mc hmc).trans hm
  rw [State.stallRaised, raise_mc, hmode, hmc, htime]
  exact if_pos rfl

theorem stallRaised_dispatch_holding {s : State} (hm : s.mode = .holding) (b : BlockId) (x : BoatId) :
    (s.stallRaised b x).dispatch = s.dispatch := by
  have hmc : (s.takenBackFrom b x).mc = s.mc :=
    takenBackFrom_view State.mc (fun _ _ => rfl) (fun _ _ => rfl) (fun _ _ => rfl) fun _ _ => rfl
  have hmode : (s.takenBackFrom b x).mode = .holding := (mode_of_mc hmc).trans hm
  rw [State.stallRaised, raise_dispatch, hmode]
  refine (if_pos rfl).trans ?_
  exact takenBackFrom_view State.dispatch (fun _ _ => rfl) (fun _ _ => rfl) (fun _ _ => rfl) fun _ _ => rfl

/-- The report of a stall raised under HOLDING. -/
def stalledReport (b : Option BlockId) (x : Option BoatId) : Told :=
  { kind := .fault, fault := some (.stalled, .hold), block := b, boat := x, details := { d1 := 0, d2 := 0, d3 := 0, d4 := 0 } }

theorem faultReports_holding {s : State} (hm : s.mode = .holding) (b : Option BlockId) (x : Option BoatId) :
    s.faultReports .stalled b x 0 0 0 0 = [stalledReport b x] := by
  unfold State.faultReports
  rw [hm]
  rfl

theorem recordFault_stalled (c : ModeController) (b : Option BlockId) (x : Option BoatId) (now : Time) :
    (c.fault = none → ∃ f, (c.recordFault .stalled b x now).fault = some f ∧ f.kind = .stalled) ∧
      (∀ f, c.fault = some f → (c.recordFault .stalled b x now).fault = some f) := by
  unfold ModeController.recordFault
  cases h : c.fault with
  | none => exact ⟨fun _ => ⟨_, rfl, rfl⟩, nofun⟩
  | some f => exact ⟨nofun, fun g hg => hg⟩

theorem setPath_slot_empty {s : State} {x : BoatId} (h : s.pathOf x = []) : (s.slot x).withPath [] = s.slot x := by
  unfold State.pathOf at h
  cases hslot : s.slot x with
  | unused => rfl
  | absent bt => rfl
  | onTrack bt pos p =>
    rw [hslot] at h
    cases (h : p = [])
    rfl

/-! ### Several releases, one after the other -/

/-- A block with a frozen release and no path left for its boat. -/
def State.stallsAt (s : State) (b : BlockId) : Prop := ∃ r x, s.frozenAt b r x ∧ s.pathOf x = []

/-- A block with a frozen release that is commanded again. -/
def State.commandedAt (s : State) (b : BlockId) : Prop := ∃ r x, s.frozenAt b r x ∧ s.pathOf x ≠ []

/-- No block of the list drives the channel. -/
def State.undriven (s : State) (bs : List BlockId) (ch : ChannelId) : Prop :=
  ∀ a ∈ bs, ∀ ra da, s.record a = some ra → ra.drive = some da → da.channel ≠ ch

/-- `t` is `s`, a ride in HOLDING, after RESUME has taken the blocks of the list. -/
structure Resumed (bs : List BlockId) (s t : State) : Prop where
  entry : ∀ c, t.entry c = if c ∈ bs then s.resumedAt c else s.entry c
  slot : ∀ y, t.slot y = s.slot y
  bay : ∀ c, c ∉ bs → t.bay c = s.bay c
  mc : t.mc = { s.mc with fault := t.mc.fault, further := t.mc.further }
  fault : s.mc.fault = none → t.mc.fault = none ∨ ∃ f, t.mc.fault = some f ∧ f.kind = .stalled
  recorded : ∀ f, s.mc.fault = some f → t.mc.fault = some f
  stalls : ∀ b ∈ bs, s.stallsAt b → t.mc.fault ≠ none
  dispatch : t.dispatch = s.dispatch
  surroundings : t.surroundings = s.surroundings
  owner : ∀ ch, (t.channel ch).owner = (s.channel ch).owner
  channel : ∀ ch, s.undriven bs ch → t.channel ch = s.channel ch
  pulse : ∀ b ∈ bs, s.commandedAt b → ∀ rec dr ln, s.record b = some rec → rec.fields = .launch dr ln →
    s.undriven (bs.filter (· != b)) dr.channel →
    (t.channel dr.channel).pulse = some (s.timeBase + msSpan ln.kickPulse)
  tells : (∀ b y, s.bay b = some y → y.returnPhase = some .berthed → y.entryEye ≠ none) →
    Tells s t (bs.flatMap s.resumeReports)

theorem resumed_nil (s : State) : Resumed [] s s :=
  ⟨fun _ => (if_neg List.not_mem_nil).symm, fun _ => rfl, fun _ _ => rfl, rfl, .inl, fun _ h => h, nofun, rfl, rfl, fun _ => rfl,
    fun _ _ => rfl, nofun, fun _ => .refl s⟩

/-- A block whose release is not frozen stays. -/
theorem resumed_kept {s : State} {b : BlockId} (h : ∀ r x, ¬s.frozenAt b r x) : Resumed [b] s s where
  entry c := by
    split
    case isTrue hc => rw [List.mem_singleton.mp hc, resumedAt_of_kept h]
    case isFalse => rfl
  slot _ := rfl
  bay _ _ := rfl
  mc := rfl
  fault := .inl
  recorded _ hf := hf
  stalls c hc := fun ⟨r, x, hfrozen, _⟩ => (h r x (List.mem_singleton.mp hc ▸ hfrozen)).elim
  dispatch := rfl
  surroundings := rfl
  owner _ := rfl
  channel _ _ := rfl
  pulse c hc := fun ⟨r, x, hfrozen, _⟩ => (h r x (List.mem_singleton.mp hc ▸ hfrozen)).elim
  tells _ := by
    rw [List.flatMap_singleton, resumeReports_of_none fun r x hfrozen => (h r x hfrozen).elim]
    exact .refl s

theorem drive_of_launch {r : BlockRecord} {d : DriveSection} {l : LaunchSection} (h : r.fields = .launch d l) :
    r.drive = some d := by
  rw [BlockRecord.drive, h]

theorem firePulse_channel_ne {s : State} {b : BlockId} {ch : ChannelId} (h : s.undriven [b] ch) :
    (s.firePulse b).channel ch = s.channel ch := by
  by_cases hlaunch : ∃ r d l, s.record b = some r ∧ r.fields = .launch d l
  · obtain ⟨r, d, l, hr, hf⟩ := hlaunch
    have hne : ch ≠ d.channel := (h b (List.mem_singleton.mpr rfl) r d hr (drive_of_launch hf)).symm
    rw [firePulse_of_launch hr hf]
    exact vget_vput_ne _ _ hne
  · rw [firePulse_of_other fun r d l hr hf => hlaunch ⟨r, d, l, hr, hf⟩]

theorem firePulse_owner (s : State) (b : BlockId) (ch : ChannelId) :
    ((s.firePulse b).channel ch).owner = (s.channel ch).owner := by
  by_cases hlaunch : ∃ r d l, s.record b = some r ∧ r.fields = .launch d l
  · obtain ⟨r, d, l, hr, hf⟩ := hlaunch
    rw [firePulse_of_launch hr hf]
    by_cases hch : ch = d.channel
    · rw [hch, setChannel_channel_self]
    · exact congrArg Channel.owner (vget_vput_ne _ _ hch)
  · rw [firePulse_of_other fun r d l hr hf => hlaunch ⟨r, d, l, hr, hf⟩]

/-- A frozen release with a path left is commanded again. -/
theorem resumed_commanded {s : State} {b : BlockId} {r : Release} {x : BoatId} (h : s.frozenAt b r x)
    (hp : s.pathOf x ≠ []) : Resumed [b] s (s.resumeRelease b) := by
  rw [resumeRelease_of_path h hp]
  have hpath {r' : Release} {x' : BoatId} (h' : s.frozenAt b r' x') : s.pathOf x' ≠ [] := (frozenAt_unique h h').2 ▸ hp
  have hchannels : ((s.setEntry b (s.resumedEntry b r)).firePulse b).channels = (s.firePulse b).channels := by
    have hrecord : (s.setEntry b (s.resumedEntry b r)).record b = s.record b := rfl
    rw [State.firePulse, State.firePulse, hrecord]
    split
    · rfl
    · split <;> rfl
  have hchannel (ch : ChannelId) :
      ((s.setEntry b (s.resumedEntry b r)).firePulse b).channel ch = (s.firePulse b).channel ch :=
    congrArg (vget · ch) hchannels
  have hmc : ((s.setEntry b (s.resumedEntry b r)).firePulse b).mc = s.mc := firePulse_mc ..
  refine ⟨fun c => ?_, fun y => ?_, fun c hc => ?_, by rw [hmc], fun hf => .inl (by rw [hmc, hf]), fun f hf => by rw [hmc, hf],
    fun c hc => ?_, firePulse_dispatch .., firePulse_surroundings .., fun ch => ?_, fun ch hch => ?_,
    fun c hc _ rec dr ln hrec hf _ => ?_, fun _ => ?_⟩
  · rw [State.entry, firePulse_table]
    refine (setEntry_entry s b c _).trans ?_
    simp only [List.mem_singleton]
    split
    case isTrue hc => rw [hc, resumedAt_of_path h hp]
    case isFalse => rfl
  · rw [State.slot, firePulse_roster]
    rfl
  · rw [State.bay, firePulse_bays]
    rfl
  · rintro ⟨r', x', h', hp'⟩
    exact absurd hp' (hpath (List.mem_singleton.mp hc ▸ h'))
  · rw [hchannel, firePulse_owner]
  · rw [hchannel, firePulse_channel_ne hch]
  · cases List.mem_singleton.mp hc
    rw [hchannel, firePulse_of_launch hrec hf, setChannel_channel_self]
  · rw [List.flatMap_singleton, resumeReports_of_none fun r' x' h' => hpath h']
    exact .of_surroundings (firePulse_surroundings ..) (firePulse_reports ..)

/-- What a stall of a boat with no path left tells while HOLDING. -/
theorem stall_tells_holding {s : State} {b : BlockId} {r : Release} {x : BoatId} (hm : s.mode = .holding)
    (h : s.frozenAt b r x) (hp : s.pathOf x = [])
    (heye : ∀ y, s.bay b = some y → y.returnPhase = some .berthed → y.entryEye ≠ none) :
    Tells s (s.stall b) (s.resumeReports b) := by
  have hx := h.2.1
  have hraised := (stallRaised_fault (s := s) (b := b) (x := x)).2.2
  rw [faultReports_holding hm] at hraised
  rw [resumeReports_of_stall h hp]
  by_cases hreleased : ∃ y p, s.bay b = some y ∧ y.phase = .released ∧ y.returnPhase = some p
  · obtain ⟨y, p, hy, hphase, hreturn⟩ := hreleased
    have hother : p ≠ .berthed ∨ y.entryEye ≠ none := by
      by_cases hb : p = .berthed
      · exact .inr (heye y hy (hb ▸ hreturn))
      · exact .inl hb
    have hmove := moveBay_tells (s.stallRaised b x) b { y with returnPhase := none } p
    have hphase' : ({ y with returnPhase := none } : Bay).phase = .released := hphase
    rw [stallRaised_occupant hx, hphase'] at hmove
    rw [stall_of_released hx hy hphase hreturn hother, hy]
    dsimp only
    rw [hphase, hreturn]
    exact hraised.trans hmove
  · have hnone : ∀ y p, s.bay b = some y → y.phase = .released → y.returnPhase = some p → False :=
      fun y p hy hphase hreturn => hreleased ⟨y, p, hy, hphase, hreturn⟩
    rw [stall_of_other hx hnone]
    have hquiet : (match s.bay b with
        | some y => (match y.phase, y.returnPhase with
          | .released, some ph => bayReport b (some x) .released ph
          | _, _ => [])
        | none => []) = [] := by
      split
      case h_1 y hy =>
        split
        case h_1 p hphase hreturn => exact (hnone y p hy hphase hreturn).elim
        case h_2 => rfl
      case h_2 => rfl
    have hcons := congrArg (fun rs => stalledReport (some b) (some x) :: rs) hquiet
    exact hcons ▸ hraised

/-- A frozen release with no path left is taken back. -/
theorem resumed_stalled {s : State} {b : BlockId} {r : Release} {x : BoatId} (hm : s.mode = .holding) (h : s.frozenAt b r x)
    (hp : s.pathOf x = []) : Resumed [b] s (s.resumeRelease b) := by
  rw [resumeRelease_of_stall h hp]
  have hx := h.2.1
  have hmc : (s.stall b).mc = s.mc.recordFault .stalled (some b) (some x) s.timeBase :=
    (stall_mc hx).trans (stallRaised_mc_holding hm b x)
  obtain ⟨hnew, hkept⟩ := recordFault_stalled s.mc (some b) (some x) s.timeBase
  have hchannel (ch : ChannelId) : (s.stall b).channel ch = s.channel ch := congrArg (vget · ch) (stall_channels s b)
  refine ⟨fun c => ?_, fun y => ?_, fun c hc => ?_, ?_, fun hf => .inr ?_, fun f hf => ?_, fun c hc _ => ?_, ?_,
    stall_surroundings .., fun ch => by rw [hchannel], fun ch _ => hchannel ch, fun c hc => ?_, fun heye => ?_⟩
  · rw [stall_entry hx]
    simp only [List.mem_singleton]
    split
    case isTrue hc => rw [hc, resumedAt_of_stall h hp]
    case isFalse =>
      rw [hp]
      exact if_neg fun hc => absurd hc.1 List.not_mem_nil
  · rw [stall_slot hx]
    split
    case isTrue hy => rw [hy, setPath_slot_empty hp]
    case isFalse => rfl
  · exact stall_bay_ne hx fun hcb => hc (List.mem_singleton.mpr hcb)
  · rw [hmc]
    exact recordFault_keeps ..
  · rw [hmc]
    exact hnew hf
  · rw [hmc]
    exact hkept f hf
  · rw [hmc]
    cases hf : s.mc.fault with
    | none =>
      obtain ⟨f, hf', -⟩ := hnew hf
      rw [hf']
      nofun
    | some f =>
      rw [hkept f hf]
      nofun
  · exact (stall_dispatch hx).trans (stallRaised_dispatch_holding hm b x)
  · rintro ⟨r', x', h', hp'⟩
    exact absurd ((frozenAt_unique h (List.mem_singleton.mp hc ▸ h')).2 ▸ hp) hp'
  · rw [List.flatMap_singleton]
    exact stall_tells_holding hm h hp (heye b)

theorem resumed_one {s : State} (hm : s.mode = .holding) (b : BlockId) : Resumed [b] s (s.resumeRelease b) := by
  by_cases h : ∃ r x, s.frozenAt b r x
  · obtain ⟨r, x, h⟩ := h
    by_cases hp : s.pathOf x = []
    · exact resumed_stalled hm h hp
    · exact resumed_commanded h hp
  · have hkept : ∀ r x, ¬s.frozenAt b r x := fun r x hfrozen => h ⟨r, x, hfrozen⟩
    rw [resumeRelease_of_kept hkept]
    exact resumed_kept hkept

/-! ### What a later block finds is what it was -/

section
variable {s t : State} {b : BlockId} (h : Resumed [b] s t)
include h

theorem Resumed.entry_ne {c : BlockId} (hc : c ≠ b) : t.entry c = s.entry c := by
  rw [h.entry, if_neg fun hmem => hc (List.mem_singleton.mp hmem)]

theorem Resumed.pathOf (y : BoatId) : t.pathOf y = s.pathOf y := by rw [State.pathOf, h.slot, State.pathOf]

theorem Resumed.frozenAt_iff {c : BlockId} (hc : c ≠ b) (r : Release) (x : BoatId) : t.frozenAt c r x ↔ s.frozenAt c r x := by
  unfold State.frozenAt
  rw [h.entry_ne hc]

theorem Resumed.layout : t.layout = s.layout := (surroundings_layout h.surroundings).1

theorem Resumed.timeBase : t.timeBase = s.timeBase := congrArg (·.2.1) h.surroundings

theorem Resumed.record (c : BlockId) : t.record c = s.record c := by rw [State.record, h.layout, State.record]

theorem Resumed.resumedAt_ne {c : BlockId} (hc : c ≠ b) : t.resumedAt c = s.resumedAt c := by
  have hresumed (r : Release) : t.resumedEntry c r = s.resumedEntry c r := by
    rw [State.resumedEntry, State.resumedEntry, State.after, State.after, State.transitLimit, State.transitLimit,
      h.entry_ne hc, h.timeBase, h.record]
  unfold State.resumedAt
  simp only [h.entry_ne hc, h.pathOf, hresumed]

theorem Resumed.resumeReports_ne {c : BlockId} (hc : c ≠ b) : t.resumeReports c = s.resumeReports c := by
  unfold State.resumeReports
  simp only [h.entry_ne hc, h.pathOf, h.bay c fun hmem => hc (List.mem_singleton.mp hmem)]

theorem Resumed.mode (hm : s.mode = .holding) : t.mode = .holding := by
  rw [State.mode, h.mc]
  exact hm

end

/-- A bay that a RESUME has told keeps no return phase that would call for an entry boundary. -/
theorem resumeRelease_eye {s : State} {b : BlockId}
    (heye : ∀ c y, s.bay c = some y → y.returnPhase = some .berthed → y.entryEye ≠ none) :
    ∀ c y, (s.resumeRelease b).bay c = some y → y.returnPhase = some .berthed → y.entryEye ≠ none := by
  by_cases h : ∃ r x, s.frozenAt b r x
  · obtain ⟨r, x, h⟩ := h
    by_cases hp : s.pathOf x = []
    · rw [resumeRelease_of_stall h hp]
      intro c y hy
      have hx := h.2.1
      by_cases hc : c = b
      · subst hc
        by_cases hreleased : ∃ z p, s.bay c = some z ∧ z.phase = .released ∧ z.returnPhase = some p
        · obtain ⟨z, p, hz, hphase, hreturn⟩ := hreleased
          have hother : p ≠ .berthed ∨ z.entryEye ≠ none := by
            by_cases hb : p = .berthed
            · exact .inr (heye c z hz (hb ▸ hreturn))
            · exact .inl hb
          rw [stall_of_released hx hz hphase hreturn hother, moveBay_bay] at hy
          cases hy
          exact nofun
        · rw [stall_of_other hx fun z p hz hphase hreturn => hreleased ⟨z, p, hz, hphase, hreturn⟩, stallRaised_bay] at hy
          exact heye c y hy
      · rw [stall_bay_ne hx hc] at hy
        exact heye c y hy
    · rw [resumeRelease_of_path h hp]
      intro c y hy
      rw [State.bay, firePulse_bays] at hy
      exact heye c y hy
  · rw [resumeRelease_of_kept fun r x hfrozen => h ⟨r, x, hfrozen⟩]
    exact heye

theorem resumed_cons {b : BlockId} {bs : List BlockId} {s t u : State} (hb : b ∉ bs) (h : Resumed [b] s t)
    (heyes : (∀ c y, s.bay c = some y → y.returnPhase = some .berthed → y.entryEye ≠ none) →
      ∀ c y, t.bay c = some y → y.returnPhase = some .berthed → y.entryEye ≠ none)
    (h' : Resumed bs t u) : Resumed (b :: bs) s u := by
  have hself : b ∈ [b] := List.mem_singleton.mpr rfl
  have hne {c : BlockId} (hc : c ∈ bs) : c ≠ b := fun hcb => hb (hcb ▸ hc)
  refine ⟨fun c => ?_, fun y => (h'.slot y).trans (h.slot y), fun c hc => ?_, ?_, fun hf => ?_, fun f hf => ?_, fun c hc => ?_,
    h'.dispatch.trans h.dispatch, h'.surroundings.trans h.surroundings, fun ch => (h'.owner ch).trans (h.owner ch),
    fun ch hch => ?_, fun c hc hcommanded rec dr ln hrec hf halone => ?_, fun heye => ?_⟩
  · rw [h'.entry]
    by_cases hcb : c = b
    · rw [if_neg (hcb ▸ hb), if_pos (List.mem_cons.mpr (.inl hcb)), h.entry, if_pos (List.mem_singleton.mpr hcb)]
    · have hmem : c ∈ b :: bs ↔ c ∈ bs := by simp only [List.mem_cons, hcb, false_or]
      simp only [hmem, h.resumedAt_ne hcb, h.entry_ne hcb]
  · obtain ⟨hcb, hcs⟩ := not_or.mp (mt List.mem_cons.mpr hc)
    exact (h'.bay c hcs).trans (h.bay c fun hmem => hcb (List.mem_singleton.mp hmem))
  · have hmc := h'.mc
    rw [h.mc] at hmc
    exact hmc
  · obtain hnone | ⟨f, hsome, hkind⟩ := h.fault hf
    · exact h'.fault hnone
    · exact .inr ⟨f, h'.recorded f hsome, hkind⟩
  · exact h'.recorded f (h.recorded f hf)
  · intro hstalls
    obtain hcb | hcs := List.mem_cons.mp hc
    · obtain ⟨f, hf⟩ := Option.ne_none_iff_exists'.mp (h.stalls b hself (hcb ▸ hstalls))
      rw [h'.recorded f hf]
      nofun
    · obtain ⟨r, x, hfrozen, hp⟩ := hstalls
      exact h'.stalls c hcs ⟨r, x, (h.frozenAt_iff (hne hcs) r x).mpr hfrozen, (h.pathOf x).trans hp⟩
  · have hrest : t.undriven bs ch := fun a ha ra da hra => hch a (List.mem_cons_of_mem b ha) ra da (h.record a ▸ hra)
    have hfirst : s.undriven [b] ch := fun a ha ra da =>
      hch a (List.mem_cons.mpr (.inl (List.mem_singleton.mp ha))) ra da
    exact (h'.channel ch hrest).trans (h.channel ch hfirst)
  · have halone' (a : BlockId) (ha : a ∈ bs) (hac : a ≠ c) (ra : BlockRecord) (da : DriveSection) (hra : t.record a = some ra) :
        ra.drive = some da → da.channel ≠ dr.channel :=
      halone a (List.mem_filter.mpr ⟨List.mem_cons_of_mem b ha, bne_iff_ne.mpr hac⟩) ra da (h.record a ▸ hra)
    obtain hcb | hcs := List.mem_cons.mp hc
    · subst hcb
      have hpulse := h.pulse c hself hcommanded rec dr ln hrec hf fun a ha => by simp at ha
      rw [h'.channel dr.channel fun a ha => halone' a ha (hne ha)]
      exact hpulse
    · obtain ⟨r, x, hfrozen, hp⟩ := hcommanded
      have hcommanded' : t.commandedAt c := ⟨r, x, (h.frozenAt_iff (hne hcs) r x).mpr hfrozen, (h.pathOf x).symm ▸ hp⟩
      rw [h'.pulse c hcs hcommanded' rec dr ln (h.record c ▸ hrec) hf fun a ha => ?_, h.timeBase]
      obtain ⟨hmem, hac⟩ := List.mem_filter.mp ha
      exact halone' a hmem (bne_iff_ne.mp hac)
  · have hreports : bs.flatMap t.resumeReports = bs.flatMap s.resumeReports :=
      flatMap_congr_on fun c hc => h.resumeReports_ne (hne hc)
    have hfirst := h.tells heye
    have hrest := h'.tells (heyes heye)
    rw [List.flatMap_singleton] at hfirst
    rw [hreports] at hrest
    rw [List.flatMap_cons]
    exact hfirst.trans hrest

theorem resumed_foldl {bs : List BlockId} (hbs : bs.Nodup) {s : State} (hm : s.mode = .holding) :
    Resumed bs s (bs.foldl State.resumeRelease s) := by
  induction bs generalizing s with
  | nil => exact resumed_nil s
  | cons b bs ih =>
    obtain ⟨hb, hrest⟩ := List.nodup_cons.mp hbs
    have hone := resumed_one hm b
    exact resumed_cons hb hone resumeRelease_eye (ih hrest (hone.mode hm))

theorem resumeFrozen_resumed {s : State} (hm : s.mode = .holding) : Resumed allBlocks s s.resumeFrozen :=
  resumed_foldl (List.nodup_finRange 32) hm

end Sys2Proof.Machine
end

section
/-! PROOFS. The matching ENTER RUN, ENTER MANUAL and RESUME: the change of mode, the frozen releases, the end of the event. -/

namespace Sys2Proof.Machine

open Sys2Proof

/-! ### The request (R180, R181) -/

theorem startRefusal_none {s : State} (hstop : s.mc.stopActive = false) (hblocks : ∀ b, (s.entry b).state ≠ .unverified) :
    s.startRefusal = none := by
  have hfirst : s.firstUnverified = none :=
    List.find?_eq_none.mpr fun b _ hb => hblocks b (eq_of_beq hb)
  rw [State.startRefusal, hstop, hfirst]
  rfl

/-- The requests that start a ride. -/
theorem mem_starting {m : ModeReq} (hm : m ∈ [ModeReq.enterRun, .enterManual, .resume]) :
    m = .enterRun ∨ m = .enterManual ∨ m = .resume := by
  simpa using hm

theorem modeRefusal_starting {m : ModeReq} (hm : m ∈ [ModeReq.enterRun, .enterManual, .resume]) (s : State) (g : Option Nat) :
    s.modeRefusal m g = s.startRefusal := by
  obtain rfl | rfl | rfl := mem_starting hm <;> rfl

theorem target_starting {m : ModeReq} (hm : m ∈ [ModeReq.enterRun, .enterManual, .resume]) (mode : Mode) (runMode : RunMode) :
    m.target mode runMode = (if m = .enterRun then .run else if m = .enterManual then .manual
      else if mode = .halted then .holding else runMode.toMode) := by
  obtain rfl | rfl | rfl := mem_starting hm <;> rfl

theorem permitOf_starting {m : ModeReq} (hm : m ∈ [ModeReq.enterRun, .enterManual, .resume]) (mode : Mode)
    (runMode : RunMode) : permitOf (m.target mode runMode) = true := by
  obtain rfl | rfl | rfl := mem_starting hm
  · rfl
  · rfl
  · rw [target_starting hm, if_neg nofun, if_neg nofun]
    split
    · rfl
    · cases runMode <;> rfl

theorem runModeAfter_toMode (r : RunMode) : runModeAfter r.toMode r = r := by cases r <;> rfl

/-! ### The change of mode with the frozen releases -/

theorem prepared_starting {m : ModeReq} (hm : m ∈ [ModeReq.enterRun, .enterManual, .resume]) {s : State}
    (h : m ≠ .resume ∨ s.mode ≠ .halted) : s.prepared m = s.changed m := by
  obtain rfl | rfl | rfl := mem_starting hm
  · rfl
  · rfl
  · exact if_neg (h.resolve_left fun hne => hne rfl)

/-- What the change of mode of RESUME from HALTED leaves for the frozen releases. -/
theorem prepared_resume {s : State} (h : s.mode = .halted) :
    Resumed allBlocks (s.changed .resume) (s.prepared .resume) := by
  have hprepared : s.prepared .resume = (s.changed .resume).resumeFrozen := if_pos h
  rw [hprepared]
  exact resumeFrozen_resumed ((changed_mode s .resume).trans (if_pos h))

theorem prepared_mc_starting {m : ModeReq} (hm : m ∈ [ModeReq.enterRun, .enterManual, .resume]) (s : State) :
    (s.prepared m).mc = { (s.changed m).mc with fault := (s.prepared m).mc.fault, further := (s.prepared m).mc.further } := by
  by_cases h : m ≠ .resume ∨ s.mode ≠ .halted
  · rw [prepared_starting hm h]
  · obtain ⟨hresume, hhalted⟩ := not_or.mp h
    cases Classical.not_not.mp hresume
    exact (prepared_resume (Classical.not_not.mp hhalted)).mc

theorem prepared_fields {m : ModeReq} (hm : m ∈ [ModeReq.enterRun, .enterManual, .resume]) (s : State) :
    (s.prepared m).mode = m.target s.mode s.mc.runMode ∧ (s.prepared m).mc.slot = none ∧ (s.prepared m).mc.permit = true ∧
      (s.prepared m).mc.runMode = runModeAfter (m.target s.mode s.mc.runMode) s.mc.runMode := by
  have hmc := prepared_mc_starting hm s
  rw [changed_mc, permitOf_starting hm] at hmc
  exact ⟨congrArg (·.mode) hmc, congrArg (·.slot) hmc, congrArg (·.permit) hmc, congrArg (·.runMode) hmc⟩

/-! ### The end of the event -/

/-- The end of an event leaves the slot empty, the permit, the run mode and the fault. -/
theorem finish_fields {u : State} (hslot : u.mc.slot = none) (hpermit : u.mc.permit = true) :
    u.finish.mc.slot = none ∧ u.finish.mc.permit = true ∧ u.finish.mc.runMode = u.mc.runMode ∧
      u.finish.mc.fault = u.mc.fault := by
  obtain h | ⟨-, h⟩ := finish_mc u
  · rw [h]
    exact ⟨hslot, hpermit, rfl, rfl⟩
  · rw [h]
    exact ⟨rfl, rfl, rfl, rfl⟩

theorem finish_mode_of_ne {u : State} (h : u.mode ≠ .holding) : u.finish.mode = u.mode :=
  mode_of_mc (finish_mc_of_ne h)

theorem finish_mode_holding {u : State} (h : u.mode = .holding) : u.finish.mode = .holding ∨ u.finish.mode = .held := by
  obtain hmc | ⟨-, hmc⟩ := finish_mc u
  · exact .inl ((mode_of_mc hmc).trans h)
  · exact .inr (by rw [State.mode, hmc])

/-- A grant removes no entry but the one with both consents it was made for (R124). -/
theorem grant_keeps_unconsented {u : State} {b : BlockId} {q : Requester} {x : BoatId} {p : List BlockId} {e : DispatchEntry}
    (hasks : u.asksBy b q) (hx : (u.entry b).occupant = some x) (hnodup : (u.dispatch.map (·.seq)).Nodup)
    (he : e ∈ u.dispatch) (hconsent : ¬(e.consentA = true ∧ e.consentB = true)) :
    ((u.grant b q p).dispatch.map (·.seq)).Nodup ∧ e ∈ (u.grant b q p).dispatch := by
  cases q with
  | step => exact hasks.elim
  | scheduler =>
    rw [grant_scheduler_dispatch p hx]
    exact ⟨hnodup, he⟩
  | dispatch d =>
    obtain ⟨-, ⟨hd, hA, hB, -⟩, -⟩ := hasks
    rw [grant_entry_dispatch d p hx]
    refine ⟨(List.filter_sublist.map _).nodup hnodup, List.mem_filter.mpr ⟨he, ?_⟩⟩
    rw [bne_iff_ne]
    rintro hseq
    cases eq_of_nodup_map hnodup he hd hseq
    exact hconsent ⟨hA, hB⟩

theorem finish_keeps_unconsented {u : State} {e : DispatchEntry} (hnodup : (u.dispatch.map (·.seq)).Nodup)
    (he : e ∈ u.dispatch) (hconsent : ¬(e.consentA = true ∧ e.consentB = true)) : e ∈ u.finish.dispatch := by
  by_cases hrun : u.mode = .run
  · rw [(finish_run_rederived hrun).keeps_dispatch]
    have hkept := (grantLoop_grantedFrom 32 u.refreshSwitches).keeps
      (P := fun t => (t.dispatch.map (·.seq)).Nodup ∧ e ∈ t.dispatch)
      (fun _ _ _ _ _ hasks hmay ht => grant_keeps_unconsented hasks hmay.2.2.1 ht.1 ht.2 hconsent) ⟨hnodup, he⟩
    exact hkept.2
  · rw [finish_dispatch hrun]
    exact he

/-- In HOLDING the kicker's pulse of a RELEASING block runs on at the end of an event (R170, R189). -/
theorem finish_pulse_holding {u : State} (hm : u.mode = .holding) {ch : ChannelId} {b : BlockId} {r : BlockRecord}
    {d : DriveSection} (howner : (u.channel ch).owner = some b) (hr : u.record b = some r) (hd : r.drive = some d)
    (hst : (u.entry b).state = .releasing) : (u.finish.channel ch).pulse = (u.channel ch).pulse := by
  have hchannels : u.finish.channels = u.refreshSwitches.refreshBrakes.refreshChannels.channels := by
    rw [finish_holding u hm, State.settle]
    split
    · exact changeMode_channels ..
    · rfl
  have hchannel : u.finish.channel ch = u.refreshSwitches.refreshBrakes.refreshChannel (u.channel ch) :=
    (congrArg (vget · ch) hchannels).trans (refreshChannels_channel ..)
  have hr' : u.refreshSwitches.refreshBrakes.record b = some r := hr
  have hpulses : (u.refreshSwitches.refreshBrakes.entry b).state = .releasing ∧
      u.refreshSwitches.refreshBrakes.mode ≠ .halted :=
    ⟨hst, fun h => nomatch hm.symm.trans h⟩
  rw [hchannel, State.refreshChannel, howner]
  dsimp only
  rw [hr']
  dsimp only
  rw [hd]
  exact if_pos hpulses

/-! ### The timers (R112) -/

theorem retime_suspended {e : DispatchEntry} {left : Nat} (h : e.timer = .suspended left) {old new : Mode}
    (hold : isRunMode old = false) (hnew : isRunMode new = true) (now : Time) :
    e.retime now old new = { e with timer := .running (now + BitVec.ofNat 32 left) } := by
  rw [DispatchEntry.retime, h, hold, hnew]
  rfl

theorem changed_timer {s : State} {m : ModeReq} (hold : isRunMode s.mode = false)
    (hnew : isRunMode (m.target s.mode s.mc.runMode) = true) {e : DispatchEntry} (he : e ∈ s.dispatch) {left : Nat}
    (h : e.timer = .suspended left) :
    { e with timer := .running (s.timeBase + BitVec.ofNat 32 left) } ∈ (s.changed m).dispatch := by
  have hdispatch : (s.changed m).dispatch =
      s.dispatch.map fun e => e.retime s.timeBase s.mode (m.target s.mode s.mc.runMode) := changeMode_dispatch ..
  rw [hdispatch, ← retime_suspended h hold hnew s.timeBase]
  exact List.mem_map_of_mem he

theorem retime_seq (e : DispatchEntry) (now : Time) (old new : Mode) : (e.retime now old new).seq = e.seq := by
  unfold DispatchEntry.retime
  split
  · split <;> rfl
  · split <;> rfl
  · rfl

theorem changed_seqs (s : State) (m : ModeReq) : (s.changed m).dispatch.map (·.seq) = s.dispatch.map (·.seq) := by
  have hdispatch : (s.changed m).dispatch =
      s.dispatch.map fun e => e.retime s.timeBase s.mode (m.target s.mode s.mc.runMode) := changeMode_dispatch ..
  rw [hdispatch, List.map_map]
  exact List.map_congr_left fun e _ => retime_seq ..

/-- A suspended consent timer runs on when the ride starts. -/
theorem prepared_timers {m : ModeReq} (hm : m ∈ [ModeReq.enterRun, .enterManual, .resume]) {s : State}
    (hstarts : (s.prepared m).finish.mode = .run ∨ (s.prepared m).finish.mode = .manual) (hrun : s.mode ≠ .run)
    (hmanual : s.mode ≠ .manual) (hsound : s.dispatchSound) {e : DispatchEntry} (he : e ∈ s.dispatch) {left : Nat}
    (htimer : e.timer = .suspended left) (hconsent : ¬(e.consentA = true ∧ e.consentB = true)) :
    { e with timer := .running (s.timeBase + BitVec.ofNat 32 left) } ∈ (s.prepared m).finish.dispatch := by
  have hmode := (prepared_fields hm s).1
  have hnew : isRunMode (m.target s.mode s.mc.runMode) = true := by
    rw [isRunMode_iff, ← hmode]
    by_cases hholding : (s.prepared m).mode = .holding
    · obtain hend | hend := finish_mode_holding hholding
      · obtain h | h := hstarts <;> cases hend.symm.trans h
      · obtain h | h := hstarts <;> cases hend.symm.trans h
    · rwa [finish_mode_of_ne hholding] at hstarts
  have hold : isRunMode s.mode = false := Bool.eq_false_iff.mpr fun h =>
    ((isRunMode_iff _).mp h).elim hrun hmanual
  have hsame : s.prepared m = s.changed m := by
    refine prepared_starting hm (Classical.or_iff_not_imp_left.mpr fun hresume hhalted => ?_)
    rw [Classical.not_not.mp hresume, hhalted] at hnew
    exact absurd hnew nofun
  rw [hsame]
  refine finish_keeps_unconsented ?_ (changed_timer hold hnew he htimer) hconsent
  rw [changed_seqs]
  exact hsound.2.1

/-! ### RESUME from HALTED (R56, R192) -/

/-- The changes of mode keep what the frozen releases read. -/
theorem changed_views (s : State) (m : ModeReq) :
    (∀ b, (s.changed m).entry b = s.entry b) ∧ (∀ x, (s.changed m).pathOf x = s.pathOf x) ∧
      (∀ b, (s.changed m).bay b = s.bay b) ∧ (∀ b, (s.changed m).record b = s.record b) ∧
      (∀ ch, (s.changed m).channel ch = s.channel ch) ∧ (s.changed m).timeBase = s.timeBase := by
  obtain ⟨hlayout, hbays, -, hroster, htable, -⟩ := changed_keeps s m
  obtain ⟨-, -, -, -, hchannels, -⟩ := changed_units s m
  refine ⟨fun b => congrArg (vget · b) htable, fun x => ?_, fun b => congrArg (vget · b) hbays,
    fun b => ?_, fun ch => congrArg (vget · ch) hchannels, changeMode_timeBase ..⟩
  · rw [State.pathOf, State.slot, hroster]
    rfl
  · rw [State.record, hlayout]
    rfl

theorem resumeReports_congr {s t : State} {b : BlockId} (hentry : t.entry b = s.entry b) (hpath : ∀ x, t.pathOf x = s.pathOf x)
    (hbay : t.bay b = s.bay b) : t.resumeReports b = s.resumeReports b := by
  unfold State.resumeReports
  rw [hentry, hbay]
  simp only [hpath]

theorem resumedEntry_of_record {s : State} {b : BlockId} {rec : BlockRecord} (r : Release) (h : s.record b = some rec) :
    s.resumedEntry b r = { s.entry b with
      transit := some (s.timeBase + msSpan rec.transitLimit)
      release := some { r with frozen := false, retries := match rec.launch with
        | some n => n.kickRetries
        | none => 0 } } := by
  have hretries : kickRetriesOf (some rec) = match rec.launch with
      | some n => n.kickRetries
      | none => 0 := by
    show (rec.launch.map (·.kickRetries)).getD 0 = _
    cases rec.launch <;> rfl
  rw [State.resumedEntry, State.transitLimit, h, hretries]
  rfl

/-- No release stays frozen. -/
theorem resumedAt_unfrozen {s : State} (hs : s.tableSound) {b : BlockId} {r : Release}
    (h : (s.resumedAt b).release = some r) : r.frozen = false := by
  by_cases hfrozen : ∃ r' x, s.frozenAt b r' x
  · obtain ⟨r', x, hfrozen⟩ := hfrozen
    by_cases hp : s.pathOf x = []
    · rw [resumedAt_of_stall hfrozen hp] at h
      cases h
    · rw [resumedAt_of_path hfrozen hp] at h
      cases h
      rfl
  · rw [resumedAt_of_kept fun r' x hf => hfrozen ⟨r', x, hf⟩] at h
    cases hr : r.frozen with
    | false => rfl
    | true =>
      obtain ⟨hst, -⟩ := frozen_nose hs h hr
      obtain ⟨x, hx⟩ := Option.isSome_iff_exists.mp (Entry.sound_releasing (hs b) hst).1
      exact absurd ⟨r, x, h, hx, hr⟩ hfrozen

end Sys2Proof.Machine
end

section
/-! PROOFS. RESUME from HALTED with the end of its event, and the requests that start the ride. -/

namespace Sys2Proof.Machine

open Sys2Proof

section
variable {s : State} (h : s.mode = .halted)
include h

theorem resumed_mode : (s.prepared .resume).mode = .holding :=
  ((prepared_fields (by decide) s).1).trans (if_pos h)

theorem resumed_table : (s.prepared .resume).finish.table = (s.prepared .resume).table :=
  (finish_kept _ (by rw [resumed_mode h]; nofun)).1

/-- Every block is as its own release calls for. -/
theorem resumed_entry (b : BlockId) : (s.prepared .resume).finish.entry b = (s.changed .resume).resumedAt b := by
  rw [State.entry, resumed_table h]
  exact ((prepared_resume h).entry b).trans (if_pos (List.mem_finRange b))

theorem resumed_dispatch : (s.prepared .resume).finish.dispatch = s.dispatch := by
  rw [finish_dispatch (by rw [resumed_mode h]; nofun), (prepared_resume h).dispatch]
  exact changeMode_dispatch_still (s := s.setMc { s.mc with slot := none }) .request (congrArg isRunMode h)
    (congrArg isRunMode (if_pos h))

theorem resumed_tells (heye : ∀ b y, s.bay b = some y → y.returnPhase = some .berthed → y.entryEye ≠ none) :
    Tells s (s.prepared .resume) (.of .mode none none 1 6 4 0 :: (List.finRange 32).flatMap s.resumeReports) := by
  obtain ⟨hentry, hpath, hbay, -⟩ := changed_views s .resume
  have hchanged := changed_tells s .resume
  have htold := (prepared_resume h).tells fun c y hy => heye c y ((hbay c).symm.trans hy)
  have hreports : (List.finRange 32).flatMap (s.changed .resume).resumeReports = (List.finRange 32).flatMap s.resumeReports :=
    flatMap_congr_on fun c _ => resumeReports_congr (hentry c) hpath (hbay c)
  have htarget : ModeReq.resume.target s.mode s.mc.runMode = .holding := if_pos h
  rw [htarget, h] at hchanged
  have hboth := hchanged.trans htold
  rw [show allBlocks = List.finRange 32 from rfl, hreports] at hboth
  exact hboth

omit h in
theorem changed_frozenAt {b : BlockId} {r : Release} {x : BoatId} (hfrozen : s.frozenAt b r x) :
    (s.changed .resume).frozenAt b r x := by
  rw [State.frozenAt, (changed_views s .resume).1]
  exact hfrozen

/-- A boat with a path left is commanded again. -/
theorem resumed_entry_commanded {b : BlockId} {r : Release} {x : BoatId} {rec : BlockRecord} (hfrozen : s.frozenAt b r x)
    (hrec : s.record b = some rec) (hp : s.pathOf x ≠ []) :
    (s.prepared .resume).finish.entry b = { s.entry b with
      transit := some (s.timeBase + msSpan rec.transitLimit)
      release := some { r with frozen := false, retries := match rec.launch with
        | some n => n.kickRetries
        | none => 0 } } := by
  obtain ⟨hentry, hpath, -, hrecord, -, htime⟩ := changed_views s .resume
  rw [resumed_entry h, resumedAt_of_path (changed_frozenAt hfrozen) ((hpath x).symm ▸ hp)]
  refine (resumedEntry_of_record r ((hrecord b).trans hrec)).trans ?_
  rw [hentry, htime] <;> rfl

theorem resumed_entry_stalled {b : BlockId} {r : Release} {x : BoatId} (hfrozen : s.frozenAt b r x) (hp : s.pathOf x = []) :
    (s.prepared .resume).finish.entry b = { s.entry b with state := .occupied, release := none, transit := none } := by
  obtain ⟨hentry, hpath, -⟩ := changed_views s .resume
  rw [resumed_entry h, resumedAt_of_stall (changed_frozenAt hfrozen) ((hpath x).trans hp), hentry]

/-- The kicker of a boat commanded again pulses. -/
theorem resumed_pulse (hs : s.tableSound) {b : BlockId} {r : Release} {x : BoatId} {rec : BlockRecord} (hfrozen : s.frozenAt b r x)
    (hrec : s.record b = some rec) (hp : s.pathOf x ≠ []) {dr : DriveSection} {ln : LaunchSection}
    (hf : rec.fields = .launch dr ln) (howner : (s.channel dr.channel).owner = some b)
    (halone : ∀ a ra da, a ≠ b → s.record a = some ra → ra.drive = some da → da.channel ≠ dr.channel) :
    ((s.prepared .resume).finish.channel dr.channel).pulse = some (s.timeBase + msSpan ln.kickPulse) := by
  obtain ⟨hentry, hpath, -, hrecord, hchannel, htime⟩ := changed_views s .resume
  have hresumed := prepared_resume h
  have howner' : ((s.prepared .resume).channel dr.channel).owner = some b := by
    rw [hresumed.owner, hchannel, howner]
  have hrec' : (s.prepared .resume).record b = some rec := by
    rw [State.record, (surroundings_layout hresumed.surroundings).1]
    exact (hrecord b).trans hrec
  have hst : ((s.prepared .resume).entry b).state = .releasing := by
    have hend := resumed_entry_commanded h hfrozen hrec hp
    rw [State.entry, resumed_table h] at hend
    obtain ⟨hr, -, hz⟩ := hfrozen
    exact (congrArg Entry.state hend).trans (frozen_nose hs hr hz).1
  rw [finish_pulse_holding (resumed_mode h) howner' hrec' (drive_of_launch hf) hst, ← htime]
  refine hresumed.pulse b (List.mem_finRange b) ⟨r, x, changed_frozenAt hfrozen, (hpath x).symm ▸ hp⟩ rec dr ln
    ((hrecord b).trans hrec) hf fun a ha ra da hra => ?_
  obtain ⟨-, hab⟩ := List.mem_filter.mp ha
  exact halone a ra da (bne_iff_ne.mp hab) ((hrecord a).symm.trans hra)

theorem resumed_fault {b : BlockId} {r : Release} {x : BoatId} (hfrozen : s.frozenAt b r x) (hp : s.pathOf x = [])
    (hnone : s.mc.fault = none) :
    ∃ f, (s.prepared .resume).finish.mc.fault = some f ∧ f.kind = .stalled := by
  obtain ⟨-, hslot, hpermit, -⟩ := prepared_fields (m := .resume) (by decide) s
  rw [(finish_fields hslot hpermit).2.2.2]
  have hresumed := prepared_resume h
  have hfault : (s.changed .resume).mc.fault = none := by
    rw [changed_mc]
    exact hnone
  have hstalls : (s.changed .resume).stallsAt b :=
    ⟨r, x, changed_frozenAt hfrozen, ((changed_views s .resume).2.1 x).trans hp⟩
  exact (hresumed.fault hfault).resolve_left (hresumed.stalls b (List.mem_finRange b) hstalls)

end

theorem carryOut_fields {m : ModeReq} (hm : m ∈ [ModeReq.enterRun, .enterManual, .resume]) (s : State) :
    (s.prepared m).finish.mc.slot = none ∧ (s.prepared m).finish.mc.permit = true ∧
      (s.prepared m).finish.mc.runMode = runModeAfter (m.target s.mode s.mc.runMode) s.mc.runMode := by
  obtain ⟨-, hslot, hpermit, hrunMode⟩ := prepared_fields hm s
  obtain ⟨hslot', hpermit', hrunMode', -⟩ := finish_fields hslot hpermit
  exact ⟨hslot', hpermit', hrunMode'.trans hrunMode⟩

/-- A start but for RESUME from HALTED changes the mode alone. -/
theorem carryOut_started {m : ModeReq} (hm : m ∈ [ModeReq.enterRun, .enterManual, .resume]) {s : State}
    (h : m ≠ .resume ∨ s.mode ≠ .halted) :
    (s.prepared m).finish.mode = m.target s.mode s.mc.runMode ∧ (s.prepared m).finish.mc.fault = s.mc.fault := by
  have hmode := (prepared_fields hm s).1
  have hne : (s.prepared m).mode ≠ .holding := by
    rw [hmode, target_starting hm]
    split
    · nofun
    split
    · nofun
    split
    case isTrue hrun hmanual hhalted =>
      obtain rfl | rfl | rfl := mem_starting hm
      · exact absurd rfl hrun
      · exact absurd rfl hmanual
      · exact absurd hhalted (h.resolve_left fun hne => hne rfl)
    · cases s.mc.runMode <;> nofun
  rw [finish_mode_of_ne hne, finish_mc_of_ne hne, prepared_starting hm h, changed_mc]
  exact ⟨changed_mode s m, rfl⟩

/-- Settles O12: the change of mode, the frozen releases of RESUME from HALTED, and the end of the event. -/
theorem matchedRequestsStartTheRide : Obligations.MatchedRequestsStartTheRide := by
  unfold Obligations.MatchedRequestsStartTheRide
  intro s m c other tag d hm hadmits hstop hblocks hne hslot
  have hstandby : m ≠ .enterStandby := by
    rintro rfl
    exact absurd hm (by decide)
  have hr : s.modeRefusal m none = none := (modeRefusal_starting hm s none).trans (startRefusal_none hstop hblocks)
  have hexec := exec_matched_unquoted tag hstandby hadmits hr hne hslot
  rw [carryOut_eq] at hexec
  have htarget := target_starting hm s.mode s.mc.runMode
  obtain ⟨hslot', hpermit, hrunMode⟩ := carryOut_fields hm s
  have hsurroundings : (s.prepared m).finish.surroundings = s.surroundings := by
    rw [← carryOut_eq, carryOut_surroundings]
  refine ⟨_, hexec, hslot', hpermit, ?_, ?_, ?_, ?_, ?_, ?_⟩
  · rintro new hnew
    rw [← htarget] at hnew
    subst hnew
    refine ⟨s.prepared m, rfl, (prepared_fields hm s).1, fun h => ?_, ?_⟩
    · rw [prepared_starting hm h]
      obtain ⟨-, hbays, -, hroster, htable, -⟩ := changed_keeps s m
      exact ⟨htable, hroster, hbays, (changed_tells s m).reportsAdded⟩
    · rintro rfl hhalted heye
      exact (resumed_tells hhalted heye).reportsAdded
  · rintro rfl
    obtain ⟨hmode, hfault⟩ := carryOut_started (m := .enterRun) hm (s := s) (.inl nofun)
    exact ⟨hmode, hrunMode, hfault, replies_surroundings hsurroundings ..⟩
  · rintro rfl
    obtain ⟨hmode, hfault⟩ := carryOut_started (m := .enterManual) hm (s := s) (.inl nofun)
    obtain ⟨-, -, -, hroster, htable, -⟩ := changed_keeps s .enterManual
    have hrun : (s.prepared .enterManual).mode ≠ .run := by
      rw [(prepared_fields hm s).1]
      nofun
    obtain ⟨htable', hroster', -⟩ := finish_kept _ hrun
    exact ⟨hmode, hrunMode, hfault, htable'.trans htable, hroster'.trans hroster, replies_surroundings hsurroundings ..⟩
  · rintro rfl hheld
    have hhalted : s.mode ≠ .halted := by rw [hheld]; nofun
    obtain ⟨hmode, hfault⟩ := carryOut_started (m := .resume) hm (.inr hhalted)
    have hresume : ModeReq.resume.target s.mode s.mc.runMode = s.mc.runMode.toMode := if_neg hhalted
    rw [hresume] at hmode hrunMode ⊢
    exact ⟨hmode, hrunMode.trans (runModeAfter_toMode _), hfault, replies_surroundings hsurroundings ..⟩
  · intro hstarts hrun hmanual hsound e he left htimer hconsent
    exact prepared_timers hm hstarts hrun hmanual hsound he htimer hconsent
  · rintro rfl hhalted
    have hresume : ModeReq.resume.target s.mode s.mc.runMode = .holding := if_pos hhalted
    rw [hresume] at hrunMode ⊢
    refine ⟨finish_mode_holding (resumed_mode hhalted), hrunMode, resumed_dispatch hhalted,
      replies_surroundings hsurroundings .., fun hs => ⟨fun b r hr => ?_, fun _ b r x rec hr hz hx hrec => ⟨fun hp => ?_,
        fun hp => ⟨?_, ?_⟩⟩⟩⟩
    · have hs' : (s.changed .resume).tableSound := fun b => by
        rw [(changed_views s .resume).1]
        exact hs b
      exact resumedAt_unfrozen hs' ((congrArg Entry.release (resumed_entry hhalted b)).symm.trans hr)
    · exact ⟨resumed_entry_commanded hhalted ⟨hr, hx, hz⟩ hrec hp,
        fun dr ln hf howner halone => resumed_pulse hhalted hs ⟨hr, hx, hz⟩ hrec hp hf howner halone⟩
    · exact resumed_entry_stalled hhalted ⟨hr, hx, hz⟩ hp
    · exact resumed_fault hhalted ⟨hr, hx, hz⟩ hp

end Sys2Proof.Machine
end

section
/-! PROOFS. VERIFY CLEAR, RESTORE BLOCK and SET SERVICE: which case of the owner a block's state selects. -/

namespace Sys2Proof.Machine

open Sys2Proof

/-- A request for a block of the link's windows is answered as its owner answers it. -/
theorem exec_owned {s t : State} {l : Link} {r : Req} (tag : Byte) {args : List Byte} {c : Call} {b : BlockId} {reply : Reply}
    (h : s.admits l r) (hargs : readArgs r args = .ok c) (hblock : s.windowBlock c = some b)
    (hwindow : (s.windows.get l).holds b = true) (howned : s.own l c = (reply, t)) :
    exec (requestCommand r l tag args) s = .next (t.replies l r tag reply.status reply.data) := by
  rw [exec_own_window tag h hargs hblock hwindow, howned]

/-- The same for a request that addresses no block. -/
theorem exec_owned_anywhere {s t : State} {l : Link} {r : Req} (tag : Byte) {args : List Byte} {c : Call} {reply : Reply}
    (h : s.admits l r) (hargs : readArgs r args = .ok c) (hblock : s.windowBlock c = none) (howned : s.own l c = (reply, t)) :
    exec (requestCommand r l tag args) s = .next (t.replies l r tag reply.status reply.data) := by
  rw [exec_own_anywhere tag h hargs hblock, howned]

/-! ### VERIFY CLEAR (R75) -/

theorem readArgs_verifyClear (b : BlockId) : readArgs .verifyClear (b1 b.val) = .ok (.verifyClear b) := by
  rw [readArgs, readOneBlock_b1]
  rfl

section
variable {s : State} {b : BlockId}

theorem verifyClear_of_unverified (h : (s.entry b).state = .unverified) :
    s.verifyClear b = (.ok, (s.setEntry b (.bare .clear)).finish) := by
  rw [State.verifyClear, h]

theorem verifyClear_of_clear (h : (s.entry b).state = .clear) : s.verifyClear b = (.ok, s) := by
  rw [State.verifyClear, h]

theorem verifyClear_of_other (hunverified : (s.entry b).state ≠ .unverified) (hclear : (s.entry b).state ≠ .clear) :
    s.verifyClear b = (.bare .state, s) := by
  unfold State.verifyClear
  split
  case h_1 h => exact absurd h hunverified
  case h_2 h => exact absurd h hclear
  case h_3 => rfl

/-! ### RESTORE BLOCK (R194) -/

theorem readArgs_restoreBlock (b : BlockId) : readArgs .restoreBlock (b1 b.val) = .ok (.restoreBlock b) := by
  rw [readArgs, readOneBlock_b1]
  rfl

theorem restoreBlock_of_empty (hfaulted : (s.entry b).state = .faulted) (hempty : (s.entry b).occupant = none) :
    s.restoreBlock b = (.ok, (s.setEntry b (.bare .clear)).finish) :=
  if_pos ⟨hfaulted, hempty⟩

theorem restoreBlock_refused (h : (s.entry b).state ≠ .faulted ∨ (s.entry b).occupant ≠ none) :
    s.restoreBlock b = (.bare .state, s) :=
  if_neg fun hboth => h.elim (fun hne => hne hboth.1) fun hne => hne hboth.2

/-! ### SET SERVICE (R195) -/

theorem takeOut_of_empty (h : (s.entry b).state = .clear ∨ (s.entry b).state = .unverified) :
    s.takeOut b = (.ok, (s.setEntry b (.bare .outOfService)).finish) := by
  obtain h | h := h <;> rw [State.takeOut, h]

theorem takeOut_of_out (h : (s.entry b).state = .outOfService) : s.takeOut b = (.ok, s) := by
  rw [State.takeOut, h]

theorem takeOut_refused (h : (s.entry b).state ∈ [BlockState.reserved, .occupied, .releasing, .faulted]) :
    s.takeOut b = (.bare .state, s) := by
  have hcases : (s.entry b).state = .reserved ∨ (s.entry b).state = .occupied ∨ (s.entry b).state = .releasing ∨
      (s.entry b).state = .faulted := by simpa using h
  obtain h | h | h | h := hcases <;> rw [State.takeOut, h]

theorem defined_iff : s.layout.defined b = true ↔ s.record b ≠ none := Option.isSome_iff_ne_none

theorem putIn_of_out (hrecord : s.record b ≠ none) (h : (s.entry b).state = .outOfService) :
    s.putIn b = (.ok, (s.setEntry b (.bare .unverified)).finish) := by
  rw [State.putIn, if_neg (by rw [defined_iff.mpr hrecord]; nofun), if_pos h]

theorem putIn_of_undefined (hrecord : s.record b = none) : s.putIn b = (.bare .state, s) :=
  if_pos (Bool.eq_false_iff.mpr fun h => defined_iff.mp h hrecord)

theorem putIn_of_in (hrecord : s.record b ≠ none) (h : (s.entry b).state ≠ .outOfService) : s.putIn b = (.ok, s) := by
  rw [State.putIn, if_neg (by rw [defined_iff.mpr hrecord]; nofun), if_neg h]

end

/-- Settles O20: the state of the block selects the owner's case. -/
theorem blockRequestsMoveOneEntry : Obligations.BlockRequestsMoveOneEntry := by
  unfold Obligations.BlockRequestsMoveOneEntry
  intro s l tag b hwindow
  refine ⟨fun hadmits => ?_, fun hadmits => ?_, fun hadmits => ?_⟩
  · have hexec {reply : Reply} {t : State} (h : s.verifyClear b = (reply, t)) :=
      exec_owned tag hadmits (readArgs_verifyClear b) rfl hwindow h
    exact ⟨fun h => hexec (verifyClear_of_unverified h), fun h => hexec (verifyClear_of_clear h),
      fun hunverified hclear => hexec (verifyClear_of_other hunverified hclear)⟩
  · have hexec {reply : Reply} {t : State} (h : s.restoreBlock b = (reply, t)) :=
      exec_owned tag hadmits (readArgs_restoreBlock b) rfl hwindow h
    exact ⟨fun hfaulted hempty => hexec (restoreBlock_of_empty hfaulted hempty), fun h => hexec (restoreBlock_refused h)⟩
  · have hout {reply : Reply} {t : State} (h : s.takeOut b = (reply, t)) :=
      exec_owned tag hadmits (readArgs_blockFlag b false).1 rfl hwindow h
    have hin {reply : Reply} {t : State} (h : s.putIn b = (reply, t)) :=
      exec_owned tag hadmits (readArgs_blockFlag b true).1 rfl hwindow h
    exact ⟨fun h => hout (takeOut_of_empty h), fun h => hout (takeOut_of_out h), fun h => hout (takeOut_refused h),
      fun hrecord h => hin (putIn_of_out hrecord h), fun hrecord => hin (putIn_of_undefined hrecord),
      fun hrecord h => hin (putIn_of_in hrecord h)⟩

end Sys2Proof.Machine
end

section
/-! PROOFS. The roster's requests: ENROLL, RETIRE, SET ROUTE, SET EXPEDITE and CLEAR CHECK. -/

namespace Sys2Proof.Machine

open Sys2Proof

/-! ### The arguments (R62, R63, R68 to R70) -/

theorem enrollBytes_at (i j k : Nat) : arg1 (b1 i ++ b3 j ++ b2 k) 0 = i % 256 ∧
    arg1 (b1 i ++ b3 j ++ b2 k) 1 = j / 65536 % 256 ∧ arg1 (b1 i ++ b3 j ++ b2 k) 2 = j / 256 % 256 ∧
    arg1 (b1 i ++ b3 j ++ b2 k) 3 = j % 256 ∧ arg1 (b1 i ++ b3 j ++ b2 k) 4 = k / 256 % 256 ∧
    arg1 (b1 i ++ b3 j ++ b2 k) 5 = k % 256 := by
  simp [arg1, b1, b2, b3]

theorem readArgs_enroll (x : BoatId) {code tare : Nat} (hleast : 1 ≤ code) (hmost : code ≤ 16777215) (hlight : 100 ≤ tare)
    (hheavy : tare ≤ 800) : readArgs .enroll (b1 x.val ++ b3 code ++ b2 tare) = .ok (.enroll x code tare) := by
  obtain ⟨h0, h1, h2, h3, h4, h5⟩ := enrollBytes_at x.val code tare
  have hlength : (b1 x.val ++ b3 code ++ b2 tare).length = 6 := rfl
  have hcode : arg3 (b1 x.val ++ b3 code ++ b2 tare) 1 = code := by
    rw [arg3, h1, h2, h3]
    omega
  rw [readArgs, argLength, if_pos hlength, argFin_eq (h0.trans (fin_mod (by decide) x)), hcode,
    arg2_of_bytes (by omega) h4 h5]
  dsimp only [except_bind_ok]
  rw [argIn_eq hleast hmost, argIn_eq hlight hheavy]
  rfl

theorem readArgs_retire (x : BoatId) : readArgs .retire (b1 x.val) = .ok (.retire x) := by
  rw [readArgs, readOneSlot_b1]
  rfl

theorem readArgs_clearCheck (x : BoatId) : readArgs .clearCheck (b1 x.val) = .ok (.clearCheck x) := by
  rw [readArgs, readOneSlot_b1]
  rfl

/-- The bytes of a slot and a flag. -/
theorem slotFlag_at (x : BoatId) (v : Bool) : argFin 24 (b1 x.val ++ flagByte v) 0 = .ok x ∧
    argBool (b1 x.val ++ flagByte v) 1 = .ok v := by
  obtain ⟨h0, h1⟩ := twoBytes_at x.val v.toNat
  exact ⟨argFin_eq (h0.trans (fin_mod (by decide) x)), argBool_eq (h1.trans (boolNat_mod v))⟩

theorem readArgs_setExpedite (x : BoatId) (v : Bool) :
    readArgs .setExpedite (b1 x.val ++ flagByte v) = .ok (.setExpedite x v) := by
  obtain ⟨hx, hv⟩ := slotFlag_at x v
  rw [readArgs, hx, hv]
  rfl

theorem readArgs_setRoute (x : BoatId) (r : Route) : readArgs .setRoute (b1 x.val ++ b1 r.code) = .ok (.setRoute x r) := by
  have hroute : ∃ v : Bool, b1 r.code = flagByte v ∧ (if v then Route.storage else .station) = r := by
    cases r
    · exact ⟨false, rfl, rfl⟩
    · exact ⟨true, rfl, rfl⟩
  obtain ⟨v, hbyte, hr⟩ := hroute
  obtain ⟨hx, hv⟩ := slotFlag_at x v
  rw [hbyte, readArgs, hx, hv, ← hr]
  rfl

/-! ### ENROLL and RETIRE (R62, R63) -/

section
variable {s : State} {x : BoatId}

theorem slotOfCode_of_new {code : Nat} (h : ∀ y t, s.boat y = some t → t.tagCode ≠ code) : s.slotOfCode code = none := by
  refine List.find?_eq_none.mpr fun y _ hy => ?_
  obtain ⟨t, ht, hcode⟩ := Option.map_eq_some_iff.mp (eq_of_beq hy)
  exact h y t ht hcode

theorem slotOfCode_some {code : Nat} {y : BoatId} {t : Boat} (hy : s.boat y = some t) (hcode : t.tagCode = code)
    (hunique : ∀ z u, s.boat z = some u → u.tagCode = code → z = y) : s.slotOfCode code = some y := by
  cases hfound : s.slotOfCode code with
  | none =>
    refine absurd ?_ (List.find?_eq_none.mp hfound y (List.mem_finRange y))
    rw [hy, ← hcode]
    exact beq_self_eq_true _
  | some z =>
    have hz := List.find?_some hfound
    obtain ⟨u, hu, hsame⟩ := Option.map_eq_some_iff.mp (eq_of_beq hz)
    rw [hunique z u hu hsame]

theorem enroll_of_unused {code tare : Nat} (h : s.slot x = .unused) (hnew : ∀ y t, s.boat y = some t → t.tagCode ≠ code) :
    s.enroll x code tare = (.ok, s.setSlot x (.absent (.enrolled code tare))) := by
  rw [State.enroll, if_neg (not_not_intro h), slotOfCode_of_new hnew]

theorem enroll_of_used {code tare : Nat} (h : s.slot x ≠ .unused) : s.enroll x code tare = (.bare .state, s) := if_pos h

theorem enroll_of_duplicate {code tare : Nat} {y : BoatId} (h : s.slot x = .unused) (hy : s.slotOfCode code = some y) :
    s.enroll x code tare = ({ status := .duplicate, data := b1 y.val }, s) := by
  rw [State.enroll, if_neg (not_not_intro h), hy]

theorem absentBoat_of_ne (h : ∀ bt, s.slot x ≠ .absent bt) : (s.slot x).absentBoat = none := by
  cases hslot : s.slot x with
  | unused => rfl
  | absent bt => exact absurd hslot (h bt)
  | onTrack bt b p => rfl

theorem retire_of_absent {bt : Boat} (h : s.slot x = .absent bt) : s.retire x = (.ok, s.setSlot x .unused) := by
  rw [State.retire, h]
  rfl

theorem retire_refused (h : ∀ bt, s.slot x ≠ .absent bt) : s.retire x = (.bare .state, s) := by
  rw [State.retire, absentBoat_of_ne h]

/-! ### The fields of a boat (R68, R69, R70) -/

theorem setExpedite_of_boat (v : Bool) {bt : Boat} (h : s.boat x = some bt) :
    s.setExpedite x v = (.ok, s.modBoat x fun t => { t with expedite := v }) := by
  rw [State.setExpedite, h]

theorem setExpedite_of_none (v : Bool) (h : s.boat x = none) : s.setExpedite x v = (.bare .state, s) := by
  rw [State.setExpedite, h]

theorem clearCheck_of_boat {bt : Boat} (h : s.boat x = some bt) :
    s.clearCheck x = (.ok, s.modBoat x fun t => { t with check := false }) := by
  rw [State.clearCheck, h]

theorem clearCheck_of_none (h : s.boat x = none) : s.clearCheck x = (.bare .state, s) := by
  rw [State.clearCheck, h]

theorem setRoute_of_none (r : Route) (h : s.boat x = none) : s.setRoute x r = (.bare .state, s) := by
  rw [State.setRoute, h]

theorem setRoute_of_same {bt : Boat} (h : s.boat x = some bt) : s.setRoute x bt.route = (.ok, s) := by
  rw [State.setRoute, h]
  exact congrArg (Prod.mk Reply.ok) (if_pos rfl)

theorem setRoute_of_other {bt : Boat} {r : Route} (h : s.boat x = some bt) (hr : bt.route ≠ r) :
    s.setRoute x r = (.ok, (s.reroute x r).finish) := by
  rw [State.setRoute, h]
  exact congrArg (Prod.mk Reply.ok) (if_neg hr)

/-! ### A new route -/

theorem mapBoat_fields (f : Boat → Boat) (z : Slot) : (z.mapBoat f).boat = z.boat.map f ∧
    (z.mapBoat f).position = z.position ∧ (z.mapBoat f).path = z.path := by
  cases z <;> exact ⟨rfl, rfl, rfl⟩

theorem setSlot_slot (s : State) (x y : BoatId) (t : Slot) : (s.setSlot x t).slot y = if y = x then t else s.slot y := by
  split
  case isTrue h => rw [h, setSlot_slot_self]
  case isFalse h => rw [setSlot_slot_ne s t h]

theorem reroute_slot (s : State) (x : BoatId) (r : Route) (y : BoatId) : (s.reroute x r).slot y =
    if y = x then (s.slot x).mapBoat fun t => { t with route := r } else s.slot y :=
  setSlot_slot ..

theorem reroute_boat (s : State) (x : BoatId) (r : Route) (y : BoatId) : (s.reroute x r).boat y =
    if y = x then (s.boat x).map fun t => { t with route := r } else s.boat y := by
  rw [State.boat, reroute_slot]
  split
  · exact (mapBoat_fields ..).1
  · rfl

theorem reroute_track (s : State) (x : BoatId) (r : Route) (y : BoatId) :
    ((s.reroute x r).slot y).position = (s.slot y).position ∧ ((s.reroute x r).slot y).path = (s.slot y).path := by
  rw [reroute_slot]
  split
  case isTrue h =>
    rw [h]
    exact (mapBoat_fields ..).2
  case isFalse => exact ⟨rfl, rfl⟩

/-- The end of an event keeps every boat and where it stands. -/
theorem finish_boat (u : State) (y : BoatId) :
    u.finish.boat y = u.boat y ∧ (u.finish.slot y).position = (u.slot y).position := by
  by_cases hrun : u.mode = .run
  · exact (finish_onlyGranted hrun).boat y
  · have hslot : u.finish.slot y = u.slot y := congrArg (vget · y) (finish_kept u hrun).2.1
    rw [State.boat, hslot]
    exact ⟨rfl, rfl⟩

end

/-- What SET ROUTE does for an enrolled boat. -/
theorem exec_setRoute {s : State} {l : Link} (tag : Byte) {x : BoatId} (hadmits : s.admits l .setRoute) {bt : Boat} (r : Route)
    (hx : s.boat x = some bt) :
    ∃ t : State, exec (.setRoute l tag (b1 x.val ++ b1 r.code)) s = .next t ∧
      t.surroundings = (s.replies l .setRoute tag .ok []).surroundings ∧
      t.boat x = some { bt with route := r } ∧ (∀ y, y ≠ x → t.boat y = s.boat y) ∧
      (∀ y, (t.slot y).position = (s.slot y).position) ∧
      (s.mode ≠ .run → t.table = s.table ∧ t.dispatch = s.dispatch ∧ t.bays = s.bays ∧
        ∀ y, (t.slot y).path = (s.slot y).path) := by
  by_cases hr : bt.route = r
  · subst hr
    exact ⟨_, exec_owned_anywhere tag hadmits (readArgs_setRoute x bt.route) rfl (setRoute_of_same hx), rfl, hx,
      fun _ _ => rfl, fun _ => rfl, fun _ => ⟨rfl, rfl, rfl, fun _ => rfl⟩⟩
  · refine ⟨_, exec_owned_anywhere tag hadmits (readArgs_setRoute x r) rfl (setRoute_of_other hx hr),
      replies_surroundings (finish_surroundings _) .., ?_, fun y hy => ?_, fun y => ?_, fun hrun => ?_⟩
    · refine (finish_boat _ x).1.trans ?_
      rw [reroute_boat, if_pos rfl, hx]
      rfl
    · refine (finish_boat _ y).1.trans ?_
      rw [reroute_boat, if_neg hy]
    · exact (finish_boat _ y).2.trans (reroute_track s x r y).1
    · have hrun' : (s.reroute x r).mode ≠ .run := hrun
      obtain ⟨htable, hroster, hbays, -⟩ := finish_kept _ hrun'
      refine ⟨htable, finish_dispatch hrun', hbays, fun y => ?_⟩
      refine Eq.trans ?_ (reroute_track s x r y).2
      exact congrArg (fun v => (vget v y).path) hroster

/-- Settles O23: each request of the roster changes the one slot it names. -/
theorem rosterRequestsChangeOneSlot : Obligations.RosterRequestsChangeOneSlot := by
  unfold Obligations.RosterRequestsChangeOneSlot
  intro s l tag x
  refine ⟨fun code tare hadmits hleast hmost hlight hheavy => ?_, fun hadmits => ?_, fun hadmits => ?_, fun hadmits v => ?_,
    fun hadmits => ?_⟩
  · have hexec {reply : Reply} {t : State} (h : s.enroll x code tare = (reply, t)) :=
      exec_owned_anywhere tag hadmits (readArgs_enroll x hleast hmost hlight hheavy) rfl h
    exact ⟨fun hunused hnew => hexec (enroll_of_unused hunused hnew), fun hused => hexec (enroll_of_used hused),
      fun y t hunused hy hcode hunique => hexec (enroll_of_duplicate hunused (slotOfCode_some hy hcode hunique))⟩
  · have hexec {reply : Reply} {t : State} (h : s.retire x = (reply, t)) :=
      exec_owned_anywhere tag hadmits (readArgs_retire x) rfl h
    exact ⟨fun bt h => hexec (retire_of_absent h), fun h => hexec (retire_refused h)⟩
  · exact ⟨fun bt r hx => exec_setRoute tag hadmits r hx,
      fun r hx => exec_owned_anywhere tag hadmits (readArgs_setRoute x r) rfl (setRoute_of_none r hx)⟩
  · have hexec {reply : Reply} {t : State} (h : s.setExpedite x v = (reply, t)) :=
      exec_owned_anywhere tag hadmits (readArgs_setExpedite x v) rfl h
    exact ⟨fun bt hx => hexec (setExpedite_of_boat v hx), fun hx => hexec (setExpedite_of_none v hx)⟩
  · have hexec {reply : Reply} {t : State} (h : s.clearCheck x = (reply, t)) :=
      exec_owned_anywhere tag hadmits (readArgs_clearCheck x) rfl h
    exact ⟨fun bt hx => hexec (clearCheck_of_boat hx), fun hx => hexec (clearCheck_of_none hx)⟩

end Sys2Proof.Machine
end

section
/-! PROOFS. UNLOADED and LOADED start a weigh, and sample pairs go into the open window. -/

namespace Sys2Proof.Machine

open Sys2Proof

theorem find?_of_unique {α : Type} {l : List α} {p : α → Bool} {a : α} (ha : a ∈ l) (hp : p a = true)
    (h : ∀ c ∈ l, p c = true → c = a) : l.find? p = some a := by
  cases hfound : l.find? p with
  | none => exact absurd hp (List.find?_eq_none.mp hfound a ha)
  | some c => rw [h c (List.mem_of_find?_eq_some hfound) (List.find?_some hfound)]

/-! ### UNLOADED and LOADED (R84, R85) -/

section
variable {s : State} {b : BlockId}

theorem declare_refused {p : Phase} {kind : WeighKind} (h : s.bay b = none ∨ (s.entry b).state = .faulted ∨
    ∃ y, s.bay b = some y ∧ y.phase ≠ p ∧ y.phase ≠ .tareWeigh ∧ y.phase ≠ .loadWeigh) :
    s.declare b p kind = (.bare .state, s) := by
  unfold State.declare
  split
  case h_1 => rfl
  case h_2 y hy =>
    split
    case isTrue => rfl
    case isFalse hstate =>
      obtain hnone | hfaulted | ⟨z, hz, hp, htare, hload⟩ := h
      · cases hnone.symm.trans hy
      · exact absurd hfaulted hstate
      · cases hz.symm.trans hy
        rw [if_neg (not_or.mpr ⟨htare, hload⟩), if_neg hp]

theorem declare_busy {p : Phase} {kind : WeighKind} {y : Bay} (hy : s.bay b = some y) (hstate : (s.entry b).state ≠ .faulted)
    (h : y.phase = .tareWeigh ∨ y.phase = .loadWeigh) : s.declare b p kind = (.bare .busy, s) := by
  rw [State.declare, hy]
  dsimp only
  rw [if_neg hstate, if_pos h]

theorem declare_starts {kind : WeighKind} {y : Bay} {x : BoatId} (hy : s.bay b = some y) (hx : (s.entry b).occupant = some x)
    (hstate : (s.entry b).state ≠ .faulted) (h : y.phase = kind.fromPhase) :
    s.declare b kind.fromPhase kind =
      (.ok, s.moveBay b { y with weigh := some (s.firstAttempt kind x) } kind.phase) := by
  have hweighs : ¬(y.phase = .tareWeigh ∨ y.phase = .loadWeigh) := by
    rw [h]
    cases kind <;> exact not_or.mpr ⟨nofun, nofun⟩
  rw [State.declare, hy]
  dsimp only
  rw [if_neg hstate, if_neg hweighs, if_pos h, startWeigh_eq hy hx]

theorem readArgs_unloaded (b : BlockId) : readArgs .unloaded (b1 b.val) = .ok (.unloaded b) := by
  rw [readArgs, readOneBlock_b1]
  rfl

theorem readArgs_loaded (b : BlockId) : readArgs .loaded (b1 b.val) = .ok (.loaded b) := by
  rw [readArgs, readOneBlock_b1]
  rfl

/-- UNLOADED and LOADED are one request for the two kinds of weigh. -/
theorem exec_declare {l : Link} (tag : Byte) {r : Req} {kind : WeighKind} {reply : Reply} {t : State}
    (hr : (r = .unloaded ∧ kind = .tare) ∨ (r = .loaded ∧ kind = .load)) (hadmits : s.admits l r)
    (hwindow : (s.windows.get l).holds b = true) (h : s.declare b kind.fromPhase kind = (reply, t)) :
    exec (requestCommand r l tag (b1 b.val)) s = .next (t.replies l r tag reply.status reply.data) := by
  obtain ⟨rfl, rfl⟩ | ⟨rfl, rfl⟩ := hr
  · exact exec_owned tag hadmits (readArgs_unloaded b) rfl hwindow h
  · exact exec_owned tag hadmits (readArgs_loaded b) rfl hwindow h

end

/-! ### Samples (R94, R96) -/

theorem bayOfCells_some {s : State} {b : BlockId} {rec : BlockRecord} {z : BaySection} (hrec : s.record b = some rec)
    (hz : rec.bay = some z) (hunique : ∀ c rc zc, s.record c = some rc → rc.bay = some zc → zc.frontCell = z.frontCell →
      zc.rearCell = z.rearCell → c = b) : s.layout.bayOfCells z.frontCell z.rearCell = some b := by
  refine find?_of_unique (List.mem_finRange b) ?_ fun c _ hc => ?_
  · have hbay : (s.layout.record b).bind (·.bay) = some z := Option.bind_eq_some_iff.mpr ⟨rec, hrec, hz⟩
    rw [hbay]
    dsimp only
    rw [beq_self_eq_true, beq_self_eq_true, Bool.and_self]
  · split at hc
    case h_1 zc hzc =>
      obtain ⟨rc, hrc, hbay⟩ := Option.bind_eq_some_iff.mp hzc
      obtain ⟨hfront, hrear⟩ := Bool.and_eq_true_iff.mp hc
      exact hunique c rc zc hrc hbay (eq_of_beq hfront) (eq_of_beq hrear)
    case h_2 => cases hc

theorem bayOfCells_none {s : State} {front rear : CellId}
    (h : ∀ c rc zc, s.record c = some rc → rc.bay = some zc → ¬(zc.frontCell = front ∧ zc.rearCell = rear)) :
    s.layout.bayOfCells front rear = none := by
  refine List.find?_eq_none.mpr fun c _ hc => ?_
  split at hc
  case h_1 zc hzc =>
    obtain ⟨rc, hrc, hbay⟩ := Option.bind_eq_some_iff.mp hzc
    obtain ⟨hfront, hrear⟩ := Bool.and_eq_true_iff.mp hc
    exact h c rc zc hrc hbay ⟨eq_of_beq hfront, eq_of_beq hrear⟩
  case h_2 => cases hc

theorem weighSample_configure {s : State} (h : s.mode = .configure) (front rear : CellId) (f r : Nat) :
    s.weighSample front rear f r = s := if_pos h

theorem weighSample_nowhere {s : State} {front rear : CellId} (h : s.layout.bayOfCells front rear = none) (f r : Nat) :
    s.weighSample front rear f r = s := by
  unfold State.weighSample
  split
  · rfl
  · rw [h]

theorem weighSample_bay {s : State} {front rear : CellId} {b : BlockId} {y : Bay} (hmode : s.mode ≠ .configure)
    (hb : s.layout.bayOfCells front rear = some b) (hy : s.bay b = some y) (f r : Nat) :
    s.weighSample front rear f r = s.setBay b { y with weigh := y.weigh.map fun w => w.takeSample f r } := by
  rw [State.weighSample, if_neg hmode, hb]
  exact modBay_of_some hy _

theorem takeSample_eq (w : Weigh) {f r : Nat} (hf : f ≤ 2000) (hr : r ≤ 2000) : w.takeSample f r = { w with
    count := w.count + 1
    sumTotals := w.sumTotals + (f + r)
    sumFronts := w.sumFronts + f
    least := some (match w.least with
      | some n => min n (f + r)
      | none => f + r)
    greatest := some (match w.greatest with
      | some n => max n (f + r)
      | none => f + r) } := by
  have hleast : (match w.least with
      | none => f + r
      | some n => min n (f + r)) = match w.least with
      | some n => min n (f + r)
      | none => f + r := by cases w.least <;> rfl
  have hgreatest : (match w.greatest with
      | none => f + r
      | some n => max n (f + r)) = match w.greatest with
      | some n => max n (f + r)
      | none => f + r := by cases w.greatest <;> rfl
  rw [Weigh.takeSample, Nat.min_eq_left hf, Nat.min_eq_left hr, ← hleast, ← hgreatest] <;> rfl

/-- Settles O24: the two requests are one declaration, and a sample goes to the one bay with its cells. -/
theorem weighsStartAndTakeSamples : Obligations.WeighsStartAndTakeSamples := by
  unfold Obligations.WeighsStartAndTakeSamples
  refine ⟨fun s l tag b r kind hr hadmits hwindow => ⟨fun y x hy hx hstate hphase => ?_, fun y hy hstate hweighs => ?_,
    fun h => ?_⟩, fun s front rear f r hf hr => ⟨fun b rec z y hmode hrec hz hfront hrear hunique hy => ?_, fun hmode => ?_,
    fun h => ?_⟩⟩
  · refine ⟨_, exec_declare tag hr hadmits hwindow (declare_starts hy hx hstate hphase),
      replies_surroundings (moveBay_view s b _ _ State.surroundings (fun _ _ => rfl) fun _ _ => rfl) .., moveBay_bay ..,
      fun c hc => moveBay_bay_ne _ _ _ _ hc, moveBay_view s b _ _ State.table (fun _ _ => rfl) fun _ _ => rfl,
      moveBay_view s b _ _ State.roster (fun _ _ => rfl) fun _ _ => rfl,
      moveBay_view s b _ _ State.mc (fun _ _ => rfl) fun _ _ => rfl,
      moveBay_view s b _ _ State.dispatch (fun _ _ => rfl) fun _ _ => rfl,
      moveBay_view s b _ _ State.brakes (fun _ _ => rfl) fun _ _ => rfl,
      moveBay_view s b _ _ State.channels (fun _ _ => rfl) fun _ _ => rfl,
      moveBay_view s b _ _ State.switches (fun _ _ => rfl) fun _ _ => rfl, ?_⟩
    have hreports : bayReport b (s.entry b).occupant y.phase kind.phase = bayReport b (some x) kind.fromPhase kind.phase := by
      rw [hx, hphase]
    have htells := moveBay_tells s b { y with weigh := some (s.firstAttempt kind x) } kind.phase
    exact hreports ▸ (htells.trans_nothing (replies_tells ..)).reportsAdded
  · exact exec_declare tag hr hadmits hwindow (declare_busy hy hstate hweighs)
  · exact exec_declare tag hr hadmits hwindow (declare_refused h)
  · subst hfront hrear
    have hsample := weighSample_bay hmode (bayOfCells_some hrec hz hunique) hy f r
    refine ⟨fun w hw => congrArg _ (hsample.trans ?_), fun hnone => congrArg _ (hsample.trans ?_)⟩
    · rw [hw, Option.map_some, takeSample_eq w hf hr]
      rfl
    · rw [hnone]
      refine setBay_same (hy.trans (congrArg some ?_))
      rw [Option.map_none, ← hnone]
  · exact congrArg _ (weighSample_configure hmode ..)
  · exact congrArg _ (weighSample_nowhere (bayOfCells_none h) ..)

end Sys2Proof.Machine
end

section
/-! PROOFS. The requests of the Dispatch Queue: DISPATCH, CONSENT DISPATCH, DENY DISPATCH, CANCEL, and the consent deadline. -/

namespace Sys2Proof.Machine

open Sys2Proof

/-! ### Entries found by their numbers (R104, R105) -/

theorem entryOfSeq_of_mem {s : State} {e : DispatchEntry} (hs : s.dispatchSound) (he : e ∈ s.dispatch) :
    s.entryOfSeq e.seq = some e := by
  obtain ⟨-, hseq, -⟩ := hs
  exact find?_of_unique he (beq_self_eq_true _) fun d hd hsame => eq_of_nodup_map hseq hd he (eq_of_beq hsame)

theorem entryOfSeq_none {s : State} {seq : Byte} (h : ∀ e ∈ s.dispatch, e.seq ≠ seq) : s.entryOfSeq seq = none :=
  List.find?_eq_none.mpr fun e he hsame => h e he (eq_of_beq hsame)

theorem entryOfBay_of_mem {s : State} {e : DispatchEntry} (he : e ∈ s.dispatch) (h : ∀ d ∈ s.dispatch, d.bay = e.bay → d = e) :
    s.entryOfBay e.bay = some e :=
  find?_of_unique he (beq_self_eq_true _) fun d hd hsame => h d hd (eq_of_beq hsame)

theorem entryOfBay_none {s : State} {b : BlockId} (h : ∀ e ∈ s.dispatch, e.bay ≠ b) : s.entryOfBay b = none :=
  List.find?_eq_none.mpr fun e he hsame => h e he (eq_of_beq hsame)

theorem dispatchReport_eq (s : State) (e : DispatchEntry) (ev : DispatchEvent) {i j : Nat} (hi : i ≤ 65535) (hj : j ≤ 65535) :
    s.dispatchReport e ev i j =
      s.append .dispatch none (some e.bay) (some e.boat) { d1 := ev.code, d2 := e.seq.toNat, d3 := i, d4 := j } := by
  have hev := ev.code_le
  have hseq := e.seq.isLt
  rw [State.dispatchReport, detail_small _ _ _ _ (by omega) (by omega) (by omega) (by omega)]

/-! ### The next sequence number (R105) -/

/-- The search tries the numbers counting up from `c`, and passes over held ones alone. -/
theorem freeSeq_counts (es : List DispatchEntry) (fuel : Nat) (c : Byte) : ∃ n ≤ fuel,
    freeSeq es fuel c = c + BitVec.ofNat 8 n ∧ ∀ k < n, c + BitVec.ofNat 8 k ∈ es.map (·.seq) := by
  induction fuel generalizing c with
  | zero => exact ⟨0, Nat.le_refl 0, (BitVec.add_zero c).symm, fun k hk => absurd hk (Nat.not_lt_zero k)⟩
  | succ fuel ih =>
    rw [freeSeq]
    split
    case isFalse => exact ⟨0, Nat.zero_le _, (BitVec.add_zero c).symm, fun k hk => absurd hk (Nat.not_lt_zero k)⟩
    case isTrue hany =>
      obtain ⟨n, hn, hfree, htried⟩ := ih (c + 1)
      have hshift (k : Nat) : c + 1 + BitVec.ofNat 8 k = c + BitVec.ofNat 8 (k + 1) := by bv_omega
      refine ⟨n + 1, Nat.succ_le_succ hn, hfree.trans (hshift n), fun k hk => ?_⟩
      cases k with
      | zero => simpa using any_seq_iff.mp hany
      | succ k =>
        rw [← hshift]
        exact htried k (Nat.lt_of_succ_lt_succ hk)

/-- Different numbers tried are held by different entries. -/
theorem tried_le_length {es : List DispatchEntry} {n : Nat} {c : Byte} (hn : n ≤ 256)
    (htried : ∀ k < n, c + BitVec.ofNat 8 k ∈ es.map (·.seq)) : n ≤ es.length := by
  have hnodup : ((List.range n).map fun i => c + BitVec.ofNat 8 i).Nodup := by
    refine nodup_map_of_inj List.nodup_range fun i hi j hj heq => ?_
    rw [List.mem_range] at hi hj
    bv_omega
  have hsub : ((List.range n).map fun i => c + BitVec.ofNat 8 i) ⊆ es.map (·.seq) := by
    intro d hd
    obtain ⟨i, hi, rfl⟩ := List.mem_map.mp hd
    exact htried i (List.mem_range.mp hi)
  have hlength := hnodup.length_le_of_subset hsub
  rwa [List.length_map, List.length_range, List.length_map] at hlength

/-! ### DISPATCH (R106, R107) -/

section
variable {s : State} {b : BlockId} {after : Bool}

theorem dispatchRequest_of_no_bay (h : s.bay b = none) : s.dispatchRequest b after = (.bare .state, s) := by
  rw [State.dispatchRequest, h]

theorem dispatchRequest_of_entry {y : Bay} {e : DispatchEntry} (hy : s.bay b = some y) (he : s.entryOfBay b = some e) :
    s.dispatchRequest b after = ({ status := .duplicate, data := [e.seq] }, s) := by
  rw [State.dispatchRequest, hy, he]

theorem dispatchRequest_refused {y : Bay} (hy : s.bay b = some y) (hnone : s.entryOfBay b = none)
    (h : (s.entry b).state = .faulted ∨ y.phase ≠ .ready) : s.dispatchRequest b after = (.bare .state, s) := by
  rw [State.dispatchRequest, hy, hnone]
  cases (s.entry b).occupant with
  | none => rfl
  | some x =>
    dsimp only
    split
    · rfl
    case isFalse hstate => exact if_pos (h.resolve_left hstate)

theorem dispatchRequest_of_ready {y : Bay} {x : BoatId} (hy : s.bay b = some y) (hnone : s.entryOfBay b = none)
    (hx : (s.entry b).occupant = some x) (hstate : (s.entry b).state ≠ .faulted) (hphase : y.phase = .ready) :
    s.dispatchRequest b after =
      if 8 ≤ s.dispatch.length then (.bare .queueFull, s) else (.okWith [s.nextDispatch], s.queueDispatch b x after) := by
  rw [State.dispatchRequest, hy, hnone, hx]
  dsimp only
  rw [if_neg hstate, if_neg (not_not_intro hphase)]
  rfl

/-- The list and the counter of an accepted DISPATCH. -/
def State.listed (s : State) (b : BlockId) (x : BoatId) (after : Bool) : State :=
  { s with
    dispatch := s.dispatch ++ [s.newEntry b x after]
    nextDispatch := freeSeq (s.dispatch ++ [s.newEntry b x after]) 256 (s.nextDispatch + 1) }

theorem queueDispatch_eq (x : BoatId) :
    s.queueDispatch b x after = ((s.listed b x after).dispatchReport (s.newEntry b x after) .queued after.toNat
      (s.dispatch ++ [s.newEntry b x after]).length).setPhase b .dispatchQueued := rfl

theorem queueDispatch_view {γ : Type} (v : State → γ) (hdispatch : ∀ t x, v { t with dispatch := x } = v t)
    (hnext : ∀ t x, v { t with nextDispatch := x } = v t) (hbays : ∀ t x, v { t with bays := x } = v t)
    (hreports : ∀ t x, v { t with reports := x } = v t) (x : BoatId) : v (s.queueDispatch b x after) = v s := by
  have hlisted : v (s.listed b x after) = v s :=
    (hnext { s with dispatch := s.dispatch ++ [s.newEntry b x after] } _).trans (hdispatch s _)
  rw [queueDispatch_eq, setPhase_view v hbays hreports, dispatchReport_view v hreports, hlisted]

theorem queueDispatch_bay {y : Bay} (x : BoatId) (hy : s.bay b = some y) :
    (s.queueDispatch b x after).bay b = some { y with phase := .dispatchQueued } := by
  have hbay : ((s.listed b x after).dispatchReport (s.newEntry b x after) .queued after.toNat
      (s.dispatch ++ [s.newEntry b x after]).length).bay b = some y := by
    rw [State.bay, dispatchReport_bays]
    exact hy
  rw [queueDispatch_eq, setPhase_eq_moveBay hbay, moveBay_bay]

theorem queueDispatch_bay_ne (x : BoatId) {c : BlockId} (hc : c ≠ b) : (s.queueDispatch b x after).bay c = s.bay c := by
  rw [queueDispatch_eq, setPhase_bay_ne _ _ hc, State.bay, dispatchReport_bays]
  rfl

theorem queueDispatch_tells {y : Bay} {x : BoatId} (hy : s.bay b = some y) (hx : (s.entry b).occupant = some x)
    (hphase : y.phase = .ready) (hlength : s.dispatch.length < 8) :
    Tells s (s.queueDispatch b x after) [.of .dispatch (some b) (some x) 0 s.nextDispatch.toNat after.toNat
      (s.dispatch.length + 1), .of .bay (some b) (some x) 6 7 0 0] := by
  have hcount : (s.dispatch ++ [s.newEntry b x after]).length = s.dispatch.length + 1 := by
    rw [List.length_append, List.length_singleton]
  have hflag : after.toNat ≤ 65535 := by cases after <;> decide
  have hqueued := dispatchReport_tells (s.listed b x after) (s.newEntry b x after) .queued hflag
    (j := (s.dispatch ++ [s.newEntry b x after]).length) (by omega)
  have hbay : ((s.listed b x after).dispatchReport (s.newEntry b x after) .queued after.toNat
      (s.dispatch ++ [s.newEntry b x after]).length).bay b = some y := by
    rw [State.bay, dispatchReport_bays]
    exact hy
  have hoccupant : (((s.listed b x after).dispatchReport (s.newEntry b x after) .queued after.toNat
      (s.dispatch ++ [s.newEntry b x after]).length).entry b).occupant = some x := by
    rw [State.entry, dispatchReport_table]
    exact hx
  have hmoved := setPhase_tells ((s.listed b x after).dispatchReport (s.newEntry b x after) .queued after.toNat
    (s.dispatch ++ [s.newEntry b x after]).length) b .dispatchQueued
  rw [State.phaseReports, hbay] at hmoved
  dsimp only at hmoved
  rw [hoccupant, hphase] at hmoved
  have hboth := (hqueued.after_quiet (s := s) rfl (fun _ => rfl) rfl).trans hmoved
  rw [hcount] at hboth
  rw [queueDispatch_eq, hcount]
  exact hboth

theorem newEntry_eq (x : BoatId) : s.newEntry b x after =
    { seq := s.nextDispatch, bay := b, boat := x, afterPrevious := after, consentA := false, consentB := false,
      timerStart := s.timeBase,
      timer := if s.mode = .run ∨ s.mode = .manual then
          .running (s.timeBase + msSpan s.layout.settings.consentWindow)
        else .suspended (s.layout.settings.consentWindow * 1000) } := by
  have htimer : s.freshTimer = if s.mode = .run ∨ s.mode = .manual then
      .running (s.timeBase + msSpan s.layout.settings.consentWindow)
      else .suspended (s.layout.settings.consentWindow * 1000) := by
    simp only [State.freshTimer, isRunMode_iff]
    rfl
  rw [State.newEntry, htimer]

/-- The counter after an accepted DISPATCH is the first free number counting up. -/
theorem queueDispatch_counter (x : BoatId) (hlength : s.dispatch.length < 8) :
    ∃ n : Nat, n ≤ 8 ∧ (s.queueDispatch b x after).nextDispatch = s.nextDispatch + BitVec.ofNat 8 (n + 1) ∧
      (∀ e ∈ (s.queueDispatch b x after).dispatch, e.seq ≠ (s.queueDispatch b x after).nextDispatch) ∧
      ∀ k < n, ∃ e ∈ (s.queueDispatch b x after).dispatch, e.seq = s.nextDispatch + BitVec.ofNat 8 (k + 1) := by
  rw [queueDispatch_dispatch, queueDispatch_nextDispatch]
  have hcount : (s.dispatch ++ [s.newEntry b x after]).length ≤ 8 := by
    rw [List.length_append, List.length_singleton]
    omega
  generalize s.dispatch ++ [s.newEntry b x after] = es at hcount
  have hshift (k : Nat) : s.nextDispatch + 1 + BitVec.ofNat 8 k = s.nextDispatch + BitVec.ofNat 8 (k + 1) := by bv_omega
  obtain ⟨n, hn, hfree, htried⟩ := freeSeq_counts es 256 (s.nextDispatch + 1)
  have hheld := freeSeq_free (es := es) (by omega) (s.nextDispatch + 1)
  refine ⟨n, Nat.le_trans (tried_le_length hn htried) hcount, hfree.trans (hshift n), fun e he hseq => ?_, fun k hk => ?_⟩
  · exact hheld (hseq ▸ List.mem_map_of_mem he)
  · obtain ⟨e, he, hseq⟩ := List.mem_map.mp (htried k hk)
    exact ⟨e, he, hseq.trans (hshift k)⟩

end

/-- Settles O28: each row of the request, and for a READY bay the entry, the counter, the bay and the two reports. -/
theorem dispatchQueuesAReadyBay : Obligations.DispatchQueuesAReadyBay := by
  unfold Obligations.DispatchQueuesAReadyBay
  intro s l tag b after hadmits hwindow
  have hexec {reply : Reply} {t : State} (h : s.dispatchRequest b after = (reply, t)) :=
    exec_owned tag hadmits (readArgs_blockFlag b after).2 rfl hwindow h
  refine ⟨fun hnone => hexec (dispatchRequest_of_no_bay hnone), fun y e hy he hbay hunique => ?_, fun y hy hnone => ⟨fun h => ?_,
    fun x hx hstate hphase => ⟨fun hfull => ?_, fun hroom => ?_⟩⟩⟩
  · subst hbay
    exact hexec (dispatchRequest_of_entry hy (entryOfBay_of_mem he hunique))
  · exact hexec (dispatchRequest_refused hy (entryOfBay_none hnone) h)
  · exact hexec ((dispatchRequest_of_ready hy (entryOfBay_none hnone) hx hstate hphase).trans (if_pos hfull))
  · refine ⟨_, hexec ((dispatchRequest_of_ready hy (entryOfBay_none hnone) hx hstate hphase).trans
      (if_neg (Nat.not_le_of_lt hroom))), ?_, ?_, fun _ => queueDispatch_counter x hroom, queueDispatch_bay x hy,
      fun c hc => queueDispatch_bay_ne x hc, ?_, ?_, ?_, ?_,
      ((queueDispatch_tells hy hx hphase hroom).trans_nothing (replies_tells ..)).reportsAdded⟩
    · exact replies_surroundings (queueDispatch_view State.surroundings (fun _ _ => rfl) (fun _ _ => rfl) (fun _ _ => rfl)
        (fun _ _ => rfl) x) ..
    · exact (queueDispatch_dispatch ..).trans (by rw [newEntry_eq])
    · exact queueDispatch_view State.table (fun _ _ => rfl) (fun _ _ => rfl) (fun _ _ => rfl) (fun _ _ => rfl) x
    · exact queueDispatch_view State.roster (fun _ _ => rfl) (fun _ _ => rfl) (fun _ _ => rfl) (fun _ _ => rfl) x
    · exact queueDispatch_view State.mc (fun _ _ => rfl) (fun _ _ => rfl) (fun _ _ => rfl) (fun _ _ => rfl) x
    · exact queueDispatch_view State.channels (fun _ _ => rfl) (fun _ _ => rfl) (fun _ _ => rfl) (fun _ _ => rfl) x

end Sys2Proof.Machine
end

section
/-! PROOFS. CONSENT DISPATCH, and the ways an entry leaves the list without a grant. -/

namespace Sys2Proof.Machine

open Sys2Proof

theorem readArgs_consentDispatch (seq : Byte) : readArgs .consentDispatch [seq] = .ok (.consent seq) := rfl

theorem readArgs_denyDispatch (seq : Byte) : readArgs .denyDispatch [seq] = .ok (.deny seq) := rfl

theorem readArgs_cancel (seq : Byte) : readArgs .cancel [seq] = .ok (.cancel seq) := rfl

theorem windowBlock_of_seq {s : State} {seq : Byte} {o : Option DispatchEntry} (h : s.entryOfSeq seq = o) :
    s.windowBlock (.consent seq) = o.map (·.bay) ∧ s.windowBlock (.deny seq) = o.map (·.bay) ∧
      s.windowBlock (.cancel seq) = o.map (·.bay) := by
  rw [← h]
  exact ⟨rfl, rfl, rfl⟩

/-! ### CONSENT DISPATCH (R108, R109) -/

/-- Both consents given, and the timer stopped. -/
def DispatchEntry.agreed (e : DispatchEntry) : DispatchEntry :=
  { e with consentA := true, consentB := true, timer := .stopped }

/-- The consent of one link given. -/
def DispatchEntry.agreedBy (e : DispatchEntry) (c : ControlLink) : DispatchEntry :=
  match c with
  | .a => { e with consentA := true }
  | .b => { e with consentB := true }

theorem give_first {e : DispatchEntry} (c : ControlLink) (hA : e.consentA = false) (hB : e.consentB = false) :
    e.give c = e.agreedBy c ∧ (e.give c).consented = false := by
  obtain ⟨seq, bay, boat, after, consentA, consentB, start, timer⟩ := e
  cases hA
  cases hB
  cases c <;> exact ⟨rfl, rfl⟩

theorem give_second {e : DispatchEntry} {c : ControlLink} (hgiven : e.given c = false)
    (h : e.consentA = true ∨ e.consentB = true) : e.give c = e.agreed := by
  obtain ⟨seq, bay, boat, after, consentA, consentB, start, timer⟩ := e
  cases c with
  | a =>
    cases (hgiven : consentA = false)
    cases (h.resolve_left nofun : consentB = true)
    rfl
  | b =>
    cases (hgiven : consentB = false)
    cases (h.resolve_right nofun : consentA = true)
    rfl

section
variable {s : State} {e : DispatchEntry} {c : ControlLink}

theorem consentTo_of_given (h : e.given c = true) : s.consentTo c e = (.okWith (b1 e.consented.toNat), s) := if_pos h

theorem consentTo_first (hA : e.consentA = false) (hB : e.consentB = false) :
    s.consentTo c e = (.okWith (b1 0), { s with dispatch := s.dispatch.map fun d => if d.seq = e.seq then e.agreedBy c else d }) := by
  have hgiven : e.given c ≠ true := by cases c <;> exact Bool.eq_false_iff.mp (by assumption)
  obtain ⟨hgive, hconsented⟩ := give_first c hA hB
  have hseq : (e.agreedBy c).seq = e.seq := by cases c <;> rfl
  rw [hgive] at hconsented
  rw [State.consentTo, if_neg hgiven, hgive]
  dsimp only
  rw [if_neg (Bool.eq_false_iff.mp hconsented), DispatchEntry.stateCode, hconsented, State.putEntry, hseq]
  rfl

theorem consentTo_second (hgiven : e.given c = false) (h : e.consentA = true ∨ e.consentB = true) :
    s.consentTo c e = (.okWith (b1 1), (({ s with dispatch := s.dispatch.map fun d =>
      if d.seq = e.seq then e.agreed else d } : State).append .dispatch none (some e.bay) (some e.boat)
        { d1 := 1, d2 := e.seq.toNat, d3 := linkCode c.link, d4 := 0 }).finish) := by
  have hcode : c.code ≤ 65535 := by cases c <;> decide
  rw [State.consentTo, if_neg (Bool.eq_false_iff.mp hgiven), give_second hgiven h]
  dsimp only
  rw [if_pos (by rfl : e.agreed.consented = true), dispatchReport_eq _ _ .consented hcode (Nat.zero_le _), c.linkCode_link]
  rfl

theorem consentRequest_of_entry {seq : Byte} (h : s.entryOfSeq seq = some e) :
    s.consentRequest c.link seq = s.consentTo c e := by
  rw [State.consentRequest, controlLink_link, h]

theorem consentRequest_of_none {seq : Byte} (h : s.entryOfSeq seq = none) :
    s.consentRequest c.link seq = (.bare .state, s) := by
  rw [State.consentRequest, controlLink_link, h]

end

/-- Settles O29: the consent given is the link's own, and the second one completes the pair. -/
theorem consentIsRecordedPerChannel : Obligations.ConsentIsRecordedPerChannel := by
  unfold Obligations.ConsentIsRecordedPerChannel
  intro s c tag seq hadmits hsound
  refine ⟨fun hnone => ?_, fun e he hseq hwindow => ?_⟩
  · have hentry := entryOfSeq_none hnone
    exact exec_owned_anywhere tag hadmits (readArgs_consentDispatch seq) (windowBlock_of_seq hentry).1
      (consentRequest_of_none hentry)
  · subst hseq
    have hentry := entryOfSeq_of_mem hsound he
    have hexec {reply : Reply} {t : State} (h : s.consentTo c e = (reply, t)) :=
      exec_owned tag hadmits (readArgs_consentDispatch e.seq) (windowBlock_of_seq hentry).1 hwindow
        ((consentRequest_of_entry hentry).trans h)
    refine ⟨fun hgiven => hexec (consentTo_of_given hgiven), fun hA hB => ?_, fun hgiven h => ?_⟩
    · have hfirst := hexec (consentTo_first (c := c) hA hB)
      cases c <;> exact hfirst
    · exact hexec (consentTo_second hgiven h)

/-! ### Leaving the list (R110, R111, R113) -/

/-- An entry taken out of the list, the report of it, and its bay back to READY. -/
def State.leaves (s : State) (e : DispatchEntry) (ev : DispatchEvent) (i j : Nat) : State :=
  ((s.removeEntry e).dispatchReport e ev i j).setPhase e.bay .ready

/-- What an entry leaves when it goes: its number is free, its bay READY, and all else as it was. -/
structure Left (s : State) (e : DispatchEntry) (y : Bay) (ev : DispatchEvent) (i j : Nat) (u : State) : Prop where
  dispatch : u.dispatch = s.dispatch.filter fun d => d.seq != e.seq
  bay : u.bay e.bay = some { y with phase := .ready }
  others : ∀ b, b ≠ e.bay → u.bay b = s.bay b
  table : u.table = s.table
  roster : u.roster = s.roster
  mc : u.mc = s.mc
  surroundings : u.surroundings = s.surroundings
  told : ReportsAdded s u (.of .dispatch (some e.bay) (some e.boat) ev.code e.seq.toNat i j ::
    bayReport e.bay (s.entry e.bay).occupant y.phase .ready)

theorem leaves_left {s : State} {e : DispatchEntry} {y : Bay} (ev : DispatchEvent) {i j : Nat} (hi : i ≤ 65535) (hj : j ≤ 65535)
    (hy : s.bay e.bay = some y) : Left s e y ev i j (s.leaves e ev i j) := by
  have hbay : ((s.removeEntry e).dispatchReport e ev i j).bay e.bay = some y := by
    rw [State.bay, dispatchReport_bays]
    exact hy
  have hentry : ((s.removeEntry e).dispatchReport e ev i j).entry e.bay = s.entry e.bay := by
    rw [State.entry, dispatchReport_table]
    rfl
  have hreported := dispatchReport_tells (s.removeEntry e) e ev hi hj
  have hmoved := setPhase_tells ((s.removeEntry e).dispatchReport e ev i j) e.bay .ready
  rw [State.phaseReports, hbay] at hmoved
  dsimp only at hmoved
  rw [hentry] at hmoved
  exact {
    dispatch := by rw [State.leaves, setPhase_dispatch, dispatchReport_dispatch, removeEntry_dispatch]
    bay := by rw [State.leaves, setPhase_eq_moveBay hbay, moveBay_bay]
    others := fun b hb => by rw [State.leaves, setPhase_bay_ne _ _ hb, State.bay, dispatchReport_bays]; rfl
    table := by rw [State.leaves, setPhase_table, dispatchReport_table, removeEntry_table]
    roster := by rw [State.leaves, setPhase_roster, dispatchReport_roster, removeEntry_roster]
    mc := by rw [State.leaves, setPhase_mc, dispatchReport_mc, removeEntry_mc]
    surroundings := by rw [State.leaves, setPhase_surroundings, dispatchReport_surroundings, removeEntry_surroundings]
    told := ((hreported.after_quiet (s := s) rfl (fun _ => rfl) rfl).trans hmoved).reportsAdded }

section
variable {s : State} {e : DispatchEntry}

theorem denyRequest_of_entry {c : ControlLink} {seq : Byte} (h : s.entryOfSeq seq = some e) :
    s.denyRequest c.link seq = (.ok, (s.leaves e .denied (linkCode c.link) 0).finish) := by
  rw [State.denyRequest, controlLink_link, h, c.linkCode_link]
  rfl

theorem denyRequest_of_none {c : ControlLink} {seq : Byte} (h : s.entryOfSeq seq = none) :
    s.denyRequest c.link seq = (.bare .state, s) := by
  rw [State.denyRequest, controlLink_link, h]

theorem cancelRequest_of_entry {l : Link} {seq : Byte} (h : s.entryOfSeq seq = some e) :
    s.cancelRequest l seq = (.ok, (s.leaves e .canceled 0 (linkCode l)).finish) := by
  rw [State.cancelRequest, h]
  rfl

theorem cancelRequest_of_none {l : Link} {seq : Byte} (h : s.entryOfSeq seq = none) :
    s.cancelRequest l seq = (.bare .state, s) := by
  rw [State.cancelRequest, h]

theorem exec_consentDeadline {d : Time} (h : s.entryOfSeq e.seq = some e) (htimer : e.timer = .running d)
    (hd : reached s.timeBase d = true) :
    exec (.consentDeadline e.seq) s = .next (s.leaves e .expired (consentsCode e.consentA e.consentB) 0).finish := by
  have hexpired : e.expired s.timeBase = true := by
    rw [DispatchEntry.expired, htimer]
    exact hd
  have hdue : s.consentDue e.seq = some e := by
    rw [State.consentDue, h]
    exact Option.filter_some_pos hexpired
  rw [exec, execConsentDeadline, hdue]
  rfl

end

/-- Settles O30: the three ways out of the list are one, with their own report each. -/
theorem entriesLeaveTheListToReady : Obligations.EntriesLeaveTheListToReady := by
  unfold Obligations.EntriesLeaveTheListToReady
  refine ⟨fun s c tag seq hadmits hsound => ⟨fun hnone => ?_, fun e y he hseq hwindow hy => ?_⟩,
    fun s l tag seq hadmits hsound => ⟨fun hnone => ?_, fun e y he hseq hwindow hy => ?_⟩, fun s e y d hsound he htimer hd hy => ?_⟩
  · have hentry := entryOfSeq_none hnone
    exact exec_owned_anywhere tag hadmits (readArgs_denyDispatch seq) (windowBlock_of_seq hentry).2.1 (denyRequest_of_none hentry)
  · subst hseq
    have hentry := entryOfSeq_of_mem hsound he
    have hlink := linkCode_le c.link
    obtain ⟨hdispatch, hbay, hothers, htable, hroster, hmc, hsurroundings, htold⟩ :=
      leaves_left .denied (i := linkCode c.link) (j := 0) (by omega) (by omega) hy
    exact ⟨_, exec_owned tag hadmits (readArgs_denyDispatch e.seq) (windowBlock_of_seq hentry).2.1 hwindow
      (denyRequest_of_entry hentry), hdispatch, hbay, hothers, htable, hroster, hmc, hsurroundings, htold⟩
  · have hentry := entryOfSeq_none hnone
    exact exec_owned_anywhere tag hadmits (readArgs_cancel seq) (windowBlock_of_seq hentry).2.2 (cancelRequest_of_none hentry)
  · subst hseq
    have hentry := entryOfSeq_of_mem hsound he
    have hlink := linkCode_le l
    obtain ⟨hdispatch, hbay, hothers, htable, hroster, hmc, hsurroundings, htold⟩ :=
      leaves_left .canceled (i := 0) (j := linkCode l) (by omega) (by omega) hy
    exact ⟨_, exec_owned tag hadmits (readArgs_cancel e.seq) (windowBlock_of_seq hentry).2.2 hwindow
      (cancelRequest_of_entry hentry), hdispatch, hbay, hothers, htable, hroster, hmc, hsurroundings, htold⟩
  · have hconsents := consentsCode_le e.consentA e.consentB
    obtain ⟨hdispatch, hbay, hothers, htable, hroster, hmc, hsurroundings, htold⟩ :=
      leaves_left .expired (i := consentsCode e.consentA e.consentB) (j := 0) (by omega) (by omega) hy
    exact ⟨_, exec_consentDeadline (entryOfSeq_of_mem hsound he) htimer hd, hdispatch, hbay, hothers, htable, hroster, hmc,
      hsurroundings, htold⟩

end Sys2Proof.Machine
end

section
/-! PROOFS. STEP: which row of the request answers, and the grant of one path. -/

namespace Sys2Proof.Machine

open Sys2Proof

theorem readArgs_step (b : BlockId) : readArgs .step (b1 b.val) = .ok (.step b) := by
  rw [readArgs, readOneBlock_b1]
  rfl

/-! ### The rows that refuse (R193) -/

section
variable {s : State} {b : BlockId}

theorem stepRequest_not_held (h : (s.entry b).state ≠ .occupied) : s.stepRequest b = (.reason 2 none, s) := if_pos h

theorem guestsBar_iff : s.guestsBar b = true ↔ s.layout.kind b = some .bay ∧ s.guestsIn b = true := by
  rw [State.guestsBar, Bool.and_eq_true, beq_iff_eq]

theorem stepRequest_guests (h : (s.entry b).state = .occupied) (hguests : s.guestsBar b = true) :
    s.stepRequest b = (.reason 3 none, s) := by
  rw [State.stepRequest, if_neg (not_not_intro h), if_pos hguests]

theorem switchBars_of_switch {w : SwitchRecord} (hkind : s.layout.kind b = some .switch) (hw : s.switchRec b = some w)
    (h : w.reading ≠ (s.chosenLeg b).reading ∨ w.move ≠ none) : s.switchBars b = true := by
  rw [State.switchBars, hkind, hw]
  dsimp only
  rw [Bool.or_eq_true, bne_iff_ne, Option.isSome_iff_ne_none]
  exact h

section
variable (h : (s.entry b).state = .occupied) (hguests : ¬(s.layout.kind b = some .bay ∧ s.guestsIn b = true))
include h hguests

theorem stepRequest_switch (hswitch : s.switchBars b = true) : s.stepRequest b = (.reason 4 none, s) := by
  rw [State.stepRequest, if_neg (not_not_intro h), if_neg (mt guestsBar_iff.mp hguests), if_pos hswitch]

theorem stepRequest_path {p : List BlockId} (hswitch : s.switchBars b = false) (hp : s.pathFrom b = some p) :
    s.stepRequest b = match p.find? fun c => !s.isClear c with
      | some c => (.reason 5 (some c), s)
      | none => (.okWith (blockListBytes p), (s.grant b .step p).finish) := by
  rw [State.stepRequest, if_neg (not_not_intro h), if_neg (mt guestsBar_iff.mp hguests),
    if_neg (Bool.eq_false_iff.mp hswitch), hp] <;> rfl

theorem stepRequest_blocked {pre post : List BlockId} {c : BlockId} (hswitch : s.switchBars b = false)
    (hp : s.pathFrom b = some (pre ++ c :: post)) (hpre : ∀ a ∈ pre, (s.entry a).state = .clear)
    (hc : (s.entry c).state ≠ .clear) : s.stepRequest b = (.reason 5 (some c), s) := by
  have hfind : (pre ++ c :: post).find? (fun a => !s.isClear a) = some c := by
    refine List.find?_eq_some_iff_append.mpr ⟨?_, pre, post, rfl, fun a ha => ?_⟩
    · rw [State.isClear, beq_eq_false_iff_ne.mpr hc]
      rfl
    · rw [State.isClear, hpre a ha]
      rfl
  rw [stepRequest_path h hguests hswitch hp, hfind]

theorem stepRequest_grants {p : List BlockId} (hswitch : s.switchBars b = false) (hp : s.pathFrom b = some p)
    (hclear : ∀ c ∈ p, (s.entry c).state = .clear) :
    s.stepRequest b = (.okWith (blockListBytes p), (s.grant b .step p).finish) := by
  have hfind : p.find? (fun a => !s.isClear a) = none := by
    refine List.find?_eq_none.mpr fun a ha => ?_
    rw [State.isClear, hclear a ha]
    nofun
  rw [stepRequest_path h hguests hswitch hp, hfind]

end

/-! ### The entry of the bay (R120) -/

theorem cancelOfBay_of_entry {e : DispatchEntry} (cause : CancelCause) (h : s.entryOfBay b = some e) :
    s.cancelOfBay b cause = s.cancelEntry e cause 0 := by
  rw [State.cancelOfBay, h]

theorem cancelOfBay_of_none (cause : CancelCause) (h : s.entryOfBay b = none) : s.cancelOfBay b cause = s := by
  rw [State.cancelOfBay, h]

theorem entryOfBay_congr {t : State} (h : t.dispatch = s.dispatch) (b : BlockId) : t.entryOfBay b = s.entryOfBay b := by
  rw [State.entryOfBay, h, State.entryOfBay]

/-- Cancelling a bay's entry takes the entries of that bay, and no other, out of a sound list. -/
theorem mem_cancelOfBay (hs : s.dispatchSound) (cause : CancelCause) (e : DispatchEntry) :
    e ∈ (s.cancelOfBay b cause).dispatch ↔ e ∈ s.dispatch ∧ e.bay ≠ b := by
  obtain ⟨-, hseq, hbay, -⟩ := hs
  cases hentry : s.entryOfBay b with
  | none =>
    rw [cancelOfBay_of_none cause hentry]
    exact ⟨fun he => ⟨he, fun hb => List.find?_eq_none.mp hentry e he (beq_iff_eq.mpr hb)⟩, And.left⟩
  | some d =>
    have hd : d ∈ s.dispatch := List.mem_of_find?_eq_some hentry
    have hdb : d.bay = b := eq_of_beq (List.find?_some (p := fun e : DispatchEntry => e.bay == b) hentry)
    have hdispatch : (s.cancelEntry d cause 0).dispatch = s.dispatch.filter fun e => e.seq != d.seq := dispatchReport_dispatch ..
    rw [cancelOfBay_of_entry cause hentry, hdispatch, List.mem_filter, bne_iff_ne]
    refine and_congr_right fun he => not_congr ⟨fun hsame => ?_, fun hsame => ?_⟩
    · rw [eq_of_nodup_map hseq he hd hsame, hdb]
    · rw [eq_of_nodup_map hbay he hd (hsame.trans hdb.symm)]

/-! ### The grant (R33, R90) -/

variable {x : BoatId} (p : List BlockId) (hx : (s.entry b).occupant = some x)
include hx

theorem grant_step_dispatch (hs : s.dispatchSound) (e : DispatchEntry) :
    e ∈ (s.grant b .step p).dispatch ↔ e ∈ s.dispatch ∧ e.bay ≠ b := by
  have hdispatch := grantedUnits_dispatch s b x p
  rw [grant_dispatch .step p hx]
  have hsound : (s.grantedUnits b x p).dispatchSound := by
    have hnext : (s.grantedUnits b x p).nextDispatch = s.nextDispatch := by
      rw [State.grantedUnits, bookGrant_nextDispatch, writeLaunch_nextDispatch, modBrake_nextDispatch, firePulse_nextDispatch,
        granted_view s b x p State.nextDispatch (fun _ _ => rfl) (fun _ _ => rfl) (fun _ _ => rfl)]
    rw [State.dispatchSound, hdispatch, hnext]
    exact hs
  have hmem := mem_cancelOfBay (b := b) hsound .step e
  rw [hdispatch] at hmem
  exact hmem

theorem grant_step_tells_of_none (hnone : s.entryOfBay b = none) :
    Tells s (s.grant b .step p) (match s.bay b with
      | some y => bayReport b (some x) y.phase .released
      | none => []) := by
  have hentry : (s.grantedUnits b x p).entryOfBay b = none := (entryOfBay_congr (grantedUnits_dispatch s b x p) b).trans hnone
  have hkept : (s.grantedUnits b x p).tellRequester b .step p = s.grantedUnits b x p := cancelOfBay_of_none .step hentry
  have htold : Tells (s.grantedUnits b x p) ((s.grantedUnits b x p).tellRequester b .step p) [] := by
    rw [hkept]
    exact .refl _
  exact grant_tells .step p hx htold

theorem grant_step_tells_of_entry {e : DispatchEntry} (he : s.entryOfBay b = some e) :
    Tells s (s.grant b .step p) (.of .dispatch (some e.bay) (some e.boat) 5 e.seq.toNat 2 0 :: match s.bay b with
      | some y => bayReport b (some x) y.phase .released
      | none => []) := by
  have hentry : (s.grantedUnits b x p).entryOfBay b = some e := (entryOfBay_congr (grantedUnits_dispatch s b x p) b).trans he
  have htold := cancelEntry_tells (s.grantedUnits b x p) e .step (link := 0) (Nat.zero_le _)
  rw [← cancelOfBay_of_entry .step hentry] at htold
  exact grant_tells .step p hx htold

end

/-- Settles O31: the row the state selects, and the grant with the entry of the bay. -/
theorem stepGrantsOnePath : Obligations.StepGrantsOnePath := by
  unfold Obligations.StepGrantsOnePath
  intro s l tag b hadmits hwindow
  have hexec {reply : Reply} {t : State} (h : s.stepRequest b = (reply, t)) :=
    exec_owned tag hadmits (readArgs_step b) rfl hwindow h
  refine ⟨fun h => hexec (stepRequest_not_held h), fun h => ⟨fun hkind hguests => ?_, fun hguests => ⟨fun w hkind hw hmoves => ?_,
    fun hswitch => ⟨fun pre post c hp hpre hc => ?_, fun p x hp hclear hx => ?_⟩⟩⟩⟩
  · exact hexec (stepRequest_guests h (guestsBar_iff.mpr ⟨hkind, hguests⟩))
  · exact hexec (stepRequest_switch h hguests (switchBars_of_switch hkind hw hmoves))
  · exact hexec (stepRequest_blocked h hguests hswitch hp hpre hc)
  · have hb : b ∉ p := fun hmem => nomatch h.symm.trans (hclear b hmem)
    refine ⟨s.grant b .step p, hexec (stepRequest_grants h hguests hswitch hp hclear), grantMade_of_occupant .step hx hb,
      fun hs => ⟨grant_step_dispatch p hx hs, fun hnone => ?_, fun e y he hbay hy => ?_⟩⟩
    · exact (grant_step_tells_of_none p hx (entryOfBay_none hnone)).reportsAdded
    · subst hbay
      have hentry : s.entryOfBay e.bay = some e :=
        entryOfBay_of_mem he fun d hd hsame => eq_of_nodup_map hs.2.2.1 hd he hsame
      have htold := grant_step_tells_of_entry p hx hentry
      rw [hy] at htold
      exact htold.reportsAdded

end Sys2Proof.Machine
end

section
/-! PROOFS. The filter of a field input: raw changes, pending changes, acceptance. -/

namespace Sys2Proof.Machine

open Sys2Proof

theorem setPoint_setPoint (s : State) (p : PointId) (q r : Point) : (s.setPoint p q).setPoint p r = s.setPoint p r :=
  congrArg (fun v => { s with points := v }) (vput_vput s.points p q r)

/-- The point as its acceptance leaves it. -/
def Point.accepted (q : Point) : Point := { q with level := q.seen, pending := none }

theorem acceptLevel_eq (s : State) (p : PointId) :
    s.acceptLevel p = ((s.setPoint p (s.point p).accepted).deliverEdge p (s.point p).seen).finish := rfl

/-! ### A raw change (R162) -/

section
variable {s : State} {p : PointId} {on : Bool}

theorem rawSample_same (h : (s.point p).raw = on) : s.rawSample p on = s := if_pos h

theorem rawSample_eq (h : (s.point p).raw ≠ on) : s.rawSample p on =
    if (on != (s.point p).invert) = (s.point p).level then
      match (s.point p).pending with
      | some _ => s.setPoint p { s.point p with
        raw := on, pending := none, glitches := satInc Config.counterCeiling (s.point p).glitches }
      | none => s.setPoint p { s.point p with raw := on }
    else
      match (s.point p).pending with
      | some _ => s.setPoint p { s.point p with raw := on }
      | none =>
        if (s.point p).filter = 0 then (s.setPoint p { s.point p with raw := on }).acceptLevel p
        else s.setPoint p { s.point p with raw := on, pending := some (s.after (s.point p).filter) } := by
  rw [State.rawSample, if_neg h]
  dsimp only
  rw [setPoint_setPoint, setPoint_setPoint]
  rfl

theorem acceptLevel_setPoint (s : State) (p : PointId) (q : Point) :
    (s.setPoint p q).acceptLevel p = ((s.setPoint p q.accepted).deliverEdge p q.seen).finish := by
  rw [acceptLevel_eq, setPoint_point_self, setPoint_setPoint]

end

/-! ### Acceptance (R162, R163) -/

theorem exec_inputAcceptance {s : State} {p : PointId} {d : Time} (hp : (s.point p).pending = some d)
    (hd : reached s.timeBase d = true) :
    exec (.inputAcceptance p) s =
      .next ((s.setPoint p (s.point p).accepted).deliverEdge p (s.point p).seen).finish := by
  have hdue : s.acceptanceDue p = true := by
    rw [State.acceptanceDue, hp]
    exact hd
  rw [exec, execInputAcceptance, if_pos hdue, acceptLevel_eq]

theorem deliverEdge_untaken {s : State} {p : PointId} (on : Bool) (h : s.mode = .configure ∨ s.layout.pointUse p = none) :
    s.deliverEdge p on = s := by
  unfold State.deliverEdge
  split
  · rfl
  case isFalse hmode => rw [h.resolve_left hmode]

/-- Settles O32: the pending change decides what a raw change does, and acceptance sets the level and delivers the edge. -/
theorem inputsAreFilteredBeforeDelivery : Obligations.InputsAreFilteredBeforeDelivery := by
  unfold Obligations.InputsAreFilteredBeforeDelivery
  refine ⟨?_, ?_, fun s p on h => deliverEdge_untaken on h⟩
  · rintro s p on q rfl
    refine ⟨fun h => congrArg _ (rawSample_same h), fun h => ⟨fun hlevel => ?_, fun hlevel => ?_⟩⟩
    · have hsample := (rawSample_eq h).trans (if_pos hlevel)
      refine ⟨fun hnone => congrArg _ (hsample.trans ?_), fun hsome => congrArg _ (hsample.trans ?_)⟩
      · split
        case h_1 d hd => cases hnone.symm.trans hd
        case h_2 => rfl
      · split
        case h_1 => rfl
        case h_2 hnone => exact absurd hnone hsome
    · have hsample := (rawSample_eq h).trans (if_neg hlevel)
      refine ⟨fun hsome => congrArg _ (hsample.trans ?_), fun hnone hfilter => congrArg _ (hsample.trans ?_),
        fun hnone hfilter => congrArg _ (hsample.trans ?_)⟩
      · split
        case h_1 => rfl
        case h_2 hnone => exact absurd hnone hsome
      · split
        case h_1 d hd => cases hnone.symm.trans hd
        case h_2 => exact if_neg hfilter
      · split
        case h_1 d hd => cases hnone.symm.trans hd
        case h_2 => exact (if_pos hfilter).trans (acceptLevel_setPoint ..)
  · rintro s p q d rfl hp hd
    exact exec_inputAcceptance hp hd

end Sys2Proof.Machine
end

section
/-! PROOFS. Bays vacated and bays berthed, with what that tells. -/

namespace Sys2Proof.Machine

open Sys2Proof

/-! ### A bay vacated (R92, R101, R120) -/

/-- A bay record as VACANT leaves it. -/
def Bay.vacated (y : Bay) : Bay :=
  { y with phase := .vacant, entryEye := none, returnPhase := none, status := none, weigh := none }

theorem Bay.vacated_vacated (y : Bay) : y.vacated.vacated = y.vacated := rfl

/-- The CANCELED report of a bay's entry, where it has one. -/
def State.cancelReports (s : State) (b : BlockId) (cause : CancelCause) : List Told :=
  match s.entryOfBay b with
  | some e => [.of .dispatch (some e.bay) (some e.boat) 5 e.seq.toNat cause.code 0]
  | none => []

theorem cancelOfBay_tells (s : State) (b : BlockId) (cause : CancelCause) :
    Tells s (s.cancelOfBay b cause) (s.cancelReports b cause) := by
  unfold State.cancelReports
  cases h : s.entryOfBay b with
  | none =>
    rw [cancelOfBay_of_none cause h]
    exact .refl s
  | some e =>
    rw [cancelOfBay_of_entry cause h]
    exact cancelEntry_tells s e cause (Nat.zero_le _)

section
variable {s : State} {b : BlockId}

theorem vacateBay_of_none (h : s.bay b = none) : s.vacateBay b = s := by
  rw [State.vacateBay, h]

theorem vacateBay_eq {y : Bay} (h : s.bay b = some y) :
    s.vacateBay b = (s.cancelOfBay b .remove).moveBay b { y.vacated with phase := y.phase } .vacant := by
  have hbay : (s.cancelOfBay b .remove).bay b = some y := by
    rw [State.bay, cancelOfBay_bays]
    exact h
  rw [State.vacateBay, h]
  dsimp only
  rw [modBay_of_some hbay]
  rfl

theorem vacateBay_bay (s : State) (b c : BlockId) :
    (s.vacateBay b).bay c = if c = b then (s.bay c).map Bay.vacated else s.bay c := by
  cases h : s.bay b with
  | none =>
    rw [vacateBay_of_none h]
    split
    case isTrue hc => rw [hc, h, Option.map_none]
    case isFalse => rfl
  | some y =>
    rw [vacateBay_eq h]
    split
    case isTrue hc =>
      rw [hc, moveBay_bay, h]
      rfl
    case isFalse hc =>
      rw [moveBay_bay_ne _ _ _ _ hc, State.bay, cancelOfBay_bays]
      rfl

theorem vacateBay_tells {y : Bay} (h : s.bay b = some y) :
    Tells s (s.vacateBay b) (s.cancelReports b .remove ++ bayReport b (s.entry b).occupant y.phase .vacant) := by
  have hmoved := moveBay_tells (s.cancelOfBay b .remove) b { y.vacated with phase := y.phase } .vacant
  rw [State.entry, cancelOfBay_table] at hmoved
  rw [vacateBay_eq h]
  exact (cancelOfBay_tells s b .remove).trans hmoved

end

/-- Steps that vacate one bay each vacate the bays of their list. -/
theorem foldl_vacated_bay {f : State → BlockId → State}
    (hf : ∀ s b c, (f s b).bay c = if c = b then (s.bay c).map Bay.vacated else s.bay c) (s : State) (bs : List BlockId)
    (c : BlockId) : (bs.foldl f s).bay c = if c ∈ bs then (s.bay c).map Bay.vacated else s.bay c := by
  induction bs generalizing s with
  | nil => exact (if_neg List.not_mem_nil).symm
  | cons b bs ih =>
    rw [List.foldl_cons, ih, hf]
    by_cases hc : c = b
    · rw [if_pos hc, if_pos (List.mem_cons.mpr (.inl hc)), Option.map_map]
      split <;> rfl
    · rw [if_neg hc]
      have hmem : c ∈ b :: bs ↔ c ∈ bs := by simp only [List.mem_cons, hc, false_or]
      simp only [hmem]

/-! ### A bay berthed (R82) -/

section
variable {s : State} {b : BlockId}

theorem berth_of_none (eye : Option PointId) (h : s.bay b = none) : s.berth b eye = s := by
  rw [State.berth, h]

theorem berth_at_eye {y : Bay} (eye : PointId) (h : s.bay b = some y) :
    s.berth b (some eye) = s.moveBay b { y with entryEye := some eye } .berthed := by
  rw [State.berth, h]
  dsimp only
  rw [modBay_of_some h]
  rfl

theorem berth_placed {y : Bay} (h : s.bay b = some y) :
    s.berth b none = (s.moveBay b { y with entryEye := none } .berthed).endBerthed b := by
  rw [State.berth, h]
  dsimp only
  rw [modBay_of_some h]
  rfl

end

end Sys2Proof.Machine
end

section
/-! PROOFS. Nose arrivals: the row of R37 the state selects, and the parts of a normal arrival. -/

namespace Sys2Proof.Machine

open Sys2Proof

/-! ### The rows (R37 to R41) -/

section
variable {s : State} {p n : BlockId} {leg : Leg} (eye : PointId) (hsucc : s.layout.successor p leg = some n)
include hsucc

theorem noseArrival_faulted (h : (s.entry n).state = .faulted) :
    s.noseArrival p leg eye = s.passageReport n (s.entry p).occupant 1 0 p 0 := by
  rw [State.noseArrival, hsucc]
  exact if_pos h

theorem noseArrival_outOfService (h : (s.entry n).state = .outOfService) :
    s.noseArrival p leg eye = s.raise .unexpectedArrival (some n) (s.entry p).occupant (detail) := by
  have hfaulted : (s.entry n).state ≠ .faulted := fun hf => nomatch h.symm.trans hf
  rw [State.noseArrival, hsucc]
  exact (if_neg hfaulted).trans (if_pos h)

section
variable (hfaulted : (s.entry n).state ≠ .faulted) (hservice : (s.entry n).state ≠ .outOfService)
include hfaulted hservice

theorem noseArrival_unreleased (h : (s.entry p).state = .occupied) :
    s.noseArrival p leg eye = s.faultAt .unreleasedDeparture p (s.entry p).occupant (detail) := by
  rw [State.noseArrival, hsucc]
  exact (if_neg hfaulted).trans ((if_neg hservice).trans (if_pos h))

theorem noseArrival_empty (h : (s.entry p).state ≠ .occupied) (hx : (s.entry p).occupant = none) :
    s.noseArrival p leg eye = s.faultAt .unexpectedArrival n none (detail) := by
  rw [State.noseArrival, hsucc]
  refine (if_neg hfaulted).trans ((if_neg hservice).trans ((if_neg h).trans ?_))
  rw [hx]

theorem noseArrival_of_boat (h : (s.entry p).state ≠ .occupied) {x : BoatId} (hx : (s.entry p).occupant = some x) :
    s.noseArrival p leg eye =
      if s.overlapped p x then s.faultAt .boundaryOverlap p (some x) (detail)
      else if s.expects p n x then s.normalArrival p n leg eye x
      else s.faultAt .unexpectedArrival n (some x) (detail) := by
  rw [State.noseArrival, hsucc]
  refine (if_neg hfaulted).trans ((if_neg hservice).trans ((if_neg h).trans ?_))
  rw [hx]

end

end

theorem expects_false {s : State} {p n : BlockId} {x : BoatId} (h : (s.entry n).state ≠ .reserved ∨ (s.entry n).holder ≠ some x ∨
    (s.slot x).position ≠ some p ∨ (s.pathOf x).head? ≠ some n) : s.expects p n x = false := by
  refine Bool.eq_false_iff.mpr fun hall => ?_
  obtain ⟨hn, hholder, hpos, hhead⟩ := (expects_iff ..).mp hall
  obtain h | h | h | h := h
  · exact h hn
  · exact h hholder
  · exact h hpos
  · exact h hhead

/-- The state that takes an accepted edge: the point at its seen level. -/
def State.atEdge (s : State) (q : PointId) : State := s.setPoint q (s.point q).accepted

/-- An accepted edge of an exit eye. -/
theorem exec_exitEye {s : State} {q : PointId} {d : Time} {p : BlockId} {leg : Leg} (hmode : s.mode ≠ .configure)
    (hq : (s.point q).pending = some d) (hd : reached s.timeBase d = true)
    (huse : s.layout.pointUse q = some (.exitEye p leg)) :
    exec (.inputAcceptance q) s =
      .next (if (s.point q).seen then (s.atEdge q).noseArrival p leg q else (s.atEdge q).tailClearance p leg q).finish := by
  have hdelivered (on : Bool) : (s.atEdge q).deliverEdge q on =
      if on then (s.atEdge q).noseArrival p leg q else (s.atEdge q).tailClearance p leg q := by
    have hmode' : (s.atEdge q).mode ≠ .configure := hmode
    have huse' : (s.atEdge q).layout.pointUse q = some (.exitEye p leg) := huse
    rw [State.deliverEdge, if_neg hmode', huse']
  rw [exec_inputAcceptance hq hd, ← hdelivered]
  rfl

/-! ### The parts of a normal arrival (R42 to R44) -/

/-- The boat moved, its passage counted and reported. -/
def State.arrivedNose (s : State) (p n : BlockId) (x : BoatId) : State :=
  ({ s.moveNose p n x with passages := vput s.passages n (min (vget s.passages n + 1) 65535) } : State).passageReport n (some x)
    0 0 p (min (vget s.passages n + 1) 65535)

/-- The FAULTED records of the boat ended. -/
def State.arrivedRecords (s : State) (p n : BlockId) (x : BoatId) : State :=
  ((s.arrivedNose p n x).faultedRecords p x).foldl State.endFaultedRecord (s.arrivedNose p n x)

/-- A boat that enters a merge block is no longer expedited (R70). -/
def State.unexpedited (s : State) (n : BlockId) (x : BoatId) : State :=
  if s.isMergeBlock n then s.modBoat x fun t => { t with expedite := false } else s

/-- The arrival but for the bay entered. -/
def State.arrivedIn (s : State) (p n : BlockId) (leg : Leg) (x : BoatId) : State :=
  (((s.arrivedRecords p n x).unexpedited n x).openTagWindow p leg x).openPassage n x

theorem normalArrival_eq (s : State) (p n : BlockId) (leg : Leg) (eye : PointId) (x : BoatId) :
    s.normalArrival p n leg eye x =
      if ((s.arrivedIn p n leg x).entry n).state = .occupied then (s.arrivedIn p n leg x).berth n (some eye)
      else s.arrivedIn p n leg x := rfl

section
variable {γ : Type} (v : State → γ)

theorem endFaultedRecords_view (htable : ∀ t x, v { t with table := x } = v t) (hbays : ∀ t x, v { t with bays := x } = v t)
    (hdispatch : ∀ t x, v { t with dispatch := x } = v t) (harbiters : ∀ t x, v { t with arbiters := x } = v t)
    (hreports : ∀ t x, v { t with reports := x } = v t) (s : State) (us : List BlockId) :
    v (us.foldl State.endFaultedRecord s) = v s :=
  foldl_keeps v _ (fun t u => endFaultedRecord_view v htable hbays hdispatch harbiters hreports t u) _ _

theorem unexpedited_view (hroster : ∀ t x, v { t with roster := x } = v t) (s : State) (n : BlockId) (x : BoatId) :
    v (s.unexpedited n x) = v s := by
  unfold State.unexpedited
  split
  · exact hroster _ _
  · rfl

/-- The last parts of an arrival change the roster, the tag windows and the brakes alone. -/
theorem arrivedIn_view (hroster : ∀ t x, v { t with roster := x } = v t) (hwindows : ∀ t x, v { t with tagWindows := x } = v t)
    (hbrakes : ∀ t x, v { t with brakes := x } = v t) (s : State) (p n : BlockId) (leg : Leg) (x : BoatId) :
    v (s.arrivedIn p n leg x) = v (s.arrivedRecords p n x) := by
  rw [State.arrivedIn, openPassage_view v hbrakes, openTagWindow_view v hwindows, unexpedited_view v hroster]

theorem normalArrival_bay_view (hbays : ∀ t x, v { t with bays := x } = v t) (hreports : ∀ t x, v { t with reports := x } = v t)
    (s : State) (p n : BlockId) (leg : Leg) (eye : PointId) (x : BoatId) :
    v (s.normalArrival p n leg eye x) = v (s.arrivedIn p n leg x) := by
  rw [normalArrival_eq]
  split
  · exact berth_view v hbays hreports ..
  · rfl

end

section
variable (s : State) (p n : BlockId) (x : BoatId)

theorem arrivedNose_table : (s.arrivedNose p n x).table = (s.moveNose p n x).table := passageReport_table ..

theorem arrivedNose_bay (c : BlockId) : (s.arrivedNose p n x).bay c = s.bay c := by
  rw [State.bay, State.arrivedNose, passageReport_bays]
  rfl

theorem arrivedRecords_slot (y : BoatId) :
    (s.arrivedRecords p n x).slot y = if y = x then (s.slot x).advance n else s.slot y := by
  have hroster : (s.arrivedRecords p n x).roster = (s.moveNose p n x).roster := by
    rw [State.arrivedRecords, endFaultedRecords_view State.roster (fun _ _ => rfl) (fun _ _ => rfl) (fun _ _ => rfl)
      (fun _ _ => rfl) fun _ _ => rfl]
    exact passageReport_roster ..
  exact (congrArg (vget · y) hroster).trans (moveNose_slot ..)

theorem endFaultedRecord_bay (s : State) (b c : BlockId) :
    (s.endFaultedRecord b).bay c = if c = b then (s.bay c).map Bay.vacated else s.bay c := vacateBay_bay ..

theorem arrivedRecords_bay (c : BlockId) : (s.arrivedRecords p n x).bay c =
    if c ∈ (s.arrivedNose p n x).faultedRecords p x then (s.bay c).map Bay.vacated else s.bay c := by
  rw [State.arrivedRecords, foldl_vacated_bay endFaultedRecord_bay, arrivedNose_bay]

variable {s p n x}
variable (hne : p ≠ n)
include hne

theorem arrivedNose_entry (c : BlockId) : (s.arrivedNose p n x).entry c =
    if c = p then (s.entry p).leftBy (s.after (s.clearanceLimit p))
    else if c = n then
      enteredEntry x (s.layout.holdable n) ((s.pathOf x).getLast? == some n) (s.after (s.transitLimit n))
    else s.entry c := by
  rw [State.entry, arrivedNose_table]
  exact moveNose_entry x hne c

/-- The records that end are those of the boat in FAULTED blocks other than the two of the arrival. -/
theorem mem_arrivedRecords {c : BlockId} : c ∈ (s.arrivedNose p n x).faultedRecords p x ↔
    c ≠ p ∧ c ≠ n ∧ (s.entry c).state = .faulted ∧ (s.entry c).occupant = some x := by
  rw [mem_faultedRecords, arrivedNose_entry hne]
  refine and_congr_right fun hcp => ?_
  rw [if_neg hcp]
  by_cases hcn : c = n
  · rw [if_pos hcn, enteredEntry_state]
    refine iff_of_false ?_ fun h => h.1 hcn
    rintro ⟨hst, -⟩
    split at hst <;> cases hst
  · rw [if_neg hcn]
    exact (and_iff_right hcn).symm

theorem arrivedRecords_entry (c : BlockId) : (s.arrivedRecords p n x).entry c =
    if c = p then (s.entry p).leftBy (s.after (s.clearanceLimit p))
    else if c = n then
      enteredEntry x (s.layout.holdable n) ((s.pathOf x).getLast? == some n) (s.after (s.transitLimit n))
    else if (s.entry c).state = .faulted ∧ (s.entry c).occupant = some x then { s.entry c with occupant := none, nose := false }
    else s.entry c := by
  rw [State.arrivedRecords, endFaultedRecords_entry, arrivedNose_entry hne]
  simp only [mem_arrivedRecords hne]
  by_cases hcp : c = p
  · rw [if_neg fun h => h.1 hcp, if_pos hcp, if_pos hcp]
  · by_cases hcn : c = n
    · rw [if_neg fun h => h.2.1 hcn, if_neg hcp, if_neg hcp]
      rw [if_pos hcn, if_pos hcn]
    · rw [if_neg hcp, if_neg hcp, if_neg hcn, if_neg hcn]
      have hiff : (c ≠ p ∧ c ≠ n ∧ (s.entry c).state = .faulted ∧ (s.entry c).occupant = some x) ↔
          ((s.entry c).state = .faulted ∧ (s.entry c).occupant = some x) := by
        rw [and_iff_right hcp, and_iff_right hcn]
      simp only [hiff]

end

/-! ### What is told (R219, log entry 11) -/

theorem passageReport_tells (s : State) (b : BlockId) (x : Option BoatId) {i j k : Nat} (p : BlockId) (hi : i ≤ 65535)
    (hj : j ≤ 65535) (hk : k ≤ 65535) :
    Tells s (s.passageReport b x i j p k) [.of .passage (some b) x i j p.val k] := by
  have hp := p.isLt
  rw [State.passageReport, detail_small _ _ _ _ (by omega) (by omega) (by omega) (by omega)]
  exact append_tells ..

theorem endFaultedRecord_quiet {s : State} {b : BlockId} (h : s.bay b = none) : Tells s (s.endFaultedRecord b) [] := by
  have hmod : (s.modEntry b fun e => { e with occupant := none, nose := false }).bay b = none := h
  rw [State.endFaultedRecord, vacateBay_of_none hmod]
  exact .of_surroundings rfl rfl

theorem endFaultedRecords_quiet {s : State} {bs : List BlockId} (h : ∀ b ∈ bs, s.bay b = none) :
    Tells s (bs.foldl State.endFaultedRecord s) [] := by
  induction bs generalizing s with
  | nil => exact .refl s
  | cons b bs ih =>
    obtain ⟨hb, hrest⟩ := List.forall_mem_cons.mp h
    refine (endFaultedRecord_quiet hb).trans (ih fun c hc => ?_)
    rw [endFaultedRecord_bay, hrest c hc]
    split <;> rfl

/-- An arrival tells of the passage, where the records that end are of no bay. -/
theorem arrivedRecords_tells {s : State} {p n : BlockId} {x : BoatId} (hne : p ≠ n)
    (h : ∀ c, c ≠ p → (s.entry c).state = .faulted → (s.entry c).occupant = some x → s.bay c = none) :
    Tells s (s.arrivedRecords p n x) [.of .passage (some n) (some x) 0 0 p.val (min (vget s.passages n + 1) 65535)] := by
  have hreported := passageReport_tells
    ({ s.moveNose p n x with passages := vput s.passages n (min (vget s.passages n + 1) 65535) } : State) n (some x) p
    (Nat.zero_le 65535) (Nat.zero_le 65535) (Nat.min_le_right (vget s.passages n + 1) 65535)
  have hquiet : ∀ c ∈ (s.arrivedNose p n x).faultedRecords p x, (s.arrivedNose p n x).bay c = none := by
    intro c hc
    obtain ⟨hcp, -, hst, hx⟩ := (mem_arrivedRecords hne).mp hc
    rw [arrivedNose_bay]
    exact h c hcp hst hx
  exact (hreported.after_quiet (s := s) rfl (fun _ => rfl) rfl).trans_nothing (endFaultedRecords_quiet hquiet)

end Sys2Proof.Machine
end

section
/-! PROOFS. A normal nose arrival moves the boat. -/

namespace Sys2Proof.Machine

open Sys2Proof

/-! ### What the whole arrival leaves -/

section
variable (s : State) (p n : BlockId) (leg : Leg) (eye : PointId) (x : BoatId)

theorem normalArrival_entry (c : BlockId) : (s.normalArrival p n leg eye x).entry c = (s.arrivedRecords p n x).entry c := by
  rw [State.entry, normalArrival_bay_view State.table (fun _ _ => rfl) fun _ _ => rfl,
    arrivedIn_view State.table (fun _ _ => rfl) (fun _ _ => rfl) fun _ _ => rfl]
  rfl

theorem arrivedIn_entry (c : BlockId) : (s.arrivedIn p n leg x).entry c = (s.arrivedRecords p n x).entry c := by
  rw [State.entry, arrivedIn_view State.table (fun _ _ => rfl) (fun _ _ => rfl) fun _ _ => rfl]
  rfl

theorem arrivedIn_bay (c : BlockId) : (s.arrivedIn p n leg x).bay c = (s.arrivedRecords p n x).bay c := by
  rw [State.bay, arrivedIn_view State.bays (fun _ _ => rfl) (fun _ _ => rfl) fun _ _ => rfl]
  rfl

theorem normalArrival_passages : (s.normalArrival p n leg eye x).passages =
    vput s.passages n (min (vget s.passages n + 1) 65535) := by
  rw [normalArrival_bay_view State.passages (fun _ _ => rfl) fun _ _ => rfl,
    arrivedIn_view State.passages (fun _ _ => rfl) (fun _ _ => rfl) fun _ _ => rfl, State.arrivedRecords,
    endFaultedRecords_view State.passages (fun _ _ => rfl) (fun _ _ => rfl) (fun _ _ => rfl) (fun _ _ => rfl) fun _ _ => rfl]
  exact passageReport_passages ..

/-- The boats' records behind the arrival read the layout, the clock and the brakes as they were. -/
theorem arrivedRecords_view {γ : Type} (v : State → γ) (htable : ∀ t x, v { t with table := x } = v t)
    (hroster : ∀ t x, v { t with roster := x } = v t) (hbays : ∀ t x, v { t with bays := x } = v t)
    (hdispatch : ∀ t x, v { t with dispatch := x } = v t) (harbiters : ∀ t x, v { t with arbiters := x } = v t)
    (hreports : ∀ t x, v { t with reports := x } = v t) (hpassages : ∀ t x, v { t with passages := x } = v t) :
    v (s.arrivedRecords p n x) = v s := by
  rw [State.arrivedRecords, endFaultedRecords_view v htable hbays hdispatch harbiters hreports, State.arrivedNose,
    passageReport_view v hreports, hpassages, moveNose_view v htable hroster harbiters]

/-! ### The boat (R42, R70) -/

theorem normalArrival_slot (y : BoatId) :
    (s.normalArrival p n leg eye x).slot y = ((s.arrivedRecords p n x).unexpedited n x).slot y := by
  have hroster : (s.arrivedIn p n leg x).roster = ((s.arrivedRecords p n x).unexpedited n x).roster := by
    rw [State.arrivedIn, openPassage_view State.roster fun _ _ => rfl, openTagWindow_view State.roster fun _ _ => rfl]
  rw [State.slot, normalArrival_bay_view State.roster (fun _ _ => rfl) fun _ _ => rfl, hroster]
  rfl

theorem unexpedited_slot_ne (s : State) (n : BlockId) {x y : BoatId} (h : y ≠ x) : (s.unexpedited n x).slot y = s.slot y := by
  unfold State.unexpedited
  split
  · rw [modBoat_slot, if_neg h]
  · rfl

theorem unexpedited_slot_self {s : State} (n : BlockId) {x : BoatId} {bt : Boat} {b : BlockId} {path : List BlockId}
    (h : s.slot x = .onTrack bt b path) : (s.unexpedited n x).slot x =
      .onTrack (if (s.layout.mergeAt n).isSome then { bt with expedite := false } else bt) b path := by
  unfold State.unexpedited State.isMergeBlock
  split
  case isTrue hmerge =>
    rw [modBoat_slot, if_pos rfl, h]
    rfl
  case isFalse hmerge => exact h

end

section
variable {s : State} {p n : BlockId} {x : BoatId} {bt : Boat} {path : List BlockId} (leg : Leg) (eye : PointId)

theorem arrivedRecords_slot_self (h : s.slot x = .onTrack bt p (n :: path)) :
    (s.arrivedRecords p n x).slot x = .onTrack bt n path := by
  rw [arrivedRecords_slot, if_pos rfl, h]
  rfl

theorem arrivedRecords_layout (s : State) (p n : BlockId) (x : BoatId) : (s.arrivedRecords p n x).layout = s.layout :=
  arrivedRecords_view s p n x State.layout (fun _ _ => rfl) (fun _ _ => rfl) (fun _ _ => rfl) (fun _ _ => rfl) (fun _ _ => rfl)
    (fun _ _ => rfl) fun _ _ => rfl

theorem normalArrival_slot_self (h : s.slot x = .onTrack bt p (n :: path)) : (s.normalArrival p n leg eye x).slot x =
    .onTrack (if (s.layout.mergeAt n).isSome then { bt with expedite := false } else bt) n path := by
  rw [normalArrival_slot, unexpedited_slot_self n (arrivedRecords_slot_self h), arrivedRecords_layout]

theorem normalArrival_slot_ne {y : BoatId} (hy : y ≠ x) : (s.normalArrival p n leg eye x).slot y = s.slot y := by
  rw [normalArrival_slot, unexpedited_slot_ne _ _ hy, arrivedRecords_slot, if_neg hy]

/-! ### The tag window (R72) -/

theorem normalArrival_tagWindow {port : PortId} {rp : BlockRecord} (h : s.slot x = .onTrack bt p (n :: path))
    (hrp : s.record p = some rp) (hport : rp.tagPort = some port) :
    vget (s.normalArrival p n .main eye x).tagWindows port =
      some { boat := x, block := p, expected := bt.tagCode, resolved := false } := by
  have hrecord : (((s.arrivedRecords p n x).unexpedited n x).record p).bind (·.tagPort) = some port := by
    rw [State.record, unexpedited_view State.layout (fun _ _ => rfl), arrivedRecords_layout]
    exact Option.bind_eq_some_iff.mpr ⟨rp, hrp, hport⟩
  obtain ⟨bt', hboat, hcode⟩ : ∃ bt', ((s.arrivedRecords p n x).unexpedited n x).boat x = some bt' ∧ bt'.tagCode = bt.tagCode := by
    rw [State.boat, unexpedited_slot_self n (arrivedRecords_slot_self h)]
    refine ⟨_, rfl, ?_⟩
    split <;> rfl
  have hopened : ((s.arrivedRecords p n x).unexpedited n x).openTagWindow p .main x =
      ((s.arrivedRecords p n x).unexpedited n x).setTagWindow port
        (some { boat := x, block := p, expected := bt.tagCode, resolved := false }) := by
    unfold State.openTagWindow
    rw [hrecord, hboat, ← hcode]
  rw [normalArrival_bay_view State.tagWindows (fun _ _ => rfl) fun _ _ => rfl, State.arrivedIn,
    openPassage_view State.tagWindows fun _ _ => rfl, hopened]
  exact vget_vput_self ..

/-! ### The trap passage (R144) -/

theorem normalArrival_brake {rn : BlockRecord} {k : BrakeSection} {j : Brake} (hrn : s.record n = some rn)
    (hk : rn.brake = some k) (hj : s.brake n = some j) : (s.normalArrival p n leg eye x).brake n = some { j with
      passage := some { boat := x, phase := .armed, eye1 := none, deadline := some (s.timeBase + msSpan k.trapTimeout) } } := by
  have hbefore {γ : Type} (v : State → γ) (hroster : ∀ t x, v { t with roster := x } = v t)
      (hwindows : ∀ t x, v { t with tagWindows := x } = v t) :
      v (((s.arrivedRecords p n x).unexpedited n x).openTagWindow p leg x) = v (s.arrivedRecords p n x) := by
    rw [openTagWindow_view v hwindows, unexpedited_view v hroster]
  have hlayout := (hbefore State.layout (fun _ _ => rfl) fun _ _ => rfl).trans (arrivedRecords_layout s p n x)
  have htime := (hbefore State.timeBase (fun _ _ => rfl) fun _ _ => rfl).trans (arrivedRecords_view s p n x State.timeBase
    (fun _ _ => rfl) (fun _ _ => rfl) (fun _ _ => rfl) (fun _ _ => rfl) (fun _ _ => rfl) (fun _ _ => rfl) fun _ _ => rfl)
  have hbrakes := (hbefore State.brakes (fun _ _ => rfl) fun _ _ => rfl).trans (arrivedRecords_view s p n x State.brakes
    (fun _ _ => rfl) (fun _ _ => rfl) (fun _ _ => rfl) (fun _ _ => rfl) (fun _ _ => rfl) (fun _ _ => rfl) fun _ _ => rfl)
  rw [State.brake, normalArrival_bay_view State.brakes (fun _ _ => rfl) fun _ _ => rfl, State.arrivedIn]
  generalize ((s.arrivedRecords p n x).unexpedited n x).openTagWindow p leg x = t at hlayout htime hbrakes
  have hrec : t.brakeRec n = some k := by
    rw [State.brakeRec, State.record, hlayout]
    exact Option.bind_eq_some_iff.mpr ⟨rn, hrn, hk⟩
  have hbrake : t.brake n = some j := (congrArg (vget · n) hbrakes).trans hj
  rw [State.openPassage, hrec]
  dsimp only
  rw [modBrake_brakes, vget_vput_self, hbrake, State.after, htime]
  rfl

/-! ### The bays (R43, R82, R92) -/

section
variable (hne : p ≠ n)
include hne

theorem arrivedRecords_bay_entered : (s.arrivedRecords p n x).bay n = s.bay n := by
  rw [arrivedRecords_bay, if_neg fun h => ((mem_arrivedRecords hne).mp h).2.1 rfl]

theorem normalArrival_bay_entered {y : Bay} (hy : s.bay n = some y) (hst : ((s.normalArrival p n leg eye x).entry n).state = .occupied) :
    (s.normalArrival p n leg eye x).bay n = some { y with phase := .berthed, entryEye := some eye } := by
  rw [normalArrival_entry, ← arrivedIn_entry s p n leg x] at hst
  have hbay : (s.arrivedIn p n leg x).bay n = some y := by
    rw [arrivedIn_bay, arrivedRecords_bay_entered hne, hy]
  rw [normalArrival_eq, if_pos hst, berth_at_eye eye hbay, moveBay_bay]

theorem normalArrival_bay_left {c : BlockId} {y : Bay} (hcp : c ≠ p) (hcn : c ≠ n) (hst : (s.entry c).state = .faulted)
    (hx : (s.entry c).occupant = some x) (hy : (s.normalArrival p n leg eye x).bay c = some y) :
    y.phase = .vacant ∧ y.weigh = none ∧ y.status = none ∧ y.returnPhase = none := by
  have hbay : (s.normalArrival p n leg eye x).bay c = (s.bay c).map Bay.vacated := by
    have hrecords : (s.arrivedIn p n leg x).bay c = (s.bay c).map Bay.vacated := by
      rw [arrivedIn_bay, arrivedRecords_bay, if_pos ((mem_arrivedRecords hne).mpr ⟨hcp, hcn, hst, hx⟩)]
    rw [normalArrival_eq]
    split
    · cases hentered : (s.arrivedIn p n leg x).bay n with
      | none => rw [berth_of_none _ hentered, hrecords]
      | some z => rw [berth_at_eye eye hentered, moveBay_bay_ne _ _ _ _ hcn, hrecords]
    · exact hrecords
  obtain ⟨z, -, rfl⟩ := Option.map_eq_some_iff.mp (hbay.symm.trans hy)
  exact ⟨rfl, rfl, rfl, rfl⟩

/-! ### The reports (R219, log entry 11) -/

theorem normalArrival_tells (hrecords : ∀ c, c ≠ p → (s.entry c).state = .faulted → (s.entry c).occupant = some x → s.bay c = none)
    (hx : ((s.normalArrival p n leg eye x).entry n).occupant = some x) :
    Tells s (s.normalArrival p n leg eye x)
      (.of .passage (some n) (some x) 0 0 p.val (min (vget s.passages n + 1) 65535) ::
        match s.bay n with
        | some y => if ((s.normalArrival p n leg eye x).entry n).state = .occupied then bayReport n (some x) y.phase .berthed else []
        | none => []) := by
  have harrived := arrivedRecords_tells hne hrecords
  have hquiet : Tells (s.arrivedRecords p n x) (s.arrivedIn p n leg x) [] :=
    .of_surroundings (arrivedIn_view State.surroundings (fun _ _ => rfl) (fun _ _ => rfl) (fun _ _ => rfl) s p n leg x)
      (arrivedIn_view State.reports (fun _ _ => rfl) (fun _ _ => rfl) (fun _ _ => rfl) s p n leg x)
  have htold := harrived.trans_nothing hquiet
  rw [normalArrival_entry, ← arrivedIn_entry s p n leg x] at hx ⊢
  have hbay : (s.arrivedIn p n leg x).bay n = s.bay n := by rw [arrivedIn_bay, arrivedRecords_bay_entered hne]
  rw [normalArrival_eq]
  cases hy : s.bay n with
  | none =>
    rw [hy] at hbay
    rw [berth_of_none _ hbay, ite_self]
    exact htold
  | some y =>
    rw [hy] at hbay
    dsimp only
    split
    · have hmoved := moveBay_tells (s.arrivedIn p n leg x) n { y with entryEye := some eye } .berthed
      rw [hx] at hmoved
      rw [berth_at_eye eye hbay]
      exact htold.trans hmoved
    · exact htold

end

end

end Sys2Proof.Machine
end

section
/-! PROOFS. The nose arrival that the path of a boat expects, from the edge of its eye on. -/

namespace Sys2Proof.Machine

open Sys2Proof

theorem holdable_of_record {s : State} {b : BlockId} {r : BlockRecord} (h : s.record b = some r) :
    s.layout.holdable b = holdableKind r.kind := by
  have hkind : s.layout.kind b = some r.kind := congrArg (Option.map BlockRecord.kind) h
  rw [LayoutStore.holdable, hkind]

theorem getLast_head_iff {n : BlockId} {path : List BlockId} (h : n ∉ path) : (n :: path).getLast? = some n ↔ path = [] := by
  refine ⟨fun hlast => ?_, fun hnil => by rw [hnil]; rfl⟩
  refine Classical.byContradiction fun hrest => ?_
  rw [List.getLast?_cons, List.getLast?_eq_some_getLast hrest] at hlast
  refine h ?_
  rw [← Option.some.inj hlast]
  exact List.getLast_mem hrest

/-- The block entered, with the limits of its record. -/
theorem enteredEntry_of_path {n : BlockId} {path : List BlockId} (x : BoatId) (holdable : Bool) (transit : Time) (h : n ∉ path) :
    enteredEntry x holdable ((n :: path).getLast? == some n) transit =
      { Entry.bare (if holdable = true ∧ path = [] then .occupied else .releasing) with
        occupant := some x
        transit := if holdable then none else some transit } := by
  have hstate : (if (holdable && ((n :: path).getLast? == some n)) = true then BlockState.occupied else .releasing) =
      if holdable = true ∧ path = [] then .occupied else .releasing := by
    simp only [Bool.and_eq_true, beq_iff_eq, getLast_head_iff h]
  rw [enteredEntry, hstate]

theorem leftBy_of_releasing {e : Entry} (h : e.state = .releasing) (t : Time) : e.leftBy t = { e with
    nose := true
    transit := none
    clearance := some t
    release := e.release.map fun r => { r with frozen := false } } := by
  rw [Entry.leftBy, if_pos h]

theorem leftBy_of_faulted {e : Entry} (hs : e.sound) (h : e.state = .faulted) (t : Time) :
    e.leftBy t = { e with nose := true } := by
  have he : e = { Entry.bare .faulted with occupant := e.occupant, nose := e.nose } := by
    rw [Entry.sound, h] at hs
    exact hs.1
  rw [he]
  rfl

/-- Settles O33: the arrival is the normal one, and each of its parts is said above. -/
theorem normalArrivalMovesTheBoat : Obligations.NormalArrivalMovesTheBoat := by
  unfold Obligations.NormalArrivalMovesTheBoat
  intro s q d p n leg x bt path rp rn hmode hq hd hseen huse hsucc hrp hrn hs hstate hx hoverlap hn hholder hslot hpath
  have hexec := exec_exitEye hmode hq hd huse
  rw [if_pos hseen] at hexec
  have hbefore : ((s.atEdge q).entry p).occupant = some x := hx
  have hposition : (s.slot x).position = some p := by rw [hslot]; rfl
  have hhead : (s.pathOf x).head? = some n := by rw [State.pathOf, hslot]; rfl
  have hne : p ≠ n := ne_of_reserved hs hx hn
  have hfaulted : (s.entry n).state ≠ .faulted := by rw [hn]; nofun
  have hservice : (s.entry n).state ≠ .outOfService := by rw [hn]; nofun
  have hheld : (s.entry p).state ≠ .occupied := by
    obtain h | h := hstate <;> rw [h] <;> nofun
  have hexpects : s.expects p n x = true := (expects_iff ..).mpr ⟨hn, hholder, hposition, hhead⟩
  have harrival : (s.atEdge q).noseArrival p leg q =
      (s.atEdge q).normalArrival p n leg q x := by
    refine (noseArrival_of_boat (s := s.atEdge q) q hsucc hfaulted hservice hheld hbefore).trans ?_
    exact (if_neg (Bool.eq_false_iff.mp hoverlap)).trans (if_pos hexpects)
  rw [harrival] at hexec
  have hpoints := normalArrival_view State.points (fun _ _ => rfl) (fun _ _ => rfl) (fun _ _ => rfl) (fun _ _ => rfl)
    (fun _ _ => rfl) (fun _ _ => rfl) (fun _ _ => rfl) (fun _ _ => rfl) (fun _ _ => rfl) (s.atEdge q) p n leg
    q x
  have hentry (c : BlockId) := (normalArrival_entry (s.atEdge q) p n leg q x c).trans
    (arrivedRecords_entry hne c)
  have htransit : s.transitLimit n = rn.transitLimit := by rw [State.transitLimit, hrn]; rfl
  have hclearance : s.clearanceLimit p = rp.clearanceLimit := by rw [State.clearanceLimit, hrp]; rfl
  have hentered : ((s.atEdge q).normalArrival p n leg q x).entry n =
      { Entry.bare (if holdableKind rn.kind = true ∧ path = [] then .occupied else .releasing) with
        occupant := some x
        transit := if holdableKind rn.kind then none else some (s.timeBase + msSpan rn.transitLimit) } := by
    rw [← holdable_of_record hrn, ← htransit, ← enteredEntry_of_path x _ _ hpath]
    refine (hentry n).trans ((if_neg hne.symm).trans ((if_pos rfl).trans ?_))
    have hpathOf : (s.atEdge q).pathOf x = n :: path := congrArg Slot.path hslot
    rw [hpathOf]
    rfl
  have hleft : ((s.atEdge q).normalArrival p n leg q x).entry p =
      (s.entry p).leftBy (s.timeBase + msSpan rp.clearanceLimit) := by
    rw [← hclearance]
    exact (hentry p).trans (if_pos rfl)
  refine ⟨_, hexec, hentered, fun h => hleft.trans (leftBy_of_releasing h _),
    fun h => hleft.trans (leftBy_of_faulted (hs p) h _), fun c hcp hcn => ?_, normalArrival_slot_self leg q hslot,
    fun y hy => normalArrival_slot_ne leg q hy, ?_, ?_, fun c hc => ?_, fun k hk => ?_, ?_, ?_, fun port hleg hport => ?_,
    fun k j hk hj => normalArrival_brake leg q hrn hk hj, fun y hy hst => normalArrival_bay_entered leg q hne hy hst,
    fun c y hcp hst hcx hy => ?_, fun hrecords => ?_⟩
  · exact (hentry c).trans ((if_neg hcp).trans (if_neg hcn))
  · exact normalArrival_view State.mc (fun _ _ => rfl) (fun _ _ => rfl) (fun _ _ => rfl) (fun _ _ => rfl) (fun _ _ => rfl)
      (fun _ _ => rfl) (fun _ _ => rfl) (fun _ _ => rfl) (fun _ _ => rfl) _ p n leg q x
  · rw [normalArrival_passages]
    exact vget_vput_self ..
  · rw [normalArrival_passages]
    exact vget_vput_ne _ _ hc
  · exact (congrArg (vget · k) hpoints).trans (setPoint_point_ne s _ hk)
  · exact (congrArg (fun v => (vget v q).level) hpoints).trans ((congrArg Point.level (setPoint_point_self s q _)).trans hseen)
  · exact (congrArg (fun v => (vget v q).pending) hpoints).trans (congrArg Point.pending (setPoint_point_self s q _))
  · subst hleg
    exact normalArrival_tagWindow q hslot hrp hport
  · have hcn : c ≠ n := fun h => hfaulted (h ▸ hst)
    exact normalArrival_bay_left (s := s.atEdge q) leg q hne hcp hcn hst hcx hy
  · have htold := normalArrival_tells (s := s.atEdge q) leg q hne hrecords (congrArg Entry.occupant hentered)
    exact (htold.after_quiet (s := s) rfl (fun _ => rfl) rfl).reportsAdded

end Sys2Proof.Machine
end

section
/-! PROOFS. Nose arrivals that no path expects. -/

namespace Sys2Proof.Machine

open Sys2Proof

/-- A block that an arrival makes FAULTED, from the edge of the eye on: the level of a point is none of what it is about. -/
theorem BlockFaulted.of_edge {s u : State} {q : PointId} {k : FaultKind} {f : BlockId} {boat : Option BoatId} {d1 d2 d3 : Nat}
    (h : BlockFaulted (s.atEdge q) u k f boat d1 d2 d3) : BlockFaulted s u k f boat d1 d2 d3 := h

/-- Settles O34: the row of R37 decides the report or the fault, and the fault its block. -/
theorem wrongArrivalsRaiseTheirFaults : Obligations.WrongArrivalsRaiseTheirFaults := by
  unfold Obligations.WrongArrivalsRaiseTheirFaults
  intro s q d p n leg hmode hq hd hseen huse hsucc
  have hexec := exec_exitEye hmode hq hd huse
  rw [if_pos hseen] at hexec
  have hrow {u : State} (h : (s.atEdge q).noseArrival p leg q = u) : exec (.inputAcceptance q) s = .next u.finish :=
    hexec.trans (congrArg (fun t => Host.Outcome.next t.finish) h)
  refine ⟨fun h => ?_, fun h => ?_, fun hfaulted hservice => ⟨fun h => ?_, fun h => ⟨fun x hx hoverlap => ?_, fun hwrong => ?_⟩⟩⟩
  · refine ⟨_, hrow (noseArrival_faulted q hsucc h), passageReport_table .., passageReport_roster .., passageReport_mc ..,
      passageReport_passages .., passageReport_tagWindows .., ?_⟩
    have htold := passageReport_tells (s.atEdge q) n (s.entry p).occupant (i := 1) (j := 0) (k := 0) p (by decide) (by decide)
      (by decide)
    exact (htold.after_quiet (s := s) rfl (fun _ => rfl) rfl).reportsAdded
  · have hkept : OthersKept (s.atEdge q) _ [] :=
      raise_othersKept (k := .unexpectedArrival) rfl (s.atEdge q) (some n) (s.entry p).occupant (detail)
    have htaken := raise_faultTaken (s.atEdge q) .unexpectedArrival (some n) (s.entry p).occupant (detail)
    have htold := raise_tells (s.atEdge q) .unexpectedArrival (some n) (s.entry p).occupant (detail)
    exact ⟨_, hrow (noseArrival_outOfService q hsucc h), hkept, raise_roster .., htaken, raise_mode ..,
      (htold.after_quiet (s := s) rfl (fun _ => rfl) rfl).reportsAdded⟩
  · exact ⟨_, hrow (noseArrival_unreleased q hsucc hfaulted hservice h),
      (faultAt_blockFaulted (k := .unreleasedDeparture) rfl _ 0 0 0).of_edge⟩
  · refine ⟨_, hrow ((noseArrival_of_boat (s := s.atEdge q) q hsucc hfaulted hservice h hx).trans (if_pos hoverlap)), ?_⟩
    exact (faultAt_blockFaulted (k := .boundaryOverlap) rfl _ 0 0 0).of_edge
  · obtain hnone | ⟨x, hx, hoverlap, hunexpected⟩ := hwrong
    · rw [hnone]
      exact ⟨_, hrow (noseArrival_empty (s := s.atEdge q) q hsucc hfaulted hservice h hnone),
        (faultAt_blockFaulted (k := .unexpectedArrival) rfl _ 0 0 0).of_edge⟩
    · rw [hx]
      have hunexpected' : ¬(s.atEdge q).expects p n x = true := Bool.eq_false_iff.mp (expects_false (s := s.atEdge q) hunexpected)
      have hoverlap' : ¬(s.atEdge q).overlapped p x = true := Bool.eq_false_iff.mp hoverlap
      exact ⟨_, hrow ((noseArrival_of_boat (s := s.atEdge q) q hsucc hfaulted hservice h hx).trans
        ((if_neg hoverlap').trans (if_neg hunexpected'))), (faultAt_blockFaulted (k := .unexpectedArrival) rfl _ 0 0 0).of_edge⟩

end Sys2Proof.Machine
end

section
/-! PROOFS. The deadlines of the block table: a kick repeated, a stall, a lost boat, a boat stuck at its boundary. -/

namespace Sys2Proof.Machine

open Sys2Proof

/-! ### A deadline that has passed -/

theorem transitDue_of {s : State} {b : BlockId} {d : Time} (hst : (s.entry b).state = .releasing)
    (h : (s.entry b).transit = some d) (hd : reached s.timeBase d = true) : s.transitDue b = some d := by
  rw [State.transitDue, if_pos hst, h]
  exact Option.filter_some_pos hd

theorem exec_holdableTransitDeadline {s : State} {b : BlockId} {d : Time} (hst : (s.entry b).state = .releasing)
    (h : (s.entry b).transit = some d) (hd : reached s.timeBase d = true) (hholdable : s.layout.holdable b = true) :
    exec (.holdableTransitDeadline b) s = .next (s.transitEvent b d).finish := by
  have hdue : s.holdableTransitDue b = some d := by
    rw [State.holdableTransitDue, if_pos hholdable, transitDue_of hst h hd]
  rw [exec, execHoldableTransitDeadline, hdue]

theorem exec_lostBoat {s : State} {b : BlockId} {d : Time} (hst : (s.entry b).state = .releasing)
    (h : (s.entry b).transit = some d) (hd : reached s.timeBase d = true) (hholdable : s.layout.holdable b = false) :
    exec (.lostBoat b) s = .next (s.faultAt .lostBoat b (s.entry b).occupant (detail)).finish := by
  have hdue : s.lostDue b = true := by
    rw [State.lostDue, transitDue_of hst h hd, hholdable]
    rfl
  rw [exec, execLostBoat, if_pos hdue]

theorem exec_stuckAtBoundary {s : State} {b : BlockId} {d : Time} (hst : (s.entry b).state = .releasing)
    (h : (s.entry b).clearance = some d) (hd : reached s.timeBase d = true) :
    exec (.stuckAtBoundary b) s = .next (s.faultAt .stuckAtBoundary b (s.entry b).occupant (detail)).finish := by
  have hdue : s.stuckDue b = true := by
    rw [State.stuckDue, hst, h]
    exact hd
  rw [exec, execStuckAtBoundary, if_pos hdue]

/-! ### The transit deadline of a holdable block (R48 to R50) -/

section
variable {s : State} {b : BlockId} {d : Time}

/-- The kicker fires again while retries remain. -/
theorem transitEvent_retries {r : Release} {rec : BlockRecord} (hr : (s.entry b).release = some r) (hrec : s.record b = some rec)
    (hkind : s.layout.kind b = some .launch) (hretries : 0 < r.retries) :
    s.transitEvent b d = (s.setEntry b { s.entry b with
      transit := some (d + msSpan rec.transitLimit)
      release := some { r with retries := r.retries - 1 } }).firePulse b := by
  have hlimit : s.transitLimit b = rec.transitLimit := by
    rw [State.transitLimit, hrec]
    rfl
  have hboth : s.layout.kind b = some .launch ∧ 0 < r.retries := ⟨hkind, hretries⟩
  unfold State.transitEvent
  dsimp only
  rw [hr]
  dsimp only
  rw [if_pos hboth, hlimit]

theorem transitEvent_stalls (h : s.layout.kind b ≠ some .launch ∨ ∀ r, (s.entry b).release = some r → r.retries = 0) :
    s.transitEvent b d = s.stall b := by
  unfold State.transitEvent
  dsimp only
  split
  case h_1 r hr =>
    refine if_neg fun hboth => ?_
    obtain hkind | hzero := h
    · exact hkind hboth.1
    · exact absurd (hzero r hr) (Nat.ne_of_gt hboth.2)
  case h_2 => rfl

end

theorem kind_of_launch {s : State} {b : BlockId} {rec : BlockRecord} {dr : DriveSection} {ln : LaunchSection}
    (hrec : s.record b = some rec) (hf : rec.fields = .launch dr ln) : s.layout.kind b = some .launch := by
  have hkind : s.layout.kind b = some rec.kind := congrArg (Option.map BlockRecord.kind) hrec
  rw [hkind, BlockRecord.kind, hf]

/-! ### A stall of a bay that returns to BERTHED (R83, R91) -/

theorem afterBerthed_congr {s t : State} (htime : t.timeBase = s.timeBase) (hlayout : t.layout = s.layout) (y : Bay) (p : Phase)
    (role : BayRole) (x : BoatId) (guests : Bool) :
    t.afterBerthed { y with phase := p } role x guests = s.afterBerthed y role x guests := by
  have hattempt : t.firstAttempt .tare x = s.firstAttempt .tare x := by
    rw [State.firstAttempt, State.firstAttempt, htime, hlayout]
  unfold State.afterBerthed
  rw [hattempt]

section
variable {s : State} {b : BlockId} {x : BoatId} {bt : Boat} {pos : BlockId} {path : List BlockId}
  (hx : (s.entry b).occupant = some x) (hslot : s.slot x = .onTrack bt pos path)
include hx hslot

theorem stall_slot_self : (s.stall b).slot x = .onTrack bt pos [] := by
  rw [stall_slot hx, if_pos rfl, hslot]
  rfl

theorem stall_bay_berthed {y : Bay} (hy : s.bay b = some y) (hphase : y.phase = .released)
    (hreturn : y.returnPhase = some .berthed) (heye : y.entryEye = none) {rec : BlockRecord} {z : BaySection}
    (hrec : s.record b = some rec) (hz : rec.bay = some z) :
    (s.stall b).bay b = some (s.afterBerthed { y with returnPhase := none } z.role x bt.guests) := by
  have hboat := congrArg Slot.boat (stall_slot_self hx hslot)
  rw [stall_eq_bayReturn hx, State.slot, bayReturn_roster] at hboat
  have hlayout : (s.stallRaised b x).layout = s.layout := (raise_layout ..).trans
    (takenBackFrom_view State.layout (fun _ _ => rfl) (fun _ _ => rfl) (fun _ _ => rfl) fun _ _ => rfl)
  have htime : (s.stallRaised b x).timeBase = s.timeBase := (raise_timeBase ..).trans
    (takenBackFrom_view State.timeBase (fun _ _ => rfl) (fun _ _ => rfl) (fun _ _ => rfl) fun _ _ => rfl)
  have hoccupant := stallRaised_occupant hx
  rw [stall_eq_bayReturn hx, bayReturn_eq ((stallRaised_bay b).trans hy) hphase hreturn, if_pos ⟨rfl, heye⟩]
  generalize s.stallRaised b x = t at hboat hlayout htime hoccupant
  have hview {γ : Type} (v : State → γ) (hbays : ∀ t x, v { t with bays := x } = v t)
      (hreports : ∀ t x, v { t with reports := x } = v t) :
      v (t.moveBay b { y with returnPhase := none } .berthed) = v t := moveBay_view t b _ _ v hbays hreports
  have hrole : (t.moveBay b { y with returnPhase := none } .berthed).bayRole b = some z.role := by
    refine bayRole_eq (rec := rec) ?_ hz
    rw [State.record, hview State.layout (fun _ _ => rfl) fun _ _ => rfl, hlayout]
    exact hrec
  have hstands : ((t.moveBay b { y with returnPhase := none } .berthed).entry b).occupant = some x := by
    rw [State.entry, hview State.table (fun _ _ => rfl) fun _ _ => rfl]
    exact hoccupant
  have hguests : (t.moveBay b { y with returnPhase := none } .berthed).guestsIn b = bt.guests := by
    refine guestsIn_eq hstands ?_
    rw [State.boat, State.slot, hview State.roster (fun _ _ => rfl) fun _ _ => rfl]
    exact hboat
  rw [endBerthed_bay (moveBay_bay ..) hrole hstands hguests]
  exact congrArg some (afterBerthed_congr ((hview State.timeBase (fun _ _ => rfl) fun _ _ => rfl).trans htime)
    ((hview State.layout (fun _ _ => rfl) fun _ _ => rfl).trans hlayout) ..)

end

/-- Settles O36: the kick or the stall of a holdable block, and the faults of the other two deadlines. -/
theorem blockDeadlinesActOnTheBlock : Obligations.BlockDeadlinesActOnTheBlock := by
  unfold Obligations.BlockDeadlinesActOnTheBlock
  rintro s b d e rfl hst hd
  refine ⟨fun r rec dr ln htransit hrec hf hr hretries => ?_, fun x bt pos path htransit hholdable hlast hx hslot => ?_,
    fun htransit hholdable => ?_, fun hclearance => ?_⟩
  · have hkind := kind_of_launch hrec hf
    have hholdable : s.layout.holdable b = true := by
      rw [LayoutStore.holdable, hkind]
      rfl
    have hexec := exec_holdableTransitDeadline hst htransit hd hholdable
    rw [transitEvent_retries hr hrec hkind hretries] at hexec
    refine ⟨_, hexec, ?_, fun c hc => ?_, ?_, firePulse_roster .., firePulse_mc .., firePulse_reports ..⟩
    · rw [State.entry, firePulse_table]
      exact setEntry_entry_self ..
    · rw [State.entry, firePulse_table]
      exact setEntry_entry_ne _ _ hc
    · have hrec' : (s.setEntry b { s.entry b with
          transit := some (d + msSpan rec.transitLimit)
          release := some { r with retries := r.retries - 1 } }).record b = some rec := hrec
      rw [firePulse_of_launch hrec' hf, setChannel_channel_self]
      rfl
  · have hexec := exec_holdableTransitDeadline hst htransit hd hholdable
    rw [transitEvent_stalls hlast] at hexec
    obtain ⟨htaken, hmode, htold⟩ := stallRaised_fault (s := s) (b := b) (x := x)
    have hpath : s.pathOf x = path := by rw [State.pathOf, hslot]; rfl
    refine ⟨_, hexec, ?_, fun c hc => ?_, stall_slot_self hx hslot, fun y hy => ?_, htaken.congr rfl rfl (stall_mc hx),
      (mode_of_mc (stall_mc hx)).trans hmode, fun k hk hkind => ?_, fun hnone => ?_, fun y ph hy hphase hreturn => ⟨fun heye => ?_,
      fun hph heye rec z hrec hz => ?_⟩, fun y hy hphase => ?_, fun c hc => stall_bay_ne hx hc⟩
    · rw [stall_entry hx, if_pos rfl]
    · rw [stall_entry hx, if_neg hc, hpath]
    · rw [stall_slot hx, if_neg hy]
    · rw [stall_brake hx, if_pos rfl, hk, Option.map_some, if_pos hkind]
    · rw [stall_of_other hx fun y p hy => nomatch hnone.symm.trans hy]
      exact htold.reportsAdded
    · rw [stall_of_released hx hy hphase hreturn heye, moveBay_bay]
      refine ⟨rfl, ?_⟩
      have hmoved := moveBay_tells (s.stallRaised b x) b { y with returnPhase := none } ph
      rw [stallRaised_occupant hx] at hmoved
      exact hphase ▸ (htold.trans hmoved).reportsAdded
    · subst hph
      exact stall_bay_berthed hx hslot hy hphase hreturn heye hrec hz
    · have hother : ∀ z p, s.bay b = some z → z.phase = .released → z.returnPhase = some p → False := by
        intro z p hz hreleased
        cases hz.symm.trans hy
        exact absurd hreleased hphase
      rw [stall_of_other hx hother, stallRaised_bay, hy]
  · exact ⟨_, exec_lostBoat hst htransit hd hholdable, faultAt_blockFaulted (k := .lostBoat) rfl _ 0 0 0⟩
  · exact ⟨_, exec_stuckAtBoundary hst hclearance hd, faultAt_blockFaulted (k := .stuckAtBoundary) rfl _ 0 0 0⟩

end Sys2Proof.Machine
end

section
/-! PROOFS. The deadlines of launch records, brake records and channels, and a trap that fails. -/

namespace Sys2Proof.Machine

open Sys2Proof

/-! ### A trap that fails (R148, R149, R158) -/

theorem missingEye_eq (g : Passage) : g.missingEye = g.missing := by
  obtain ⟨boat, phase, eye1, deadline⟩ := g
  cases phase <;> rfl

theorem missing_le (g : Passage) : g.missing ≤ 2 := by
  rw [← missingEye_eq, Passage.missingEye]
  split <;> decide

/-- A brake record as a trap that fails leaves it. -/
def Brake.trapFailed (k : Brake) (r : BrakeSection) (p : Passage) (engage : Bool) : Brake :=
  { k with
    passage := some p.ended
    hold := engage || k.hold
    lastLevel := some 15
    zone := match r.zoneMode with
      | .perPassage => { trapFault := true, clamped := false, margin := false }
      | .accumulate => { k.zone with trapFault := true } }

/-- The failed trap written in the brake record, before its fault. -/
def State.trapEnded (s : State) (b : BlockId) (r : BrakeSection) (p : Passage) (engage : Bool) : State :=
  s.modBrake b fun k => k.trapFailed r p engage

theorem zoneAfter_trapFault (mode : ZoneMode) (z : Zone) :
    zoneAfter mode z { trapFault := true, clamped := false, margin := false } = match mode with
      | .perPassage => { trapFault := true, clamped := false, margin := false }
      | .accumulate => { z with trapFault := true } := by
  cases mode with
  | perPassage => rfl
  | accumulate =>
    rw [zoneAfter, Bool.or_true, Bool.or_false, Bool.or_false]

theorem trapFails_eq (s : State) (b : BlockId) (r : BrakeSection) (p : Passage) (engage : Bool) :
    s.trapFails b r p engage =
      (s.trapEnded b r p engage).raise .trapFault (some b) (some p.boat) { d1 := p.missing, d2 := 15, d3 := 0, d4 := 0 } := by
  have hbrake (k : Brake) : { k with
      passage := some p.finish
      hold := engage || k.hold
      lastLevel := some 15
      zone := zoneAfter r.zoneMode k.zone { trapFault := true, clamped := false, margin := false } } =
      k.trapFailed r p engage := by
    rw [zoneAfter_trapFault]
    rfl
  have hmissing := missing_le p
  rw [State.trapFails]
  simp only [hbrake]
  rw [missingEye_eq, detail_small _ _ _ _ (by omega) (by omega) (by omega) (by omega)]
  rfl

section
variable {s : State} {b : BlockId} (r : BrakeSection) (p : Passage) (engage : Bool)

theorem trapFails_brakes : (s.trapFails b r p engage).brakes = (s.trapEnded b r p engage).brakes := by
  rw [trapFails_eq, raise_brakes]

theorem trapFails_brake_self {k : Brake} (hk : s.brake b = some k) :
    (s.trapFails b r p engage).brake b = some (k.trapFailed r p engage) := by
  rw [State.brake, trapFails_brakes, State.trapEnded, modBrake_brakes, vget_vput_self, hk]
  rfl

theorem trapFails_brake_ne {c : BlockId} (hc : c ≠ b) : (s.trapFails b r p engage).brake c = s.brake c := by
  rw [State.brake, trapFails_brakes]
  exact vget_vput_ne _ _ hc

theorem trapFails_fault : FaultTaken s (s.trapFails b r p engage) .trapFault (some b) (some p.boat) ∧
    (s.trapFails b r p engage).mode = modeAfterFault .hold s.mode ∧
    Tells s (s.trapFails b r p engage) (s.faultReports .trapFault (some b) (some p.boat) p.missing 15 0 0) := by
  rw [trapFails_eq]
  have hquiet : Tells s (s.trapEnded b r p engage) [] := .of_surroundings rfl rfl
  exact raise_after (s := s) (v := s.trapEnded b r p engage) rfl rfl rfl hquiet .trapFault (some b) (some p.boat)
    { d1 := p.missing, d2 := 15, d3 := 0, d4 := 0 }

theorem trapFails_table : (s.trapFails b r p engage).table = s.table := by
  rw [trapFails_eq]
  exact raise_table_of_ne (by decide) ..

end

theorem brakeRec_of_record {s : State} {b : BlockId} {rec : BlockRecord} {r : BrakeSection} (hrec : s.record b = some rec)
    (hr : rec.brake = some r) : s.brakeRec b = some r := Option.bind_eq_some_iff.mpr ⟨rec, hrec, hr⟩

/-! ### The deadlines -/

section
variable {s : State} {b : BlockId} {d : Time} (hd : reached s.timeBase d = true)
include hd

theorem exec_headwayDeadline {r : LaunchRecord} (hr : s.launchRec b = some r) (h : r.headway = some d) :
    exec (.headwayDeadline b) s =
      .next ({ s with launches := vput s.launches b (some { r with headway := none }) } : State).finish := by
  have hdue : s.headwayDue b = true := by
    rw [State.headwayDue, hr, Option.bind_some, h]
    exact hd
  rw [exec, execHeadwayDeadline, if_pos hdue, State.endHeadway, hr]
  rfl

theorem exec_stopDelayDeadline {k : Brake} (hk : s.brake b = some k) (h : k.stopDelay = some d) :
    exec (.stopDelayDeadline b) s =
      .next ({ s with brakes := vput s.brakes b (some { k with stopDelay := none, hold := true }) } : State).finish := by
  have hdue : s.stopDelayDue b = true := by
    rw [State.stopDelayDue, hk, Option.bind_some, h]
    exact hd
  rw [exec, execStopDelayDeadline, if_pos hdue, State.engageHold, State.modBrake, hk]
  rfl

theorem exec_pulseDeadline {c : ChannelId} (h : (s.channel c).pulse = some d) :
    exec (.pulseDeadline c) s =
      .next ({ s with channels := vput s.channels c { s.channel c with pulse := none } } : State).finish := by
  have hdue : s.pulseDue c = true := by
    rw [State.pulseDue, h]
    exact hd
  rw [exec, execPulseDeadline, if_pos hdue]
  rfl

theorem exec_trapDeadline {r : BrakeSection} {k : Brake} {p : Passage} (hr : s.brakeRec b = some r) (hk : s.brake b = some k)
    (hp : k.passage = some p) (h : p.deadline = some d) :
    exec (.trapDeadline b) s = .next (s.trapFails b r p (s.layout.kind b == some .runout)).finish := by
  have hreached : due s.timeBase p.deadline = true := by
    rw [h]
    exact hd
  have hdue : s.trapDue b = some p := by
    rw [State.trapDue, hk, Option.bind_some, hp]
    exact Option.filter_some_pos hreached
  rw [exec, execTrapDeadline, hr, hdue]

end

/-- Settles O37: each deadline acts on the one record it stands in. -/
theorem unitDeadlinesActOnTheirRecords : Obligations.UnitDeadlinesActOnTheirRecords := by
  unfold Obligations.UnitDeadlinesActOnTheirRecords
  refine ⟨fun s b r d hr h hd => exec_headwayDeadline hd hr h, fun s b k d hk h hd => exec_stopDelayDeadline hd hk h,
    fun s c d h hd => exec_pulseDeadline hd h, fun s b rec r k p d hrec hr hk hp h hd => ?_⟩
  have hexec := exec_trapDeadline hd (brakeRec_of_record hrec hr) hk hp h
  have hkind : s.layout.kind b = some rec.kind := congrArg (Option.map BlockRecord.kind) hrec
  have hrunout : (s.layout.kind b == some .runout) = (rec.kind == .runout) := by
    rw [hkind]
    rfl
  obtain ⟨htaken, hmode, htold⟩ := trapFails_fault (s := s) (b := b) r p (rec.kind == .runout)
  rw [hrunout] at hexec
  refine ⟨_, hexec, ?_, fun c hc => trapFails_brake_ne r p _ hc, trapFails_table r p _, ?_, htaken, hmode, htold.reportsAdded⟩
  · rw [trapFails_brake_self r p _ hk, Bool.or_comm k.hold]
    rfl
  · rw [trapFails_eq, raise_roster]
    rfl

end Sys2Proof.Machine
end

section
/-! PROOFS. A tag read against the window of its port. -/

namespace Sys2Proof.Machine

open Sys2Proof

section
variable {s : State} {port : PortId} {code : Nat}

theorem takeTag_untaken (h : s.mode = .configure ∨ s.layout.portAssigned port = false) : s.takeTag port code = s := if_pos h

theorem takeTag_eq (hmode : s.mode ≠ .configure) (hport : s.layout.portAssigned port = true) :
    s.takeTag port code = match vget s.tagWindows port with
      | none => s.discardTag
      | some w =>
        if w.resolved then s.discardTag
        else if code = w.expected then s.setTagWindow port (some { w with resolved := true })
        else (s.setTagWindow port (some { w with resolved := true })).raise .tagMismatch (some w.block) (some w.boat)
          (detail w.expected code (((s.slotOfCode code).map (·.val)).getD 255) port.val) := by
  have htaken : ¬(s.mode = .configure ∨ s.layout.portAssigned port = false) :=
    not_or.mpr ⟨hmode, by rw [hport]; nofun⟩
  exact if_neg htaken

theorem takeTag_discarded (hmode : s.mode ≠ .configure) (hport : s.layout.portAssigned port = true)
    (h : ∀ w, vget s.tagWindows port = some w → w.resolved = true) :
    s.takeTag port code = { s with tagDiscards := min (s.tagDiscards + 1) 65535 } := by
  rw [takeTag_eq hmode hport]
  split
  case h_1 => rfl
  case h_2 w hw => exact if_pos (h w hw)

section
variable {w : TagWindow} (hmode : s.mode ≠ .configure) (hport : s.layout.portAssigned port = true)
  (hw : vget s.tagWindows port = some w) (hresolved : w.resolved = false)
include hmode hport hw hresolved

theorem takeTag_resolves (hcode : code = w.expected) :
    s.takeTag port code = { s with tagWindows := vput s.tagWindows port (some { w with resolved := true }) } := by
  rw [takeTag_eq hmode hport, hw]
  exact (if_neg (Bool.eq_false_iff.mp hresolved)).trans (if_pos hcode)

theorem takeTag_mismatch (hcode : code ≠ w.expected) :
    s.takeTag port code = (s.setTagWindow port (some { w with resolved := true })).raise .tagMismatch (some w.block)
      (some w.boat) (detail w.expected code (((s.slotOfCode code).map (·.val)).getD 255) port.val) := by
  rw [takeTag_eq hmode hport, hw]
  exact (if_neg (Bool.eq_false_iff.mp hresolved)).trans (if_neg hcode)

end

/-- The slot that a mismatch names. -/
theorem slotOfCode_named {slot : Nat} (h : (∀ x bt, s.boat x = some bt → bt.tagCode ≠ code) ∧ slot = 255 ∨
    ∃ x bt, s.boat x = some bt ∧ bt.tagCode = code ∧ slot = x.val ∧
      ∀ y u, s.boat y = some u → u.tagCode = code → y = x) : ((s.slotOfCode code).map (·.val)).getD 255 = slot := by
  obtain ⟨hnone, rfl⟩ | ⟨x, bt, hx, hcode, rfl, hunique⟩ := h
  · rw [slotOfCode_of_new hnone]
    rfl
  · rw [slotOfCode_some hx hcode hunique]
    rfl

end

theorem slot_le_255 (o : Option BoatId) : (o.map (·.val)).getD 255 ≤ 255 := by
  cases o with
  | none => exact Nat.le_refl 255
  | some x => exact Nat.le_of_lt (Nat.lt_trans x.isLt (by decide))

theorem detail_eq_cap (a b c d : Nat) : detail a b c d = { d1 := cap a, d2 := cap b, d3 := cap c, d4 := cap d } := rfl

theorem cap_of_le {n : Nat} (h : n ≤ 16777215) : cap n = n := Nat.min_eq_left h

/-- Settles O42: the window decides what the read does. -/
theorem tagReadsResolveTheWindow : Obligations.TagReadsResolveTheWindow := by
  unfold Obligations.TagReadsResolveTheWindow
  intro s port code hsmall
  have hrow {t : State} (h : s.takeTag port code = t) : exec (.tagRead port code) s = .next t.finish :=
    congrArg (fun t : State => (Host.Outcome.next t.finish : Host.Outcome State Fault Refusal)) h
  refine ⟨fun hmode => ?_, fun hport => hrow (takeTag_untaken (.inr hport)), fun hmode hport => ⟨fun h => ?_,
    fun w hw hresolved => ⟨fun hcode => ?_, fun hcode => ?_⟩⟩⟩
  · have hexec := hrow (takeTag_untaken (port := port) (code := code) (.inl hmode))
    rwa [finish_configure s hmode] at hexec
  · exact hrow (takeTag_discarded hmode hport h)
  · exact hrow (takeTag_resolves hmode hport hw hresolved hcode)
  · have hquiet : Tells s (s.setTagWindow port (some { w with resolved := true })) [] := .of_surroundings rfl rfl
    obtain ⟨htaken, hafter, htold⟩ := raise_after (s := s) (v := s.setTagWindow port (some { w with resolved := true })) rfl rfl rfl
      hquiet .tagMismatch (some w.block) (some w.boat)
      (detail w.expected code (((s.slotOfCode code).map (·.val)).getD 255) port.val)
    refine ⟨_, hrow (takeTag_mismatch hmode hport hw hresolved hcode), raise_tagWindows .., raise_roster ..,
      raise_table_of_ne (by decide) .., htaken, hafter, fun slot hslot => ?_⟩
    have hnamed := slotOfCode_named hslot
    have hvalue := slot_le_255 (s.slotOfCode code)
    have hportval := port.isLt
    have hdetails : detail w.expected code (((s.slotOfCode code).map (·.val)).getD 255) port.val =
        { d1 := cap w.expected, d2 := code, d3 := slot, d4 := port.val } := by
      rw [hnamed] at hvalue ⊢
      rw [detail_eq_cap, cap_of_le hsmall, cap_of_le (Nat.le_trans hvalue (by decide)), cap_of_le (Nat.le_trans (Nat.le_of_lt hportval) (by decide))]
    rw [hdetails] at htold ⊢
    exact htold.reportsAdded

end Sys2Proof.Machine
end

section
/-! PROOFS. The faults of the Drive Supervisor: switch travel, feedback checks and switch positions. -/

namespace Sys2Proof.Machine

open Sys2Proof

theorem unchecked_iff (st : BlockState) : unchecked st = true ↔ st = .faulted ∨ st = .outOfService := by
  cases st <;> decide

/-! ### A fault against a block (R54) -/

/-- What a fault of the Drive Supervisor does to a block with an entry to lose, and to one without. -/
structure Faulted (s u : State) (k : FaultKind) (b : BlockId) (d1 d2 d3 : Nat) : Prop where
  block : (s.entry b).state ≠ .faulted → (s.entry b).state ≠ .outOfService →
    BlockFaulted s u k b (s.entry b).occupant d1 d2 d3
  raised : (s.entry b).state = .faulted ∨ (s.entry b).state = .outOfService →
    FaultTaken s u k (some b) (s.entry b).occupant ∧ u.mode = modeAfterFault .halt s.mode ∧ OthersKept s u [] ∧
      u.roster = s.roster ∧ (∀ w, s.switchRec b = some w → u.switchRec b = some w.stopped) ∧
      ReportsAdded s u (s.faultReports k (some b) (s.entry b).occupant d1 d2 d3 0)

/-- The moves a block's switch drops before its fault are none of the rest. -/
theorem raise_dropped {k : FaultKind} (hk : k.cls = .halt) (s : State) (b : BlockId) (x : Option BoatId) (d1 d2 d3 : Nat)
    {u : State} (hu : u = (s.modSwitch b (·.dropMove)).raise k (some b) x { d1 := d1, d2 := d2, d3 := d3, d4 := 0 }) :
    FaultTaken s u k (some b) x ∧ u.mode = modeAfterFault .halt s.mode ∧ OthersKept s u [] ∧ u.roster = s.roster ∧
      (∀ w, s.switchRec b = some w → u.switchRec b = some w.stopped) ∧
      ReportsAdded s u (s.faultReports k (some b) x d1 d2 d3 0) := by
  have hquiet : Tells s (s.modSwitch b (·.dropMove)) [] := .of_surroundings rfl rfl
  obtain ⟨htaken, hmode, htold⟩ := raise_after (s := s) (v := s.modSwitch b (·.dropMove)) rfl rfl rfl hquiet k (some b) x
    { d1 := d1, d2 := d2, d3 := d3, d4 := 0 }
  have hkept : OthersKept (s.modSwitch b (·.dropMove)) _ [] :=
    raise_othersKept hk (s.modSwitch b (·.dropMove)) (some b) x { d1 := d1, d2 := d2, d3 := d3, d4 := 0 }
  subst hu
  refine ⟨htaken, hk ▸ hmode, hkept, raise_roster .., fun w hw => ?_, htold.reportsAdded⟩
  have hdropped : vget (s.modSwitch b (·.dropMove)).switches b = some w.stopped := by
    rw [modSwitch_switches, vget_vput_self, hw, Option.map_some, dropMove_eq_stopped]
  have htwice : w.stopped.dropMove = w.stopped := rfl
  rw [State.switchRec, raise_switches]
  split
  · rw [vget_vmap, hdropped, Option.map_some, htwice]
  · exact hdropped

theorem driveFault_faulted {k : FaultKind} (hk : k.cls = .halt) (s : State) (b : BlockId) (d1 d2 d3 : Nat) :
    Faulted s (s.driveFault k b { d1 := d1, d2 := d2, d3 := d3, d4 := 0 }) k b d1 d2 d3 := by
  refine ⟨fun hfaulted hservice => ?_, fun h => ?_⟩
  · have hchecked : ¬unchecked (s.entry b).state = true := fun h =>
      ((unchecked_iff _).mp h).elim hfaulted hservice
    have hfault : s.driveFault k b { d1 := d1, d2 := d2, d3 := d3, d4 := 0 } =
        s.faultAt k b (s.entry b).occupant { d1 := d1, d2 := d2, d3 := d3, d4 := 0 } := if_neg hchecked
    rw [hfault]
    exact faultAt_blockFaulted hk _ d1 d2 d3
  · exact raise_dropped hk s b _ d1 d2 d3 (if_pos ((unchecked_iff _).mpr h))

theorem driveFault_channels (s : State) (k : FaultKind) (b : BlockId) (d : Details) :
    (s.driveFault k b d).channels = s.channels := by
  unfold State.driveFault
  dsimp only
  split
  · exact raise_channels ..
  · exact faultAt_channels ..

/-! ### The deadlines (R132, R174, R175) -/

theorem Leg.code_le (g : Leg) : g.code ≤ 1 := by cases g <;> decide

theorem Reading.code_le (r : Reading) : r.code ≤ 2 := by cases r <;> decide

theorem readingCode_eq {s : State} {b : BlockId} {w : SwitchRecord} (hw : s.switchRec b = some w) :
    s.readingCode b = w.reading.code := by
  rw [State.readingCode, hw]

section
variable {s : State} {b : BlockId} {d : Time} (hd : reached s.timeBase d = true)
include hd

theorem exec_switchTravel {w : SwitchRecord} {leg : Leg} (hw : s.switchRec b = some w) (h : w.move = some (leg, d)) :
    exec (.switchTravel b) s =
      .next (s.driveFault .switchTravel b { d1 := leg.code, d2 := w.reading.code, d3 := 0, d4 := 0 }).finish := by
  have hmove : ((s.switchRec b).bind (·.move)).filter (fun m => reached s.timeBase m.2) = some (leg, d) := by
    rw [hw, Option.bind_some, h]
    exact Option.filter_some_pos hd
  have hdue : s.travelDue b = some leg := by
    rw [State.travelDue, hmove]
    rfl
  have hleg := leg.code_le
  have hreading := w.reading.code_le
  rw [exec, execSwitchTravel, hdue, readingCode_eq hw]
  dsimp only
  rw [detail_small _ _ _ _ (by omega) (by omega) (by omega) (by omega)]

theorem exec_checkDeadline {c : ChannelId} (howner : (s.channel c).owner = some b) (h : (s.channel c).check = some d) :
    exec (.checkDeadline c) s = .next ((s.setChannel c { s.channel c with check := none }).driveFault .actuatorMismatch b
      { d1 := c.val, d2 := cap (s.channel c).command.code, d3 := (s.feedbackLevel b).toNat, d4 := 0 }).finish := by
  have hreached : due s.timeBase (s.channel c).check = true := by
    rw [h]
    exact hd
  have hdue : s.checkDue c = some b := (if_pos hreached).trans howner
  have hchannel := c.isLt
  have hlevel : (s.feedbackLevel b).toNat ≤ 1 := Bool.toNat_le _
  rw [exec, execCheckDeadline, hdue]
  dsimp only
  rw [State.checkFails, detail_eq_cap, cap_of_le (Nat.le_trans (Nat.le_of_lt hchannel) (by decide)), cap_of_le (Nat.le_trans hlevel (by decide))]
  rfl

theorem exec_positionDeadline {c : ChannelId} {w : SwitchRecord} (howner : (s.channel c).owner = some b)
    (h : (s.channel c).position = some d) (hw : s.switchRec b = some w) :
    exec (.positionDeadline c) s = .next ((s.setChannel c { s.channel c with position := none }).driveFault .actuatorMismatch b
      { d1 := c.val, d2 := (w.held.map (·.code)).getD 255, d3 := w.reading.code, d4 := 0 }).finish := by
  have hreached : due s.timeBase (s.channel c).position = true := by
    rw [h]
    exact hd
  have hdue : s.positionDue c = some b := (if_pos hreached).trans howner
  have hchannel := c.isLt
  have hreading := w.reading.code_le
  have hheld : (w.held.map (·.code)).getD 255 ≤ 255 := by
    cases w.held with
    | none => exact Nat.le_refl 255
    | some g => exact Nat.le_trans g.code_le (by decide)
  rw [exec, execPositionDeadline, hdue]
  dsimp only
  rw [State.positionFails, hw, readingCode_eq hw]
  dsimp only [Option.bind_some]
  rw [detail_small _ _ _ _ (by omega) (by omega) (by omega) (by omega)]

end

theorem Faulted.of_channel {s u : State} {c : ChannelId} {ch : Channel} {k : FaultKind} {b : BlockId} {d1 d2 d3 : Nat}
    (h : Faulted (s.setChannel c ch) u k b d1 d2 d3) : Faulted s u k b d1 d2 d3 := ⟨h.block, h.raised⟩

/-- Settles O39: each deadline is one fault of the Drive Supervisor against the block. -/
theorem driveDeadlinesFaultTheBlock : Obligations.DriveDeadlinesFaultTheBlock := by
  unfold Obligations.DriveDeadlinesFaultTheBlock
  refine ⟨fun s b w leg d hw h hd => ?_, fun s c b d howner hd => ⟨fun h => ?_, fun h w hw => ?_⟩⟩
  · obtain ⟨hblock, hraised⟩ := driveFault_faulted (k := .switchTravel) rfl s b leg.code w.reading.code 0
    refine ⟨_, exec_switchTravel hd hw h, hblock, fun hst => ?_⟩
    obtain ⟨htaken, hmode, hkept, hroster, hswitch, htold⟩ := hraised hst
    exact ⟨htaken, hmode, hkept, hroster, hswitch w hw, htold⟩
  · obtain ⟨hblock, hraised⟩ := (driveFault_faulted (k := .actuatorMismatch) rfl (s.setChannel c { s.channel c with check := none })
      b c.val (cap (s.channel c).command.code) (s.feedbackLevel b).toNat).of_channel
    refine ⟨_, exec_checkDeadline hd howner h, ?_, hblock, fun hst => ?_⟩
    · rw [State.channel, driveFault_channels]
      exact congrArg Channel.check (setChannel_channel_self ..)
    · obtain ⟨htaken, hmode, hkept, hroster, -, htold⟩ := hraised hst
      exact ⟨htaken, hmode, hkept, hroster, htold⟩
  · obtain ⟨hblock, hraised⟩ := (driveFault_faulted (k := .actuatorMismatch) rfl
      (s.setChannel c { s.channel c with position := none }) b c.val ((w.held.map (·.code)).getD 255) w.reading.code).of_channel
    refine ⟨_, exec_positionDeadline hd howner h hw, ?_, hblock, fun hst => ?_⟩
    · rw [State.channel, driveFault_channels]
      exact congrArg Channel.position (setChannel_channel_self ..)
    · obtain ⟨htaken, hmode, hkept, hroster, -, htold⟩ := hraised hst
      exact ⟨htaken, hmode, hkept, hroster, htold⟩

end Sys2Proof.Machine
end

section
/-! PROOFS. Faults of NOTE class, and the trap eyes of a brake block. -/

namespace Sys2Proof.Machine

open Sys2Proof

/-! ### A fault of NOTE class (R196) -/

theorem modeAfterFault_note (m : Mode) : modeAfterFault .note m = m := by cases m <;> rfl

/-- The reports of a fault read the mode, the slot and the dispatch list alone. -/
theorem faultReports_same {s t : State} (hmode : t.mode = s.mode) (hslot : t.mc.slot = s.mc.slot)
    (hdispatch : t.dispatch = s.dispatch) (k : FaultKind) (b : Option BlockId) (x : Option BoatId) (d1 d2 d3 d4 : Nat) :
    t.faultReports k b x d1 d2 d3 d4 = s.faultReports k b x d1 d2 d3 d4 := by
  unfold State.faultReports State.stopReports
  rw [hmode, hslot, hdispatch]

section
variable {k : FaultKind} (hk : k.cls = .note) (s : State) (b : Option BlockId) (x : Option BoatId) (d : Details)
include hk

theorem raise_mc_of_note : (s.raise k b x d).mc = s.mc.recordFault k b x s.timeBase := by
  rw [raise_mc, hk, modeAfterFault_note]
  exact if_pos rfl

/-- A fault of NOTE class changes the fault record and the reports alone. -/
theorem raise_note_keeps : (s.raise k b x d).mode = s.mode ∧ (s.raise k b x d).mc.slot = s.mc.slot ∧
    (s.raise k b x d).dispatch = s.dispatch ∧ (s.raise k b x d).table = s.table ∧ (s.raise k b x d).timeBase = s.timeBase := by
  refine ⟨?_, ?_, ?_, raise_table_of_ne (by rw [hk]; nofun) .., raise_timeBase ..⟩
  · rw [raise_mode, hk, modeAfterFault_note]
  · rw [raise_mc_of_note hk, recordFault_keeps]
  · rw [raise_dispatch, hk, modeAfterFault_note]
    exact if_pos rfl

end

/-! ### The edges of the trap eyes (R145 to R147) -/

section
variable {s : State} {b : BlockId} {q : PointId} (hmode : s.mode ≠ .configure)
include hmode

theorem deliverEdge_trapEye1 (h : s.layout.pointUse q = some (.trapEye1 b)) (on : Bool) :
    s.deliverEdge q on = if on then s.trapEye1 b else s := by
  rw [State.deliverEdge, if_neg hmode, h]

theorem deliverEdge_trapEye2 (h : s.layout.pointUse q = some (.trapEye2 b)) (on : Bool) :
    s.deliverEdge q on = if on then s.trapEye2 b else s := by
  rw [State.deliverEdge, if_neg hmode, h]

end

section
variable {s : State} {b : BlockId} {r : BrakeSection} {k : Brake} {p : Passage}

theorem passage_of {o : Option Passage} (h : (s.brake b).bind (·.passage) = o) {g : Passage} (hg : o = some g) :
    ∃ k, s.brake b = some k ∧ k.passage = some g := by
  obtain ⟨k, hk, hp⟩ := Option.bind_eq_some_iff.mp (h.trans hg)
  exact ⟨k, hk, hp⟩

theorem trapEye1_armed (hr : s.brakeRec b = some r) (hk : s.brake b = some k) (hp : k.passage = some p) (h : p.phase = .armed) :
    s.trapEye1 b = { s with brakes := vput s.brakes b (some { k with passage := some (
      { p with phase := .timing, eye1 := some s.timeBase, deadline := some (s.timeBase + msSpan r.trapTimeout) }) }) } := by
  have hpassage : (s.brake b).bind (·.passage) = some p := Option.bind_eq_some_iff.mpr ⟨k, hk, hp⟩
  rw [State.trapEye1, hr, hpassage]
  dsimp only
  rw [if_pos h, State.modBrake, hk]
  rfl

theorem trapEye1_stray (h : ∀ k p, s.brake b = some k → k.passage = some p → p.phase ≠ .armed) : s.trapEye1 b = s.strayTrap := by
  unfold State.trapEye1
  split
  case h_1 r p _ hp =>
    obtain ⟨k, hk, hkp⟩ := passage_of hp rfl
    exact if_neg (h k p hk hkp)
  case h_2 => rfl

theorem trapEye2_timing {t : Time} (hr : s.brakeRec b = some r) (hk : s.brake b = some k) (hp : k.passage = some p)
    (h : p.phase = .timing) (ht : p.eye1 = some t) : s.trapEye2 b = s.brakeEvent b r p t := by
  have hpassage : (s.brake b).bind (·.passage) = some p := Option.bind_eq_some_iff.mpr ⟨k, hk, hp⟩
  obtain ⟨boat, phase, eye1, deadline⟩ := p
  cases h
  cases ht
  rw [State.trapEye2, hr, hpassage]

theorem trapEye2_stray (h : ∀ k p, s.brake b = some k → k.passage = some p → p.phase ≠ .timing) : s.trapEye2 b = s.strayTrap := by
  unfold State.trapEye2
  split
  case h_1 r p _ hp =>
    obtain ⟨k, hk, hkp⟩ := passage_of hp rfl
    split
    case h_1 t hphase ht => exact absurd hphase (h k p hk hkp)
    case h_2 => rfl
  case h_2 => rfl

end

/-! ### The brake level computation in the event of the edge (R154) -/

/-- The computation written in the brake record and the boat, and reported. -/
def State.trapMeasured (s : State) (b : BlockId) (r : BrakeSection) (p : Passage) (c : BrakeResult) : State :=
  ((s.modBrake b fun k => k.computed r p c ((s.record b).bind (·.stopDelay)) s.timeBase).modBoat p.boat fun x =>
    { x with lastSpeed := some c.speed }).append .brake none (some b) (some p.boat)
      (detail c.speed c.decel c.applied (brakeFlagsCode c))

theorem brakeEvent_eq {s : State} {b : BlockId} {r : BrakeSection} {p : Passage} {eye1 : Time} {c : BrakeResult}
    (hc : c = brakeCompute r (s.timeBase - eye1).toNat (s.massOf p.boat)) :
    s.brakeEvent b r p eye1 =
      ((s.trapMeasured b r p c).raiseSpeedClamp b p.boat c (s.timeBase - eye1).toNat).raiseMargin b p.boat c := by
  rw [hc]
  rfl

section
variable (s : State) (b : BlockId) (r : BrakeSection) (p : Passage) (c : BrakeResult)

theorem trapMeasured_view {γ : Type} (v : State → γ) (hroster : ∀ t x, v { t with roster := x } = v t)
    (hbrakes : ∀ t x, v { t with brakes := x } = v t) (hreports : ∀ t x, v { t with reports := x } = v t) :
    v (s.trapMeasured b r p c) = v s := by
  rw [State.trapMeasured, append_view v hreports, modBoat_view v hroster, modBrake_view v hbrakes]

theorem trapMeasured_brakes : (s.trapMeasured b r p c).brakes =
    vput s.brakes b ((s.brake b).map fun k => k.computed r p c ((s.record b).bind (·.stopDelay)) s.timeBase) := by
  rw [State.trapMeasured, append_brakes]
  rfl

theorem trapMeasured_slot (y : BoatId) : (s.trapMeasured b r p c).slot y =
    if y = p.boat then (s.slot p.boat).mapBoat (fun x => { x with lastSpeed := some c.speed }) else s.slot y := by
  rw [State.slot, State.trapMeasured, append_roster]
  exact modBoat_slot ..

theorem trapMeasured_tells : Tells s (s.trapMeasured b r p c)
    [.of .brake (some b) (some p.boat) (cap c.speed) (cap c.decel) (cap c.applied) (c.clamped.toNat + 2 * c.margin.toNat)] := by
  have hflags : brakeFlagsCode c ≤ 16777215 := by
    have hclamped : c.clamped.toNat ≤ 1 := Bool.toNat_le _
    have hmargin : c.margin.toNat ≤ 1 := Bool.toNat_le _
    rw [brakeFlagsCode]
    omega
  have htold := append_tells ((s.modBrake b fun k => k.computed r p c ((s.record b).bind (·.stopDelay)) s.timeBase).modBoat
    p.boat fun x => { x with lastSpeed := some c.speed }) .brake none (some b) (some p.boat)
    (detail c.speed c.decel c.applied (brakeFlagsCode c))
  rw [detail_eq_cap, cap_of_le hflags] at htold
  rw [State.trapMeasured, detail_eq_cap, cap_of_le hflags]
  exact htold.after_quiet (s := s) rfl (fun _ => rfl) rfl

end

/-! ### Its two faults (R150, R153) -/

section
variable (s : State) (b : BlockId) (x : BoatId) (c : BrakeResult) (n : Nat)

theorem raiseSpeedClamp_of_kept (h : c.speedClamped = false) : s.raiseSpeedClamp b x c n = s :=
  if_neg (Bool.eq_false_iff.mp h)

theorem raiseSpeedClamp_of_clamped (h : c.speedClamped = true) :
    s.raiseSpeedClamp b x c n = s.raise .speedClamp (some b) (some x) (detail n) := if_pos h

theorem raiseMargin_of_kept (h : c.margin = false) : s.raiseMargin b x c = s := if_neg (Bool.eq_false_iff.mp h)

theorem raiseMargin_of_margin (h : c.margin = true) :
    s.raiseMargin b x c = s.raise .brakeMargin (some b) (some x) (detail c.raw c.force) := if_pos h

/-- The first fault leaves what the second one reads. -/
theorem raiseSpeedClamp_keeps : (s.raiseSpeedClamp b x c n).mode = s.mode ∧ (s.raiseSpeedClamp b x c n).mc.slot = s.mc.slot ∧
    (s.raiseSpeedClamp b x c n).dispatch = s.dispatch ∧ (s.raiseSpeedClamp b x c n).table = s.table ∧
    (s.raiseSpeedClamp b x c n).timeBase = s.timeBase := by
  cases h : c.speedClamped with
  | false =>
    rw [raiseSpeedClamp_of_kept s b x c n h]
    exact ⟨rfl, rfl, rfl, rfl, rfl⟩
  | true =>
    rw [raiseSpeedClamp_of_clamped s b x c n h]
    exact raise_note_keeps (k := .speedClamp) rfl ..

theorem raiseSpeedClamp_tells : Tells s (s.raiseSpeedClamp b x c n)
    (if c.speedClamped then s.faultReports .speedClamp (some b) (some x) (cap n) 0 0 0 else []) := by
  cases h : c.speedClamped with
  | false =>
    rw [raiseSpeedClamp_of_kept s b x c n h]
    exact .refl s
  | true =>
    rw [raiseSpeedClamp_of_clamped s b x c n h]
    exact raise_tells s .speedClamp (some b) (some x) (detail n)

theorem raiseMargin_tells : Tells s (s.raiseMargin b x c)
    (if c.margin then s.faultReports .brakeMargin (some b) (some x) (cap c.raw) (cap c.force) 0 0 else []) := by
  cases h : c.margin with
  | false =>
    rw [raiseMargin_of_kept s b x c h]
    exact .refl s
  | true =>
    rw [raiseMargin_of_margin s b x c h]
    exact raise_tells s .brakeMargin (some b) (some x) (detail c.raw c.force)

theorem raiseMargin_mode : (s.raiseMargin b x c).mode = if c.margin then modeAfterFault .hold s.mode else s.mode := by
  cases h : c.margin with
  | false => rw [raiseMargin_of_kept s b x c h]; rfl
  | true => rw [raiseMargin_of_margin s b x c h, raise_mode]; rfl

theorem raiseMargin_table : (s.raiseMargin b x c).table = s.table := by
  cases h : c.margin with
  | false => rw [raiseMargin_of_kept s b x c h]
  | true =>
    rw [raiseMargin_of_margin s b x c h]
    exact raise_table_of_ne (by decide) ..

end

end Sys2Proof.Machine
end

section
/-! PROOFS. The trap eyes measure the passage of a brake block. -/

namespace Sys2Proof.Machine

open Sys2Proof

section
variable (s : State) (b : BlockId) (r : BrakeSection) (p : Passage) (c : BrakeResult) (n : Nat)

/-- The state that the computation and its speed clamp leave for the margin fault. -/
def State.trapClamped : State := (s.trapMeasured b r p c).raiseSpeedClamp b p.boat c n

theorem trapMeasured_keeps : (s.trapMeasured b r p c).mc = s.mc ∧ (s.trapMeasured b r p c).dispatch = s.dispatch ∧
    (s.trapMeasured b r p c).table = s.table ∧ (s.trapMeasured b r p c).timeBase = s.timeBase :=
  ⟨trapMeasured_view s b r p c (·.mc) (fun _ _ => rfl) (fun _ _ => rfl) (fun _ _ => rfl),
   trapMeasured_view s b r p c (·.dispatch) (fun _ _ => rfl) (fun _ _ => rfl) (fun _ _ => rfl),
   trapMeasured_view s b r p c (·.table) (fun _ _ => rfl) (fun _ _ => rfl) (fun _ _ => rfl),
   trapMeasured_view s b r p c (·.timeBase) (fun _ _ => rfl) (fun _ _ => rfl) (fun _ _ => rfl)⟩

/-- Neither fault of a computation changes what the computation wrote. -/
theorem raiseSpeedClamp_units (x : BoatId) : (s.raiseSpeedClamp b x c n).brakes = s.brakes ∧
    (s.raiseSpeedClamp b x c n).roster = s.roster := by
  cases h : c.speedClamped with
  | false =>
    rw [raiseSpeedClamp_of_kept s b x c n h]
    exact ⟨rfl, rfl⟩
  | true =>
    rw [raiseSpeedClamp_of_clamped s b x c n h]
    exact ⟨raise_brakes .., raise_roster ..⟩

theorem raiseMargin_units (x : BoatId) : (s.raiseMargin b x c).brakes = s.brakes ∧
    (s.raiseMargin b x c).roster = s.roster := by
  cases h : c.margin with
  | false =>
    rw [raiseMargin_of_kept s b x c h]
    exact ⟨rfl, rfl⟩
  | true =>
    rw [raiseMargin_of_margin s b x c h]
    exact ⟨raise_brakes .., raise_roster ..⟩

theorem trapClamped_keeps : (s.trapClamped b r p c n).mode = s.mode ∧ (s.trapClamped b r p c n).mc.slot = s.mc.slot ∧
    (s.trapClamped b r p c n).dispatch = s.dispatch ∧ (s.trapClamped b r p c n).table = s.table ∧
    (s.trapClamped b r p c n).timeBase = s.timeBase := by
  obtain ⟨hmc, hdispatch, htable, htime⟩ := trapMeasured_keeps s b r p c
  obtain ⟨hmode, hslot, hkeptDispatch, hkeptTable, hkeptTime⟩ := raiseSpeedClamp_keeps (s.trapMeasured b r p c) b p.boat c n
  exact ⟨hmode.trans (mode_of_mc hmc), hslot.trans (congrArg (·.slot) hmc), hkeptDispatch.trans hdispatch,
    hkeptTable.trans htable, hkeptTime.trans htime⟩

/-- What the computation and its two faults write outside the mode controller: the brake record and the boat. -/
theorem brakeEvent_units : ((s.trapClamped b r p c n).raiseMargin b p.boat c).brakes = (s.trapMeasured b r p c).brakes ∧
    ((s.trapClamped b r p c n).raiseMargin b p.boat c).roster = (s.trapMeasured b r p c).roster ∧
    ((s.trapClamped b r p c n).raiseMargin b p.boat c).table = s.table := by
  obtain ⟨hbrakes, hroster⟩ := raiseMargin_units (s.trapClamped b r p c n) b c p.boat
  obtain ⟨hclampBrakes, hclampRoster⟩ := raiseSpeedClamp_units (s.trapMeasured b r p c) b c n p.boat
  exact ⟨hbrakes.trans hclampBrakes, hroster.trans hclampRoster,
    (raiseMargin_table ..).trans (trapClamped_keeps s b r p c n).2.2.2.1⟩

theorem trapClamped_mc_of_kept (h : c.speedClamped = false) : (s.trapClamped b r p c n).mc = s.mc := by
  rw [State.trapClamped, raiseSpeedClamp_of_kept _ _ _ _ _ h]
  exact (trapMeasured_keeps s b r p c).1

theorem trapClamped_faultTaken (h : c.speedClamped = true) :
    FaultTaken s (s.trapClamped b r p c n) .speedClamp (some b) (some p.boat) := by
  obtain ⟨hmc, _, _, htime⟩ := trapMeasured_keeps s b r p c
  rw [State.trapClamped, raiseSpeedClamp_of_clamped _ _ _ _ _ h]
  exact (raise_faultTaken ..).congr hmc.symm htime.symm rfl

theorem raiseMargin_faultTaken (x : BoatId) (h : c.margin = true) :
    FaultTaken s (s.raiseMargin b x c) .brakeMargin (some b) (some x) := by
  rw [raiseMargin_of_margin _ _ _ _ h]
  exact raise_faultTaken ..

theorem brakeEvent_mode : ((s.trapClamped b r p c n).raiseMargin b p.boat c).mode =
    if c.margin then modeAfterFault .hold s.mode else s.mode := by
  rw [raiseMargin_mode, (trapClamped_keeps s b r p c n).1]

theorem brakeEvent_tells : Tells s ((s.trapClamped b r p c n).raiseMargin b p.boat c)
    (.of .brake (some b) (some p.boat) (cap c.speed) (cap c.decel) (cap c.applied) (c.clamped.toNat + 2 * c.margin.toNat) ::
      ((if c.speedClamped then s.faultReports .speedClamp (some b) (some p.boat) (cap n) 0 0 0 else []) ++
       if c.margin then s.faultReports .brakeMargin (some b) (some p.boat) (cap c.raw) (cap c.force) 0 0 else [])) := by
  obtain ⟨hmc, hdispatch, _, _⟩ := trapMeasured_keeps s b r p c
  obtain ⟨hmode, hslot, hclampDispatch, _, _⟩ := trapClamped_keeps s b r p c n
  have hclamp := raiseSpeedClamp_tells (s.trapMeasured b r p c) b p.boat c n
  have hmargin := raiseMargin_tells (s.trapClamped b r p c n) b p.boat c
  rw [faultReports_congr hmc hdispatch] at hclamp
  rw [faultReports_same hmode hslot hclampDispatch] at hmargin
  exact (trapMeasured_tells s b r p c).trans (hclamp.trans hmargin)

end

theorem zoneAfter_computed (mode : ZoneMode) (z : Zone) (clamped margin : Bool) :
    zoneAfter mode z { trapFault := false, clamped := clamped, margin := margin } = match mode with
      | .perPassage => { trapFault := false, clamped := clamped, margin := margin }
      | .accumulate => { z with clamped := z.clamped || clamped, margin := z.margin || margin } := by
  cases mode with
  | perPassage => rfl
  | accumulate => rw [zoneAfter, Bool.or_false]

theorem massOf_of_boat {s : State} {x : BoatId} {bt : Boat} (h : s.boat x = some bt) :
    s.massOf x = bt.tare + bt.load.getD s.layout.settings.unweighedAllowance := by
  rw [State.massOf, h]
  rfl

/-- Settles O38: an eye 1 edge starts the timing, an eye 2 edge makes the computation, and every other edge is a stray. -/
theorem trapEyesMeasureThePassage : Obligations.TrapEyesMeasureThePassage := by
  unfold Obligations.TrapEyesMeasureThePassage
  intro s b rec r hmode hrec hbrake
  have hr := brakeRec_of_record hrec hbrake
  refine ⟨fun q hq => ?_, fun q hq => ⟨fun k p hk hp harmed => ?_, fun h => ?_⟩,
    fun q hq => ⟨fun k p t bt c hk hp htiming ht hbt hc => ?_, fun h => ?_⟩⟩
  · rcases hq with hq | hq
    · rw [deliverEdge_trapEye1 hmode hq]
      rfl
    · rw [deliverEdge_trapEye2 hmode hq]
      rfl
  · rw [deliverEdge_trapEye1 hmode hq, if_pos rfl]
    exact trapEye1_armed hr hk hp harmed
  · rw [deliverEdge_trapEye1 hmode hq, if_pos rfl]
    exact trapEye1_stray h
  · have hedge : s.deliverEdge q true = (s.trapClamped b r p c (s.timeBase - t).toNat).raiseMargin b p.boat c := by
      rw [deliverEdge_trapEye2 hmode hq, if_pos rfl, trapEye2_timing hr hk hp htiming ht,
        brakeEvent_eq (c := c) (by rw [massOf_of_boat hbt, hc])]
      rfl
    rw [hedge]
    obtain ⟨hbrakes, hroster, htable⟩ := brakeEvent_units s b r p c (s.timeBase - t).toNat
    have hslot (x : BoatId) : ((s.trapClamped b r p c (s.timeBase - t).toNat).raiseMargin b p.boat c).slot x = _ :=
      (congrArg (vget · x) hroster).trans (trapMeasured_slot s b r p c x)
    refine ⟨?_, ?_, fun x hx => (hslot x).trans (if_neg hx), htable, fun hkept hfree => ?_, fun hclamped hfree => ?_,
      fun hkept hmargin => ?_, fun hclamped hmargin => ?_, brakeEvent_mode .., (brakeEvent_tells ..).reportsAdded⟩
    · have hstop : (s.record b).bind (·.stopDelay) = rec.stopDelay := by rw [hrec]; rfl
      rw [State.brake, hbrakes, trapMeasured_brakes, vget_vput_self, hk, hstop, Option.map_some]
      unfold Brake.computed
      rw [zoneAfter_computed, Bool.or_comm k.hold] <;> rcases rec.stopDelay with _ | _ | m <;> rfl
    · have hboat := (hslot p.boat).trans (if_pos rfl)
      rw [State.boat, hboat, boat_mapBoat]
      exact congrArg (Option.map _) hbt
    · rw [raiseMargin_of_kept _ _ _ _ hfree, trapClamped_mc_of_kept _ _ _ _ _ _ hkept]
    · rw [raiseMargin_of_kept _ _ _ _ hfree]
      exact trapClamped_faultTaken _ _ _ _ _ _ hclamped
    · exact (raiseMargin_faultTaken _ b c p.boat hmargin).congr (trapClamped_mc_of_kept _ _ _ _ _ _ hkept).symm
        (trapClamped_keeps ..).2.2.2.2.symm rfl
    · exact ⟨_, (trapClamped_keeps ..).2.2.2.2, trapClamped_faultTaken _ _ _ _ _ _ hclamped,
        raiseMargin_faultTaken _ b c p.boat hmargin⟩
  · rw [deliverEdge_trapEye2 hmode hq, if_pos rfl]
    exact trapEye2_stray h

end Sys2Proof.Machine
end

section
/-! PROOFS. PLACE BOAT: the block taken, the boat on the track and the bay berthed. -/

namespace Sys2Proof.Machine

open Sys2Proof

/-! ### The argument and the two refusals (R76) -/

theorem placeBytes_at (x b v : Nat) : arg1 (b1 x ++ b1 b ++ b1 v) 0 = x % 256 ∧ arg1 (b1 x ++ b1 b ++ b1 v) 1 = b % 256 ∧
    arg1 (b1 x ++ b1 b ++ b1 v) 2 = v % 256 := by
  simp [arg1, b1]

theorem readArgs_placeBoat (x : BoatId) (b : BlockId) (v : Bool) :
    readArgs .placeBoat (b1 x.val ++ b1 b.val ++ flagByte v) = .ok (.placeBoat x b v) := by
  obtain ⟨h0, h1, h2⟩ := placeBytes_at x.val b.val v.toNat
  have hx := argFin_eq (h0.trans (fin_mod (by decide) x))
  have hb := argFin_eq (h1.trans (fin_mod (by decide) b))
  have hv := argBool_eq (h2.trans (boolNat_mod v))
  have hlength : (b1 x.val ++ b1 b.val ++ b1 v.toNat).length = 3 := rfl
  rw [flagByte, readArgs, argLength, if_pos hlength, hx, hb, hv]
  rfl

section
variable {s : State} {x : BoatId} {b : BlockId} (guests : Bool)

theorem placeable_iff : s.placeable b = true ↔
    s.layout.holdable b = true ∧ ((s.entry b).state = .unverified ∨ (s.entry b).state = .clear) := by
  simp only [State.placeable, Bool.and_eq_true, Bool.or_eq_true, beq_iff_eq]

theorem placeBoat_of_absent {bt : Boat} (hx : s.slot x = .absent bt) (hb : s.placeable b = true) :
    s.placeBoat x b guests = (.ok, (s.place x bt b guests).finish) := by
  rw [State.placeBoat, hx]
  exact if_pos hb

theorem placeBoat_refused (h : (∀ bt, s.slot x ≠ .absent bt) ∨ s.placeable b = false) :
    s.placeBoat x b guests = (.bare .state, s) := by
  unfold State.placeBoat
  split
  case h_1 => rfl
  case h_2 bt habsent =>
    refine if_neg (Bool.eq_false_iff.mp (h.resolve_left fun hne => ?_))
    rw [absentBoat_of_ne hne] at habsent
    cases habsent

end

/-! ### The census modes (R75 to R78) -/

/-- A request of the census is taken in STANDBY, HELD and HALTED. -/
theorem census_modes {s : State} {l : Link} {r : Req} (h : s.admits l r)
    (hr : r = .placeBoat ∨ r = .removeBoat) : s.mode ≠ .configure ∧ s.mode ≠ .run ∧ s.mode ≠ .holding := by
  obtain ⟨-, -, hmode⟩ := h
  refine ⟨fun hm => ?_, fun hm => ?_, fun hm => ?_⟩ <;>
    · rw [hm] at hmode
      rcases hr with rfl | rfl <;> exact absurd hmode (by decide)

/-- Outside RUN and HOLDING the end of an event derives a brake's demand alone. -/
theorem finish_brake_still {s : State} (hconfigure : s.mode ≠ .configure) (hrun : s.mode ≠ .run) (hholding : s.mode ≠ .holding)
    (b : BlockId) : ∃ f : Brake → Nat, s.finish.brake b = (s.brake b).map fun k => { k with demand := f k } := by
  refine ⟨s.refreshSwitches.demandOf b, ?_⟩
  rw [finish_still s hconfigure hrun hholding]
  exact refreshBrakes_brake s.refreshSwitches b

/-! ### What PLACE BOAT changes (R77, R82, R83, R144, R156) -/

section
variable {s : State} {x : BoatId} {b : BlockId}

theorem berth_bay_ne (eye : Option PointId) {c : BlockId} (h : c ≠ b) : (s.berth b eye).bay c = s.bay c := by
  cases hy : s.bay b with
  | none => rw [berth_of_none eye hy]
  | some y =>
    cases eye with
    | none => rw [berth_placed hy, endBerthed_bay_ne _ h, moveBay_bay_ne _ _ _ _ h]
    | some q => rw [berth_at_eye q hy, moveBay_bay_ne _ _ _ _ h]

theorem endBerthed_of_roleless {y : Bay} (hy : s.bay b = some y) (hrole : s.bayRole b = none) :
    (s.endBerthed b).bay b = some { y with entryEye := none } := by
  have hmod : s.modBay b (fun y => { y with entryEye := none }) = s.setBay b { y with entryEye := none } := modBay_of_some hy _
  have hrole' : (s.setBay b { y with entryEye := none }).bayRole b = none := hrole
  rw [State.endBerthed, hmod, hrole']
  exact setBay_bay_self ..

end

section
variable (s : State) (x : BoatId) (bt : Boat) (b : BlockId) (guests : Bool)

/-- The boat as PLACE BOAT leaves it. -/
def Boat.placed (bt : Boat) (guests : Bool) : Boat := { bt with guests := guests, load := if guests then none else some 0 }

/-- The state that PLACE BOAT leaves for the berthing of the bay. -/
def State.boarded : State := (s.seated x (bt.placed guests) b).placePassage b x

theorem place_eq : s.place x bt b guests = (s.boarded x bt b guests).berth b none := rfl

theorem boarded_entry (c : BlockId) : (s.boarded x bt b guests).entry c =
    if c = b then { Entry.bare .occupied with occupant := some x } else s.entry c := setEntry_entry ..

theorem boarded_slot (y : BoatId) : (s.boarded x bt b guests).slot y =
    if y = x then .onTrack (bt.placed guests) b [] else s.slot y :=
  setSlot_slot (s.setEntry b { Entry.bare .occupied with occupant := some x }) x y _

theorem boarded_brake : (s.boarded x bt b guests).brake b = (s.brake b).map fun k =>
    { k with passage := some { boat := x, phase := .done, eye1 := none, deadline := none }, hold := true,
             stopDelay := none } := vget_vput_self ..

end

section
variable {s : State} {x : BoatId} {bt : Boat} {b : BlockId} {guests : Bool}

theorem boarded_guestsIn : (s.boarded x bt b guests).guestsIn b = guests := by
  have hoccupant : ((s.boarded x bt b guests).entry b).occupant = some x := by
    rw [boarded_entry, if_pos rfl]
  have hboat : (s.boarded x bt b guests).boat x = some (bt.placed guests) := by
    rw [State.boat, boarded_slot, if_pos rfl]
    rfl
  exact guestsIn_eq hoccupant hboat

/-- The bay's record, moved to BERTHED by PLACE BOAT, before BERTHED ends. -/
def State.berthing (u : State) (b : BlockId) (y : Bay) : State := u.moveBay b { y with entryEye := none } .berthed

/-- The bay of a role is berthed and takes the phase of its role and guests at once. -/
theorem place_bay {y : Bay} {role : BayRole} (hy : s.bay b = some y) (hrole : s.bayRole b = some role) :
    (s.place x bt b guests).bay b = some (s.afterBerthed y role x guests) ∧
      (y.phase = .vacant → Tells s (s.place x bt b guests) (bayReport b (some x) .vacant .berthed ++
        bayReport b (some x) .berthed (s.afterBerthed y role x guests).phase)) := by
  have hguests := boarded_guestsIn (s := s) (x := x) (bt := bt) (b := b) (guests := guests)
  have hentry : (s.boarded x bt b guests).entry b = { Entry.bare .occupied with occupant := some x } := by
    rw [boarded_entry, if_pos rfl]
  have hafter : (s.boarded x bt b guests).afterBerthed y role x guests = s.afterBerthed y role x guests :=
    afterBerthed_congr (s := s) (t := s.boarded x bt b guests) rfl rfl y y.phase role x guests
  have htold : Tells s (s.boarded x bt b guests) [] := .of_surroundings rfl rfl
  have hub : (s.boarded x bt b guests).bay b = some y := hy
  have hurole : (s.boarded x bt b guests).bayRole b = some role := hrole
  rw [place_eq, berth_placed hub]
  generalize s.boarded x bt b guests = u at hguests hentry hafter htold hub hurole
  have hkept {γ : Type} (v : State → γ) (hbays : ∀ t k, v { t with bays := k } = v t)
      (hreports : ∀ t k, v { t with reports := k } = v t) : v (u.berthing b y) = v u := moveBay_view u b _ _ v hbays hreports
  have hentered : (u.berthing b y).entry b = { Entry.bare .occupied with occupant := some x } :=
    (hkept (fun t => t.entry b) (fun _ _ => rfl) fun _ _ => rfl).trans hentry
  have hoccupant : ((u.berthing b y).entry b).occupant = some x := by rw [hentered]
  have hgiven : (u.berthing b y).guestsIn b = guests :=
    (hkept (fun t => t.guestsIn b) (fun _ _ => rfl) fun _ _ => rfl).trans hguests
  have hroled : (u.berthing b y).bayRole b = some role :=
    (hkept (fun t => t.bayRole b) (fun _ _ => rfl) fun _ _ => rfl).trans hurole
  have hended : (u.berthing b y).afterBerthed { y with entryEye := none, phase := .berthed } role x guests =
      s.afterBerthed y role x guests :=
    (afterBerthed_congr (hkept State.timeBase (fun _ _ => rfl) fun _ _ => rfl)
      (hkept State.layout (fun _ _ => rfl) fun _ _ => rfl) { y with entryEye := none } .berthed role x guests).trans hafter
  have hbay : (u.berthing b y).bay b = some { y with entryEye := none, phase := .berthed } := moveBay_bay ..
  refine ⟨?_, fun hvacant => ?_⟩
  · exact (endBerthed_bay hbay hroled hoccupant hgiven).trans (congrArg some hended)
  · have hfirst : Tells u (u.berthing b y) (bayReport b (u.entry b).occupant y.phase .berthed) := moveBay_tells ..
    have hsecond := moveBay_tells (u.berthing b y) b
      { s.afterBerthed y role x guests with phase := .berthed } (s.afterBerthed y role x guests).phase
    have hend := endBerthed_eq hbay hroled hoccupant hgiven
    rw [hended] at hend
    rw [hvacant, hentry] at hfirst
    rw [hoccupant, ← hend] at hsecond
    exact htold.trans (hfirst.trans hsecond)

/-- No bay is VACANT after PLACE BOAT. -/
theorem place_bay_taken {y : Bay} (hy : (s.place x bt b guests).bay b = some y) : y.phase ≠ .vacant := by
  cases hbefore : s.bay b with
  | none =>
    have hnone : (s.boarded x bt b guests).bay b = none := hbefore
    rw [place_eq, berth_of_none none hnone, hnone] at hy
    cases hy
  | some z =>
    cases hrole : s.bayRole b with
    | none =>
      have hroled : ((s.boarded x bt b guests).berthing b z).bayRole b = none :=
        (moveBay_view _ b _ _ (fun t : State => t.bayRole b) (fun _ _ => rfl) fun _ _ => rfl).trans hrole
      have hbefore' : (s.boarded x bt b guests).bay b = some z := hbefore
      rw [place_eq, berth_placed hbefore'] at hy
      cases hy.symm.trans (endBerthed_of_roleless (moveBay_bay ..) hroled)
      exact nofun
    | some role =>
      cases hy.symm.trans (place_bay hbefore hrole).1
      rw [afterBerthed_phase]
      cases role <;> cases guests <;> exact nofun

end

end Sys2Proof.Machine
end

section
/-! PROOFS. PLACE BOAT settled. -/

namespace Sys2Proof.Machine

open Sys2Proof

section
variable {s : State} {x : BoatId} {bt : Boat} {b : BlockId} {guests : Bool}

/-- Berthing is one of the bays and the reports. -/
theorem place_kept {γ : Type} (v : State → γ) (hbays : ∀ t y, v { t with bays := y } = v t)
    (hreports : ∀ t y, v { t with reports := y } = v t) : v (s.place x bt b guests) = v (s.boarded x bt b guests) := by
  rw [place_eq]
  exact berth_view v hbays hreports ..

theorem place_entry (c : BlockId) : (s.place x bt b guests).entry c =
    if c = b then { Entry.bare .occupied with occupant := some x } else s.entry c :=
  (place_kept (fun t => t.entry c) (fun _ _ => rfl) fun _ _ => rfl).trans (boarded_entry ..)

theorem place_slot (y : BoatId) : (s.place x bt b guests).slot y =
    if y = x then .onTrack (bt.placed guests) b [] else s.slot y :=
  (place_kept (fun t => t.slot y) (fun _ _ => rfl) fun _ _ => rfl).trans (boarded_slot ..)

theorem place_brake : (s.place x bt b guests).brake b = (s.brake b).map fun k =>
    { k with passage := some { boat := x, phase := .done, eye1 := none, deadline := none }, hold := true,
             stopDelay := none } :=
  (place_kept (fun t => t.brake b) (fun _ _ => rfl) fun _ _ => rfl).trans (boarded_brake ..)

theorem place_bay_ne {c : BlockId} (h : c ≠ b) : (s.place x bt b guests).bay c = s.bay c := by
  rw [place_eq, berth_bay_ne _ h]
  rfl

theorem place_tells_of_none (h : s.bay b = none) : Tells s (s.place x bt b guests) [] := by
  have hnone : (s.boarded x bt b guests).bay b = none := h
  rw [place_eq, berth_of_none none hnone]
  exact .of_surroundings rfl rfl

theorem place_surroundings : (s.place x bt b guests).surroundings = s.surroundings :=
  place_kept State.surroundings (fun _ _ => rfl) fun _ _ => rfl

end

/-- Settles O21: the boat is held in the block, and a bay ends BERTHED at once. -/
theorem placeBoatHoldsTheBoat : Obligations.PlaceBoatHoldsTheBoat := by
  unfold Obligations.PlaceBoatHoldsTheBoat
  intro s l tag x b guests hadmits hwindow
  have hexec {reply : Reply} {t : State} (h : s.placeBoat x b guests = (reply, t)) :=
    exec_owned tag hadmits (readArgs_placeBoat x b guests) rfl hwindow h
  obtain ⟨hconfigure, hrun, hholding⟩ := census_modes hadmits (.inl rfl)
  refine ⟨fun bt hx hholdable hstate => ?_, fun h => hexec (placeBoat_refused guests ?_)⟩
  · have hmode : (s.place x bt b guests).mode = s.mode := place_kept State.mode (fun _ _ => rfl) fun _ _ => rfl
    rw [← hmode] at hconfigure hrun hholding
    have hderived := finish_rederived hrun hholding
    obtain ⟨f, hbrakes⟩ := finish_brake_still hconfigure hrun hholding b
    have htold {reports : List Told} (h : Tells s (s.place x bt b guests) reports) :=
      ((h.trans_nothing hderived.tells).trans_nothing (replies_tells _ l .placeBoat tag .ok [])).reportsAdded
    have hslot (y : BoatId) := (congrArg (vget · y) hderived.keeps_roster).trans (place_slot (s := s) (bt := bt) (b := b) y)
    have hbay (c : BlockId) : (s.place x bt b guests).finish.bay c = (s.place x bt b guests).bay c :=
      congrArg (vget · c) hderived.keeps_bays
    refine ⟨_, hexec (placeBoat_of_absent guests hx (placeable_iff.mpr ⟨hholdable, hstate⟩)),
      replies_surroundings ((finish_surroundings _).trans place_surroundings) ..,
      (hderived.keeps_entry b).trans ((place_entry b).trans (if_pos rfl)),
      fun c hc => (hderived.keeps_entry c).trans ((place_entry c).trans (if_neg hc)),
      (hslot x).trans (if_pos rfl), fun y hy => (hslot y).trans (if_neg hy),
      hderived.keeps_mc.trans (place_kept State.mc (fun _ _ => rfl) fun _ _ => rfl),
      hderived.keeps_dispatch.trans (place_kept State.dispatch (fun _ _ => rfl) fun _ _ => rfl),
      hderived.keeps_tagWindows.trans (place_kept State.tagWindows (fun _ _ => rfl) fun _ _ => rfl),
      hderived.keeps_passages.trans (place_kept State.passages (fun _ _ => rfl) fun _ _ => rfl),
      fun c hc => (hbay c).trans (place_bay_ne hc), fun y hy => place_bay_taken ((hbay b).symm.trans hy),
      fun y rec z hy hrec hz => (hbay b).trans (place_bay hy (bayRole_eq hrec hz)).1,
      fun hnone => htold (place_tells_of_none hnone),
      fun y rec z hy hvacant hrec hz => htold ((place_bay hy (bayRole_eq hrec hz)).2 hvacant), fun k hk _ => ?_⟩
    have hk' := hbrakes.symm.trans hk
    rw [place_brake, Option.map_map] at hk'
    obtain ⟨_, _, rfl⟩ := Option.map_eq_some_iff.mp hk'
    rfl
  · refine h.imp id fun h => Bool.eq_false_iff.mpr fun hplaceable => ?_
    obtain ⟨hholdable, hstate⟩ := placeable_iff.mp hplaceable
    obtain hnot | ⟨hunverified, hclear⟩ := h
    · exact absurd (hholdable.symm.trans hnot) nofun
    · exact hstate.elim hunverified hclear

end Sys2Proof.Machine
end

section
/-! PROOFS. REMOVE BOAT: the blocks emptied, the brakes and tag windows cleared, the bays vacated. -/

namespace Sys2Proof.Machine

open Sys2Proof

/-! ### What leaves the dispatch list with vacated bays (R120) -/

section
variable {s : State} {b : BlockId}

theorem cancelOfBay_sublist (s : State) (b : BlockId) (cause : CancelCause) :
    List.Sublist (s.cancelOfBay b cause).dispatch s.dispatch := by
  cases h : s.entryOfBay b with
  | none =>
    exact sublist_of_eq (congrArg State.dispatch (cancelOfBay_of_none cause h))
  | some e =>
    have hdispatch : (s.cancelEntry e cause 0).dispatch = s.dispatch.filter fun d => d.seq != e.seq := dispatchReport_dispatch ..
    rw [cancelOfBay_of_entry cause h, hdispatch]
    exact List.filter_sublist

/-- A bay's vacating takes from the list what its cancelling takes. -/
theorem vacateBay_dispatch {y : Bay} (h : s.bay b = some y) : (s.vacateBay b).dispatch = (s.cancelOfBay b .remove).dispatch := by
  rw [vacateBay_eq h]
  exact moveBay_view _ b _ _ State.dispatch (fun _ _ => rfl) fun _ _ => rfl

theorem vacateBay_sublist (s : State) (b : BlockId) : List.Sublist (s.vacateBay b).dispatch s.dispatch := by
  cases h : s.bay b with
  | none =>
    exact sublist_of_eq (congrArg State.dispatch (vacateBay_of_none h))
  | some y =>
    rw [vacateBay_dispatch h]
    exact cancelOfBay_sublist ..

theorem dispatchSound_of_sublist {t : State} (hs : s.dispatchSound) (hsub : List.Sublist t.dispatch s.dispatch)
    (hnext : t.nextDispatch = s.nextDispatch) : t.dispatchSound := by
  obtain ⟨hlength, hseq, hbay, hfree⟩ := hs
  refine ⟨Nat.le_trans hsub.length_le hlength, hseq.sublist (hsub.map _), hbay.sublist (hsub.map _), fun hmem => hfree ?_⟩
  rw [← hnext]
  exact (hsub.map _).subset hmem

theorem mem_vacateBay (hs : s.dispatchSound) (e : DispatchEntry) :
    e ∈ (s.vacateBay b).dispatch ↔ e ∈ s.dispatch ∧ (e.bay = b → s.bay b = none) := by
  cases h : s.bay b with
  | none =>
    rw [vacateBay_of_none h]
    exact ⟨fun he => ⟨he, fun _ => rfl⟩, And.left⟩
  | some y =>
    rw [vacateBay_dispatch h, mem_cancelOfBay hs]
    exact and_congr_right fun _ => ⟨fun hne hb => absurd hb hne, fun hb heq => nomatch hb heq⟩

theorem mem_foldl_vacateBay (hs : s.dispatchSound) (bs : List BlockId) (e : DispatchEntry) :
    e ∈ (bs.foldl State.vacateBay s).dispatch ↔ e ∈ s.dispatch ∧ (e.bay ∈ bs → s.bay e.bay = none) := by
  induction bs generalizing s with
  | nil => exact ⟨fun he => ⟨he, fun h => absurd h List.not_mem_nil⟩, And.left⟩
  | cons b bs ih =>
    have hbay : (s.vacateBay b).bay e.bay = none ↔ s.bay e.bay = none := by
      rw [vacateBay_bay]
      split
      · exact Option.map_eq_none_iff
      · rfl
    rw [List.foldl_cons, ih (dispatchSound_of_sublist hs (vacateBay_sublist s b) (vacateBay_nextDispatch s b)),
      mem_vacateBay hs, hbay, and_assoc, List.mem_cons]
    refine and_congr_right fun _ => ⟨fun ⟨hb, hbs⟩ h => h.elim (fun heq => heq ▸ hb heq) hbs,
      fun h => ⟨fun heq => heq ▸ h (.inl heq), fun hbs => h (.inr hbs)⟩⟩

theorem foldl_vacateBay_subset (bs : List BlockId) (s : State) {e : DispatchEntry} (he : e ∈ (bs.foldl State.vacateBay s).dispatch) :
    e ∈ s.dispatch := by
  induction bs generalizing s with
  | nil => exact he
  | cons b bs ih => exact (vacateBay_sublist s b).subset (ih _ he)

end

/-! ### The parts of REMOVE BOAT (R78) -/

/-- The blocks that a boat occupies, by rising number. -/
def State.heldBy (s : State) (x : BoatId) : List BlockId := allBlocks.filter fun b => (s.entry b).occupant == some x

/-- The state that REMOVE BOAT leaves for the vacating of the boat's bays. -/
def State.unboarded (s : State) (x : BoatId) (bt : Boat) : State :=
  { s.lifted x bt with
    brakes := vmap (fun b k => k.map fun k => k.removed x ((s.heldBy x).contains b)) s.brakes
    tagWindows := vmap (fun _ (w : Option TagWindow) => w.filter (TagWindow.notOf x)) s.tagWindows }

section
variable (s : State) (x : BoatId) (bt : Boat)

theorem mem_heldBy {s : State} {x : BoatId} {b : BlockId} : b ∈ s.heldBy x ↔ (s.entry b).occupant = some x := by
  simp [State.heldBy, allBlocks]

theorem lifted_view {γ : Type} (v : State → γ) (htable : ∀ t y, v { t with table := y } = v t)
    (harbiters : ∀ t y, v { t with arbiters := y } = v t) (hroster : ∀ t y, v { t with roster := y } = v t) :
    v (s.lifted x bt) = v s := by
  rw [State.lifted, setSlot_view v hroster]
  exact foldl_keeps v _ (fun t b => modEntry_view v htable harbiters t b _) _ s

theorem remove_eq : s.remove x bt = (s.heldBy x).foldl State.vacateBay (s.unboarded x bt) := by
  have hbrakes : (s.lifted x bt).brakes = s.brakes :=
    lifted_view s x bt State.brakes (fun _ _ => rfl) (fun _ _ => rfl) fun _ _ => rfl
  have hwindows : (s.lifted x bt).tagWindows = s.tagWindows :=
    lifted_view s x bt State.tagWindows (fun _ _ => rfl) (fun _ _ => rfl) fun _ _ => rfl
  rw [State.unboarded, ← hbrakes, ← hwindows]
  rfl

theorem unboarded_view {γ : Type} (v : State → γ) (htable : ∀ t y, v { t with table := y } = v t)
    (harbiters : ∀ t y, v { t with arbiters := y } = v t) (hroster : ∀ t y, v { t with roster := y } = v t)
    (hbrakes : ∀ t y, v { t with brakes := y } = v t) (hwindows : ∀ t y, v { t with tagWindows := y } = v t) :
    v (s.unboarded x bt) = v s := by
  have hunits (u : State) k w : v { u with brakes := k, tagWindows := w } = v u :=
    (hwindows { u with brakes := k } w).trans (hbrakes u k)
  exact (hunits (s.lifted x bt) _ _).trans (lifted_view s x bt v htable harbiters hroster)

/-- What the vacating of bays leaves. -/
theorem remove_view {γ : Type} (v : State → γ) (hbays : ∀ t y, v { t with bays := y } = v t)
    (hdispatch : ∀ t y, v { t with dispatch := y } = v t) (hreports : ∀ t y, v { t with reports := y } = v t) :
    v (s.remove x bt) = v (s.unboarded x bt) := by
  rw [remove_eq]
  exact foldl_keeps v _ (fun t b => vacateBay_view v hbays hdispatch hreports t b) _ _

theorem remove_kept {γ : Type} (v : State → γ) (htable : ∀ t y, v { t with table := y } = v t)
    (harbiters : ∀ t y, v { t with arbiters := y } = v t) (hroster : ∀ t y, v { t with roster := y } = v t)
    (hbrakes : ∀ t y, v { t with brakes := y } = v t) (hwindows : ∀ t y, v { t with tagWindows := y } = v t)
    (hbays : ∀ t y, v { t with bays := y } = v t) (hdispatch : ∀ t y, v { t with dispatch := y } = v t)
    (hreports : ∀ t y, v { t with reports := y } = v t) : v (s.remove x bt) = v s :=
  (remove_view s x bt v hbays hdispatch hreports).trans (unboarded_view s x bt v htable harbiters hroster hbrakes hwindows)

theorem remove_entry (c : BlockId) : (s.remove x bt).entry c =
    if (s.entry c).occupant = some x ∨ (s.entry c).holder = some x then (s.entry c).without else s.entry c := by
  refine (remove_view s x bt (fun t => t.entry c) (fun _ _ => rfl) (fun _ _ => rfl) fun _ _ => rfl).trans ?_
  refine (lifted_entry s x bt c).trans ?_
  simp only [mem_losing]

theorem remove_slot (y : BoatId) : (s.remove x bt).slot y = if y = x then .absent { bt with load := none } else s.slot y :=
  (remove_view s x bt (fun t => t.slot y) (fun _ _ => rfl) (fun _ _ => rfl) fun _ _ => rfl).trans (lifted_slot ..)

theorem remove_tagWindow (q : PortId) : vget (s.remove x bt).tagWindows q = (vget s.tagWindows q).filter (TagWindow.notOf x) :=
  (remove_view s x bt (fun t => vget t.tagWindows q) (fun _ _ => rfl) (fun _ _ => rfl) fun _ _ => rfl).trans (vget_vmap ..)

theorem remove_brake (c : BlockId) : (s.remove x bt).brake c =
    (s.brake c).map fun k => k.removed x ((s.heldBy x).contains c) :=
  (remove_view s x bt (fun t => t.brake c) (fun _ _ => rfl) (fun _ _ => rfl) fun _ _ => rfl).trans (vget_vmap ..)

theorem remove_bay (c : BlockId) : (s.remove x bt).bay c =
    if (s.entry c).occupant = some x then (s.bay c).map Bay.vacated else s.bay c := by
  have hbay : (s.unboarded x bt).bay c = s.bay c :=
    unboarded_view s x bt (fun t => t.bay c) (fun _ _ => rfl) (fun _ _ => rfl) (fun _ _ => rfl) (fun _ _ => rfl) fun _ _ => rfl
  rw [remove_eq, foldl_vacated_bay vacateBay_bay, hbay]
  simp only [mem_heldBy]

theorem unboarded_dispatch : (s.unboarded x bt).dispatch = s.dispatch :=
  unboarded_view s x bt State.dispatch (fun _ _ => rfl) (fun _ _ => rfl) (fun _ _ => rfl) (fun _ _ => rfl) fun _ _ => rfl

theorem remove_dispatch_subset {e : DispatchEntry} (he : e ∈ (s.remove x bt).dispatch) : e ∈ s.dispatch := by
  rw [remove_eq] at he
  rw [← unboarded_dispatch s x bt]
  exact foldl_vacateBay_subset _ _ he

theorem mem_remove_dispatch (hs : s.dispatchSound) (e : DispatchEntry) : e ∈ (s.remove x bt).dispatch ↔
    e ∈ s.dispatch ∧ ((s.entry e.bay).occupant = some x → s.bay e.bay = none) := by
  have hsound : (s.unboarded x bt).dispatchSound :=
    (unboarded_view s x bt State.dispatchSound (fun _ _ => rfl) (fun _ _ => rfl) (fun _ _ => rfl) (fun _ _ => rfl)
      fun _ _ => rfl).mpr hs
  have hbay : (s.unboarded x bt).bay e.bay = s.bay e.bay :=
    unboarded_view s x bt (fun t => t.bay e.bay) (fun _ _ => rfl) (fun _ _ => rfl) (fun _ _ => rfl) (fun _ _ => rfl)
      fun _ _ => rfl
  rw [remove_eq, mem_foldl_vacateBay hsound, unboarded_dispatch, hbay, mem_heldBy]

theorem heldBy_of_only {s : State} {x : BoatId} {b : BlockId} (honly : ∀ c, (s.entry c).occupant = some x → c = b)
    (hb : (s.entry b).occupant = some x) : s.heldBy x = [b] := by
  have hsame : s.heldBy x = allBlocks.filter (· == b) := by
    refine List.filter_congr fun c _ => ?_
    rw [Bool.eq_iff_iff, beq_iff_eq, beq_iff_eq]
    exact ⟨honly c, fun h => h ▸ hb⟩
  have hcount : allBlocks.count b = 1 := (List.nodup_finRange 32).count.trans (if_pos (List.mem_finRange b))
  rw [hsame, List.filter_beq, hcount]
  rfl

/-- The one bay of the boat is reported empty after its entry is reported CANCELED. -/
theorem remove_tells {b : BlockId} {y : Bay} {e : DispatchEntry} (hs : s.dispatchSound)
    (honly : ∀ c, (s.entry c).occupant = some x → c = b) (hb : (s.entry b).occupant = some x) (hy : s.bay b = some y)
    (hphase : y.phase = .dispatchQueued) (he : e ∈ s.dispatch) (hbay : e.bay = b) :
    Tells s (s.remove x bt) [.of .dispatch (some b) (some e.boat) 5 e.seq.toNat 3 0,
      .of .bay (some b) none Phase.dispatchQueued.code Phase.vacant.code 0 0] := by
  have hheld : s.heldBy x = [b] := heldBy_of_only honly hb
  have hbefore : (s.unboarded x bt).bay b = some y :=
    (unboarded_view s x bt (fun t => t.bay b) (fun _ _ => rfl) (fun _ _ => rfl) (fun _ _ => rfl) (fun _ _ => rfl)
      fun _ _ => rfl).trans hy
  have hempty : ((s.unboarded x bt).entry b).occupant = none := by
    have hlifted : (s.unboarded x bt).entry b = (s.entry b).without :=
      (lifted_entry s x bt b).trans (if_pos (mem_losing.mpr (.inl hb)))
    obtain ⟨st, -, hbare⟩ := without_bare (s.entry b)
    rw [hlifted, hbare]
    rfl
  have hentry : (s.unboarded x bt).entryOfBay b = some e := by
    rw [entryOfBay_congr (unboarded_dispatch s x bt), ← hbay]
    exact entryOfBay_of_mem he fun d hd hsame => eq_of_nodup_map hs.2.2.1 hd he hsame
  have htold : Tells s (s.unboarded x bt) [] := .of_surroundings
    (unboarded_view s x bt State.surroundings (fun _ _ => rfl) (fun _ _ => rfl) (fun _ _ => rfl) (fun _ _ => rfl) fun _ _ => rfl)
    (unboarded_view s x bt State.reports (fun _ _ => rfl) (fun _ _ => rfl) (fun _ _ => rfl) (fun _ _ => rfl) fun _ _ => rfl)
  have hvacated := vacateBay_tells hbefore
  rw [State.cancelReports, hentry] at hvacated
  dsimp only at hvacated
  rw [hempty, hphase, hbay] at hvacated
  rw [remove_eq, hheld]
  exact htold.trans hvacated

end

/-- A brake record's loss of the boat, by whether the boat was its block's occupant. -/
theorem removed_eq (s : State) (x : BoatId) (c : BlockId) (k : Brake) : k.removed x ((s.heldBy x).contains c) = { k with
    passage := k.passage.filter fun g => g.boat != x
    hold := if (s.entry c).occupant = some x then false else k.hold
    stopDelay := if (s.entry c).occupant = some x then none else k.stopDelay } := by
  have hcontains : (s.heldBy x).contains c = decide ((s.entry c).occupant = some x) := by
    rw [Bool.eq_iff_iff, List.contains_iff_mem, mem_heldBy, decide_eq_true_eq]
  rw [hcontains]
  by_cases h : (s.entry c).occupant = some x
  · rw [if_pos h, if_pos h, decide_eq_true h, Brake.removed, Bool.not_true, Bool.and_false]
    rfl
  · rw [if_neg h, if_neg h, decide_eq_false h, Brake.removed, Bool.not_false, Bool.and_true]
    rfl

theorem readArgs_removeBoat (x : BoatId) : readArgs .removeBoat (b1 x.val) = .ok (.removeBoat x) := by
  rw [readArgs, readOneSlot_b1]
  rfl

/-- Settles O22: the boat leaves its blocks, brakes and tag windows, and its bay is vacated. -/
theorem removeBoatEmptiesItsBlocks : Obligations.RemoveBoatEmptiesItsBlocks := by
  unfold Obligations.RemoveBoatEmptiesItsBlocks
  intro s l tag x hadmits
  refine ⟨fun bt b p hx hwindow => ?_, fun bt hx => ?_, fun hx => ?_⟩
  · obtain ⟨hconfigure, hrun, hholding⟩ := census_modes hadmits (.inr rfl)
    have hmode : (s.remove x bt).mode = s.mode := remove_kept s x bt State.mode (fun _ _ => rfl) (fun _ _ => rfl)
      (fun _ _ => rfl) (fun _ _ => rfl) (fun _ _ => rfl) (fun _ _ => rfl) (fun _ _ => rfl) fun _ _ => rfl
    have hsurroundings : (s.remove x bt).surroundings = s.surroundings := remove_kept s x bt State.surroundings
      (fun _ _ => rfl) (fun _ _ => rfl) (fun _ _ => rfl) (fun _ _ => rfl) (fun _ _ => rfl) (fun _ _ => rfl) (fun _ _ => rfl)
      fun _ _ => rfl
    have hmc : (s.remove x bt).mc = s.mc := remove_kept s x bt State.mc (fun _ _ => rfl) (fun _ _ => rfl)
      (fun _ _ => rfl) (fun _ _ => rfl) (fun _ _ => rfl) (fun _ _ => rfl) (fun _ _ => rfl) fun _ _ => rfl
    rw [← hmode] at hconfigure hrun hholding
    have hderived := finish_rederived hrun hholding
    have hslot (y : BoatId) := (congrArg (vget · y) hderived.keeps_roster).trans (remove_slot s x bt y)
    have hbay (c : BlockId) : (s.remove x bt).finish.bay c = _ := (congrArg (vget · c) hderived.keeps_bays).trans (remove_bay s x bt c)
    have hdispatch := hderived.keeps_dispatch
    have howned : s.removeBoat x = (.ok, (s.remove x bt).finish) := by rw [State.removeBoat, hx]
    have hblock : s.windowBlock (.removeBoat x) = some b := by
      rw [State.windowBlock, hx]
      rfl
    refine ⟨_, exec_owned tag hadmits (readArgs_removeBoat x) hblock hwindow howned,
      replies_surroundings ((finish_surroundings _).trans hsurroundings) ..,
      fun c => (hderived.keeps_entry c).trans (remove_entry s x bt c), (hslot x).trans (if_pos rfl),
      fun y hy => (hslot y).trans (if_neg hy), fun q w hw => ?_, hderived.keeps_mc.trans hmc, fun c y hc hy => ?_,
      fun c hc => (hbay c).trans (if_neg hc), fun c => ?_, fun e he => remove_dispatch_subset s x bt (hdispatch ▸ he),
      fun hs => ⟨fun c y hc hy e he hec => ?_, fun e he hne => ?_, fun y e honly hb hy hphase he hec => ?_⟩⟩
    · have hwindow := ((congrArg (vget · q) hderived.keeps_tagWindows).trans (remove_tagWindow s x bt q)).symm.trans hw
      obtain ⟨-, hnot⟩ := Option.filter_eq_some_iff.mp hwindow
      exact bne_iff_ne.mp hnot
    · obtain ⟨_, -, rfl⟩ := Option.map_eq_some_iff.mp (((hbay c).trans (if_pos hc)).symm.trans hy)
      exact ⟨rfl, rfl, rfl, rfl, rfl⟩
    · obtain ⟨demand, hbrake⟩ := finish_brake_still hconfigure hrun hholding c
      rw [remove_brake, Option.map_map] at hbrake
      refine ⟨fun hnone => hbrake.trans (by rw [hnone]; rfl), fun k hk => ⟨demand (k.removed x ((s.heldBy x).contains c)), ?_⟩⟩
      have hremoved := congrArg (fun j : Brake => some { j with demand := demand (k.removed x ((s.heldBy x).contains c)) })
        (removed_eq s x c k)
      rw [hk] at hbrake
      exact hbrake.trans hremoved
    · have hempty := ((mem_remove_dispatch s x bt hs e).mp (hdispatch ▸ he)).2 (hec ▸ hc)
      rw [hec, hy] at hempty
      cases hempty
    · have hmem := (mem_remove_dispatch s x bt hs e).mpr ⟨he, fun h => absurd h hne⟩
      rw [← hdispatch] at hmem
      exact hmem
    · exact (((remove_tells s x bt hs honly hb hy hphase he hec).trans_nothing hderived.tells).trans_nothing
        (replies_tells _ l .removeBoat tag .ok [])).reportsAdded
  · have howned : s.removeBoat x = (.ok, s) := by rw [State.removeBoat, hx]
    have hblock : s.windowBlock (.removeBoat x) = none := by
      rw [State.windowBlock, hx]
      rfl
    exact exec_owned_anywhere tag hadmits (readArgs_removeBoat x) hblock howned
  · have howned : s.removeBoat x = (.bare .state, s) := by rw [State.removeBoat, hx]
    have hblock : s.windowBlock (.removeBoat x) = none := by
      rw [State.windowBlock, hx]
      rfl
    exact exec_owned_anywhere tag hadmits (readArgs_removeBoat x) hblock howned

end Sys2Proof.Machine
end

section
/-! PROOFS. The end of a weigh: the record, the report, the fault of NOTE class and the bay's next phase. -/

namespace Sys2Proof.Machine

open Sys2Proof

/-! ### A fault of NOTE class, or none -/

/-- A fault of a bay and its boat, where the outcome has one. -/
def State.noted (s : State) (fault : Option FaultKind) (b : BlockId) (x : BoatId) : State :=
  match fault with
  | some k => s.raise k (some b) (some x) (detail)
  | none => s

/-- What that fault reports. -/
def State.notedReports (s : State) (fault : Option FaultKind) (b : BlockId) (x : BoatId) : List Told :=
  match fault with
  | some k => s.faultReports k (some b) (some x) 0 0 0 0
  | none => []

section
variable (s : State) {fault : Option FaultKind} (hnote : ∀ k, fault = some k → k.cls = .note) (b : BlockId) (x : BoatId)

theorem noted_view {γ : Type} (v : State → γ) (htable : ∀ t y, v { t with table := y } = v t)
    (hdispatch : ∀ t y, v { t with dispatch := y } = v t) (hswitches : ∀ t y, v { t with switches := y } = v t)
    (hmc : ∀ t y, v { t with mc := y } = v t) (hreports : ∀ t y, v { t with reports := y } = v t) :
    v (s.noted fault b x) = v s := by
  cases fault with
  | none => rfl
  | some k => exact raise_view v htable hdispatch hswitches hmc hreports ..

include hnote in
theorem noted_keeps : (s.noted fault b x).mode = s.mode ∧ (s.noted fault b x).dispatch = s.dispatch ∧
    (s.noted fault b x).table = s.table := by
  cases fault with
  | none => exact ⟨rfl, rfl, rfl⟩
  | some k =>
    obtain ⟨hmode, -, hdispatch, htable, -⟩ := raise_note_keeps (hnote k rfl) s (some b) (some x) (detail)
    exact ⟨hmode, hdispatch, htable⟩

theorem noted_tells : Tells s (s.noted fault b x) (s.notedReports fault b x) := by
  cases fault with
  | none => exact .refl s
  | some k => exact raise_tells s k (some b) (some x) (detail)

end

/-! ### A weigh concluded (R88, R97 to R101) -/

/-- A bay's record when its weigh ends. -/
def Bay.weighed (y : Bay) (w : Weigh) (outcome : WeighOutcome) (result : Option WeighResult) : Bay :=
  { y with weigh := none, weighs := min (y.weighs + 1) 65535,
           status := some { kind := w.kind, outcome := outcome, result := result, attempts := w.attempt } }

section
variable {s : State} {b : BlockId} {y : Bay} (w : Weigh) (outcome : WeighOutcome) (result : Option WeighResult) (d2 d3 d4 : Nat)

theorem endWeigh_bay (hy : s.bay b = some y) :
    (s.endWeigh b w outcome result d2 d3 d4).bay b = some (y.weighed w outcome result) := by
  rw [State.endWeigh, State.bay, append_bays, modBay_of_some hy]
  exact setBay_bay_self ..

theorem endWeigh_bay_ne {c : BlockId} (h : c ≠ b) : (s.endWeigh b w outcome result d2 d3 d4).bay c = s.bay c := by
  rw [State.endWeigh, State.bay, append_bays]
  exact modBay_bay_ne _ _ h

theorem weighReportCode_le (k : WeighKind) (o : WeighOutcome) : weighReportCode k o ≤ 16777215 := by
  cases k <;> cases o <;> decide

theorem endWeigh_tells : Tells s (s.endWeigh b w outcome result d2 d3 d4)
    [.of .weigh (some b) (some w.boat) (weighReportCode w.kind outcome) (cap d2) (cap d3) (cap d4)] := by
  have hquiet (f : Bay → Bay) : Tells s (s.modBay b f) [] := .of_surroundings (modBay_surroundings ..) (modBay_reports ..)
  rw [State.endWeigh, detail_eq_cap, cap_of_le (weighReportCode_le ..)]
  exact (hquiet _).trans (append_tells ..)

end

/-- A weigh's end, with the fault and the phase of its outcome. -/
def State.concluded (s : State) (b : BlockId) (w : Weigh) (outcome : WeighOutcome) (result : Option WeighResult)
    (d2 d3 d4 : Nat) (fault : Option FaultKind) (p : Phase) : State :=
  ((s.endWeigh b w outcome result d2 d3 d4).noted fault b w.boat).setPhase b p

section
variable {s : State} {b : BlockId} {y : Bay} {w : Weigh} {outcome : WeighOutcome} {result : Option WeighResult}
  {d2 d3 d4 : Nat} {fault : Option FaultKind} {p : Phase}

theorem concluded_bay (hy : s.bay b = some y) : (s.concluded b w outcome result d2 d3 d4 fault p).bay b =
    some { y.weighed w outcome result with phase := p } := by
  have hnoted := noted_view (s.endWeigh b w outcome result d2 d3 d4) (fault := fault) b w.boat (fun t => t.bay b)
    (fun _ _ => rfl) (fun _ _ => rfl) (fun _ _ => rfl) (fun _ _ => rfl) fun _ _ => rfl
  rw [State.concluded, setPhase_bay_self]
  refine (congrArg (Option.map _) (hnoted.trans (endWeigh_bay w outcome result d2 d3 d4 hy))).trans ?_
  rfl

theorem concluded_bay_ne {c : BlockId} (h : c ≠ b) : (s.concluded b w outcome result d2 d3 d4 fault p).bay c = s.bay c := by
  have hnoted := noted_view (s.endWeigh b w outcome result d2 d3 d4) (fault := fault) b w.boat (fun t => t.bay c)
    (fun _ _ => rfl) (fun _ _ => rfl) (fun _ _ => rfl) (fun _ _ => rfl) fun _ _ => rfl
  rw [State.concluded, setPhase_bay_ne _ _ h]
  exact hnoted.trans (endWeigh_bay_ne w outcome result d2 d3 d4 h)

theorem concluded_view {γ : Type} (v : State → γ) (htable : ∀ t y, v { t with table := y } = v t)
    (hdispatch : ∀ t y, v { t with dispatch := y } = v t) (hswitches : ∀ t y, v { t with switches := y } = v t)
    (hmc : ∀ t y, v { t with mc := y } = v t) (hreports : ∀ t y, v { t with reports := y } = v t)
    (hbays : ∀ t y, v { t with bays := y } = v t) : v (s.concluded b w outcome result d2 d3 d4 fault p) = v s := by
  rw [State.concluded, setPhase_view v hbays hreports, noted_view _ _ _ v htable hdispatch hswitches hmc hreports,
    endWeigh_view v hbays hreports]

theorem concluded_keeps (hnote : ∀ k, fault = some k → k.cls = .note) :
    (s.concluded b w outcome result d2 d3 d4 fault p).mode = s.mode ∧
    (s.concluded b w outcome result d2 d3 d4 fault p).dispatch = s.dispatch ∧
    (s.concluded b w outcome result d2 d3 d4 fault p).table = s.table := by
  obtain ⟨hmode, hdispatch, htable⟩ := noted_keeps (s.endWeigh b w outcome result d2 d3 d4) hnote b w.boat
  refine ⟨?_, ?_, ?_⟩
  · exact (setPhase_view State.mode (fun _ _ => rfl) (fun _ _ => rfl) ..).trans
      (hmode.trans (endWeigh_view State.mode (fun _ _ => rfl) (fun _ _ => rfl) ..))
  · exact (setPhase_dispatch ..).trans (hdispatch.trans (endWeigh_dispatch ..))
  · exact (setPhase_table ..).trans (htable.trans (endWeigh_table ..))

theorem concluded_mc : (s.concluded b w outcome result d2 d3 d4 none p).mc = s.mc :=
  (setPhase_mc ..).trans (endWeigh_mc ..)

theorem concluded_faultTaken {k : FaultKind} :
    FaultTaken s (s.concluded b w outcome result d2 d3 d4 (some k) p) k (some b) (some w.boat) :=
  (raise_faultTaken (s.endWeigh b w outcome result d2 d3 d4) k (some b) (some w.boat) (detail)).congr
    (endWeigh_mc ..).symm (endWeigh_timeBase ..).symm (setPhase_mc ..)

theorem concluded_tells (hy : s.bay b = some y) (hnote : ∀ k, fault = some k → k.cls = .note) :
    Tells s (s.concluded b w outcome result d2 d3 d4 fault p)
      (.of .weigh (some b) (some w.boat) (weighReportCode w.kind outcome) (cap d2) (cap d3) (cap d4) ::
        (s.notedReports fault b w.boat ++ bayReport b (s.entry b).occupant y.phase p)) := by
  have hended := endWeigh_tells (s := s) (b := b) w outcome result d2 d3 d4
  have hnoted := noted_tells (s.endWeigh b w outcome result d2 d3 d4) (fault := fault) b w.boat
  have hsame : (s.endWeigh b w outcome result d2 d3 d4).notedReports fault b w.boat = s.notedReports fault b w.boat := by
    cases fault with
    | none => rfl
    | some k => exact faultReports_congr (endWeigh_mc ..) (endWeigh_dispatch ..) ..
  have hbay : ((s.endWeigh b w outcome result d2 d3 d4).noted fault b w.boat).bay b = some (y.weighed w outcome result) :=
    (noted_view _ (fault := fault) b w.boat (fun t => t.bay b) (fun _ _ => rfl) (fun _ _ => rfl) (fun _ _ => rfl)
      (fun _ _ => rfl) fun _ _ => rfl).trans (endWeigh_bay w outcome result d2 d3 d4 hy)
  have hentry : ((s.endWeigh b w outcome result d2 d3 d4).noted fault b w.boat).entry b = s.entry b :=
    congrArg (vget · b) ((noted_keeps _ hnote b w.boat).2.2.trans (endWeigh_table ..))
  have hmoved := setPhase_tells ((s.endWeigh b w outcome result d2 d3 d4).noted fault b w.boat) b p
  rw [State.phaseReports, hbay, hentry] at hmoved
  rw [hsame] at hnoted
  exact hended.trans (hnoted.trans hmoved)

end

/-! ### The window's deadline (R97) -/

theorem exec_weighWindowDeadline {s : State} {b : BlockId} {y : Bay} {w : Weigh} (hy : s.bay b = some y) (hw : y.weigh = some w)
    (hd : reached s.timeBase w.deadline = true) : exec (.weighWindowDeadline b) s = .next (s.closeWindow b w).finish := by
  have hdue : s.weighDue b = some w := by
    rw [State.weighDue, hy, Option.bind_some, hw]
    exact Option.filter_some_pos hd
  rw [exec, execWeighWindowDeadline, hdue]

theorem attemptFails_eq {w : Weigh}
    (h : w.count < 4 ∨ w.spreadTolerance < w.greatest.getD 0 - w.least.getD 0 ∨ w.sumTotals = 0) :
    attemptFails w = some (if w.count < 4 then 1
      else if w.spreadTolerance < w.greatest.getD 0 - w.least.getD 0 then 2 else 3) := by
  unfold attemptFails
  split
  · rfl
  split
  · rfl
  · case isFalse.isFalse hcount hspread => rw [if_pos ((h.resolve_left hcount).resolve_left hspread)]

end Sys2Proof.Machine
end

section
/-! PROOFS. Failed attempts at a weigh and attempts that pass. -/

namespace Sys2Proof.Machine

open Sys2Proof

/-! ### Failed attempts (R88, R97) -/

section
variable {s : State} {b : BlockId} {y : Bay} {w : Weigh} {test : Nat}

/-- A bay's record with one more failed attempt counted. -/
def Bay.failed (y : Bay) : Bay := { y with failures := min (y.failures + 1) 65535 }

theorem closeWindow_repeats (hy : s.bay b = some y) (htest : attemptFails w = some test) (h : w.attempt < 3) :
    s.closeWindow b w = s.setBay b { y.failed with
      weigh := some { s.firstAttempt w.kind w.boat with attempt := w.attempt + 1 } } := by
  have hcounted : s.modBay b (fun y => { y with failures := satInc Config.counterCeiling y.failures }) = s.setBay b y.failed :=
    modBay_of_some hy _
  have hbay : (s.setBay b y.failed).bay b = some y.failed := setBay_bay_self ..
  rw [State.closeWindow, htest]
  dsimp only
  rw [if_pos h, hcounted, modBay_of_some hbay, setBay_setBay]
  rfl

theorem closeWindow_fails (hy : s.bay b = some y) (htest : attemptFails w = some test) (h : 3 ≤ w.attempt) :
    s.closeWindow b w = (s.setBay b y.failed).concluded b w .weighFailed none w.kind.code test w.count (some .weighFailed)
      w.kind.fromPhase := by
  have hcounted : s.modBay b (fun y => { y with failures := satInc Config.counterCeiling y.failures }) = s.setBay b y.failed :=
    modBay_of_some hy _
  rw [State.closeWindow, htest]
  dsimp only
  rw [if_neg (by omega), hcounted]
  rfl

end

/-- Settles O25: attempts 1 and 2 are repeated, and attempt 3 ends the weigh. -/
theorem failedAttemptsAreRepeatedTwice : Obligations.FailedAttemptsAreRepeatedTwice := by
  unfold Obligations.FailedAttemptsAreRepeatedTwice
  intro s b y w hy hw hd hfails
  have hexec := exec_weighWindowDeadline hy hw hd
  have htest := attemptFails_eq hfails
  refine ⟨fun hattempt => ?_, fun hattempt => ?_⟩
  · rw [hexec, closeWindow_repeats hy htest hattempt]
    rfl
  · rw [closeWindow_fails hy htest hattempt] at hexec
    have hbay : (s.setBay b y.failed).bay b = some y.failed := setBay_bay_self ..
    have hnote : ∀ k, some FaultKind.weighFailed = some k → k.cls = .note := by
      rintro _ ⟨⟩
      rfl
    have htold := concluded_tells (w := w) (outcome := .weighFailed) (result := none) (d2 := w.kind.code)
      (d3 := if w.count < 4 then 1 else if w.spreadTolerance < w.greatest.getD 0 - w.least.getD 0 then 2 else 3)
      (d4 := w.count) (p := w.kind.fromPhase) hbay hnote
    have hkind : cap w.kind.code = w.kind.code := cap_of_le (by cases w.kind <;> decide)
    have hcap : cap (if w.count < 4 then 1 else if w.spreadTolerance < w.greatest.getD 0 - w.least.getD 0 then 2 else 3) =
        if w.count < 4 then 1 else if w.spreadTolerance < w.greatest.getD 0 - w.least.getD 0 then 2 else 3 :=
      cap_of_le (by split; · decide
                    split <;> decide)
    have hcode : weighReportCode w.kind .weighFailed = 5 := by cases w.kind <;> rfl
    have hfault : (s.setBay b y.failed).notedReports (some .weighFailed) b w.boat =
        s.faultReports .weighFailed (some b) (some w.boat) 0 0 0 0 := faultReports_congr rfl rfl ..
    have hquiet : Tells s (s.setBay b y.failed) [] := .of_surroundings rfl rfl
    rw [hkind, hcap, hcode, hfault] at htold
    obtain ⟨hmode, hdispatch, htable⟩ := concluded_keeps (s := s.setBay b y.failed) (b := b) (w := w)
      (outcome := .weighFailed) (result := none) (d2 := w.kind.code)
      (d3 := if w.count < 4 then 1 else if w.spreadTolerance < w.greatest.getD 0 - w.least.getD 0 then 2 else 3)
      (d4 := w.count) (p := w.kind.fromPhase) hnote
    refine ⟨_, hexec, concluded_bay hbay, fun c hc => (concluded_bay_ne hc).trans (setBay_bay_ne _ _ hc),
      concluded_view State.roster (fun _ _ => rfl) (fun _ _ => rfl) (fun _ _ => rfl) (fun _ _ => rfl) (fun _ _ => rfl) fun _ _ => rfl,
      htable, hmode, (concluded_faultTaken (s := s.setBay b y.failed)).congr rfl rfl rfl, hdispatch,
      concluded_view State.surroundings (fun _ _ => rfl) (fun _ _ => rfl) (fun _ _ => rfl) (fun _ _ => rfl) (fun _ _ => rfl) fun _ _ => rfl,
      (hquiet.trans htold).reportsAdded⟩

end Sys2Proof.Machine
end

section
/-! PROOFS. A window that closes on a passing attempt. -/

namespace Sys2Proof.Machine

open Sys2Proof

/-! ### What every result leaves (R98 to R101) -/

/-- `u` differs from `s` by a weigh concluded in bay `b` with boat `x`, but for the bay, the boat and the fault. -/
structure WeighLeft (s u : State) (b : BlockId) (x : BoatId) : Prop where
  surroundings : u.surroundings = s.surroundings
  table : u.table = s.table
  mode : u.mode = s.mode
  dispatch : u.dispatch = s.dispatch
  bays : ∀ c, c ≠ b → u.bay c = s.bay c
  slots : ∀ y, y ≠ x → u.slot y = s.slot y
  positions : ∀ y, (u.slot y).position = (s.slot y).position

section
variable {s : State} {b : BlockId} {y : Bay} {w : Weigh} {outcome : WeighOutcome} {result : Option WeighResult}
  {d2 d3 d4 : Nat} {fault : Option FaultKind} {p : Phase}

theorem concluded_slot (x : BoatId) : (s.concluded b w outcome result d2 d3 d4 fault p).slot x = s.slot x :=
  concluded_view (fun t => t.slot x) (fun _ _ => rfl) (fun _ _ => rfl) (fun _ _ => rfl) (fun _ _ => rfl) (fun _ _ => rfl)
    fun _ _ => rfl

theorem concluded_left (hnote : ∀ k, fault = some k → k.cls = .note) :
    WeighLeft s (s.concluded b w outcome result d2 d3 d4 fault p) b w.boat := by
  obtain ⟨hmode, hdispatch, htable⟩ := concluded_keeps (s := s) (b := b) (w := w) (outcome := outcome) (result := result)
    (d2 := d2) (d3 := d3) (d4 := d4) (p := p) hnote
  exact { table := htable, mode := hmode, dispatch := hdispatch
          surroundings := concluded_view State.surroundings (fun _ _ => rfl) (fun _ _ => rfl) (fun _ _ => rfl) (fun _ _ => rfl)
            (fun _ _ => rfl) fun _ _ => rfl
          bays := fun c hc => concluded_bay_ne hc
          slots := fun x _ => concluded_slot x
          positions := fun x => by rw [concluded_slot] }

/-- The same where the boat's fields changed before. -/
theorem WeighLeft.of_modBoat {u : State} {x : BoatId} {f : Boat → Boat} (h : WeighLeft (s.modBoat x f) u b x) :
    WeighLeft s u b x := by
  have hslot (z : BoatId) := modBoat_slot s x z f
  refine { surroundings := h.surroundings, table := h.table, mode := h.mode, dispatch := h.dispatch, bays := h.bays
           slots := fun z hz => ?_, positions := fun z => ?_ }
  · rw [h.slots z hz, hslot, if_neg hz]
  · rw [h.positions z, hslot]
    split
    case isTrue hz =>
      rw [hz]
      exact (mapBoat_fields ..).2.1
    case isFalse => rfl

theorem concluded_bay_of_kind {kind : WeighKind} (hy : s.bay b = some y) (hkind : w.kind = kind) :
    (s.concluded b w outcome result d2 d3 d4 fault p).bay b = some { y with
      phase := p, weighs := min (y.weighs + 1) 65535, weigh := none
      status := some { kind := kind, outcome := outcome, result := result, attempts := w.attempt } } := by
  subst hkind
  exact concluded_bay hy

theorem concluded_boat_left {f : Boat → Boat} (hnote : ∀ k, fault = some k → k.cls = .note) :
    WeighLeft s ((s.modBoat w.boat f).concluded b w outcome result d2 d3 d4 fault p) b w.boat :=
  WeighLeft.of_modBoat (f := f) (concluded_left hnote)

theorem concluded_boat {x : BoatId} {f : Boat → Boat} {bt : Boat} (hbt : s.boat x = some bt) :
    ((s.modBoat x f).concluded b w outcome result d2 d3 d4 fault p).boat x = some (f bt) := by
  rw [State.boat, concluded_slot, modBoat_slot, if_pos rfl, boat_mapBoat]
  exact congrArg (Option.map f) hbt

/-- What a weigh concluded after a change of the boat tells. -/
theorem concluded_boat_tells {x : BoatId} {f : Boat → Boat} (hy : s.bay b = some y) (hnote : ∀ k, fault = some k → k.cls = .note) :
    Tells s ((s.modBoat x f).concluded b w outcome result d2 d3 d4 fault p)
      (.of .weigh (some b) (some w.boat) (weighReportCode w.kind outcome) (cap d2) (cap d3) (cap d4) ::
        (s.notedReports fault b w.boat ++ bayReport b (s.entry b).occupant y.phase p)) := by
  have hquiet : Tells s (s.modBoat x f) [] := .of_surroundings rfl rfl
  have hbay : (s.modBoat x f).bay b = some y := hy
  have hsame : (s.modBoat x f).notedReports fault b w.boat = s.notedReports fault b w.boat := by
    cases fault with
    | none => rfl
    | some k => exact faultReports_congr rfl rfl ..
  have htold := concluded_tells (w := w) (outcome := outcome) (result := result) (d2 := d2) (d3 := d3) (d4 := d4) (p := p) hbay hnote
  rw [hsame] at htold
  exact hquiet.trans htold

theorem concluded_boat_faultTaken {x : BoatId} {f : Boat → Boat} {k : FaultKind} :
    FaultTaken s ((s.modBoat x f).concluded b w outcome result d2 d3 d4 (some k) p) k (some b) (some w.boat) :=
  (concluded_faultTaken (s := s.modBoat x f)).congr rfl rfl rfl

end

/-! ### The result of a tare weigh (R86, R99) -/

section
variable {s : State} {b : BlockId} {y : Bay} {w : Weigh} {bt : Boat} {z : BaySection}

/-- The result of a weigh as the weigh status shows it. -/
def Weigh.resulting (w : Weigh) (n : Nat) : WeighResult := { mean := meanTotal w, share := frontShare w, loadOrDeviation := n }

theorem tareOf_eq (hbt : s.boat w.boat = some bt) : s.tareOf w.boat = bt.tare := by
  rw [State.tareOf, hbt]
  rfl

theorem tareResult_within {dev : Nat} (hdev : dev = tareDeviation (meanTotal w) (s.tareOf w.boat)) (h : dev ≤ w.tareTolerance) :
    s.tareResult b w = (s.modBoat w.boat fun x => { x with load := some 0, guests := false, check := false }).concluded b w .ok
      (some (w.resulting dev)) (meanTotal w) (frontShare w) dev none
      (if s.bayRole b = some .unload then .cleared else .loading) := by
  have hkept : decide (w.tareTolerance < dev) = false := decide_eq_false (by omega)
  have hrole (v : State) o r i j k : (v.endWeigh b w o r i j k).bayRole b = v.bayRole b :=
    endWeigh_view (fun t : State => t.bayRole b) (fun _ _ => rfl) (fun _ _ => rfl) ..
  unfold State.tareResult
  dsimp only
  rw [← hdev]
  rw [hkept]
  simp only [Bool.false_eq_true, if_false, Bool.false_or, beq_iff_eq]
  rw [hrole]
  rfl

theorem tareResult_deviates {dev : Nat} (hdev : dev = tareDeviation (meanTotal w) (s.tareOf w.boat)) (h : w.tareTolerance < dev) :
    s.tareResult b w = (s.modBoat w.boat fun x =>
        { x with load := some 0, guests := false, check := true, route := .storage }).concluded b w .deviation
      (some (w.resulting dev)) (meanTotal w) (frontShare w) dev (some .tareDeviation) .cleared := by
  have hdeviates : decide (w.tareTolerance < dev) = true := decide_eq_true h
  unfold State.tareResult
  dsimp only
  rw [← hdev]
  rw [hdeviates]
  rfl

/-! ### The result of a load weigh (R87, R98) -/

theorem loadOutcome_eq (load share maxLoad : Nat) : loadOutcome load share maxLoad =
    if maxLoad < load ∨ 1200 < load then .overweight else if share < 35 ∨ 65 < share then .unbalanced else .ok := by
  unfold loadOutcome
  have hleast : min maxLoad 1200 < load ↔ maxLoad < load ∨ 1200 < load := by omega
  simp only [hleast]

theorem loadResult_ok {load : Nat} (hload : load = meanTotal w - s.tareOf w.boat)
    (h : loadOutcome load (frontShare w) ((((s.record b).bind (·.bay)).map (·.maxLoad)).getD 0) = .ok) :
    s.loadResult b w = (s.modBoat w.boat fun x =>
        { x with load := some load, guests := decide (w.minimumGuestLoad ≤ load), laps := x.laps + 1 }).concluded b w .ok
      (some (w.resulting load)) (meanTotal w) (frontShare w) load none .ready := by
  unfold State.loadResult computedLoad
  dsimp only
  rw [← hload]
  rw [h]
  rfl

theorem loadResult_refused {load : Nat} {outcome : WeighOutcome} (hload : load = meanTotal w - s.tareOf w.boat)
    (h : loadOutcome load (frontShare w) ((((s.record b).bind (·.bay)).map (·.maxLoad)).getD 0) = outcome) (hne : outcome ≠ .ok) :
    s.loadResult b w = s.concluded b w outcome (some (w.resulting load)) (meanTotal w) (frontShare w) load none .loading := by
  unfold State.loadResult computedLoad
  dsimp only
  rw [← hload]
  rw [h, if_neg hne, if_neg hne]
  rfl

end

theorem attemptFails_none {w : Weigh} (hcount : 4 ≤ w.count) (hspread : w.greatest.getD 0 - w.least.getD 0 ≤ w.spreadTolerance)
    (hsum : 0 < w.sumTotals) : attemptFails w = none := by
  rw [attemptFails, if_neg (by omega), if_neg (by omega), if_neg (by omega)]

/-- The closing of a passing window leaves all but the bay, the boat and the fault. -/
theorem closeWindow_left {s : State} {b : BlockId} {w : Weigh} (hpass : attemptFails w = none) :
    WeighLeft s (s.closeWindow b w) b w.boat := by
  rw [State.closeWindow, hpass]
  dsimp only
  cases w.kind with
  | tare =>
    dsimp only
    by_cases hdev : w.tareTolerance < tareDeviation (meanTotal w) (s.tareOf w.boat)
    · rw [tareResult_deviates rfl hdev]
      exact concluded_boat_left fun k hk => by cases hk; rfl
    · rw [tareResult_within rfl (by omega)]
      exact concluded_boat_left nofun
  | load =>
    dsimp only
    by_cases hok : loadOutcome (meanTotal w - s.tareOf w.boat) (frontShare w)
      ((((s.record b).bind (·.bay)).map (·.maxLoad)).getD 0) = .ok
    · rw [loadResult_ok rfl hok]
      exact concluded_boat_left nofun
    · rw [loadResult_refused rfl rfl hok]
      exact concluded_left nofun

theorem closeWindow_tare {s : State} {b : BlockId} {w : Weigh} (hpass : attemptFails w = none) (hkind : w.kind = .tare) :
    s.closeWindow b w = s.tareResult b w := by
  rw [State.closeWindow, hpass, hkind]

theorem closeWindow_load {s : State} {b : BlockId} {w : Weigh} (hpass : attemptFails w = none) (hkind : w.kind = .load) :
    s.closeWindow b w = s.loadResult b w := by
  rw [State.closeWindow, hpass, hkind]

/-- Settles O26: the result of each kind of weigh, after what a passing window leaves. -/
theorem passingAttemptsEndTheWeigh : Obligations.PassingAttemptsEndTheWeigh := by
  unfold Obligations.PassingAttemptsEndTheWeigh
  rintro s b y w bt r z mean share hy hw hd hbt hr hz hcount hspread hsum rfl rfl
  have hpass := attemptFails_none hcount hspread hsum
  have htare := tareOf_eq (s := s) hbt
  have hrole : s.bayRole b = some z.role := bayRole_eq hr hz
  have hmaxLoad : (((s.record b).bind (·.bay)).map (·.maxLoad)).getD 0 = z.maxLoad := by
    rw [hr, Option.bind_some, hz]
    rfl
  obtain ⟨hsurroundings, htable, hmode, hdispatch, hbays, hslots, hpositions⟩ := closeWindow_left (s := s) (b := b) hpass
  refine ⟨_, exec_weighWindowDeadline hy hw hd, hsurroundings, htable, hmode, hdispatch, hbays, hslots, hpositions,
    fun dev hkind hdev => ⟨fun hwithin => ?_, fun hdeviates => ?_⟩, fun load outcome code hkind hload houtcome hcode => ?_⟩
  · have hdev' : dev = tareDeviation (meanTotal w) (s.tareOf w.boat) := by
      rw [tareDeviation_eq, htare]
      exact hdev
    have hresult := (closeWindow_tare (s := s) (b := b) hpass hkind).trans (tareResult_within hdev' hwithin)
    have hphase : (if s.bayRole b = some .unload then Phase.cleared else .loading) =
        if z.role = .unload then .cleared else .loading := by simp only [hrole, Option.some.injEq]
    rw [hphase] at hresult
    rw [hresult]
    have htold := concluded_boat_tells (x := w.boat)
      (f := fun x => { x with load := some 0, guests := false, check := false }) (w := w) (outcome := .ok)
      (result := some (w.resulting dev)) (d2 := meanTotal w) (d3 := frontShare w) (d4 := dev)
      (p := if z.role = .unload then .cleared else .loading) (fault := none) hy nofun
    rw [hkind] at htold
    exact ⟨concluded_boat hbt, concluded_mc, concluded_bay_of_kind (s := s.modBoat w.boat _) hy hkind, htold.reportsAdded⟩
  · have hdev' : dev = tareDeviation (meanTotal w) (s.tareOf w.boat) := by
      rw [tareDeviation_eq, htare]
      exact hdev
    rw [(closeWindow_tare (s := s) (b := b) hpass hkind).trans (tareResult_deviates hdev' hdeviates)]
    have htold := concluded_boat_tells (x := w.boat)
      (f := fun x => { x with load := some 0, guests := false, check := true, route := .storage }) (w := w)
      (outcome := .deviation) (result := some (w.resulting dev)) (d2 := meanTotal w) (d3 := frontShare w) (d4 := dev)
      (p := .cleared) (fault := some .tareDeviation) hy fun k hk => by cases hk; rfl
    rw [hkind] at htold
    exact ⟨concluded_boat hbt, concluded_boat_faultTaken, concluded_bay_of_kind (s := s.modBoat w.boat _) hy hkind,
      htold.reportsAdded⟩
  · have hload' : load = meanTotal w - s.tareOf w.boat := by
      rw [htare]
      exact hload
    have houtcome' : loadOutcome load (frontShare w) ((((s.record b).bind (·.bay)).map (·.maxLoad)).getD 0) = outcome := by
      rw [hmaxLoad, loadOutcome_eq]
      exact houtcome.symm
    have hclosed := closeWindow_load (s := s) (b := b) hpass hkind
    have hreport : weighReportCode .load outcome = code := by
      rw [hcode]
      have hne : outcome ≠ .deviation ∧ outcome ≠ .weighFailed := by
        rw [houtcome]
        split
        · exact ⟨nofun, nofun⟩
        split <;> exact ⟨nofun, nofun⟩
      cases outcome with
      | deviation => exact absurd rfl hne.1
      | weighFailed => exact absurd rfl hne.2
      | _ => rfl
    by_cases hok : outcome = .ok
    · rw [hclosed.trans (loadResult_ok hload' (houtcome'.trans hok))]
      have htold := concluded_boat_tells (x := w.boat)
        (f := fun x => { x with load := some load, guests := decide (w.minimumGuestLoad ≤ load), laps := x.laps + 1 })
        (w := w) (outcome := .ok) (result := some (w.resulting load)) (d2 := meanTotal w) (d3 := frontShare w) (d4 := load)
        (p := .ready) (fault := none) hy nofun
      rw [hok] at hreport
      rw [hkind, hreport] at htold
      rw [if_pos hok, if_pos hok, hok]
      exact ⟨concluded_mc, concluded_boat hbt, concluded_bay_of_kind (s := s.modBoat w.boat _) hy hkind, htold.reportsAdded⟩
    · rw [hclosed.trans (loadResult_refused hload' houtcome' hok)]
      have htold := concluded_tells (w := w) (outcome := outcome) (result := some (w.resulting load)) (d2 := meanTotal w)
        (d3 := frontShare w) (d4 := load) (p := .loading) (fault := none) hy nofun
      rw [hkind, hreport] at htold
      rw [if_neg hok, if_neg hok]
      exact ⟨concluded_mc, (congrArg Slot.boat (concluded_slot w.boat)).trans hbt, concluded_bay_of_kind hy hkind,
        htold.reportsAdded⟩

end Sys2Proof.Machine
end

section
/-! PROOFS. The parts of a tail clearance: the tag window ended, the trap left unmeasured, the entry boundary cleared. -/

namespace Sys2Proof.Machine

open Sys2Proof

/-- A fault of NOTE class reports itself alone. -/
theorem faultReports_note {k : FaultKind} (hk : k.cls = .note) (s : State) (b : Option BlockId) (x : Option BoatId)
    (d1 d2 d3 d4 : Nat) : s.faultReports k b x d1 d2 d3 d4 =
      [{ kind := .fault, fault := some (k, k.cls), block := b, boat := x, details := { d1 := d1, d2 := d2, d3 := d3, d4 := d4 } }] := by
  have hmode : modeAfterFault k.cls s.mode = s.mode := by rw [hk, modeAfterFault_note]
  unfold State.faultReports
  rw [hmode]
  split
  case h_1 h => rw [if_pos h]
  case h_2 h => rw [if_pos h]
  case h_3 => rfl

/-! ### The tag window of the boundary (R74) -/

section
variable {s : State} {p : BlockId} {leg : Leg}

theorem windowPort_none (h : ∀ k v, vget s.tagWindows k = some v → v.block ≠ p) : s.windowPort p = none := by
  refine List.find?_eq_none.mpr fun k _ hk => ?_
  obtain ⟨v, hv, hblock⟩ := Option.map_eq_some_iff.mp (eq_of_beq hk)
  exact h k v hv hblock

theorem windowPort_some {port : PortId} {w : TagWindow} (hw : vget s.tagWindows port = some w) (hblock : w.block = p)
    (honly : ∀ k v, vget s.tagWindows k = some v → v.block = p → k = port) : s.windowPort p = some port := by
  refine find?_of_unique (List.mem_finRange port) ?_ fun k _ hk => ?_
  · rw [hw, Option.map_some, hblock]
    exact beq_self_eq_true _
  · obtain ⟨v, hv, hat⟩ := Option.map_eq_some_iff.mp (eq_of_beq hk)
    exact honly k v hv hat

/-- A boundary without a window. -/
theorem endTagWindow_none (h : leg = .spur ∨ ∀ k v, vget s.tagWindows k = some v → v.block ≠ p) : s.endTagWindow p leg = s := by
  unfold State.endTagWindow
  split
  case h_1 port hport =>
    rw [windowPort_none (h.resolve_left nofun)] at hport
    cases hport
  case h_2 => rfl

/-- The window of a boundary ends. -/
theorem endTagWindow_eq {port : PortId} {w : TagWindow} (hport : s.windowPort p = some port)
    (hw : vget s.tagWindows port = some w) : s.endTagWindow p .main =
      if w.resolved then s.setTagWindow port none
      else (s.setTagWindow port none).raise .tagMissing (some p) (some w.boat) (detail w.expected port.val) := by
  unfold State.endTagWindow
  rw [hport]
  dsimp only
  rw [hw]

/-- Where no read is awaited the window alone changes. -/
theorem endTagWindow_read (h : s.tagIsRead p leg) : ∃ ws, s.endTagWindow p leg = { s with tagWindows := ws } := by
  cases leg with
  | spur => exact ⟨_, endTagWindow_none (.inl rfl)⟩
  | main =>
    have hread := h.resolve_left nofun
    cases hport : s.windowPort p with
    | none =>
      refine ⟨s.tagWindows, ?_⟩
      unfold State.endTagWindow
      rw [hport]
    | some port =>
      obtain ⟨w, hw, hblock⟩ := Option.map_eq_some_iff.mp (eq_of_beq
        (List.find?_some (p := fun k : PortId => (vget s.tagWindows k).map (·.block) == some p) hport))
      exact ⟨_, (endTagWindow_eq hport hw).trans (if_pos (hread port w hw hblock))⟩

/-- Where the read is awaited TAG_MISSING is raised. -/
theorem endTagWindow_misses {port : PortId} {w : TagWindow} (h : s.missesTag p leg port w) : s.endTagWindow p leg =
    (s.setTagWindow port none).raise .tagMissing (some p) (some w.boat) (detail w.expected port.val) := by
  obtain ⟨rfl, hw, hblock, hawaits, honly⟩ := h
  rw [endTagWindow_eq (windowPort_some hw hblock honly) hw, hawaits]
  rfl

theorem endTagWindow_windows {port : PortId} {w : TagWindow} (hw : vget s.tagWindows port = some w) (hblock : w.block = p)
    (honly : ∀ k v, vget s.tagWindows k = some v → v.block = p → k = port) :
    (s.endTagWindow p .main).tagWindows = vput s.tagWindows port none := by
  rw [endTagWindow_eq (windowPort_some hw hblock honly) hw]
  split
  · rfl
  · exact raise_tagWindows ..

/-- The ending of a window raises at most a fault of NOTE class. -/
theorem endTagWindow_keeps (s : State) (p : BlockId) (leg : Leg) :
    (s.endTagWindow p leg).mode = s.mode ∧ (s.endTagWindow p leg).mc.slot = s.mc.slot ∧
    (s.endTagWindow p leg).dispatch = s.dispatch ∧ (s.endTagWindow p leg).table = s.table ∧
    (s.endTagWindow p leg).timeBase = s.timeBase := by
  unfold State.endTagWindow
  split
  · split
    · exact ⟨rfl, rfl, rfl, rfl, rfl⟩
    · dsimp only
      split
      · exact ⟨rfl, rfl, rfl, rfl, rfl⟩
      · exact raise_note_keeps (k := .tagMissing) rfl ..
  · exact ⟨rfl, rfl, rfl, rfl, rfl⟩

theorem endTagWindow_mc_of_read (h : s.tagIsRead p leg) : (s.endTagWindow p leg).mc = s.mc := by
  obtain ⟨ws, hws⟩ := endTagWindow_read h
  rw [hws]

theorem endTagWindow_tells_of_read (h : s.tagIsRead p leg) : Tells s (s.endTagWindow p leg) [] := by
  obtain ⟨ws, hws⟩ := endTagWindow_read h
  rw [hws]
  exact .of_surroundings rfl rfl

theorem endTagWindow_faultTaken {port : PortId} {w : TagWindow} (h : s.missesTag p leg port w) :
    FaultTaken s (s.endTagWindow p leg) .tagMissing (some p) (some w.boat) := by
  rw [endTagWindow_misses h]
  exact (raise_faultTaken (s.setTagWindow port none) .tagMissing (some p) (some w.boat) _).congr rfl rfl rfl

theorem endTagWindow_tells_of_misses {port : PortId} {w : TagWindow} (h : s.missesTag p leg port w) :
    Tells s (s.endTagWindow p leg) (s.faultReports .tagMissing (some p) (some w.boat) (cap w.expected) port.val 0 0) := by
  have hquiet : Tells s (s.setTagWindow port none) [] := .of_surroundings rfl rfl
  have hport : cap port.val = port.val := cap_of_le (by omega)
  have htold := raise_tells (s.setTagWindow port none) .tagMissing (some p) (some w.boat) (detail w.expected port.val)
  rw [detail_eq_cap, hport, faultReports_congr (s := s) (t := s.setTagWindow port none) rfl rfl] at htold
  rw [endTagWindow_misses h, detail_eq_cap, hport]
  exact hquiet.trans htold

end

/-! ### A trap left unmeasured (R149) -/

section
variable {s : State} {p : BlockId}

theorem trapUnmeasured_timed (h : s.isTimed p) : s.trapUnmeasured p = s := by
  unfold State.trapUnmeasured
  split
  case h_1 r g _ hg =>
    obtain ⟨k, hk, hkg⟩ := passage_of hg rfl
    exact if_pos (h k g hk hkg)
  case h_2 => rfl

theorem trapUnmeasured_untimed {k : Brake} {g : Passage} {r : BrakeSection} (h : s.untimed p k g r) :
    s.trapUnmeasured p = s.trapFails p r g false := by
  obtain ⟨hk, hr, hg, hphase⟩ := h
  have hr' : s.brakeRec p = some r := hr
  have hpassage : (s.brake p).bind (·.passage) = some g := Option.bind_eq_some_iff.mpr ⟨k, hk, hg⟩
  rw [State.trapUnmeasured, hr', hpassage]
  exact if_neg hphase

theorem trapUnmeasured_table (s : State) (p : BlockId) : (s.trapUnmeasured p).table = s.table := by
  unfold State.trapUnmeasured
  split
  · split
    · rfl
    · exact trapFails_table ..
  · rfl

end

/-! ### The entry boundary of a bay cleared (R83, R90) -/

section
variable {s : State} {eye : PointId}

theorem entryCleared_none (h : ∀ c y, s.bay c = some y → y.entryEye ≠ some eye) : s.entryCleared eye = s := by
  have hnone : allBlocks.find? (fun b => (s.bay b).bind (·.entryEye) == some eye) = none := by
    refine List.find?_eq_none.mpr fun c _ hc => ?_
    obtain ⟨y, hy, heye⟩ := Option.bind_eq_some_iff.mp (eq_of_beq hc)
    exact h c y hy heye
  rw [State.entryCleared, hnone]

/-- A bay without this boundary stays. -/
theorem entryCleared_bay_of_other {c : BlockId} (h : ∀ y, s.bay c = some y → y.entryEye ≠ some eye) :
    (s.entryCleared eye).bay c = s.bay c := by
  unfold State.entryCleared
  split
  case h_1 => rfl
  case h_2 b hb =>
    obtain ⟨y, hy, heye⟩ := Option.bind_eq_some_iff.mp (eq_of_beq
      (List.find?_some (p := fun b : BlockId => (s.bay b).bind (·.entryEye) == some eye) hb))
    have hne : c ≠ b := fun hcb => h y (hcb ▸ hy) heye
    split
    · exact endBerthed_bay_ne _ hne
    · exact modBay_bay_ne _ _ hne

/-- The one bay of the boundary ends BERTHED, or forgets the boundary. -/
theorem entryCleared_bay {c : BlockId} {y : Bay} {role : BayRole} {x : BoatId} {guests : Bool} (hy : s.bay c = some y)
    (heye : y.entryEye = some eye) (honly : ∀ e v, s.bay e = some v → v.entryEye = some eye → e = c)
    (hrole : s.bayRole c = some role) (hx : (s.entry c).occupant = some x) (hguests : s.guestsIn c = guests) :
    (s.entryCleared eye).bay c =
      some (if y.phase = .berthed then s.afterBerthed y role x guests else { y with entryEye := none }) := by
  have hfound : allBlocks.find? (fun b => (s.bay b).bind (·.entryEye) == some eye) = some c := by
    refine find?_of_unique (List.mem_finRange c) ?_ fun e _ he => ?_
    · rw [hy, Option.bind_some, heye]
      exact beq_self_eq_true _
    · obtain ⟨v, hv, hat⟩ := Option.bind_eq_some_iff.mp (eq_of_beq he)
      exact honly e v hv hat
  rw [State.entryCleared, hfound]
  dsimp only
  rw [hy, Option.map_some]
  split
  case h_1 hphase =>
    rw [if_pos (Option.some.inj hphase)]
    exact endBerthed_bay hy hrole hx hguests
  case h_2 hphase =>
    rw [if_neg fun h => hphase (congrArg some h), modBay_of_some hy]
    exact setBay_bay_self ..

end

end Sys2Proof.Machine
end

section
/-! PROOFS. The three cases of a tail clearance (R45 to R47), before the entry boundary is cleared. -/

namespace Sys2Proof.Machine

open Sys2Proof

/-- `v` is `s` after all of a tail clearance at the exit `leg` of `p` but the clearing of the entry boundary `eye`. -/
structure TailLeft (s v : State) (p : BlockId) (leg : Leg) (eye : PointId) : Prop where
  timeBase : v.timeBase = s.timeBase
  layout : v.layout = s.layout
  roster : v.roster = s.roster
  entries : ∀ c, c ≠ p → v.entry c = s.entry c
  bays : ∀ c, c ≠ p → v.bay c = s.bay c
  boundary : ∀ y, v.bay p = some y → y.entryEye = some eye → s.bay p = some y
  windows : ∃ t : State, t.tagWindows = s.tagWindows ∧ v.tagWindows = (t.endTagWindow p leg).tagWindows

/-! ### P is FAULTED (R47) -/

/-- The untracked clearance of a FAULTED block. -/
def State.tailUntracked (s : State) (p : BlockId) (leg : Leg) : State :=
  (s.passageReport p (s.entry p).occupant 1 1 p 0).endTagWindow p leg

/-- The clearance that ends no crossing. -/
def State.tailStray (s : State) (p : BlockId) (leg : Leg) : State :=
  (s.raise .strayClearance (some p) (s.entry p).occupant (detail)).endTagWindow p leg

/-- The block of an ended crossing emptied and its window ended. -/
def State.tailOpened (s : State) (p : BlockId) (leg : Leg) : State := (s.setEntry p (.bare .clear)).endTagWindow p leg

/-- The clearance that ends a crossing. -/
def State.tailCrossed (s : State) (p : BlockId) (leg : Leg) : State := ((s.tailOpened p leg).trapUnmeasured p).vacateBay p

section
variable {s : State} {p n : BlockId} {leg : Leg} (eye : PointId) (hsucc : s.layout.successor p leg = some n)
include hsucc

theorem tailClearance_faulted (h : (s.entry p).state = .faulted) :
    s.tailClearance p leg eye = (s.tailUntracked p leg).entryCleared eye := by
  rw [State.tailClearance, hsucc]
  exact if_pos h

theorem tailClearance_crossing (h : (s.entry p).state ≠ .faulted) (hends : s.endsCrossing p n = true) :
    s.tailClearance p leg eye = (s.tailCrossed p leg).entryCleared eye := by
  rw [State.tailClearance, hsucc]
  exact (if_neg h).trans (if_pos hends)

theorem tailClearance_stray (h : (s.entry p).state ≠ .faulted) (hends : s.endsCrossing p n = false) :
    s.tailClearance p leg eye = (s.tailStray p leg).entryCleared eye := by
  rw [State.tailClearance, hsucc]
  exact (if_neg h).trans (if_neg (Bool.eq_false_iff.mp hends))

end

section
variable (s : State) (p : BlockId) (leg : Leg)

theorem endTagWindow_others {γ : Type} (v : State → γ) (hwindows : ∀ t x, v { t with tagWindows := x } = v t)
    (htable : ∀ t x, v { t with table := x } = v t) (hdispatch : ∀ t x, v { t with dispatch := x } = v t)
    (hswitches : ∀ t x, v { t with switches := x } = v t) (hmc : ∀ t x, v { t with mc := x } = v t)
    (hreports : ∀ t x, v { t with reports := x } = v t) : v (s.endTagWindow p leg) = v s :=
  endTagWindow_view v htable hwindows hdispatch hswitches hmc hreports ..

theorem tailUntracked_view {γ : Type} (v : State → γ) (hwindows : ∀ t x, v { t with tagWindows := x } = v t)
    (htable : ∀ t x, v { t with table := x } = v t) (hdispatch : ∀ t x, v { t with dispatch := x } = v t)
    (hswitches : ∀ t x, v { t with switches := x } = v t) (hmc : ∀ t x, v { t with mc := x } = v t)
    (hreports : ∀ t x, v { t with reports := x } = v t) : v (s.tailUntracked p leg) = v s := by
  rw [State.tailUntracked, endTagWindow_view v htable hwindows hdispatch hswitches hmc hreports, State.passageReport,
    append_view v hreports]

theorem tailStray_view {γ : Type} (v : State → γ) (hwindows : ∀ t x, v { t with tagWindows := x } = v t)
    (htable : ∀ t x, v { t with table := x } = v t) (hdispatch : ∀ t x, v { t with dispatch := x } = v t)
    (hswitches : ∀ t x, v { t with switches := x } = v t) (hmc : ∀ t x, v { t with mc := x } = v t)
    (hreports : ∀ t x, v { t with reports := x } = v t) : v (s.tailStray p leg) = v s := by
  rw [State.tailStray, endTagWindow_view v htable hwindows hdispatch hswitches hmc hreports,
    raise_view v htable hdispatch hswitches hmc hreports]

theorem tailOpened_view {γ : Type} (v : State → γ) (hwindows : ∀ t x, v { t with tagWindows := x } = v t)
    (htable : ∀ t x, v { t with table := x } = v t) (harbiters : ∀ t x, v { t with arbiters := x } = v t)
    (hdispatch : ∀ t x, v { t with dispatch := x } = v t)
    (hswitches : ∀ t x, v { t with switches := x } = v t) (hmc : ∀ t x, v { t with mc := x } = v t)
    (hreports : ∀ t x, v { t with reports := x } = v t) : v (s.tailOpened p leg) = v s := by
  rw [State.tailOpened, endTagWindow_view v htable hwindows hdispatch hswitches hmc hreports, setEntry_view v htable harbiters]

theorem tailCrossed_view {γ : Type} (v : State → γ) (hwindows : ∀ t x, v { t with tagWindows := x } = v t)
    (htable : ∀ t x, v { t with table := x } = v t) (harbiters : ∀ t x, v { t with arbiters := x } = v t)
    (hdispatch : ∀ t x, v { t with dispatch := x } = v t)
    (hswitches : ∀ t x, v { t with switches := x } = v t) (hmc : ∀ t x, v { t with mc := x } = v t)
    (hreports : ∀ t x, v { t with reports := x } = v t) (hbrakes : ∀ t x, v { t with brakes := x } = v t)
    (hbays : ∀ t x, v { t with bays := x } = v t) : v (s.tailCrossed p leg) = v s := by
  rw [State.tailCrossed, vacateBay_view v hbays hdispatch hreports,
    trapUnmeasured_view v htable hdispatch hswitches hbrakes hmc hreports,
    tailOpened_view s p leg v hwindows htable harbiters hdispatch hswitches hmc hreports]

theorem tailUntracked_table : (s.tailUntracked p leg).table = s.table := by
  rw [State.tailUntracked, (endTagWindow_keeps _ p leg).2.2.2.1, State.passageReport, append_table]

theorem tailStray_table : (s.tailStray p leg).table = s.table := by
  rw [State.tailStray, (endTagWindow_keeps _ p leg).2.2.2.1]
  exact raise_table_of_ne (by decide) ..

theorem tailOpened_entry (c : BlockId) : (s.tailOpened p leg).entry c = if c = p then .bare .clear else s.entry c := by
  have htable := (endTagWindow_keeps (s.setEntry p (.bare .clear)) p leg).2.2.2.1
  exact (congrArg (vget · c) htable).trans (setEntry_entry ..)

theorem tailCrossed_entry (c : BlockId) : (s.tailCrossed p leg).entry c = if c = p then .bare .clear else s.entry c := by
  have htable : (s.tailCrossed p leg).table = (s.tailOpened p leg).table :=
    (vacateBay_table ..).trans (trapUnmeasured_table ..)
  exact (congrArg (vget · c) htable).trans (tailOpened_entry s p leg c)

theorem tailCrossed_bay (c : BlockId) : (s.tailCrossed p leg).bay c = if c = p then (s.bay c).map Bay.vacated else s.bay c := by
  have hbay : ((s.tailOpened p leg).trapUnmeasured p).bay c = s.bay c := by
    refine (trapUnmeasured_view (fun t => t.bay c) (fun _ _ => rfl) (fun _ _ => rfl) (fun _ _ => rfl) (fun _ _ => rfl)
      (fun _ _ => rfl) (fun _ _ => rfl) (s.tailOpened p leg) p).trans ?_
    exact tailOpened_view s p leg (fun t => t.bay c) (fun _ _ => rfl) (fun _ _ => rfl) (fun _ _ => rfl) (fun _ _ => rfl)
      (fun _ _ => rfl) (fun _ _ => rfl) fun _ _ => rfl
  rw [State.tailCrossed, vacateBay_bay, hbay]

/-! ### What each case leaves for the entry boundary -/

theorem tailUntracked_left (eye : PointId) : TailLeft s (s.tailUntracked p leg) p leg eye where
  timeBase := tailUntracked_view s p leg State.timeBase (fun _ _ => rfl) (fun _ _ => rfl) (fun _ _ => rfl) (fun _ _ => rfl)
    (fun _ _ => rfl) fun _ _ => rfl
  layout := tailUntracked_view s p leg State.layout (fun _ _ => rfl) (fun _ _ => rfl) (fun _ _ => rfl) (fun _ _ => rfl)
    (fun _ _ => rfl) fun _ _ => rfl
  roster := tailUntracked_view s p leg State.roster (fun _ _ => rfl) (fun _ _ => rfl) (fun _ _ => rfl) (fun _ _ => rfl)
    (fun _ _ => rfl) fun _ _ => rfl
  entries c _ := congrArg (vget · c) (tailUntracked_table s p leg)
  bays c _ := tailUntracked_view s p leg (fun t => t.bay c) (fun _ _ => rfl) (fun _ _ => rfl) (fun _ _ => rfl) (fun _ _ => rfl)
    (fun _ _ => rfl) fun _ _ => rfl
  boundary _ hy _ := (tailUntracked_view s p leg (fun t => t.bay p) (fun _ _ => rfl) (fun _ _ => rfl) (fun _ _ => rfl)
    (fun _ _ => rfl) (fun _ _ => rfl) fun _ _ => rfl).symm.trans hy
  windows := ⟨_, append_tagWindows .., rfl⟩

theorem tailStray_left (eye : PointId) : TailLeft s (s.tailStray p leg) p leg eye where
  timeBase := tailStray_view s p leg State.timeBase (fun _ _ => rfl) (fun _ _ => rfl) (fun _ _ => rfl) (fun _ _ => rfl)
    (fun _ _ => rfl) fun _ _ => rfl
  layout := tailStray_view s p leg State.layout (fun _ _ => rfl) (fun _ _ => rfl) (fun _ _ => rfl) (fun _ _ => rfl)
    (fun _ _ => rfl) fun _ _ => rfl
  roster := tailStray_view s p leg State.roster (fun _ _ => rfl) (fun _ _ => rfl) (fun _ _ => rfl) (fun _ _ => rfl)
    (fun _ _ => rfl) fun _ _ => rfl
  entries c _ := congrArg (vget · c) (tailStray_table s p leg)
  bays c _ := tailStray_view s p leg (fun t => t.bay c) (fun _ _ => rfl) (fun _ _ => rfl) (fun _ _ => rfl) (fun _ _ => rfl)
    (fun _ _ => rfl) fun _ _ => rfl
  boundary _ hy _ := (tailStray_view s p leg (fun t => t.bay p) (fun _ _ => rfl) (fun _ _ => rfl) (fun _ _ => rfl)
    (fun _ _ => rfl) (fun _ _ => rfl) fun _ _ => rfl).symm.trans hy
  windows := ⟨_, raise_tagWindows .., rfl⟩

theorem tailCrossed_left (eye : PointId) : TailLeft s (s.tailCrossed p leg) p leg eye where
  timeBase := tailCrossed_view s p leg State.timeBase (fun _ _ => rfl) (fun _ _ => rfl) (fun _ _ => rfl) (fun _ _ => rfl)
    (fun _ _ => rfl) (fun _ _ => rfl) (fun _ _ => rfl) (fun _ _ => rfl) fun _ _ => rfl
  layout := tailCrossed_view s p leg State.layout (fun _ _ => rfl) (fun _ _ => rfl) (fun _ _ => rfl) (fun _ _ => rfl)
    (fun _ _ => rfl) (fun _ _ => rfl) (fun _ _ => rfl) (fun _ _ => rfl) fun _ _ => rfl
  roster := tailCrossed_view s p leg State.roster (fun _ _ => rfl) (fun _ _ => rfl) (fun _ _ => rfl) (fun _ _ => rfl)
    (fun _ _ => rfl) (fun _ _ => rfl) (fun _ _ => rfl) (fun _ _ => rfl) fun _ _ => rfl
  entries c hc := (tailCrossed_entry s p leg c).trans (if_neg hc)
  bays c hc := (tailCrossed_bay s p leg c).trans (if_neg hc)
  boundary y hy heye := by
    obtain ⟨z, -, rfl⟩ := Option.map_eq_some_iff.mp (((tailCrossed_bay s p leg p).trans (if_pos rfl)).symm.trans hy)
    cases heye
  windows := ⟨s.setEntry p (.bare .clear), rfl, (vacateBay_tagWindows ..).trans (trapUnmeasured_view State.tagWindows (fun _ _ => rfl)
    (fun _ _ => rfl) (fun _ _ => rfl) (fun _ _ => rfl) (fun _ _ => rfl) (fun _ _ => rfl) ..)⟩

end

/-- Every tail clearance ends with the clearing of the entry boundary. -/
theorem tailClearance_left {s : State} {p n : BlockId} {leg : Leg} (eye : PointId) (hsucc : s.layout.successor p leg = some n) :
    ∃ v, s.tailClearance p leg eye = v.entryCleared eye ∧ TailLeft s v p leg eye := by
  by_cases hfaulted : (s.entry p).state = .faulted
  · exact ⟨_, tailClearance_faulted eye hsucc hfaulted, tailUntracked_left ..⟩
  cases hends : s.endsCrossing p n with
  | true => exact ⟨_, tailClearance_crossing eye hsucc hfaulted hends, tailCrossed_left ..⟩
  | false => exact ⟨_, tailClearance_stray eye hsucc hfaulted hends, tailStray_left ..⟩

end Sys2Proof.Machine
end

section
/-! PROOFS. What the three cases of a tail clearance raise and report. -/

namespace Sys2Proof.Machine

open Sys2Proof

/-! ### What every case does to the tag windows and to the bay of the boundary -/

section
variable {s v : State} {p : BlockId} {leg : Leg} {eye : PointId}

theorem TailLeft.windows_none (h : TailLeft s v p leg eye)
    (hnone : leg = .spur ∨ ∀ k w, vget s.tagWindows k = some w → w.block ≠ p) : v.tagWindows = s.tagWindows := by
  obtain ⟨t, ht, hv⟩ := h.windows
  rw [hv, endTagWindow_none (by rw [ht]; exact hnone), ht]

theorem TailLeft.windows_ended (h : TailLeft s v p .main eye) {port : PortId} {w : TagWindow}
    (hw : vget s.tagWindows port = some w) (hblock : w.block = p)
    (honly : ∀ k u, vget s.tagWindows k = some u → u.block = p → k = port) :
    v.tagWindows = vput s.tagWindows port none := by
  obtain ⟨t, ht, hv⟩ := h.windows
  rw [← ht] at hw honly
  rw [hv, endTagWindow_windows hw hblock honly, ht]

theorem TailLeft.bay_entered (h : TailLeft s v p leg eye) {c : BlockId} {y : Bay} {rec : BlockRecord} {z : BaySection}
    {x : BoatId} {bt : Boat} (hc : c ≠ p) (hy : s.bay c = some y) (heye : y.entryEye = some eye)
    (honly : ∀ e u, s.bay e = some u → u.entryEye = some eye → e = c) (hrec : s.record c = some rec) (hz : rec.bay = some z)
    (hx : (s.entry c).occupant = some x) (hbt : s.boat x = some bt) : (v.entryCleared eye).bay c =
      some (if y.phase = .berthed then s.afterBerthed y z.role x bt.guests else { y with entryEye := none }) := by
  have hsole (e : BlockId) (u : Bay) (hu : v.bay e = some u) (hat : u.entryEye = some eye) : e = c := by
    by_cases he : e = p
    · subst he
      exact honly e u (h.boundary u hu hat) hat
    · exact honly e u ((h.bays e he).symm.trans hu) hat
  have hrecv : v.record c = some rec := (congrArg (fun L : LayoutStore => L.record c) h.layout).trans hrec
  have hbtv : v.boat x = some bt := (congrArg (fun r => (vget r x).boat) h.roster).trans hbt
  have hxv : (v.entry c).occupant = some x := (congrArg Entry.occupant (h.entries c hc)).trans hx
  have hafter : v.afterBerthed y z.role x bt.guests = s.afterBerthed y z.role x bt.guests :=
    afterBerthed_congr h.timeBase h.layout y y.phase z.role x bt.guests
  rw [entryCleared_bay ((h.bays c hc).trans hy) heye hsole (bayRole_eq hrecv hz) hxv (guestsIn_eq hxv hbtv), hafter]

end

/-! ### P is FAULTED -/

section
variable {s : State} {p : BlockId} {leg : Leg}

theorem tailUntracked_mc_of_read (h : s.tagIsRead p leg) : (s.tailUntracked p leg).mc = s.mc := by
  have hread : (s.passageReport p (s.entry p).occupant 1 1 p 0).tagIsRead p leg :=
    (passageReport_view (fun t => t.tagIsRead p leg) (fun _ _ => rfl) ..).mpr h
  exact (endTagWindow_mc_of_read hread).trans (append_mc ..)

theorem tailUntracked_misses {port : PortId} {w : TagWindow} (h : s.missesTag p leg port w) :
    (s.passageReport p (s.entry p).occupant 1 1 p 0).missesTag p leg port w :=
  (passageReport_view (fun t => t.missesTag p leg port w) (fun _ _ => rfl) ..).mpr h

theorem tailUntracked_faultTaken {port : PortId} {w : TagWindow} (h : s.missesTag p leg port w) :
    FaultTaken s (s.tailUntracked p leg) .tagMissing (some p) (some w.boat) :=
  (endTagWindow_faultTaken (tailUntracked_misses h)).congr (append_mc ..).symm (append_timeBase ..).symm rfl

theorem tailUntracked_mode : (s.tailUntracked p leg).mode = s.mode := by
  rw [State.tailUntracked, (endTagWindow_keeps ..).1]
  exact passageReport_view State.mode (fun _ _ => rfl) ..

theorem untracked_tells : Tells s (s.passageReport p (s.entry p).occupant 1 1 p 0)
    [.of .passage (some p) (s.entry p).occupant 1 1 p.val 0] :=
  passageReport_tells s p (s.entry p).occupant p (by decide) (by decide) (by decide)

theorem tailUntracked_tells_of_read (h : s.tagIsRead p leg) :
    Tells s (s.tailUntracked p leg) [.of .passage (some p) (s.entry p).occupant 1 1 p.val 0] := by
  have hread : (s.passageReport p (s.entry p).occupant 1 1 p 0).tagIsRead p leg :=
    (passageReport_view (fun t => t.tagIsRead p leg) (fun _ _ => rfl) ..).mpr h
  exact untracked_tells.trans_nothing (endTagWindow_tells_of_read hread)

theorem tailUntracked_tells_of_misses {port : PortId} {w : TagWindow} (h : s.missesTag p leg port w) :
    Tells s (s.tailUntracked p leg) (.of .passage (some p) (s.entry p).occupant 1 1 p.val 0 ::
      s.faultReports .tagMissing (some p) (some w.boat) (cap w.expected) port.val 0 0) := by
  have htold := endTagWindow_tells_of_misses (tailUntracked_misses h)
  rw [faultReports_note rfl] at htold ⊢
  exact untracked_tells.trans htold

/-! ### No crossing ends -/

theorem stray_misses {port : PortId} {w : TagWindow} (h : s.missesTag p leg port w) :
    (s.raise .strayClearance (some p) (s.entry p).occupant (detail)).missesTag p leg port w :=
  (raise_view (fun t => t.missesTag p leg port w) (fun _ _ => rfl) (fun _ _ => rfl) (fun _ _ => rfl) (fun _ _ => rfl)
    (fun _ _ => rfl) ..).mpr h

theorem stray_read (h : s.tagIsRead p leg) :
    (s.raise .strayClearance (some p) (s.entry p).occupant (detail)).tagIsRead p leg :=
  (raise_view (fun t => t.tagIsRead p leg) (fun _ _ => rfl) (fun _ _ => rfl) (fun _ _ => rfl) (fun _ _ => rfl)
    (fun _ _ => rfl) ..).mpr h

theorem tailStray_mode : (s.tailStray p leg).mode = modeAfterFault .hold s.mode := by
  rw [State.tailStray, (endTagWindow_keeps ..).1, raise_mode]
  rfl

theorem tailStray_faultTaken_of_read (h : s.tagIsRead p leg) :
    FaultTaken s (s.tailStray p leg) .strayClearance (some p) (s.entry p).occupant :=
  (raise_faultTaken s .strayClearance (some p) (s.entry p).occupant (detail)).congr rfl rfl
    (endTagWindow_mc_of_read (stray_read h))

theorem tailStray_faultTaken_of_misses {port : PortId} {w : TagWindow} (h : s.missesTag p leg port w) :
    ∃ v : State, v.timeBase = s.timeBase ∧ FaultTaken s v .strayClearance (some p) (s.entry p).occupant ∧
      FaultTaken v (s.tailStray p leg) .tagMissing (some p) (some w.boat) :=
  ⟨_, raise_timeBase .., raise_faultTaken .., endTagWindow_faultTaken (stray_misses h)⟩

theorem tailStray_tells_of_read (h : s.tagIsRead p leg) :
    Tells s (s.tailStray p leg) (s.faultReports .strayClearance (some p) (s.entry p).occupant 0 0 0 0) :=
  (raise_tells s .strayClearance (some p) (s.entry p).occupant (detail)).trans_nothing (endTagWindow_tells_of_read (stray_read h))

theorem tailStray_tells_of_misses {port : PortId} {w : TagWindow} (h : s.missesTag p leg port w) :
    Tells s (s.tailStray p leg) (s.faultReports .strayClearance (some p) (s.entry p).occupant 0 0 0 0 ++
      s.faultReports .tagMissing (some p) (some w.boat) (cap w.expected) port.val 0 0) := by
  have htold := endTagWindow_tells_of_misses (stray_misses h)
  rw [faultReports_note (k := .tagMissing) rfl] at htold ⊢
  exact (raise_tells s .strayClearance (some p) (s.entry p).occupant (detail)).trans htold

/-! ### A crossing ends -/

theorem endsCrossing_iff {n : BlockId} : s.endsCrossing p n = true ↔ (s.entry p).state = .releasing ∧
    (s.entry p).nose = true ∧ ∃ x, (s.entry p).occupant = some x ∧ (s.slot x).position = some n := by
  simp only [State.endsCrossing, Bool.and_eq_true, beq_iff_eq, Option.bind_eq_some_iff, and_assoc]

theorem opened_isTimed (h : s.isTimed p) : (s.tailOpened p leg).isTimed p :=
  (tailOpened_view s p leg (fun t => t.isTimed p) (fun _ _ => rfl) (fun _ _ => rfl) (fun _ _ => rfl) (fun _ _ => rfl)
    (fun _ _ => rfl) (fun _ _ => rfl) fun _ _ => rfl).mpr h

theorem opened_untimed {k : Brake} {g : Passage} {r : BrakeSection} (h : s.untimed p k g r) :
    (s.tailOpened p leg).untimed p k g r :=
  (tailOpened_view s p leg (fun t => t.untimed p k g r) (fun _ _ => rfl) (fun _ _ => rfl) (fun _ _ => rfl) (fun _ _ => rfl)
    (fun _ _ => rfl) (fun _ _ => rfl) fun _ _ => rfl).mpr h

theorem opened_keeps : (s.tailOpened p leg).mode = s.mode ∧ (s.tailOpened p leg).mc.slot = s.mc.slot ∧
    (s.tailOpened p leg).dispatch = s.dispatch ∧ (s.tailOpened p leg).timeBase = s.timeBase := by
  obtain ⟨hmode, hslot, hdispatch, -, htime⟩ := endTagWindow_keeps (s.setEntry p (.bare .clear)) p leg
  exact ⟨hmode, hslot, hdispatch, htime⟩

theorem opened_mc_of_read (h : s.tagIsRead p leg) : (s.tailOpened p leg).mc = s.mc :=
  endTagWindow_mc_of_read (s := s.setEntry p (.bare .clear)) h

theorem opened_faultTaken {port : PortId} {w : TagWindow} (h : s.missesTag p leg port w) :
    FaultTaken s (s.tailOpened p leg) .tagMissing (some p) (some w.boat) :=
  (endTagWindow_faultTaken (s := s.setEntry p (.bare .clear)) h).congr rfl rfl rfl

theorem emptied_tells : Tells s (s.setEntry p (.bare .clear)) [] := .of_surroundings rfl rfl

theorem opened_tells_of_read (h : s.tagIsRead p leg) : Tells s (s.tailOpened p leg) [] :=
  emptied_tells.trans (endTagWindow_tells_of_read (s := s.setEntry p (.bare .clear)) h)

theorem opened_tells_of_misses {port : PortId} {w : TagWindow} (h : s.missesTag p leg port w) :
    Tells s (s.tailOpened p leg) (s.faultReports .tagMissing (some p) (some w.boat) (cap w.expected) port.val 0 0) := by
  have htold := endTagWindow_tells_of_misses (s := s.setEntry p (.bare .clear)) h
  rw [faultReports_note rfl] at htold ⊢
  exact emptied_tells.trans htold

theorem opened_brakes : (s.tailOpened p leg).brakes = s.brakes :=
  tailOpened_view s p leg State.brakes (fun _ _ => rfl) (fun _ _ => rfl) (fun _ _ => rfl) (fun _ _ => rfl)
    (fun _ _ => rfl) (fun _ _ => rfl) fun _ _ => rfl

/-- What a trap left unmeasured raises after the window's end. -/
theorem opened_trapFails {k : Brake} {g : Passage} {r : BrakeSection} (h : s.untimed p k g r) :
    (s.tailOpened p leg).trapUnmeasured p = (s.tailOpened p leg).trapFails p r g false ∧
    FaultTaken (s.tailOpened p leg) ((s.tailOpened p leg).trapUnmeasured p) .trapFault (some p) (some g.boat) ∧
    ((s.tailOpened p leg).trapUnmeasured p).mode = modeAfterFault .hold s.mode ∧
    Tells (s.tailOpened p leg) ((s.tailOpened p leg).trapUnmeasured p)
      (s.faultReports .trapFault (some p) (some g.boat) g.missing 15 0 0) := by
  have heq := trapUnmeasured_untimed (opened_untimed (leg := leg) h)
  obtain ⟨hmode, hslot, hdispatch, -⟩ := opened_keeps (s := s) (p := p) (leg := leg)
  obtain ⟨htaken, hafter, htold⟩ := trapFails_fault (s := s.tailOpened p leg) (b := p) r g false
  rw [faultReports_same hmode hslot hdispatch] at htold
  rw [hmode] at hafter
  rw [heq]
  exact ⟨rfl, htaken, hafter, htold⟩

end

end Sys2Proof.Machine
end

section
/-! PROOFS. The tail clearance settled. -/

namespace Sys2Proof.Machine

open Sys2Proof

/-! ### The clearing of the entry boundary leaves all but the bays and the reports -/

section
variable (v : State) (eye : PointId)

theorem entryCleared_keeps : (v.entryCleared eye).table = v.table ∧ (v.entryCleared eye).roster = v.roster ∧
    (v.entryCleared eye).mc = v.mc ∧ (v.entryCleared eye).brakes = v.brakes ∧ (v.entryCleared eye).tagWindows = v.tagWindows :=
  ⟨entryCleared_view State.table (fun _ _ => rfl) (fun _ _ => rfl) .., entryCleared_view State.roster (fun _ _ => rfl) (fun _ _ => rfl) ..,
   entryCleared_view State.mc (fun _ _ => rfl) (fun _ _ => rfl) .., entryCleared_view State.brakes (fun _ _ => rfl) (fun _ _ => rfl) ..,
   entryCleared_view State.tagWindows (fun _ _ => rfl) (fun _ _ => rfl) ..⟩

end

theorem FaultTaken.of_mc {s u v : State} {k : FaultKind} {b : Option BlockId} {x : Option BoatId} (h : FaultTaken s v k b x)
    (hmc : u.mc = v.mc) : FaultTaken s u k b x := h.congr rfl rfl hmc

section
variable {s : State} {p n : BlockId} {leg : Leg} (eye : PointId)

/-- A bay boundary of no bay stays of no bay. -/
theorem TailLeft.no_boundary {v : State} (h : TailLeft s v p leg eye)
    (hnone : ∀ c y, s.bay c = some y → y.entryEye ≠ some eye) : v.entryCleared eye = v := by
  refine entryCleared_none fun c y hy heye => ?_
  by_cases hc : c = p
  · subst hc
    exact hnone c y (h.boundary y hy heye) heye
  · exact hnone c y ((h.bays c hc).symm.trans hy) heye

/-- The bay of the block left is VACANT to the end. -/
theorem crossed_bay {y : Bay} (hy : ((s.tailCrossed p leg).entryCleared eye).bay p = some y) :
    ∃ z : Bay, y = z.vacated := by
  have hvacated : (s.tailCrossed p leg).bay p = (s.bay p).map Bay.vacated := (tailCrossed_bay s p leg p).trans (if_pos rfl)
  have hother (z : Bay) (hz : (s.tailCrossed p leg).bay p = some z) : z.entryEye ≠ some eye := by
    obtain ⟨_, -, rfl⟩ := Option.map_eq_some_iff.mp (hvacated.symm.trans hz)
    exact nofun
  rw [entryCleared_bay_of_other hother, hvacated] at hy
  obtain ⟨z, -, rfl⟩ := Option.map_eq_some_iff.mp hy
  exact ⟨z, rfl⟩

/-- Of a block without a bay the crossing ends with the trap's end. -/
theorem tailCrossed_of_no_bay (h : s.bay p = none) : s.tailCrossed p leg = (s.tailOpened p leg).trapUnmeasured p := by
  have hbay : ((s.tailOpened p leg).trapUnmeasured p).bay p = none := by
    refine (trapUnmeasured_view (fun t => t.bay p) (fun _ _ => rfl) (fun _ _ => rfl) (fun _ _ => rfl) (fun _ _ => rfl)
      (fun _ _ => rfl) (fun _ _ => rfl) (s.tailOpened p leg) p).trans ?_
    exact (tailOpened_view s p leg (fun t => t.bay p) (fun _ _ => rfl) (fun _ _ => rfl) (fun _ _ => rfl) (fun _ _ => rfl)
      (fun _ _ => rfl) (fun _ _ => rfl) fun _ _ => rfl).trans h
  exact vacateBay_of_none hbay

theorem untimed_brake {k : Brake} {g : Passage} {r : BrakeSection} (h : s.untimed p k g r) :
    (∀ c, c ≠ p → ((s.tailOpened p leg).trapUnmeasured p).brake c = s.brake c) ∧
    ((s.tailOpened p leg).trapUnmeasured p).brake p = some (k.trapFailed r g false) := by
  obtain ⟨hk, -⟩ := opened_untimed (leg := leg) h
  rw [(opened_trapFails (leg := leg) h).1]
  refine ⟨fun c hc => (trapFails_brake_ne r g false hc).trans ?_, trapFails_brake_self r g false hk⟩
  exact congrArg (vget · c) opened_brakes

end

/-- Settles O35: each of the three cases, and the tag window and the entry boundary in all of them. -/
theorem tailClearanceEndsTheCrossing : Obligations.TailClearanceEndsTheCrossing := by
  unfold Obligations.TailClearanceEndsTheCrossing
  intro s q d p n leg hmode hq hd hfalls huse hsucc
  have hexec := exec_exitEye hmode hq hd huse
  rw [hfalls] at hexec
  have hsucc' : (s.atEdge q).layout.successor p leg = some n := hsucc
  obtain ⟨v, hv, hleft⟩ := tailClearance_left (s := s.atEdge q) q hsucc'
  obtain ⟨-, -, -, -, hwindows⟩ := entryCleared_keeps v q
  refine ⟨_, hexec, fun hnone => ?_, fun port w hleg hw hblock honly => ?_,
    fun c y rec z x bt hc hy heye honly hrec hz hx hbt => ?_, fun x hst hnose hx hpos => ?_, fun hfaulted => ?_,
    fun hfaulted hno => ?_⟩
  · rw [hv]
    exact hwindows.trans (hleft.windows_none hnone)
  · subst hleg
    rw [hv]
    exact hwindows.trans (hleft.windows_ended hw hblock honly)
  · rw [hv]
    exact hleft.bay_entered hc hy heye honly hrec hz hx hbt
  · have hends : (s.atEdge q).endsCrossing p n = true := endsCrossing_iff.mpr ⟨hst, hnose, x, hx, hpos⟩
    have hstate : ((s.atEdge q).entry p).state ≠ .faulted := fun h => nomatch hst.symm.trans h
    have hcrossed := tailClearance_crossing q hsucc' hstate hends
    have hleft := tailCrossed_left (s.atEdge q) p leg q
    obtain ⟨htable, hroster, hmc, hbrakes, -⟩ := entryCleared_keeps ((s.atEdge q).tailCrossed p leg) q
    have hmc := hmc.trans (vacateBay_mc ..)
    have hbrakes := hbrakes.trans (vacateBay_brakes ..)
    have hentry (c : BlockId) := (congrArg (vget · c) htable).trans (tailCrossed_entry (s.atEdge q) p leg c)
    rw [← hcrossed] at hentry hroster hmc hbrakes
    have htimedEq (h : s.isTimed p) :
        ((s.atEdge q).tailOpened p leg).trapUnmeasured p = (s.atEdge q).tailOpened p leg :=
      trapUnmeasured_timed (opened_isTimed (s := s.atEdge q) h)
    refine ⟨(hentry p).trans (if_pos rfl), fun c hc => (hentry c).trans (if_neg hc), hroster.trans hleft.roster,
      fun y hy => ?_, fun htimed => ?_, fun k g r huntimed => ?_, fun htimed hread => ?_, fun port w htimed hmisses => ?_,
      fun k g r huntimed hread => ?_, fun k g r port w huntimed hmisses => ?_, fun hbay hboundary => ?_⟩
    · rw [hcrossed] at hy
      obtain ⟨z, rfl⟩ := crossed_bay q hy
      exact ⟨rfl, rfl, rfl, rfl⟩
    · rw [htimedEq htimed] at hbrakes hmc
      exact ⟨hbrakes.trans opened_brakes, (mode_of_mc hmc).trans opened_keeps.1⟩
    · obtain ⟨-, -, hafter, -⟩ := opened_trapFails (s := s.atEdge q) (leg := leg) huntimed
      obtain ⟨hothers, hself⟩ := untimed_brake (s := s.atEdge q) (leg := leg) huntimed
      exact ⟨(mode_of_mc hmc).trans hafter, fun c hc => (congrArg (vget · c) hbrakes).trans (hothers c hc),
        (congrArg (vget · p) hbrakes).trans hself⟩
    · rw [htimedEq htimed] at hmc
      exact hmc.trans (opened_mc_of_read (s := s.atEdge q) hread)
    · rw [htimedEq htimed] at hmc
      exact (opened_faultTaken (s := s.atEdge q) hmisses).congr rfl rfl hmc
    · obtain ⟨-, htaken, -⟩ := opened_trapFails (s := s.atEdge q) (leg := leg) huntimed
      obtain ⟨-, -, -, htime⟩ := opened_keeps (s := s.atEdge q) (p := p) (leg := leg)
      exact htaken.congr (opened_mc_of_read (s := s.atEdge q) hread).symm htime.symm hmc
    · obtain ⟨-, htaken, -⟩ := opened_trapFails (s := s.atEdge q) (leg := leg) huntimed
      exact ⟨(s.atEdge q).tailOpened p leg, opened_keeps.2.2.2,
        (opened_faultTaken (s := s.atEdge q) hmisses).congr rfl rfl rfl, htaken.of_mc hmc⟩
    · have hsame : (s.atEdge q).tailClearance p leg q = ((s.atEdge q).tailOpened p leg).trapUnmeasured p :=
        (hcrossed.trans (hleft.no_boundary q hboundary)).trans (tailCrossed_of_no_bay (s := s.atEdge q) hbay)
      rw [hsame]
      refine ⟨fun htimed hread => ?_, fun port w htimed hmisses => ?_, fun k g r huntimed hread => ?_,
        fun k g r port w huntimed hmisses => ?_⟩
      · rw [htimedEq htimed]
        exact (opened_tells_of_read (s := s.atEdge q) hread).reportsAdded
      · rw [htimedEq htimed]
        exact (opened_tells_of_misses (s := s.atEdge q) hmisses).reportsAdded
      · obtain ⟨-, -, -, htold⟩ := opened_trapFails (s := s.atEdge q) (leg := leg) huntimed
        exact ((opened_tells_of_read (s := s.atEdge q) hread).trans htold).reportsAdded
      · obtain ⟨-, -, -, htold⟩ := opened_trapFails (s := s.atEdge q) (leg := leg) huntimed
        exact ((opened_tells_of_misses (s := s.atEdge q) hmisses).trans htold).reportsAdded
  · have huntracked := tailClearance_faulted (s := s.atEdge q) q hsucc' hfaulted
    have hleft := tailUntracked_left (s.atEdge q) p leg q
    obtain ⟨htable, hroster, hmc, hbrakes, -⟩ := entryCleared_keeps ((s.atEdge q).tailUntracked p leg) q
    have hkept : ((s.atEdge q).tailUntracked p leg).brakes = s.brakes := tailUntracked_view (s.atEdge q) p leg State.brakes
      (fun _ _ => rfl) (fun _ _ => rfl) (fun _ _ => rfl) (fun _ _ => rfl) (fun _ _ => rfl) fun _ _ => rfl
    rw [← huntracked] at htable hroster hmc hbrakes
    refine ⟨htable.trans (tailUntracked_table ..), hroster.trans hleft.roster,
      (mode_of_mc hmc).trans (tailUntracked_mode (s := s.atEdge q)), hbrakes.trans hkept,
      fun hread => hmc.trans (tailUntracked_mc_of_read (s := s.atEdge q) hread),
      fun port w hmisses => (tailUntracked_faultTaken (s := s.atEdge q) hmisses).congr rfl rfl hmc, fun hboundary => ?_⟩
    rw [huntracked.trans (hleft.no_boundary q hboundary)]
    exact ⟨fun hread => (tailUntracked_tells_of_read (s := s.atEdge q) hread).reportsAdded,
      fun port w hmisses => (tailUntracked_tells_of_misses (s := s.atEdge q) hmisses).reportsAdded⟩
  · have hends : (s.atEdge q).endsCrossing p n = false := by
      refine Bool.eq_false_iff.mpr fun h => ?_
      obtain ⟨hst, hnose, x, hx, hpos⟩ := endsCrossing_iff.mp h
      obtain hnot | hnot | hnot := hno
      · exact hnot hst
      · exact nomatch hnot.symm.trans hnose
      · exact hnot x hx hpos
    have hstray := tailClearance_stray (s := s.atEdge q) q hsucc' hfaulted hends
    have hleft := tailStray_left (s.atEdge q) p leg q
    obtain ⟨htable, hroster, hmc, hbrakes, -⟩ := entryCleared_keeps ((s.atEdge q).tailStray p leg) q
    have hkept : ((s.atEdge q).tailStray p leg).brakes = s.brakes := tailStray_view (s.atEdge q) p leg State.brakes
      (fun _ _ => rfl) (fun _ _ => rfl) (fun _ _ => rfl) (fun _ _ => rfl) (fun _ _ => rfl) fun _ _ => rfl
    rw [← hstray] at htable hroster hmc hbrakes
    refine ⟨htable.trans (tailStray_table ..), hroster.trans hleft.roster,
      (mode_of_mc hmc).trans (tailStray_mode (s := s.atEdge q)), hbrakes.trans hkept,
      fun hread => (tailStray_faultTaken_of_read (s := s.atEdge q) hread).congr rfl rfl hmc, fun port w hmisses => ?_,
      fun hboundary => ?_⟩
    · obtain ⟨v, htime, hfirst, hsecond⟩ := tailStray_faultTaken_of_misses (s := s.atEdge q) hmisses
      exact ⟨v, htime, hfirst.congr rfl rfl rfl, hsecond.of_mc hmc⟩
    · rw [hstray.trans (hleft.no_boundary q hboundary)]
      exact ⟨fun hread => (tailStray_tells_of_read (s := s.atEdge q) hread).reportsAdded,
        fun port w hmisses => (tailStray_tells_of_misses (s := s.atEdge q) hmisses).reportsAdded⟩

end Sys2Proof.Machine
end

section
/-! PROOFS. Switches: their readings, the moves that an event's end commands, and a new route. -/

namespace Sys2Proof.Machine

open Sys2Proof

/-! ### The reading of the position points (R130, R132) -/

/-- A switch record at an accepted edge of a position point. -/
def SwitchRecord.read (w : SwitchRecord) (now : Reading) : SwitchRecord :=
  match w.move with
  | some (leg, _) => if now = leg.reading then { w with reading := now, move := none, held := some leg } else { w with reading := now }
  | none => { w with reading := now }

theorem SwitchRecord.read_confirmed {w : SwitchRecord} {leg : Leg} {d : Time} (h : w.move = some (leg, d)) :
    w.read leg.reading = { reading := leg.reading, move := none, held := some leg } := by
  rw [SwitchRecord.read, h]
  exact if_pos rfl

theorem SwitchRecord.read_unconfirmed {w : SwitchRecord} {now : Reading} (h : ∀ leg d, w.move = some (leg, d) → now ≠ leg.reading) :
    w.read now = { w with reading := now } := by
  unfold SwitchRecord.read
  split
  case h_1 leg d hmove => exact if_neg (h leg d hmove)
  case h_2 => rfl

theorem positionEdge_eq {s : State} {b : BlockId} {r : SwitchSection} {w : SwitchRecord}
    (hr : (s.record b).bind (·.switch) = some r) (hw : s.switchRec b = some w) :
    s.positionEdge b = { s with switches := vput s.switches b (some
      (w.read (readingOf (s.point r.mainPosition).level (s.point r.spurPosition).level))) } := by
  rw [State.positionEdge, hr]
  dsimp only
  rw [State.modSwitch, hw]
  rfl

/-! ### The moves that an event's end commands (R131) -/

section
variable {s : State} {b : BlockId} {r : SwitchSection} {w : SwitchRecord}

theorem isRunMode_false (h : s.mode ≠ .run ∧ s.mode ≠ .manual) : isRunMode s.mode = false :=
  Bool.eq_false_iff.mpr fun hrun => ((isRunMode_iff _).mp hrun).elim h.1 h.2

theorem moves_toward_iff (w : SwitchRecord) (leg : Leg) : (w.move.map (·.1) != some leg) = true ↔ ∀ d, w.move ≠ some (leg, d) := by
  rw [bne_iff_ne, ne_eq, Option.map_eq_some_iff]
  exact ⟨fun h d hd => h ⟨(leg, d), hd, rfl⟩, fun h ⟨⟨l, d⟩, hmove, hl⟩ => h d (hmove.trans (by rw [← hl]))⟩

theorem positionSwitch_moves (hr : (s.record b).bind (·.switch) = some r) (hrun : s.mode = .run ∨ s.mode = .manual)
    (hst : (s.entry b).state = .occupied) (hreading : w.reading ≠ (s.chosenLeg b).reading)
    (hmove : ∀ d, w.move ≠ some (s.chosenLeg b, d)) :
    s.positionSwitch b w = { w with move := some (s.chosenLeg b, s.timeBase + msSpan r.travelLimit) } := by
  have hcalled : (isRunMode s.mode && (s.entry b).state == .occupied && w.reading != (s.chosenLeg b).reading &&
      w.move.map (·.1) != some (s.chosenLeg b)) = true := by
    rw [Bool.and_eq_true, Bool.and_eq_true, Bool.and_eq_true, moves_toward_iff, bne_iff_ne, beq_iff_eq]
    exact ⟨⟨⟨(isRunMode_iff _).mpr hrun, hst⟩, hreading⟩, hmove⟩
  rw [State.positionSwitch, hr]
  exact if_pos hcalled

theorem positionSwitch_stays (h : (s.mode ≠ .run ∧ s.mode ≠ .manual) ∨ (s.entry b).state ≠ .occupied ∨
    w.reading = (s.chosenLeg b).reading ∨ ∃ d, w.move = some (s.chosenLeg b, d)) : s.positionSwitch b w = w := by
  unfold State.positionSwitch
  split
  · rfl
  · refine if_neg fun hcalled => ?_
    rw [Bool.and_eq_true, Bool.and_eq_true, Bool.and_eq_true, moves_toward_iff, bne_iff_ne, beq_iff_eq] at hcalled
    obtain ⟨⟨⟨hrun, hst⟩, hreading⟩, hmove⟩ := hcalled
    obtain h | h | h | ⟨d, h⟩ := h
    · exact absurd hrun (Bool.eq_false_iff.mp (isRunMode_false h))
    · exact h hst
    · exact hreading h
    · exact hmove d h

theorem finish_switches_eq (h : s.mode ≠ .configure) : s.finish.switches = s.refreshSwitches.switches := by
  rw [State.finish, if_neg h, settle_switches]
  exact askAll_view State.switches (fun _ _ => rfl) (fun _ _ => rfl) (fun _ _ => rfl) (fun _ _ => rfl) (fun _ _ => rfl)
    (fun _ _ => rfl) (fun _ _ => rfl) (fun _ _ => rfl) (fun _ _ => rfl) s.refreshSwitches

theorem finish_switchRec (h : s.mode ≠ .configure) (hw : s.switchRec b = some w) :
    s.finish.switchRec b = some (s.positionSwitch b w) := by
  rw [State.switchRec, finish_switches_eq h, State.refreshSwitches, vget_vmap]
  exact congrArg (Option.map _) hw

end

/-! ### A new route (R131) -/

section
variable {s : State} {x : BoatId} {bt : Boat} {route : Route} {b : BlockId} {w : SwitchRecord}

theorem chosenLeg_of_boat (hkind : s.layout.kind b = some .switch) (hx : (s.entry b).occupant = some x)
    (hbt : s.boat x = some bt) : s.chosenLeg b = bt.route.leg := by
  rw [State.chosenLeg, hkind, hx, Option.bind_some, hbt]

theorem rechoose_drops (hrun : s.mode = .run ∨ s.mode = .manual) (hst : (s.entry b).state = .occupied)
    (hreading : w.reading = (s.chosenLeg b).reading) (hmove : ∀ d, w.move ≠ some (s.chosenLeg b, d)) :
    s.rechoose b w = w.stopped := by
  have hcalled : (isRunMode s.mode && (s.entry b).state == .occupied && w.reading == (s.chosenLeg b).reading &&
      w.move.map (·.1) != some (s.chosenLeg b)) = true := by
    rw [Bool.and_eq_true, Bool.and_eq_true, Bool.and_eq_true, moves_toward_iff, beq_iff_eq, beq_iff_eq]
    exact ⟨⟨⟨(isRunMode_iff _).mpr hrun, hst⟩, hreading⟩, hmove⟩
  rw [← dropMove_eq_stopped]
  exact if_pos hcalled

theorem rechoose_keeps (hreading : w.reading ≠ (s.chosenLeg b).reading) : s.rechoose b w = w := by
  refine if_neg fun hcalled => ?_
  rw [Bool.and_eq_true, Bool.and_eq_true, Bool.and_eq_true, moves_toward_iff, beq_iff_eq, beq_iff_eq] at hcalled
  exact hreading hcalled.1.2

/-- The switch of the block that the rerouted boat is held in. -/
theorem reroute_switchRec (hx : (s.entry b).occupant = some x) (hw : s.switchRec b = some w) :
    (s.reroute x route).switchRec b = some ((s.modBoat x fun t => { t with route := route }).rechoose b w) := by
  have hoccupant : ((s.modBoat x fun t => { t with route := route }).entry b).occupant = some x := hx
  refine (vget_vmap ..).trans ((congrArg (Option.map _) hw).trans ?_)
  rw [Option.map_some, if_pos hoccupant]

end

/-- Settles O40: readings, commanded moves and moves discarded by a new route. -/
theorem switchesFollowTheirPoints : Obligations.SwitchesFollowTheirPoints := by
  unfold Obligations.SwitchesFollowTheirPoints
  refine ⟨fun s q on b r w now hmode huse hr hw hnow => ?_, fun s b r w hmode hr hw => ?_,
    fun s l tag x bt route b r w hadmits hbt hne hrun hkind hr hst hx hw => ?_⟩
  · have hreading : readingOf (s.point r.mainPosition).level (s.point r.spurPosition).level = now := hnow.symm
    have hedge : s.deliverEdge q on = { s with switches := vput s.switches b (some (w.read now)) } := by
      rw [State.deliverEdge, if_neg hmode, huse]
      exact (positionEdge_eq hr hw).trans (by rw [hreading])
    refine ⟨fun leg d hmove hnamed => ?_, fun h => ?_⟩
    · rw [hedge, hnamed, SwitchRecord.read_confirmed hmove]
    · rw [hedge, SwitchRecord.read_unconfirmed h]
  · rw [finish_switchRec hmode hw]
    exact ⟨fun hrun hst hreading hmove => congrArg some (positionSwitch_moves hr hrun hst hreading hmove),
      fun h => congrArg some (positionSwitch_stays h)⟩
  · have hexec := exec_owned_anywhere tag hadmits (readArgs_setRoute x route) rfl (setRoute_of_other hbt (Ne.symm hne))
    have hmode : (s.reroute x route).mode ≠ .configure := by
      show s.mode ≠ .configure
      obtain h | h := hrun <;> rw [h] <;> nofun
    have hboat : (s.modBoat x fun t => { t with route := route }).boat x = some { bt with route := route } := by
      rw [State.boat, modBoat_slot, if_pos rfl, boat_mapBoat]
      exact congrArg (Option.map _) hbt
    have hchosen : (s.modBoat x fun t => { t with route := route }).chosenLeg b = route.leg :=
      chosenLeg_of_boat (s := s.modBoat x fun t => { t with route := route }) hkind hx hboat
    have hrechosen : (s.reroute x route).chosenLeg b = route.leg := hchosen
    have hswitch := reroute_switchRec (route := route) hx hw
    refine ⟨_, hexec, fun hreading hmove => ?_, fun hreading hmove => ?_⟩
    · rw [rechoose_drops (s := s.modBoat x fun t => { t with route := route }) hrun hst (by rw [hchosen]; exact hreading)
        (by rw [hchosen]; exact hmove)] at hswitch
      refine (finish_switchRec hmode hswitch).trans (congrArg some (positionSwitch_stays (.inr (.inr (.inl ?_)))))
      rw [hrechosen]
      exact hreading
    · rw [rechoose_keeps (by rw [hchosen]; exact hreading)] at hswitch
      refine (finish_switchRec hmode hswitch).trans (congrArg some ?_)
      have hmoves := positionSwitch_moves (s := s.reroute x route) (b := b) (r := r) (w := w) hr hrun hst
        (by rw [hrechosen]; exact hreading) (by rw [hrechosen]; exact hmove)
      rw [hrechosen] at hmoves
      exact hmoves

end Sys2Proof.Machine
end

section
/-! PROOFS. The feedback expectations, check deadlines and position deadlines of channels at the end of an event. -/

namespace Sys2Proof.Machine

open Sys2Proof

/-! ### The grants of an event change the pulse of a channel alone (R170) -/

/-- A channel but for its pulse is as in `s`. -/
def State.onlyPulsed (s : State) (c : ChannelId) (t : State) : Prop :=
  ∃ pulse, t.channel c = { s.channel c with pulse := pulse }

theorem firePulse_channel (s : State) (b : BlockId) (c : ChannelId) : s.onlyPulsed c (s.firePulse b) := by
  unfold State.firePulse
  split
  · exact ⟨_, rfl⟩
  split
  case h_1 r d l _ =>
    by_cases hc : c = d.channel
    · subst hc
      exact ⟨some (s.after l.kickPulse), vget_vput_self ..⟩
    · exact ⟨_, vget_vput_ne _ _ hc⟩
  · exact ⟨_, rfl⟩

theorem State.onlyPulsed.trans {s t u : State} {c : ChannelId} (h : s.onlyPulsed c t) (h' : t.onlyPulsed c u) :
    s.onlyPulsed c u := by
  obtain ⟨_, ht⟩ := h
  obtain ⟨_, hu⟩ := h'
  rw [ht] at hu
  exact ⟨_, hu⟩

theorem grant_onlyPulsed {s : State} {b : BlockId} {x : BoatId} {p : List BlockId} (q : Requester) (hmay : s.mayGo b x p)
    (c : ChannelId) : s.onlyPulsed c (s.grant b q p) := by
  obtain ⟨pulse, hpulse⟩ := firePulse_channel s b c
  exact ⟨pulse, (congrArg (vget · c) (grant_channels q p hmay.2.2.1)).trans hpulse⟩

theorem askAll_onlyPulsed (s : State) (c : ChannelId) : s.onlyPulsed c s.askAll := by
  unfold State.askAll
  split
  · exact (grantLoop_grantedFrom 32 s).keeps (P := s.onlyPulsed c)
      (fun _ _ _ _ q _ hmay h => h.trans (grant_onlyPulsed q hmay c)) ⟨_, rfl⟩
  · exact ⟨_, rfl⟩

/-! ### A channel derived afresh (R173 to R175) -/

/-- The level of a drive's feedback point. -/
def State.levelOf (s : State) (d : DriveSection) : Bool := ((d.feedback.map fun p => (s.point p).level)).getD false

theorem refreshChannel_derives {s : State} {old : Channel} {b : BlockId} {r : BlockRecord} {d : DriveSection}
    (howner : old.owner = some b) (hr : s.record b = some r) (hd : r.drive = some d) :
    (s.refreshChannel old).expectation = (if (s.entry b).state = .faulted then none
      else d.feedback.bind fun _ => expectedFeedback (s.refreshChannel old).command) ∧
    (s.refreshChannel old).check = (if unchecked (s.entry b).state then none
      else checkAfter ((s.refreshChannel old).expectation != old.expectation) (s.levelOf d) (s.refreshChannel old).expectation
        old.check (s.timeBase + msSpan d.checkTime)) ∧
    (s.refreshChannel old).position = (if unchecked (s.entry b).state then none
      else positionAfter ((s.refreshChannel old).command != old.command) (s.refreshChannel old).command (s.switchRec b)
        old.position (s.timeBase + msSpan d.checkTime)) := by
  rw [State.refreshChannel, howner]
  dsimp only
  rw [hr]
  dsimp only
  rw [hd]
  exact ⟨rfl, rfl, rfl⟩

/-- The state in which the channels are derived at the end of an event. -/
def State.settledUnits (s : State) : State := s.refreshSwitches.askAll.refreshBrakes

theorem finish_eq_settled {s : State} (h : s.mode ≠ .configure) : s.finish = s.settledUnits.refreshChannels.settle := if_neg h

theorem settledUnits_view {γ : Type} (v : State → γ) (hswitches : ∀ t x, v { t with switches := x } = v t)
    (htable : ∀ t x, v { t with table := x } = v t) (hroster : ∀ t x, v { t with roster := x } = v t)
    (hbays : ∀ t x, v { t with bays := x } = v t) (hdispatch : ∀ t x, v { t with dispatch := x } = v t)
    (hlaunches : ∀ t x, v { t with launches := x } = v t) (harbiters : ∀ t x, v { t with arbiters := x } = v t)
    (hbrakes : ∀ t x, v { t with brakes := x } = v t) (hchannels : ∀ t x, v { t with channels := x } = v t)
    (hreports : ∀ t x, v { t with reports := x } = v t) (s : State) : v s.settledUnits = v s :=
  ((hbrakes s.refreshSwitches.askAll _).trans
    (askAll_view v htable hroster hbays hdispatch hlaunches harbiters hbrakes hchannels hreports s.refreshSwitches)).trans
    (hswitches s _)

theorem settledUnits_channel (s : State) (c : ChannelId) : s.onlyPulsed c s.settledUnits := askAll_onlyPulsed s.refreshSwitches c

theorem finish_channel_eq {s : State} (h : s.mode ≠ .configure) (c : ChannelId) :
    s.finish.channel c = s.settledUnits.refreshChannel (s.settledUnits.channel c) := by
  rw [finish_eq_settled h, State.channel, settle_channels]
  exact vget_vmap ..

/-- A channel at the end of an event, from the channel before it. -/
theorem finish_channel_derives {s : State} {c : ChannelId} {b : BlockId} {r : BlockRecord} {d : DriveSection}
    (h : s.mode ≠ .configure) (howner : (s.channel c).owner = some b) (hr : s.record b = some r) (hd : r.drive = some d) :
    (s.finish.channel c).expectation = (if (s.finish.entry b).state = .faulted then none
      else d.feedback.bind fun _ => expectedFeedback (s.finish.channel c).command) ∧
    (s.finish.channel c).check = (if unchecked (s.finish.entry b).state then none
      else checkAfter ((s.finish.channel c).expectation != (s.channel c).expectation) (s.levelOf d)
        (s.finish.channel c).expectation (s.channel c).check (s.timeBase + msSpan d.checkTime)) ∧
    (s.finish.channel c).position = (if unchecked (s.finish.entry b).state then none
      else positionAfter ((s.finish.channel c).command != (s.channel c).command) (s.finish.channel c).command
        (s.finish.switchRec b) (s.channel c).position (s.timeBase + msSpan d.checkTime)) := by
  obtain ⟨pulse, hpulse⟩ := settledUnits_channel s c
  have hentry : s.finish.entry b = s.settledUnits.entry b := by
    rw [finish_eq_settled h, State.entry, settle_table]
    rfl
  have hswitch : s.finish.switchRec b = s.settledUnits.switchRec b := by
    rw [finish_eq_settled h, State.switchRec, settle_switches]
    rfl
  have hrecord : s.settledUnits.record b = some r :=
    (settledUnits_view (fun t => t.record b) (fun _ _ => rfl) (fun _ _ => rfl) (fun _ _ => rfl) (fun _ _ => rfl)
      (fun _ _ => rfl) (fun _ _ => rfl) (fun _ _ => rfl) (fun _ _ => rfl) (fun _ _ => rfl) (fun _ _ => rfl) s).trans hr
  have hlevel : s.settledUnits.levelOf d = s.levelOf d :=
    settledUnits_view (fun t => t.levelOf d) (fun _ _ => rfl) (fun _ _ => rfl) (fun _ _ => rfl) (fun _ _ => rfl)
      (fun _ _ => rfl) (fun _ _ => rfl) (fun _ _ => rfl) (fun _ _ => rfl) (fun _ _ => rfl) (fun _ _ => rfl) s
  have htime : s.settledUnits.timeBase = s.timeBase :=
    settledUnits_view State.timeBase (fun _ _ => rfl) (fun _ _ => rfl) (fun _ _ => rfl) (fun _ _ => rfl)
      (fun _ _ => rfl) (fun _ _ => rfl) (fun _ _ => rfl) (fun _ _ => rfl) (fun _ _ => rfl) (fun _ _ => rfl) s
  have hderives := refreshChannel_derives (old := s.settledUnits.channel c) (by rw [hpulse]; exact howner) hrecord hd
  rw [← finish_channel_eq h, ← hentry, ← hswitch, hlevel, htime, hpulse] at hderives
  exact hderives

/-! ### The comparisons (R174, R175) -/

section
variable {fresh level v : Bool} {old : Option Time} {new : Time}

theorem checkAfter_agrees (h : level = v) : checkAfter fresh level (some v) old new = none := if_pos h

theorem checkAfter_changed (h : level ≠ v) : checkAfter true level (some v) old new = some new := if_neg h

theorem checkAfter_runs (h : level ≠ v) : checkAfter false level (some v) old new = some (old.getD new) := if_neg h

theorem positionAfter_of_other {command : DriveCmd} {w : SwitchRecord} (h : command ≠ .hold ∨ w.held = none) :
    positionAfter fresh command (some w) old new = none := by
  unfold positionAfter
  split
  · rfl
  case h_2 heq =>
    cases heq
    split
    case h_1 hheld => exact absurd rfl (h.resolve_right fun hnone => nomatch hheld.symm.trans hnone)
    case h_2 => rfl

theorem positionAfter_hold {w : SwitchRecord} {leg : Leg} (h : w.held = some leg) :
    positionAfter fresh .hold (some w) old new =
      if w.reading = leg.reading then none else if fresh then some new else some (old.getD new) := by
  unfold positionAfter
  dsimp only
  rw [h]

end

/-- Settles O41: the channel derived at the end of the event, compared with the channel before it. -/
theorem checksFollowTheCommands : Obligations.ChecksFollowTheCommands := by
  unfold Obligations.ChecksFollowTheCommands
  refine ⟨fun s q on b huse => ?_, ?_⟩
  · by_cases hmode : s.mode = .configure
    · exact if_pos hmode
    · rw [State.deliverEdge, if_neg hmode, huse]
  · rintro s t c b r dr st old new fresh hmode rfl howner hr hd hst rfl hnew rfl
    obtain ⟨hexpectation, hcheck, hposition⟩ := finish_channel_derives hmode howner hr hd
    rw [← hnew] at hexpectation hcheck hposition
    rw [← hst] at hexpectation hcheck hposition
    refine ⟨fun h => ?_, fun hfeedback hfaulted => ?_, fun h => ?_, fun hfaulted hservice => ?_⟩
    · rw [hexpectation]
      split
      · rfl
      case isFalse hst =>
        rw [h.resolve_right hst]
        rfl
    · obtain ⟨p, hp⟩ := Option.ne_none_iff_exists'.mp hfeedback
      have hexpected : new.expectation = expectedFeedback new.command := by
        rw [hexpectation, if_neg hfaulted, hp]
        rfl
      have hcommand {e : DriveCmd} (he : new.command = e) : new.expectation = expectedFeedback e := by rw [hexpected, he]
      refine ⟨hcommand, hcommand, hcommand, hcommand, fun n hn => (hcommand hn).trans (congrArg some ?_), hcommand, hcommand,
        fun h => ?_⟩
      · rw [Bool.eq_iff_iff, bne_iff_ne, decide_eq_true_eq]
        omega
      · obtain h | h | h := h <;> exact hcommand h
    · have hunchecked := (unchecked_iff _).mpr h
      exact ⟨hcheck.trans (if_pos hunchecked), hposition.trans (if_pos hunchecked)⟩
    · have hchecked : ¬unchecked st = true := fun h => ((unchecked_iff _).mp h).elim hfaulted hservice
      rw [if_neg hchecked] at hcheck hposition
      refine ⟨fun hnone => ?_, fun p v hp hv => ?_, fun hnone => ?_, fun w hw => ?_⟩
      · rw [hcheck, hnone]
        rfl
      · have hlevel : s.levelOf dr = (s.point p).level := by
          rw [State.levelOf, hp]
          rfl
        rw [hlevel, hv] at hcheck
        refine ⟨fun hagrees => hcheck.trans (checkAfter_agrees hagrees), fun hdiffers hchanged => ?_,
          fun hdiffers hsame => ?_⟩
        · rw [hv] at hchanged
          rw [bne_iff_ne.mpr hchanged] at hcheck
          exact hcheck.trans (checkAfter_changed hdiffers)
        · rw [hv] at hsame
          rw [← hsame, bne_self_eq_false] at hcheck
          have hruns := hcheck.trans (checkAfter_runs hdiffers)
          exact ⟨fun hnone => hruns.trans (by rw [hnone]; rfl), fun d hsome => hruns.trans (by rw [hsome]; rfl)⟩
      · rw [hposition, hnone]
        rfl
      · rw [hw] at hposition
        refine ⟨fun h => hposition.trans (positionAfter_of_other h), fun leg hhold hheld => ?_⟩
        rw [hhold, positionAfter_hold hheld] at hposition
        refine ⟨fun hread => hposition.trans (if_pos hread), fun hread hchanged => ?_, fun hread hsame => ?_⟩
        · rw [if_neg hread, if_pos (bne_iff_ne.mpr (hhold ▸ hchanged))] at hposition
          exact hposition
        · rw [← hsame, hhold, bne_self_eq_false, if_neg hread, if_neg Bool.false_ne_true] at hposition
          exact ⟨fun hnone => hposition.trans (by rw [hnone]; rfl), fun d hsome => hposition.trans (by rw [hsome]; rfl)⟩

end Sys2Proof.Machine
end

section
/-! PROOFS. The merge arbiters: backlogs, levels, contests and grants booked. -/

namespace Sys2Proof.Machine

open Sys2Proof

/-! ### A contest (R138) -/

/-- The input that the levels, and else the preference, name. -/
def winnerByLevel (preferred : MergeInput) (level : MergeInput → Nat) : MergeInput :=
  if level .in1 < level .in0 then .in0 else if level .in0 < level .in1 then .in1 else preferred

theorem winnerByLevel_of_lt {preferred i : MergeInput} {level : MergeInput → Nat} (h : level i.other < level i) :
    winnerByLevel preferred level = i := by
  cases i with
  | in0 => exact if_pos h
  | in1 =>
    have hle : ¬level .in1 < level .in0 := Nat.lt_asymm h
    exact (if_neg hle).trans (if_pos h)

theorem winnerByLevel_of_eq {preferred : MergeInput} {level : MergeInput → Nat} (h : level .in0 = level .in1) :
    winnerByLevel preferred level = preferred := by
  rw [winnerByLevel, h, if_neg (Nat.lt_irrefl _), if_neg (Nat.lt_irrefl _)]

theorem contestWinner_of_holder {a : Arbiter} {preferred h : MergeInput} {level : MergeInput → Nat} (hholder : a.holder = some h)
    (hburst : 0 < a.burstRemaining) :
    contestWinner a preferred level = if level h.other = 3 ∧ level h < 3 then h.other else h := by
  rw [contestWinner, hholder]
  exact if_pos hburst

theorem contestWinner_of_free {a : Arbiter} {preferred : MergeInput} {level : MergeInput → Nat}
    (h : a.holder = none ∨ a.burstRemaining = 0) : contestWinner a preferred level = winnerByLevel preferred level := by
  unfold contestWinner
  cases hholder : a.holder with
  | none => rfl
  | some i =>
    have hburst : a.burstRemaining = 0 := h.resolve_left fun hnone => nomatch hholder.symm.trans hnone
    exact if_neg (by omega)

/-! ### A block becomes or stops being OCCUPIED (R135) -/

theorem setEntry_arbiter_recounted {s : State} {b : BlockId} {e : Entry} {m : MergeId} {r : MergeRecord} {a : Arbiter}
    (hr : s.layout.merge m = some r) (ha : s.arbiter m = some a)
    (h : (s.entry b).state = .occupied ↔ e.state ≠ .occupied) :
    (s.setEntry b e).arbiter m = some (a.recount r (s.setEntry b e).table b) := by
  have hchanged : (((s.entry b).state == .occupied) == (e.state == .occupied)) = false := by
    rw [beq_eq_false_iff_ne, ne_eq, Bool.eq_iff_iff, beq_iff_eq, beq_iff_eq, h]
    exact not_iff_self
  have harbiters : (s.setEntry b e).arbiters = recountAll s.layout (vput s.table b e) b s.arbiters := by
    rw [State.setEntry, hchanged]
    rfl
  have hbefore : vget s.arbiters m = some a := ha
  rw [State.arbiter, harbiters, recountAll, vget_vmap, hbefore, hr]
  rfl

theorem recount_fields (a : Arbiter) (r : MergeRecord) (table : Vector Entry 32) (b : BlockId) :
    (a.recount r table b).holder = a.holder ∧ (a.recount r table b).burstRemaining = a.burstRemaining ∧
    (a.recount r table b).backlog0 = (if r.feeder0.contains b then backlogOf table r.feeder0 else a.backlog0) ∧
    (a.recount r table b).high0 =
      (if r.feeder0.contains b then highAfter r.tLow r.tHigh (backlogOf table r.feeder0) a.high0 else a.high0) ∧
    (a.recount r table b).backlog1 = (if r.feeder1.contains b then backlogOf table r.feeder1 else a.backlog1) ∧
    (a.recount r table b).high1 =
      (if r.feeder1.contains b then highAfter r.tLow r.tHigh (backlogOf table r.feeder1) a.high1 else a.high1) := by
  unfold Arbiter.recount
  cases r.feeder0.contains b <;> cases r.feeder1.contains b <;> exact ⟨rfl, rfl, rfl, rfl, rfl, rfl⟩

/-! ### The level of an input (R136) -/

theorem expeditedIn_iff (s : State) (feeder : List BlockId) : s.expeditedIn feeder = true ↔
    ∃ b ∈ feeder, ∃ x bt, (s.entry b).occupant = some x ∧ s.boat x = some bt ∧ bt.expedite = true := by
  rw [State.expeditedIn, List.any_eq_true]
  refine exists_congr fun b => and_congr_right fun _ => ⟨fun h => ?_, fun ⟨x, bt, hx, hbt, hexpedite⟩ => ?_⟩
  · split at h
    case h_1 bt hfound =>
      obtain ⟨x, hx, hbt⟩ := Option.bind_eq_some_iff.mp hfound
      exact ⟨x, bt, hx, hbt, h⟩
    case h_2 => cases h
  · rw [hx, Option.bind_some, hbt]
    exact hexpedite

theorem level_of_expedited {s : State} {r : MergeRecord} (a : Arbiter) {i : MergeInput} (h : s.expeditedIn (r.feeder i) = true) :
    s.level r a i = 3 := if_pos h

theorem level_of_backlog {s : State} {r : MergeRecord} (a : Arbiter) {i : MergeInput} (h : s.expeditedIn (r.feeder i) = false) :
    s.level r a i = if a.high i then 2 else if 1 ≤ a.backlog i then 1 else 0 := if_neg (Bool.eq_false_iff.mp h)

/-- Settles O43: the contest, the booking of a grant, the hysteresis, the recount and the levels. -/
theorem mergeContestFollowsItsSteps : Obligations.MergeContestFollowsItsSteps := by
  unfold Obligations.MergeContestFollowsItsSteps
  refine ⟨fun a preferred level => ⟨fun h hholder hburst => ?_, fun hfree => ?_⟩, fun a burst i => ⟨fun hholder hburst => ?_,
    fun hother => ?_⟩, fun tLow tHigh b old hle => ⟨fun h => if_pos h, fun h => ?_, fun hlow hhigh => ?_⟩,
    fun s b e m r a hr ha hchanged => ?_, fun s r a i => ⟨fun h => ?_, fun h => ?_⟩⟩
  · have hwinner := contestWinner_of_holder (preferred := preferred) (level := level) hholder hburst
    exact ⟨fun hcut => hwinner.trans (if_pos hcut), fun hkeeps => hwinner.trans (if_neg hkeeps)⟩
  · rw [contestWinner_of_free hfree]
    exact ⟨fun i => winnerByLevel_of_lt, winnerByLevel_of_eq⟩
  · exact if_pos ⟨hholder, hburst⟩
  · exact if_neg fun ⟨hholder, hburst⟩ => hother.elim (fun hne => hne hholder) fun hzero => absurd hburst (by omega)
  · rw [highAfter, if_neg (by omega), if_pos h]
  · rw [highAfter, if_neg (by omega), if_neg (by omega)]
  · obtain ⟨hholder, hburst, hbacklog0, hhigh0, hbacklog1, hhigh1⟩ := recount_fields a r (s.setEntry b e).table b
    refine ⟨_, setEntry_arbiter_recounted hr ha hchanged, hholder, hburst, fun h => ?_, fun h => ?_, fun h => ?_, fun h => ?_⟩
    · rw [if_pos (List.contains_iff_mem.mpr h)] at hbacklog0 hhigh0
      exact ⟨hbacklog0, hhigh0.trans (by rw [hbacklog0])⟩
    · rw [if_pos (List.contains_iff_mem.mpr h)] at hbacklog1 hhigh1
      exact ⟨hbacklog1, hhigh1.trans (by rw [hbacklog1])⟩
    · have hnot : ¬r.feeder0.contains b = true := fun hin => h (List.contains_iff_mem.mp hin)
      rw [if_neg hnot] at hbacklog0 hhigh0
      exact ⟨hbacklog0, hhigh0⟩
    · have hnot : ¬r.feeder1.contains b = true := fun hin => h (List.contains_iff_mem.mp hin)
      rw [if_neg hnot] at hbacklog1 hhigh1
      exact ⟨hbacklog1, hhigh1⟩
  · exact level_of_expedited a ((expeditedIn_iff ..).mpr h)
  · refine level_of_backlog a (Bool.eq_false_iff.mpr fun hexpedited => ?_)
    obtain ⟨b, hb, x, bt, hx, hbt, hset⟩ := (expeditedIn_iff ..).mp hexpedited
    exact nomatch hset.symm.trans (h b hb x bt hx hbt)

end Sys2Proof.Machine
end

section
/-! PROOFS. Characters on a link: the port written, the character taken, the frame completed. -/

namespace Sys2Proof.Machine

open Sys2Proof

/-! ### A port written -/

theorem PerLink.put_get {α : Type} (p : PerLink α) (l : Link) : p.put l (p.get l) = p := by cases l <;> rfl

theorem setPort_setPort (s : State) (l : Link) (p q : LinkPort) : (s.setPort l p).setPort l q = s.setPort l q :=
  congrArg (fun ports => { s with ports := ports }) (PerLink.put_put s.ports l p q)

theorem setPort_same (s : State) (l : Link) : s.setPort l (s.port l) = s :=
  congrArg (fun ports => { s with ports := ports }) (PerLink.put_get s.ports l)

/-! ### What a taken character and a served frame leave of the port -/

theorem takeCharacter_keeps (p : LinkPort) (c : Character) : (p.takeCharacter c).1.fifo = p.fifo ∧
    (p.takeCharacter c).1.queue = p.queue ∧ (p.takeCharacter c).1.sending = p.sending := by
  have h := takeCharacter_judged p c
  exact ⟨h.fifo, h.queue, h.sending⟩

theorem clearCounters_keeps (p : LinkPort) : p.clearCounters.fifo = p.fifo ∧ p.clearCounters.queue = p.queue ∧
    p.clearCounters.ignoring = p.ignoring := ⟨rfl, rfl, rfl⟩

/-- A frame served leaves its response on the way, and the characters and frames that wait as they were. -/
theorem serveFrame_keeps (s : State) (l : Link) (f : Frame) : ((s.serveFrame l f).port l).sending ≠ none ∧
    ((s.serveFrame l f).port l).fifo = (s.port l).fifo ∧ ((s.serveFrame l f).port l).queue = (s.port l).queue ∧
    ((s.serveFrame l f).port l).ignoring = (s.port l).ignoring := by
  have hanswer (u : State) (hu : KeepsPorts s u) (code tag : Byte) (r : Reply) : ((u.answer l code tag r).port l).sending ≠ none ∧
      ((u.answer l code tag r).port l).fifo = (s.port l).fifo ∧ ((u.answer l code tag r).port l).queue = (s.port l).queue ∧
      ((u.answer l code tag r).port l).ignoring = (s.port l).ignoring := by
    rw [State.answer, setPort_port_self]
    obtain hk | hk := hu l <;> rw [hk] <;> exact ⟨nofun, rfl, rfl, rfl⟩
  unfold State.serveFrame
  split
  case h_1 r _ => exact hanswer (s.decide l r f.args).2 (decide_keepsPorts s l r f.args) _ _ _
  case h_2 => exact hanswer s (.of_ports rfl) _ _ _

theorem takeFront_fifo (s : State) (l : Link) : ((s.takeFront l).port l).fifo = (s.port l).fifo := by
  unfold State.takeFront
  dsimp only
  split
  case h_1 f rest _ _ =>
    rw [(serveFrame_keeps ..).2.1, setPort_port_self]
  case h_2 => rfl

theorem goodFrame_port (s : State) (l : Link) (f : Frame) : (s.goodFrame l f).port l = { s.port l with
    queue := (s.port l).queue ++ [f], goodFrames := countUp (s.port l).goodFrames
    supervision := some { deadline := s.after s.layout.settings.linkTimeout, timeout := s.layout.settings.linkTimeout } } := by
  unfold State.goodFrame
  dsimp only
  split
  · exact setPort_port_self ..
  · rw [comeUp_port]
    exact setPort_port_self ..

/-! ### A character taken (R204) -/

section
variable {s : State} {l : Link} {c : Character} {rest : List Character}

theorem takeWaiting_of_none {q : LinkPort} (h : LinkPort.takeCharacter { s.port l with fifo := rest } c = (q, none)) :
    s.takeWaiting l c rest = s.setPort l q := by
  rw [State.takeWaiting, h]

theorem takeWaiting_of_frame {q : LinkPort} {f : Frame} (h : LinkPort.takeCharacter { s.port l with fifo := rest } c = (q, some f)) :
    s.takeWaiting l c rest = ((s.setPort l q).goodFrame l f).takeFront l := by
  rw [State.takeWaiting, h]

theorem takeWaiting_fifo (s : State) (l : Link) (c : Character) (rest : List Character) :
    ((s.takeWaiting l c rest).port l).fifo = rest := by
  have hkept := (takeCharacter_keeps { s.port l with fifo := rest } c).1
  cases htaken : LinkPort.takeCharacter { s.port l with fifo := rest } c with
  | mk q f =>
    rw [htaken] at hkept
    cases f with
    | none =>
      rw [takeWaiting_of_none htaken, setPort_port_self]
      exact hkept
    | some f =>
      rw [takeWaiting_of_frame htaken, takeFront_fifo, goodFrame_port, setPort_port_self]
      exact hkept

theorem drain_of_empty (l : Link) (n : Nat) {s : State} (h : (s.port l).fifo = []) : drain l n s = s := by
  cases n with
  | zero => rfl
  | succ n =>
    rw [drain, h]
    exact ite_self s

theorem drain_of_full (l : Link) (n : Nat) {s : State} (h : 2 ≤ (s.port l).queue.length) : drain l n s = s := by
  cases n with
  | zero => rfl
  | succ n =>
    have hfull : ¬(s.port l).ready = true := fun hready => absurd (of_decide_eq_true hready) (Nat.not_lt.mpr h)
    exact if_neg hfull

theorem drain_step (l : Link) (n : Nat) {s : State} (hready : (s.port l).queue.length < 2) (hfifo : (s.port l).fifo = c :: rest) :
    drain l (n + 1) s = drain l n (s.takeWaiting l c rest) := by
  have hopen : (s.port l).ready = true := decide_eq_true hready
  rw [drain, if_pos hopen, hfifo]

end

/-! ### A character received (R201, R205, R206) -/

theorem exec_character (s : State) (l : Link) (byte : Byte) (marker : Bool) :
    exec (.characterReceived l byte marker) s = .next (s.character l byte marker) := rfl

theorem markNewest_append (older : List Character) (c : Character) :
    markNewest (older ++ [c]) = older ++ [{ c with lost := true }] := by
  induction older with
  | nil => rfl
  | cons d older ih =>
    rw [List.cons_append, markNewest.eq_3 d (older ++ [c]) (by simp), ih]
    rfl

section
variable {s : State} {l : Link} {byte : Byte} {marker : Bool}

theorem character_ignored (h : (s.port l).ignoring = true) : s.character l byte marker = s := if_pos h

section
variable (hline : (s.port l).ignoring = false)
include hline

theorem character_waits (hfull : 2 ≤ (s.port l).queue.length) (hroom : (s.port l).fifo.length < 4) :
    s.character l byte marker =
      s.setPort l { s.port l with fifo := (s.port l).fifo ++ [{ byte := byte, marker := marker, lost := false }] } := by
  have hreceived : (s.port l).receive byte marker =
      { s.port l with fifo := (s.port l).fifo ++ [{ byte := byte, marker := marker, lost := false }] } := if_pos hroom
  rw [State.character, if_neg (by rw [hline]; nofun), hreceived]
  exact drain_of_full l _ (by rw [setPort_port_self]; exact hfull)

theorem character_lost (hfull : 2 ≤ (s.port l).queue.length) {older : List Character} {c : Character}
    (hfifo : (s.port l).fifo = older ++ [c]) (hroom : 4 ≤ (s.port l).fifo.length) :
    s.character l byte marker = s.setPort l { s.port l with fifo := older ++ [{ c with lost := true }] } := by
  have hreceived : (s.port l).receive byte marker = { s.port l with fifo := older ++ [{ c with lost := true }] } := by
    have hfull : ¬(s.port l).fifo.length < Config.fifoCapacity := Nat.not_lt.mpr hroom
    rw [LinkPort.receive, if_neg hfull, hfifo, markNewest_append]
  rw [State.character, if_neg (by rw [hline]; nofun), hreceived]
  exact drain_of_full l _ (by rw [setPort_port_self]; exact hfull)

section
variable (hopen : (s.port l).queue.length < 2) (hfifo : (s.port l).fifo = [])
include hopen hfifo

/-- With nothing waiting and the queue open the character is taken at once. -/
theorem character_taken : s.character l byte marker =
    (s.setPort l { s.port l with fifo := [{ byte := byte, marker := marker, lost := false }] }).takeWaiting l
      { byte := byte, marker := marker, lost := false } [] := by
  have hreceived : (s.port l).receive byte marker =
      { s.port l with fifo := [{ byte := byte, marker := marker, lost := false }] } := by
    rw [LinkPort.receive, hfifo]
    rfl
  rw [State.character, if_neg (by rw [hline]; nofun), hreceived]
  refine (drain_step l 3 ?_ ?_).trans (drain_of_empty l 3 (takeWaiting_fifo ..))
  · rw [setPort_port_self]
    exact hopen
  · rw [setPort_port_self]

omit hline hopen in
theorem takeCharacter_of_takeByte {q : LinkPort} {f : Option Frame} (h : (s.port l).takeByte byte marker = (q, f)) :
    LinkPort.takeCharacter { (s.setPort l { s.port l with fifo := [{ byte := byte, marker := marker, lost := false }] }).port l
      with fifo := [] } { byte := byte, marker := marker, lost := false } = (q, f) := by
  have hport : ({ (s.setPort l { s.port l with fifo := [{ byte := byte, marker := marker, lost := false }] }).port l
      with fifo := [] } : LinkPort) = s.port l := by
    rw [setPort_port_self, ← hfifo]
  rw [hport, LinkPort.takeCharacter]
  dsimp only
  rw [h]
  rfl

theorem exec_character_unframed {q : LinkPort} (h : (s.port l).takeByte byte marker = (q, none)) :
    exec (.characterReceived l byte marker) s = .next (s.setPort l q) := by
  rw [exec_character, character_taken hline hopen hfifo,
    takeWaiting_of_none (takeCharacter_of_takeByte hfifo h), setPort_setPort]

theorem exec_character_framed {q : LinkPort} {f : Frame} (h : (s.port l).takeByte byte marker = (q, some f)) :
    exec (.characterReceived l byte marker) s = .next (((s.setPort l q).goodFrame l f).takeFront l) := by
  rw [exec_character, character_taken hline hopen hfifo,
    takeWaiting_of_frame (takeCharacter_of_takeByte hfifo h), setPort_setPort]

end

end

end

end Sys2Proof.Machine
end

section
/-! PROOFS. The bytes of a frame, and a link that comes UP with a good frame. -/

namespace Sys2Proof.Machine

open Sys2Proof

/-! ### A byte of a frame (R204) -/

section
variable {p : LinkPort} {byte : Byte} {a : Assembly}

theorem takeByte_outside (h : p.assembly = none) : p.takeByte byte false = (p, none) := by
  rw [LinkPort.takeByte, h]
  rfl

theorem takeByte_first (h : p.assembly = none) :
    p.takeByte byte true = ({ p with assembly := some { bytes := [byte], overrun := false } }, none) := by
  show (p.beginFrame byte, none) = _
  rw [LinkPort.beginFrame, h]

theorem takeByte_again (h : p.assembly = some a) : p.takeByte byte true = ({ p with
    assembly := some { bytes := [byte], overrun := false }
    overruns := if a.overrun then min (p.overruns + 1) 65535 else p.overruns
    truncated := if a.overrun then p.truncated else min (p.truncated + 1) 65535 }, none) := by
  show (p.beginFrame byte, none) = _
  rw [LinkPort.beginFrame, h]
  dsimp only
  cases a.overrun <;> rfl

theorem takeByte_inside (h : p.assembly = some a) : p.takeByte byte false = p.extendFrame a byte := by
  rw [LinkPort.takeByte, h]
  rfl

theorem getD_two_append {bytes : List Byte} (h : 3 ≤ bytes.length) (byte : Byte) :
    (bytes ++ [byte]).getD 2 0 = bytes.getD 2 0 := by
  rw [List.getD_eq_getElem?_getD, List.getD_eq_getElem?_getD, List.getElem?_append_left (by omega)]

theorem getD_two_last {bytes : List Byte} (h : bytes.length = 2) (byte : Byte) : (bytes ++ [byte]).getD 2 0 = byte := by
  rw [List.getD_eq_getElem?_getD, ← h, List.getElem?_concat_length]
  rfl

theorem extendFrame_tooLong (hlength : a.bytes.length = 2) (hbyte : 48 < byte.toNat) :
    p.extendFrame a byte = ({ p with assembly := none, checkErrors := min (p.checkErrors + 1) 65535 }, none) := by
  refine if_pos ⟨?_, hbyte⟩
  rw [List.length_append, hlength]
  rfl

theorem extendFrame_more (h : a.bytes.length < 2 ∨ a.bytes.length = 2 ∧ byte.toNat ≤ 48 ∨
    3 ≤ a.bytes.length ∧ a.bytes.length + 1 ≠ 4 + (a.bytes.getD 2 0).toNat) :
    p.extendFrame a byte = ({ p with assembly := some { a with bytes := a.bytes ++ [byte] } }, none) := by
  have hlength : (a.bytes ++ [byte]).length = a.bytes.length + 1 := List.length_append
  have hshort : ¬((a.bytes ++ [byte]).length = 3 ∧ Config.maxFrameData < byte.toNat) := by
    show ¬((a.bytes ++ [byte]).length = 3 ∧ 48 < byte.toNat)
    rw [hlength]
    omega
  have hopen : ¬(3 ≤ (a.bytes ++ [byte]).length ∧ (a.bytes ++ [byte]).length = 4 + ((a.bytes ++ [byte]).getD 2 0).toNat) := by
    rw [hlength]
    rintro ⟨hthree, hcomplete⟩
    obtain h | ⟨h, -⟩ | ⟨h, hne⟩ := h
    · omega
    · omega
    · rw [getD_two_append h] at hcomplete
      exact hne hcomplete
  exact (if_neg hshort).trans (if_neg hopen)

theorem extendFrame_complete (h : 3 ≤ a.bytes.length) (hcomplete : a.bytes.length + 1 = 4 + (a.bytes.getD 2 0).toNat) :
    p.extendFrame a byte = p.judge { a with bytes := a.bytes ++ [byte] } := by
  have hlength : (a.bytes ++ [byte]).length = a.bytes.length + 1 := List.length_append
  have hshort : ¬((a.bytes ++ [byte]).length = 3 ∧ Config.maxFrameData < byte.toNat) := by
    rw [hlength]
    omega
  have hclosed : 3 ≤ (a.bytes ++ [byte]).length ∧ (a.bytes ++ [byte]).length = 4 + ((a.bytes ++ [byte]).getD 2 0).toNat := by
    rw [hlength, getD_two_append h]
    omega
  exact (if_neg hshort).trans (if_pos hclosed)

theorem judge_overrun (h : a.overrun = true) :
    p.judge a = ({ p with assembly := none, overruns := min (p.overruns + 1) 65535 }, none) := if_pos h

theorem judge_check (h : a.overrun = false) (hcheck : byteSum a.bytes ≠ 0 ∨ 128 ≤ (a.bytes.getD 0 0).toNat) :
    p.judge a = ({ p with assembly := none, checkErrors := min (p.checkErrors + 1) 65535 }, none) := by
  have hkept : ¬a.overrun = true := by rw [h]; nofun
  rw [LinkPort.judge]
  dsimp only
  rw [if_neg hkept]
  by_cases hsum : byteSum a.bytes ≠ 0
  · exact if_pos hsum
  · exact (if_neg hsum).trans (if_pos (hcheck.resolve_left hsum))

theorem judge_good (h : a.overrun = false) (hsum : byteSum a.bytes = 0) (hcode : (a.bytes.getD 0 0).toNat < 128) :
    p.judge a = ({ p with assembly := none }, some (frameOf a.bytes)) := by
  have hkept : ¬a.overrun = true := by rw [h]; nofun
  rw [LinkPort.judge]
  dsimp only
  rw [if_neg hkept, if_neg (not_not_intro hsum), if_neg (Nat.not_le.mpr hcode)]

/-- The last character of a frame whose bytes add up. -/
theorem takeByte_last {code tag : Byte} {args : List Byte} (hargs : args.length ≤ 48) (hcode : code.toNat < 128)
    (hassembly : p.assembly = some { bytes := code :: tag :: BitVec.ofNat 8 args.length :: args, overrun := false })
    (hsum : (code :: tag :: BitVec.ofNat 8 args.length :: (args ++ [byte])).foldl (· + ·) 0 = 0) :
    p.takeByte byte false = ({ p with assembly := none }, some { code := code, tag := tag, args := args }) := by
  have hlength : (code :: tag :: BitVec.ofNat 8 args.length :: args : List Byte).length = args.length + 3 := rfl
  have hdata : ((code :: tag :: BitVec.ofNat 8 args.length :: args : List Byte).getD 2 0).toNat = args.length := by
    show (BitVec.ofNat 8 args.length).toNat = args.length
    rw [BitVec.toNat_ofNat]
    omega
  have hframe : frameOf (code :: tag :: BitVec.ofNat 8 args.length :: args ++ [byte]) =
      { code := code, tag := tag, args := args } := by
    show ({ code := code, tag := tag, args := (args ++ [byte]).dropLast } : Frame) = _
    rw [List.dropLast_concat]
  have hbytes : byteSum (code :: tag :: BitVec.ofNat 8 args.length :: args ++ [byte]) = 0 := hsum
  have hfirst : ((code :: tag :: BitVec.ofNat 8 args.length :: args ++ [byte] : List Byte).getD 0 0).toNat < 128 := hcode
  rw [takeByte_inside hassembly, extendFrame_complete (by rw [hlength]; omega) (by rw [hdata, hlength]; omega)]
  exact (judge_good rfl hbytes hfirst).trans (by rw [hframe])

end

/-! ### A link that comes UP (R209, R220, R223) -/

section
variable {s : State} {l : Link}

theorem comeUp_eq (s : State) (l : Link) : s.comeUp l = { s with reports := (s.comeUp l).reports } := by
  have h := append_eq (s.setReader l { s.reader l with cursor := s.reports.ring.length, skipped := 0, line := false, holdOff := none })
    .link none none none (detail 0 (linkCode l) 0 0)
  exact h

/-- The reader of a link that comes UP: nothing to read, its line negated, no hold-off. -/
def State.caughtUp (s : State) (l : Link) : State :=
  s.setReader l { s.reader l with cursor := s.reports.ring.length, skipped := 0, line := false, holdOff := none }

theorem caughtUp_ringSound {t : State} (hs : s.ringSound) (hreports : t.reports = s.reports) (hup : t.up l = true)
    (hothers : ∀ k, k ≠ l → t.up k = s.up k) : (t.caughtUp l).ringSound := by
  obtain ⟨hlength, -, hreaders⟩ := hs
  have hring : (t.caughtUp l).reports.ring = s.reports.ring := congrArg (·.ring) hreports
  refine ⟨by rw [hring]; exact hlength, fun hdown => absurd ((hdown l).symm.trans hup) Bool.false_ne_true, fun k => ?_⟩
  by_cases hk : k = l
  · rw [hk, State.caughtUp, setReader_reader_self]
    exact ⟨Nat.le_refl _, Nat.zero_le _, fun hdown => absurd (hdown.symm.trans hup) Bool.false_ne_true⟩
  · have hreader : (t.caughtUp l).reader k = s.reader k := by
      rw [State.caughtUp, setReader_reader_ne _ _ hk, State.reader, hreports]
      rfl
    have hsame : (t.caughtUp l).up k = s.up k := hothers k hk
    rw [hreader, hring, hsame]
    exact hreaders k

/-- The LINK report of a link that comes UP. -/
def State.upReport (s : State) (l : Link) : Report :=
  { seq := s.reports.nextSeq, kind := .link, fault := none, time := s.timeBase, block := none, boat := none,
    details := { d1 := 0, d2 := linkCode l, d3 := 0, d4 := 0 } }

/-- What the link reads once it is UP, and its line. -/
theorem comeUp_reads {t : State} (hs : s.ringSound) (hreports : t.reports = s.reports) (htime : t.timeBase = s.timeBase)
    (hup : t.up l = true) (hothers : ∀ k, k ≠ l → t.up k = s.up k) :
    (t.comeUp l).unread l = [s.upReport l] ∧
    ((t.comeUp l).reader l).skipped = 0 ∧ ((t.comeUp l).reader l).holdOff = none ∧
    ((t.comeUp l).reader l).line = inAttention (s.reader l).attention .link ∧
    (t.comeUp l).reports.nextSeq = s.reports.nextSeq + 1 := by
  have hsound := caughtUp_ringSound hs hreports hup hothers
  have hdetail : detail 0 (linkCode l) 0 0 = { d1 := 0, d2 := linkCode l, d3 := 0, d4 := 0 } := by
    cases l <;> rfl
  have hcome : t.comeUp l = (t.caughtUp l).append .link none none none { d1 := 0, d2 := linkCode l, d3 := 0, d4 := 0 } := by
    rw [← hdetail]
    rfl
  have hreader : (t.caughtUp l).reader l =
      { s.reader l with cursor := s.reports.ring.length, skipped := 0, line := false, holdOff := none } := by
    rw [State.caughtUp, setReader_reader_self, State.reader, hreports]
    rfl
  have hring : (t.caughtUp l).reports.ring = s.reports.ring := congrArg (·.ring) hreports
  have hseq : (t.caughtUp l).reports.nextSeq = s.reports.nextSeq := congrArg (·.nextSeq) hreports
  have hup' : (t.caughtUp l).up l = true := hup
  have hnothing : (t.caughtUp l).unread l = [] := by
    rw [State.unread, hreader, hring]
    exact List.drop_length
  have hentry : (t.caughtUp l).reportEntry .link none none none { d1 := 0, d2 := linkCode l, d3 := 0, d4 := 0 } =
      s.upReport l := by
    rw [State.upReport, ← htime, ← hseq]
    rfl
  obtain ⟨-, -, -, hread, -⟩ := append_reportsAdded (s := t.caughtUp l) .link none none none
    { d1 := 0, d2 := linkCode l, d3 := 0, d4 := 0 } hsound
  obtain ⟨-, hskipped⟩ := hread l hup'
  have hunread := append_unread_up .link none none none { d1 := 0, d2 := linkCode l, d3 := 0, d4 := 0 } hsound hup'
  have hkept : (t.caughtUp l).reports.ring.length < 64 ∨ (t.caughtUp l).up l = false ∨ ((t.caughtUp l).reader l).cursor ≠ 0 := by
    rw [hring, hreader]
    by_cases hshort : s.reports.ring.length < 64
    · exact .inl hshort
    · exact .inr (.inr (by show s.reports.ring.length ≠ 0; omega))
  obtain ⟨hline, hholdOff⟩ := append_attended_once .link none none none { d1 := 0, d2 := linkCode l, d3 := 0, d4 := 0 } hsound hkept
  have hone : newest64 [s.upReport l] = [s.upReport l] := rfl
  rw [hnothing, List.nil_append, hentry, hone] at hunread
  rw [hunread, hup', hreader] at hline
  rw [hreader] at hholdOff
  rw [hreader, hnothing] at hskipped
  rw [hcome]
  refine ⟨hunread, hskipped, ?_, ?_, (append_nextSeq ..).trans (by rw [hseq])⟩
  · exact hholdOff.trans (if_neg fun h => nomatch h.1)
  · refine hline.trans ?_
    show (true && anyWanted (s.reader l).attention _ && true) = _
    rw [Bool.true_and, Bool.and_true, anyWanted, List.any_cons, List.any_nil, Bool.or_false]
    rfl

end

end Sys2Proof.Machine
end

section
/-! PROOFS. Characters make frames. -/

namespace Sys2Proof.Machine

open Sys2Proof

/-! ### A good frame (R204, R209) -/

/-- The supervision that a good frame sets. -/
def State.freshSupervision (s : State) : Supervision :=
  { deadline := s.timeBase + msSpan s.layout.settings.linkTimeout, timeout := s.layout.settings.linkTimeout }

/-- A port that has taken a good frame into its queue. -/
def LinkPort.framed (q : LinkPort) (f : Frame) (v : Supervision) : LinkPort :=
  { q with queue := q.queue ++ [f], goodFrames := min (q.goodFrames + 1) 65535, supervision := some v }

section
variable {s : State} {l : Link} {q : LinkPort} (f : Frame)

theorem goodFrame_of_up (h : q.supervision ≠ none) :
    (s.setPort l q).goodFrame l f = s.setPort l (q.framed f s.freshSupervision) := by
  have hup : ((s.setPort l q).port l).up = true := by
    rw [setPort_port_self]
    exact Option.isSome_iff_ne_none.mpr h
  rw [State.goodFrame, if_pos hup, setPort_setPort, setPort_port_self]
  rfl

theorem goodFrame_of_down (h : q.supervision = none) :
    (s.setPort l q).goodFrame l f = (s.setPort l (q.framed f s.freshSupervision)).comeUp l := by
  have hup : ¬((s.setPort l q).port l).up = true := by
    rw [setPort_port_self, LinkPort.up, h]
    exact nofun
  rw [State.goodFrame, if_neg hup, setPort_setPort, setPort_port_self]
  rfl

theorem takeFront_of_sending {t : State} (h : (t.port l).sending ≠ none) : t.takeFront l = t := by
  unfold State.takeFront
  dsimp only
  split
  case h_1 hnone _ => exact absurd hnone h
  case h_2 => rfl

theorem takeFront_of_idle {t : State} {g : Frame} {rest : List Frame} (h : (t.port l).sending = none)
    (hqueue : (t.port l).queue = g :: rest) :
    t.takeFront l = (t.setPort l { t.port l with queue := rest }).serveFrame l g := by
  unfold State.takeFront
  dsimp only
  split
  case h_1 hfound =>
    cases hqueue.symm.trans hfound
    rfl
  case h_2 hnone => exact absurd hqueue (hnone _ _ h)

/-- The one good frame of an idle link leaves the queue at once. -/
theorem framed_taken {p : LinkPort} (hempty : p.queue = []) (v : Supervision) :
    ({ LinkPort.framed { p with assembly := none } f v with queue := [] } : LinkPort) =
      { p with assembly := none, goodFrames := min (p.goodFrames + 1) 65535, supervision := some v } :=
  congrArg (fun queue => { p with
    assembly := none, goodFrames := min (p.goodFrames + 1) 65535, supervision := some v, queue := queue }) hempty.symm

theorem framed_queue {p : LinkPort} (hempty : p.queue = []) (v : Supervision) : (p.framed f v).queue = [f] := by
  rw [LinkPort.framed, hempty]
  rfl

theorem takeFront_framed {p : LinkPort} {v : Supervision} (hidle : p.sending = none) (hempty : p.queue = []) :
    (s.setPort l (LinkPort.framed { p with assembly := none } f v)).takeFront l =
      (s.setPort l { p with assembly := none, goodFrames := min (p.goodFrames + 1) 65535,
                            supervision := some v }).serveFrame l f := by
  rw [takeFront_of_idle (g := f) (rest := []) (by rw [setPort_port_self]; exact hidle)
    (by rw [setPort_port_self]; exact framed_queue f (p := { p with assembly := none }) hempty v), setPort_port_self,
    setPort_setPort, framed_taken f hempty]

theorem takeFront_comeUp {p : LinkPort} {v : Supervision} (hidle : p.sending = none) (hempty : p.queue = []) :
    ((s.setPort l (LinkPort.framed { p with assembly := none } f v)).comeUp l).takeFront l =
      (((s.setPort l (LinkPort.framed { p with assembly := none } f v)).comeUp l).setPort l
        { p with assembly := none, goodFrames := min (p.goodFrames + 1) 65535, supervision := some v }).serveFrame l f := by
  have hport : ((s.setPort l (LinkPort.framed { p with assembly := none } f v)).comeUp l).port l =
      LinkPort.framed { p with assembly := none } f v := (comeUp_port ..).trans (setPort_port_self ..)
  rw [takeFront_of_idle (g := f) (rest := []) (by rw [hport]; exact hidle)
    (by rw [hport]; exact framed_queue f (p := { p with assembly := none }) hempty v), hport, framed_taken f hempty]

/-- The reports of a link that comes UP are the only change besides its port. -/
theorem comeUp_setPort (t : State) (l : Link) (p q : LinkPort) :
    ((t.setPort l p).comeUp l).setPort l q = { t.setPort l q with reports := ((t.setPort l p).comeUp l).reports } := by
  rw [comeUp_eq]
  exact congrArg (fun ports : PerLink LinkPort => { t with ports := ports, reports := ((t.setPort l p).comeUp l).reports })
    (PerLink.put_put t.ports l p q)

end

/-! ### The last character of a frame -/

section
variable {s : State} {l : Link} {byte code tag : Byte} {args : List Byte}
  (hline : (s.port l).ignoring = false) (hopen : (s.port l).queue.length < 2) (hfifo : (s.port l).fifo = [])
  (hargs : args.length ≤ 48) (hcode : code.toNat < 128)
  (hassembly : (s.port l).assembly = some { bytes := code :: tag :: BitVec.ofNat 8 args.length :: args, overrun := false })
  (hsum : (code :: tag :: BitVec.ofNat 8 args.length :: (args ++ [byte])).foldl (· + ·) 0 = 0)
include hline hopen hfifo hargs hcode hassembly hsum

/-- A good frame on an UP link. -/
theorem exec_lastCharacter_up (hup : (s.port l).supervision ≠ none) :
    exec (.characterReceived l byte false) s = .next ((s.setPort l
      (LinkPort.framed { s.port l with assembly := none } { code := code, tag := tag, args := args } s.freshSupervision)).takeFront
        l) := by
  rw [exec_character_framed hline hopen hfifo (takeByte_last hargs hcode hassembly hsum),
    goodFrame_of_up (q := { s.port l with assembly := none }) _ hup]

/-- A good frame on a DOWN link. -/
theorem exec_lastCharacter_down (hdown : (s.port l).supervision = none) :
    exec (.characterReceived l byte false) s = .next (((s.setPort l
      (LinkPort.framed { s.port l with assembly := none } { code := code, tag := tag, args := args }
        s.freshSupervision)).comeUp l).takeFront l) := by
  rw [exec_character_framed hline hopen hfifo (takeByte_last hargs hcode hassembly hsum),
    goodFrame_of_down (q := { s.port l with assembly := none }) _ hdown]

end

theorem getD_zero_append {bytes : List Byte} (h : 0 < bytes.length) (byte : Byte) :
    (bytes ++ [byte]).getD 0 0 = bytes.getD 0 0 := by
  rw [List.getD_eq_getElem?_getD, List.getD_eq_getElem?_getD, List.getElem?_append_left h]

theorem broken_of_quiet {p : LinkPort} (h : p.ignoring = false) : p.broken = { p with
    fifo := [], assembly := none, shift := [], ignoring := true, breaks := min (p.breaks + 1) 65535 } :=
  if_neg (by rw [h]; nofun)

/-- Settles O44: a character waits, is lost, or is taken into the frame under assembly. -/
theorem charactersMakeFrames : Obligations.CharactersMakeFrames := by
  unfold Obligations.CharactersMakeFrames
  rintro s l p rfl
  refine ⟨fun byte marker => ⟨fun h => ?_, fun hline hfull => ⟨fun hroom => ?_, fun older c hfifo hroom => ?_⟩⟩,
    fun byte hline hopen hfifo => ⟨fun hnone => ⟨?_, ?_⟩, fun a ha => ⟨?_, fun hlength hbyte => ?_, fun hmore => ?_,
      fun hthree hcomplete => ⟨fun hoverrun => ?_, fun hkept hcheck => ?_⟩⟩⟩,
    fun byte code tag args f v hline hopen hfifo hargs hcode hassembly hsum hf hv => ⟨fun hup => ⟨fun hidle hempty => ?_,
      fun hsending => ?_⟩, fun hdown hserved => ?_⟩, fun hline => ?_, fun hline => ?_, rfl⟩
  · rw [exec_character, character_ignored h]
  · rw [exec_character, character_waits hline hfull hroom]
  · rw [exec_character, character_lost hline hfull hfifo hroom]
  · exact exec_character_unframed hline hopen hfifo (takeByte_first hnone)
  · rw [exec_character_unframed hline hopen hfifo (takeByte_outside hnone), setPort_same]
  · exact exec_character_unframed hline hopen hfifo (takeByte_again ha)
  · exact exec_character_unframed hline hopen hfifo ((takeByte_inside ha).trans (extendFrame_tooLong hlength hbyte))
  · exact exec_character_unframed hline hopen hfifo ((takeByte_inside ha).trans (extendFrame_more hmore))
  · exact exec_character_unframed hline hopen hfifo ((takeByte_inside ha).trans
      ((extendFrame_complete hthree hcomplete).trans (judge_overrun hoverrun)))
  · refine exec_character_unframed hline hopen hfifo ((takeByte_inside ha).trans
      ((extendFrame_complete hthree hcomplete).trans (judge_check hkept (hcheck.imp id fun hcode => ?_))))
    rw [getD_zero_append (by omega)]
    exact hcode
  · subst hf hv
    rw [exec_lastCharacter_up hline hopen hfifo hargs hcode hassembly hsum hup]
    exact congrArg Host.Outcome.next (takeFront_framed _ hidle hempty)
  · subst hf hv
    rw [exec_lastCharacter_up hline hopen hfifo hargs hcode hassembly hsum hup,
      takeFront_of_sending (by rw [setPort_port_self]; exact hsending)]
    rfl
  · subst hf hv
    have hexec := exec_lastCharacter_down hline hopen hfifo hargs hcode hassembly hsum hdown
    have hreads (hs : s.ringSound) := comeUp_reads (l := l) (t := s.setPort l (LinkPort.framed { s.port l with assembly := none }
      { code := code, tag := tag, args := args } s.freshSupervision)) hs rfl rfl
      (by rw [setPort_up_self]; rfl) fun k hk => setPort_up_ne s _ hk
    by_cases hidle : (s.port l).sending = none
    · rw [takeFront_comeUp _ hidle (hserved hidle)] at hexec
      simp only [if_pos hidle]
      exact ⟨_, hexec, comeUp_setPort .., hreads⟩
    · have hkept : ((s.setPort l (LinkPort.framed { s.port l with assembly := none }
          { code := code, tag := tag, args := args } s.freshSupervision)).comeUp l).port l = _ :=
        (comeUp_port ..).trans (setPort_port_self ..)
      rw [takeFront_of_sending (by rw [hkept]; exact hidle)] at hexec
      simp only [if_neg hidle]
      exact ⟨_, hexec, comeUp_eq .., hreads⟩
  · show Host.Outcome.next (s.setPort l (s.port l).broken) = _
    rw [broken_of_quiet hline]
  · have hkept : (s.port l).broken = s.port l := if_pos hline
    show Host.Outcome.next (s.setPort l (s.port l).broken) = _
    rw [hkept, setPort_same]

end Sys2Proof.Machine
end

section
/-! PROOFS. Frames taken from the queue, responses sent, and the characters that waited. -/

namespace Sys2Proof.Machine

open Sys2Proof

/-! ### The request of a frame's code (R212) -/

theorem ofCode_code (r : Req) : Req.ofCode (BitVec.ofNat 8 r.code).toNat = some r := by
  cases r <;> decide

theorem ofCode_none {code : Nat} (h : ∀ r : Req, code ≠ r.code) : Req.ofCode code = none :=
  List.find?_eq_none.mpr fun r _ hr => h r (eq_of_beq hr).symm

theorem serveFrame_of_code (s : State) (l : Link) (r : Req) (tag : Byte) (args : List Byte) :
    s.serveFrame l { code := BitVec.ofNat 8 r.code, tag := tag, args := args } = s.serve l r tag args := by
  rw [State.serveFrame, ofCode_code]

theorem serveFrame_of_unknown (s : State) (l : Link) {code : Byte} (tag : Byte) (args : List Byte)
    (h : ∀ r : Req, code.toNat ≠ r.code) :
    s.serveFrame l { code := code, tag := tag, args := args } = s.sends l code tag .unknownRequest [] := by
  rw [State.serveFrame, ofCode_none h]
  rfl

theorem exec_served {s : State} {l : Link} (h : (s.port l).sending = none) (r : Req) (tag : Byte) (args : List Byte) :
    exec (requestCommand r l tag args) s = .next (s.serve l r tag args) := by
  have hpresent : s.present l r tag args = s.serve l r tag args := by
    rw [State.present, h]
    rfl
  rw [← hpresent]
  cases r <;> rfl

/-! ### A response as its characters (R201, R202) -/

theorem transmission_idle {p : LinkPort} (h : p.sending = none) : p.transmission = [] := by
  rw [LinkPort.transmission, h]
  rfl

/-- The bytes of a response that its check byte makes add up to 0. -/
def Response.body (r : Response) : List Byte :=
  [r.code, r.tag, BitVec.ofNat 8 r.status.code, BitVec.ofNat 8 r.data.length] ++ r.data

theorem bytes_eq (r : Response) : r.bytes = r.body ++ [0 - r.body.foldl (· + ·) 0] := rfl

theorem bytes_sum (r : Response) : r.bytes.foldl (· + ·) 0 = 0 := by
  rw [bytes_eq, List.foldl_append]
  show r.body.foldl (· + ·) 0 + (0 - r.body.foldl (· + ·) 0) = 0
  bv_omega

theorem characters_bytes (r : Response) : r.characters.map (·.1) = r.bytes := by
  unfold Response.characters
  split
  case h_1 h => rw [h]; rfl
  case h_2 first others h =>
    rw [h, List.map_cons, List.map_map]
    exact congrArg (first :: ·) (List.map_id others)

theorem transmission_of_response {p : LinkPort} {r : Response} (h : p.sending = some r) : p.transmission = r.characters := by
  rw [LinkPort.transmission, h]
  rfl

end Sys2Proof.Machine
end

section
/-! PROOFS. A port's waiting characters stand aside while a character is taken. -/

namespace Sys2Proof.Machine

open Sys2Proof

/-! ### What an append reads (R219 to R223) -/

/-- The Report Queue, the time and the links that are UP, all that an append reads, are the same. -/
structure AppendsAlike (s t : State) : Prop where
  reports : t.reports = s.reports
  timeBase : t.timeBase = s.timeBase
  up : ∀ l, t.up l = s.up l

section
variable {s t : State}

theorem AppendsAlike.reader (h : AppendsAlike s t) (l : Link) : t.reader l = s.reader l := by
  rw [State.reader, h.reports, State.reader]

theorem AppendsAlike.mapReaders (h : AppendsAlike s t) {f g : Link → Reader → Reader} (hfg : ∀ l r, f l r = g l r) :
    AppendsAlike (s.mapReaders f) (t.mapReaders g) where
  reports := by
    have hsame : f = g := funext fun l => funext (hfg l)
    rw [State.mapReaders, State.mapReaders, hsame]
    dsimp only
    rw [h.reports]
  timeBase := h.timeBase
  up := h.up

theorem AppendsAlike.withRing (h : AppendsAlike s t) (ring : List Report) :
    AppendsAlike { s with reports := { s.reports with ring := ring } } { t with reports := { t.reports with ring := ring } } where
  reports := by
    dsimp only
    rw [h.reports]
  timeBase := h.timeBase
  up := h.up

theorem AppendsAlike.dropOldest (h : AppendsAlike s t) : AppendsAlike s.dropOldest t.dropOldest := by
  have hring : t.reports.ring = s.reports.ring := congrArg (·.ring) h.reports
  unfold State.dropOldest
  dsimp only
  rw [hring]
  exact (h.mapReaders fun l r => by rw [h.up, h.timeBase]).withRing _

theorem AppendsAlike.withRoom (h : AppendsAlike s t) : AppendsAlike s.withRoom t.withRoom := by
  unfold State.withRoom
  rw [h.reports]
  split
  · exact h
  · exact h.dropOldest

theorem AppendsAlike.pushReport (h : AppendsAlike s t) (k : ReportKind) (f : Option (FaultKind × FaultClass))
    (b : Option BlockId) (x : Option BoatId) (d : Details) : AppendsAlike (s.pushReport k f b x d) (t.pushReport k f b x d) where
  reports := by
    unfold State.pushReport
    dsimp only
    rw [h.reports, h.timeBase]
  timeBase := h.timeBase
  up := h.up

theorem AppendsAlike.heldForSome (h : AppendsAlike s t) : AppendsAlike s.heldForSome t.heldForSome := by
  have hnone : t.noneUp = s.noneUp := by rw [State.noneUp, h.up, h.up, h.up, State.noneUp]
  have hcount : t.freeCount = s.freeCount := by
    simp only [State.freeCount, h.up, h.reader, h.reports]
  unfold State.heldForSome
  rw [hnone]
  split
  · unfold State.freeEntries
    dsimp only
    rw [hcount]
    have hmapped := h.mapReaders (f := fun l r => { r with cursor := if s.up l then r.cursor - s.freeCount else 0 })
      (g := fun l r => { r with cursor := if t.up l then r.cursor - s.freeCount else 0 }) fun l r => by rw [h.up]
    have hring : (t.mapReaders fun l r => { r with cursor := if t.up l then r.cursor - s.freeCount else 0 }).reports.ring =
        (s.mapReaders fun l r => { r with cursor := if s.up l then r.cursor - s.freeCount else 0 }).reports.ring :=
      congrArg (·.ring) hmapped.reports
    rw [hring]
    exact hmapped.withRing _
  · exact h

theorem AppendsAlike.evaluateAll (h : AppendsAlike s t) : AppendsAlike s.evaluateAll t.evaluateAll :=
  h.mapReaders fun l r => by rw [h.timeBase, h.up, h.reports]

theorem AppendsAlike.append (h : AppendsAlike s t) (k : ReportKind) (f : Option (FaultKind × FaultClass))
    (b : Option BlockId) (x : Option BoatId) (d : Details) : AppendsAlike (s.append k f b x d) (t.append k f b x d) := by
  rw [append_steps, append_steps]
  exact (h.withRoom.pushReport k f b x d).heldForSome.evaluateAll

end

/-- A link comes UP whatever else its port holds. -/
theorem comeUp_aside (t : State) (l : Link) {q : LinkPort} (h : q.up = t.up l) :
    (t.setPort l q).comeUp l = (t.comeUp l).setPort l q := by
  have halike : AppendsAlike t (t.setPort l q) := ⟨rfl, rfl, fun k => by
    by_cases hk : k = l
    · rw [hk, setPort_up_self, h]
    · exact setPort_up_ne t q hk⟩
  have hcaught : AppendsAlike (t.caughtUp l) ((t.setPort l q).caughtUp l) := ⟨rfl, rfl, halike.up⟩
  have hreports : ((t.setPort l q).comeUp l).reports = (t.comeUp l).reports :=
    (hcaught.append .link none none none (detail 0 (linkCode l) 0 0)).reports
  rw [comeUp_eq (t.setPort l q), hreports, comeUp_eq t]
  rfl

/-! ### Changes of a port that a good frame does not meet -/

/-- A change of a port that keeps its supervision and commutes with the taking of a good frame. -/
structure Aside (g : LinkPort → LinkPort) : Prop where
  supervision : ∀ p, (g p).supervision = p.supervision
  framed : ∀ p f v, g (p.framed f v) = (g p).framed f v

theorem goodFrame_aside {g : LinkPort → LinkPort} (hg : Aside g) (s : State) (l : Link) (q : LinkPort) (f : Frame) :
    (s.setPort l (g q)).goodFrame l f =
      ((s.setPort l q).goodFrame l f).setPort l (g (((s.setPort l q).goodFrame l f).port l)) := by
  by_cases hup : q.supervision = none
  · have hup' : (g q).supervision = none := (hg.supervision q).trans hup
    have hsame : (g (q.framed f s.freshSupervision)).up = (s.setPort l (q.framed f s.freshSupervision)).up l := by
      rw [setPort_up_self, LinkPort.up, hg.supervision]
      rfl
    rw [goodFrame_of_down f hup', goodFrame_of_down f hup, comeUp_port, setPort_port_self, ← comeUp_aside _ _ hsame,
      setPort_setPort, hg.framed]
  · have hup' : (g q).supervision ≠ none := fun h => hup ((hg.supervision q).symm.trans h)
    rw [goodFrame_of_up f hup', goodFrame_of_up f hup, setPort_port_self, setPort_setPort, hg.framed]

/-- A port with these characters waiting. -/
def LinkPort.holding (p : LinkPort) (cs : List Character) : LinkPort := { p with fifo := cs }

theorem holding_aside (cs : List Character) : Aside (·.holding cs) := ⟨fun _ => rfl, fun _ _ _ => rfl⟩

theorem placeLoss_aside : Aside LinkPort.placeLoss := by
  refine ⟨fun p => ?_, fun p f v => ?_⟩
  · unfold LinkPort.placeLoss
    split <;> rfl
  · obtain ⟨sending, queue, fifo, assembly, shift, ignoring, supervision, good, checks, overruns, truncated, breaks⟩ := p
    cases assembly <;> rfl

theorem takeByte_holding (p : LinkPort) (cs : List Character) (byte : Byte) (marker : Bool) :
    (p.holding cs).takeByte byte marker = ((p.takeByte byte marker).1.holding cs, (p.takeByte byte marker).2) := by
  obtain ⟨sending, queue, fifo, assembly, shift, ignoring, supervision, good, checks, overruns, truncated, breaks⟩ := p
  cases marker with
  | true =>
    cases assembly with
    | none => rfl
    | some a =>
      obtain ⟨bytes, overrun⟩ := a
      cases overrun <;> rfl
  | false =>
    cases assembly with
    | none => rfl
    | some a =>
      unfold LinkPort.takeByte LinkPort.extendFrame LinkPort.judge LinkPort.holding
      simp only [Bool.false_eq_true, if_false]
      repeat' split
      all_goals rfl

theorem takeCharacter_holding (p : LinkPort) (cs : List Character) (c : Character) :
    (p.holding cs).takeCharacter c = ((p.takeCharacter c).1.holding cs, (p.takeCharacter c).2) := by
  have hplace (q : LinkPort) : (q.holding cs).placeLoss = q.placeLoss.holding cs := by
    obtain ⟨sending, queue, fifo, assembly, shift, ignoring, supervision, good, checks, overruns, truncated, breaks⟩ := q
    cases assembly <;> rfl
  unfold LinkPort.takeCharacter
  rw [takeByte_holding]
  cases c.lost
  · rfl
  · exact congrArg (Prod.mk · _) (hplace _)

end Sys2Proof.Machine
end

section
/-! PROOFS. The characters that waited are taken as places come free. -/

namespace Sys2Proof.Machine

open Sys2Proof

/-! ### A character taken while a response is being sent -/

/-- The state with these characters waiting on a link. -/
def State.waiting (s : State) (l : Link) (cs : List Character) : State := s.setPort l ((s.port l).holding cs)

/-- A port that a character was taken into, and the frame it completed. -/
def State.taken (s : State) (l : Link) (r : LinkPort × Option Frame) : State :=
  match r.2 with
  | none => s.setPort l r.1
  | some f => (s.setPort l r.1).goodFrame l f

section
variable (s : State) (l : Link)

theorem waiting_port (cs : List Character) : (s.waiting l cs).port l = (s.port l).holding cs := setPort_port_self ..

theorem waiting_waiting (cs ds : List Character) : (s.waiting l cs).waiting l ds = s.waiting l ds := by
  rw [State.waiting, waiting_port, State.waiting, setPort_setPort]
  rfl

theorem waiting_fifo : s.waiting l (s.port l).fifo = s := setPort_same s l

theorem taken_setPort (q : LinkPort) (r : LinkPort × Option Frame) : (s.setPort l q).taken l r = s.taken l r := by
  obtain ⟨p, f⟩ := r
  cases f with
  | none => exact setPort_setPort ..
  | some f =>
    show ((s.setPort l q).setPort l p).goodFrame l f = _
    rw [setPort_setPort]
    rfl

theorem taken_waiting (cs : List Character) (r : LinkPort × Option Frame) : (s.waiting l cs).taken l r = s.taken l r :=
  taken_setPort ..

theorem taken_aside {g : LinkPort → LinkPort} (hg : Aside g) (q : LinkPort) (f : Option Frame) :
    s.taken l (g q, f) = (s.taken l (q, f)).setPort l (g ((s.taken l (q, f)).port l)) := by
  cases f with
  | none =>
    show s.setPort l (g q) = (s.setPort l q).setPort l (g ((s.setPort l q).port l))
    rw [setPort_port_self, setPort_setPort]
  | some f => exact goodFrame_aside hg s l q f

theorem taken_keeps (r : LinkPort × Option Frame) : ((s.taken l r).port l).fifo = r.1.fifo ∧
    ((s.taken l r).port l).sending = r.1.sending ∧ ((s.taken l r).port l).ignoring = r.1.ignoring := by
  obtain ⟨p, f⟩ := r
  cases f with
  | none =>
    show ((s.setPort l p).port l).fifo = _ ∧ ((s.setPort l p).port l).sending = _ ∧ ((s.setPort l p).port l).ignoring = _
    rw [setPort_port_self]
    exact ⟨rfl, rfl, rfl⟩
  | some f =>
    show (((s.setPort l p).goodFrame l f).port l).fifo = _ ∧ (((s.setPort l p).goodFrame l f).port l).sending = _ ∧
      (((s.setPort l p).goodFrame l f).port l).ignoring = _
    rw [goodFrame_port, setPort_port_self]
    exact ⟨rfl, rfl, rfl⟩

end

theorem takeCharacter_ignoring (p : LinkPort) (c : Character) : (p.takeCharacter c).1.ignoring = p.ignoring := by
  have hplace (q : LinkPort) : q.placeLoss.ignoring = q.ignoring := by
    unfold LinkPort.placeLoss
    split <;> rfl
  have hjudge (q : LinkPort) (a : Assembly) : (q.judge a).1.ignoring = q.ignoring := by
    unfold LinkPort.judge
    dsimp only
    repeat' split
    all_goals rfl
  have hbyte : (p.takeByte c.byte c.marker).1.ignoring = p.ignoring := by
    unfold LinkPort.takeByte
    split
    · unfold LinkPort.beginFrame
      dsimp only
      repeat' split
      all_goals rfl
    · split
      · rfl
      · unfold LinkPort.extendFrame
        dsimp only
        split
        · rfl
        split
        · exact hjudge ..
        · rfl
  unfold LinkPort.takeCharacter
  dsimp only
  split
  · exact (hplace _).trans hbyte
  · exact hbyte

section
variable {s : State} {l : Link}

/-- With a response on its way no frame is served, so a taken character changes its port and joins the queue alone. -/
theorem takeWaiting_sending (hsending : (s.port l).sending ≠ none) (c : Character) (rest : List Character) :
    s.takeWaiting l c rest = (s.taken l ((s.port l).takeCharacter c)).waiting l rest := by
  have hheld := takeCharacter_holding (s.port l) rest c
  have hkept := (takeCharacter_keeps (s.port l) c).2.2
  have htaken := taken_aside s l (holding_aside rest) ((s.port l).takeCharacter c).1 ((s.port l).takeCharacter c).2
  rw [State.waiting, ← htaken]
  generalize (s.port l).takeCharacter c = r at hheld hkept
  obtain ⟨q, f⟩ := r
  cases f with
  | none => exact takeWaiting_of_none hheld
  | some f =>
    refine (takeWaiting_of_frame hheld).trans (takeFront_of_sending ?_)
    rw [goodFrame_port, setPort_port_self]
    show q.sending ≠ none
    rw [hkept]
    exact hsending

/-- What a received character does to the state while a response is on its way. -/
theorem character_sending (hline : (s.port l).ignoring = false) (hopen : (s.port l).queue.length < 2)
    (hfifo : (s.port l).fifo = []) (hsending : (s.port l).sending ≠ none) (byte : Byte) (marker : Bool) :
    s.character l byte marker = s.taken l ((s.port l).takeCharacter { byte := byte, marker := marker, lost := false }) := by
  have hheld : s.waiting l [{ byte := byte, marker := marker, lost := false }] =
      s.setPort l { s.port l with fifo := [{ byte := byte, marker := marker, lost := false }] } := rfl
  have hport := waiting_port s l [{ byte := byte, marker := marker, lost := false }]
  have hkept := (taken_keeps s l ((s.port l).takeCharacter { byte := byte, marker := marker, lost := false })).1
  rw [(takeCharacter_keeps ..).1, hfifo] at hkept
  rw [character_taken hline hopen hfifo, ← hheld, takeWaiting_sending (by rw [hport]; exact hsending), hport,
    takeCharacter_holding, taken_waiting, taken_aside s l (holding_aside _)]
  show ((s.taken l ((s.port l).takeCharacter { byte := byte, marker := marker, lost := false })).waiting l _).waiting l [] = _
  rw [waiting_waiting, ← hkept, waiting_fifo]

end

end Sys2Proof.Machine
end

section
/-! PROOFS. The end of a response, and the characters that waited for it. -/

namespace Sys2Proof.Machine

open Sys2Proof

/-! ### Waiting characters received in their order (R204, R205) -/

/-- The command that receives a character that waited. -/
def Character.received (l : Link) (c : Character) : Instr := .characterReceived l c.byte c.marker

theorem Character.eq_of_kept {c : Character} (h : c.lost = false) : c = { byte := c.byte, marker := c.marker, lost := false } := by
  obtain ⟨byte, marker, lost⟩ := c
  exact congrArg (Character.mk byte marker) h

section
variable {s : State} {l : Link} {c : Character}

theorem carryOutAll_received (cs : List Instr) :
    carryOutAll (c.received l :: cs) s = carryOutAll cs (s.character l c.byte c.marker) := rfl

theorem takeWaiting_waiting (hsending : (s.port l).sending ≠ none) (cs rest : List Character) :
    (s.waiting l cs).takeWaiting l c rest = (s.taken l ((s.port l).takeCharacter c)).waiting l rest := by
  rw [takeWaiting_sending (by rw [waiting_port]; exact hsending), waiting_port, takeCharacter_holding, taken_waiting,
    taken_aside s l (holding_aside cs)]
  exact waiting_waiting ..

theorem drain_waiting (hsending : (s.port l).sending ≠ none) (hopen : (s.port l).queue.length < 2) (n : Nat)
    (rest : List Character) : drain l (n + 1) (s.waiting l (c :: rest)) =
      drain l n ((s.taken l ((s.port l).takeCharacter c)).waiting l rest) := by
  have hport := waiting_port s l (c :: rest)
  rw [drain_step l n (by rw [hport]; exact hopen) (by rw [hport]; rfl), takeWaiting_waiting hsending]

end

/-- A link whose line is open while a response is on its way. -/
structure Sending (s : State) (l : Link) : Prop where
  sending : (s.port l).sending ≠ none
  line : (s.port l).ignoring = false

section
variable {s : State} {l : Link}

theorem Sending.waiting (h : Sending s l) (cs : List Character) : Sending (s.waiting l cs) l := by
  refine ⟨?_, ?_⟩ <;> rw [waiting_port]
  · exact h.sending
  · exact h.line

theorem Sending.taken (h : Sending s l) (c : Character) : Sending (s.taken l ((s.port l).takeCharacter c)) l := by
  obtain ⟨-, hsending, hline⟩ := taken_keeps s l ((s.port l).takeCharacter c)
  exact ⟨by rw [hsending, (takeCharacter_keeps ..).2.2]; exact h.sending, by rw [hline, takeCharacter_ignoring]; exact h.line⟩

/-- A full queue leaves every character that comes waiting. -/
theorem carryOutAll_full (cs : List Character) : ∀ {s : State}, (s.port l).ignoring = false → 2 ≤ (s.port l).queue.length →
    (s.port l).fifo.length + cs.length ≤ 4 → (∀ c ∈ cs, c.lost = false) →
    carryOutAll (cs.map (·.received l)) s = .next (s.waiting l ((s.port l).fifo ++ cs)) := by
  induction cs with
  | nil =>
    intro s _ _ _ _
    rw [List.append_nil, waiting_fifo]
    rfl
  | cons c cs ih =>
    intro s hline hfull hroom hkept
    have hcount : (s.port l).fifo.length + (cs.length + 1) ≤ 4 := hroom
    have hwaits : s.character l c.byte c.marker = s.waiting l ((s.port l).fifo ++ [c]) := by
      rw [character_waits hline hfull (by omega), ← Character.eq_of_kept (hkept c List.mem_cons_self)]
      rfl
    have hport := waiting_port s l ((s.port l).fifo ++ [c])
    rw [List.map_cons, carryOutAll_received, hwaits,
      ih (by rw [hport]; exact hline) (by rw [hport]; exact hfull) ?_ fun d hd => hkept d (List.mem_cons_of_mem c hd),
      waiting_waiting, hport]
    · show Host.Outcome.next (s.waiting l ((s.port l).fifo ++ [c] ++ cs)) = _
      rw [List.append_assoc]
      rfl
    · rw [hport]
      show ((s.port l).fifo ++ [c]).length + cs.length ≤ 4
      rw [List.length_append]
      show (s.port l).fifo.length + 1 + cs.length ≤ 4
      omega

/-- Characters that waited are taken as if they were received one after the other, up to those that come after them. -/
theorem drain_older (tail : List Character) (older : List Character) : ∀ {s : State} {n : Nat}, Sending s l →
    (s.port l).fifo = [] → older.length + tail.length ≤ n → n ≤ 4 → (∀ c ∈ older, c.lost = false) →
    ∃ v m, carryOutAll (older.map (·.received l)) s = .next v ∧ tail.length ≤ m ∧
      drain l n (s.waiting l (older ++ tail)) = drain l m (v.waiting l ((v.port l).fifo ++ tail)) ∧ Sending v l ∧
      ((v.port l).fifo = [] ∨ 2 ≤ (v.port l).queue.length) := by
  induction older with
  | nil =>
    intro s n hs hfifo hn _ _
    refine ⟨s, n, rfl, by simpa using hn, ?_, hs, .inl hfifo⟩
    rw [hfifo]
  | cons c older ih =>
    intro s n hs hfifo hn hroom hkept
    have hcount : older.length + 1 + tail.length ≤ n := hn
    have hc := Character.eq_of_kept (hkept c List.mem_cons_self)
    by_cases hopen : (s.port l).queue.length < 2
    · obtain ⟨n, rfl⟩ : ∃ k, n = k + 1 := ⟨n - 1, by omega⟩
      have htaken := character_sending hs.line hopen hfifo hs.sending c.byte c.marker
      rw [← hc] at htaken
      have hempty : ((s.taken l ((s.port l).takeCharacter c)).port l).fifo = [] := by
        rw [(taken_keeps ..).1, (takeCharacter_keeps ..).1, hfifo]
      obtain ⟨v, m, hv, hm, hdrain, hsending, hend⟩ := ih (n := n) (hs.taken c) hempty (by omega) (by omega)
        fun d hd => hkept d (List.mem_cons_of_mem c hd)
      refine ⟨v, m, ?_, hm, ?_, hsending, hend⟩
      · rw [List.map_cons, carryOutAll_received, htaken, hv]
      · rw [List.cons_append, drain_waiting hs.sending hopen, hdrain]
    · have hfull := Nat.not_lt.mp hopen
      have hroomy : (s.port l).fifo.length + (c :: older).length ≤ 4 := by
        rw [hfifo]
        show 0 + (older.length + 1) ≤ 4
        omega
      refine ⟨s.waiting l ((s.port l).fifo ++ c :: older), n, carryOutAll_full _ hs.line hfull hroomy hkept, by omega, ?_,
        hs.waiting _, .inr ?_⟩
      · rw [waiting_waiting, waiting_port, hfifo]
        rfl
      · rw [waiting_port]
        exact hfull

theorem drain_kept {cs : List Character} (hs : Sending s l) (hfifo : (s.port l).fifo = []) (hroom : cs.length ≤ 4)
    (hkept : ∀ c ∈ cs, c.lost = false) :
    .next (drain l 4 (s.waiting l cs)) = carryOutAll (cs.map (·.received l)) s := by
  obtain ⟨v, m, hv, -, hdrain, -, hend⟩ := drain_older [] cs (n := 4) hs hfifo hroom (by omega) hkept
  rw [List.append_nil, List.append_nil, waiting_fifo] at hdrain
  rw [hv, hdrain]
  rcases hend with hempty | hfull
  · rw [drain_of_empty l m hempty]
  · rw [drain_of_full l m hfull]

/-- A lost character is taken as the others are; its loss mark is then placed. -/
theorem takeCharacter_lost (p : LinkPort) {c : Character} (h : c.lost = true) :
    p.takeCharacter c = ((p.takeCharacter { c with lost := false }).1.placeLoss,
      (p.takeCharacter { c with lost := false }).2) := by
  unfold LinkPort.takeCharacter
  rw [h]
  rfl

theorem placeLoss_keeps (p : LinkPort) : p.placeLoss.fifo = p.fifo := by
  unfold LinkPort.placeLoss
  split <;> rfl

theorem taken_lost {v : State} (hs : Sending v l) (hfifo : (v.port l).fifo = []) (hopen : (v.port l).queue.length < 2)
    {c : Character} (hlost : c.lost = true) : (v.taken l ((v.port l).takeCharacter c)).waiting l [] =
      (v.character l c.byte c.marker).setPort l ((v.character l c.byte c.marker).port l).placeLoss := by
  have hempty : ((v.taken l ((v.port l).takeCharacter c)).port l).fifo = [] := by
    rw [(taken_keeps ..).1, (takeCharacter_keeps ..).1, hfifo]
  have hsame := waiting_fifo (v.taken l ((v.port l).takeCharacter c)) l
  rw [hempty] at hsame
  rw [hsame, takeCharacter_lost _ hlost, taken_aside v l placeLoss_aside,
    character_sending hs.line hopen hfifo hs.sending]

end

end Sys2Proof.Machine
end

section
/-! PROOFS. Frames taken from the queue and responses sent. -/

namespace Sys2Proof.Machine

open Sys2Proof

/-! ### The end of a response (R204, R208) -/

section
variable {s : State} {l : Link} {r : Response}

theorem responseSent_idle (h : (s.port l).sending = none) : exec (.responseSent l) s = .next s := by
  show Host.Outcome.next (s.responseSent l) = _
  rw [State.responseSent, h]
  rfl

theorem responseSent_sending (h : (s.port l).sending = some r) : exec (.responseSent l) s =
    .next (drain l 4 ((s.setPort l { s.port l with sending := none }).takeFront l)) := by
  show Host.Outcome.next (s.responseSent l) = _
  rw [State.responseSent, h]
  rfl

theorem takeFront_of_empty {t : State} (h : (t.port l).queue = []) : t.takeFront l = t := by
  unfold State.takeFront
  dsimp only
  split
  case h_1 hfound => nomatch h.symm.trans hfound
  case h_2 => rfl

theorem responseSent_alone (h : (s.port l).sending = some r) (hqueue : (s.port l).queue = []) (hfifo : (s.port l).fifo = []) :
    exec (.responseSent l) s = .next (s.setPort l { s.port l with sending := none }) := by
  have hport := setPort_port_self s l { s.port l with sending := none }
  rw [responseSent_sending h, takeFront_of_empty (by rw [hport]; exact hqueue), drain_of_empty l 4 (by rw [hport]; exact hfifo)]

/-- The state once the first frame in the queue is served. -/
def State.nextServed (s : State) (l : Link) (f : Frame) (rest : List Frame) : State :=
  (s.setPort l { s.port l with sending := none, queue := rest }).serveFrame l f

theorem responseSent_queued {f : Frame} {rest : List Frame} (h : (s.port l).sending = some r)
    (hqueue : (s.port l).queue = f :: rest) : exec (.responseSent l) s = .next (drain l 4 (s.nextServed l f rest)) := by
  have hport := setPort_port_self s l { s.port l with sending := none }
  rw [responseSent_sending h, takeFront_of_idle (g := f) (rest := rest) (by rw [hport]) (by rw [hport]; exact hqueue),
    hport, setPort_setPort]
  rfl

theorem nextServed_keeps (s : State) (l : Link) (f : Frame) (rest : List Frame) :
    ((s.nextServed l f rest).port l).sending ≠ none ∧ ((s.nextServed l f rest).port l).fifo = (s.port l).fifo ∧
    ((s.nextServed l f rest).port l).ignoring = (s.port l).ignoring := by
  obtain ⟨hsending, hfifo, -, hline⟩ := serveFrame_keeps (s.setPort l { s.port l with sending := none, queue := rest }) l f
  rw [setPort_port_self] at hfifo hline
  exact ⟨hsending, hfifo, hline⟩

end

/-! ### The characters that waited, received (R204, R205; log entries 23 and 36) -/

section
variable {u : State} {l : Link} (hline : (u.port l).ignoring = false) (hsending : (u.port l).sending ≠ none)
  (hroom : (u.port l).fifo.length ≤ 4)
include hline hsending hroom

theorem drain_kept_characters (hkept : ∀ c ∈ (u.port l).fifo, c.lost = false) :
    .next (drain l 4 u) = carryOutAll ((u.port l).fifo.map (·.received l)) (u.waiting l []) := by
  have hempty : ((u.waiting l []).port l).fifo = [] := by rw [waiting_port]; rfl
  have hdrain := drain_kept ((Sending.mk hsending hline).waiting []) hempty hroom hkept
  rw [waiting_waiting, waiting_fifo] at hdrain
  exact hdrain

section
variable {older : List Character} {c : Character} {v : State} (hfifo : (u.port l).fifo = older ++ [c])
  (hkept : ∀ k ∈ older, k.lost = false) (hv : carryOutAll (older.map (·.received l)) (u.waiting l []) = .next v)
include hfifo hkept hv

theorem drain_before_last : ∃ m, drain l 4 u = drain l (m + 1) (v.waiting l ((v.port l).fifo ++ [c])) ∧ Sending v l ∧
    ((v.port l).fifo = [] ∨ 2 ≤ (v.port l).queue.length) := by
  have hempty : ((u.waiting l []).port l).fifo = [] := by rw [waiting_port]; rfl
  have hlength : older.length + [c].length ≤ 4 := by rw [← List.length_append, ← hfifo]; exact hroom
  obtain ⟨w, m, hw, hm, hdrain, hs, hend⟩ :=
    drain_older [c] older ((Sending.mk hsending hline).waiting []) hempty hlength (Nat.le_refl 4) hkept
  cases hv.symm.trans hw
  rw [waiting_waiting, ← hfifo, waiting_fifo] at hdrain
  obtain ⟨m, rfl⟩ : ∃ k, m = k + 1 := ⟨m - 1, (Nat.sub_add_cancel hm).symm⟩
  exact ⟨m, hdrain, hs, hend⟩

theorem drain_last_waits (hfull : 2 ≤ (v.port l).queue.length) :
    drain l 4 u = v.waiting l ((v.port l).fifo ++ [c]) := by
  obtain ⟨m, hdrain, -, -⟩ := drain_before_last hline hsending hroom hfifo hkept hv
  rw [hdrain, drain_of_full l (m + 1)]
  rw [waiting_port]
  exact hfull

theorem drain_last_lost (hlost : c.lost = true) (hopen : (v.port l).queue.length < 2) :
    drain l 4 u = (v.character l c.byte c.marker).setPort l ((v.character l c.byte c.marker).port l).placeLoss := by
  obtain ⟨m, hdrain, hs, hend⟩ := drain_before_last hline hsending hroom hfifo hkept hv
  have hempty : (v.port l).fifo = [] := hend.resolve_right (Nat.not_le.mpr hopen)
  rw [hdrain, hempty, List.nil_append, drain_waiting hs.sending hopen, drain_of_empty, taken_lost hs hempty hopen hlost]
  rw [waiting_port]
  rfl

end

end

theorem placeLoss_of_assembly {p : LinkPort} {a : Assembly} (h : p.assembly = some a) :
    p.placeLoss = { p with assembly := some { a with overrun := true } } := by
  rw [LinkPort.placeLoss, h]

theorem placeLoss_of_none {p : LinkPort} (h : p.assembly = none) :
    p.placeLoss = { p with overruns := min (p.overruns + 1) 65535 } := by
  rw [LinkPort.placeLoss, h]
  rfl

/-! ### The characters of a response (R201, R202) -/

theorem transmission_sent {p : LinkPort} {r : Response} (h : p.sending = some r) : ∃ check : Byte,
    p.transmission = (r.code, true) :: ([r.tag, BitVec.ofNat 8 r.status.code, BitVec.ofNat 8 r.data.length] ++
      r.data ++ [check]).map (fun byte => (byte, false)) ∧
    (p.transmission.map (·.1)).foldl (· + ·) 0 = 0 ∧ p.transmission.length = 5 + r.data.length := by
  have hsent := transmission_of_response h
  refine ⟨0 - r.body.foldl (· + ·) 0, hsent, ?_, ?_⟩
  · rw [hsent, characters_bytes, bytes_sum]
  · rw [hsent, ← List.length_map (f := (·.1)), characters_bytes, bytes_eq, List.length_append]
    show r.data.length + 4 + 1 = 5 + r.data.length
    omega

/-- Settles O45: a frame is served as its request is, and the characters that waited are drained as if they came one after
the other, the loss mark of the last placed on what they left. -/
theorem takenFramesAreServed : Obligations.TakenFramesAreServed := by
  unfold Obligations.TakenFramesAreServed
  refine ⟨fun s l tag args hidle => ⟨fun r => ?_, fun code hcode => serveFrame_of_unknown s l tag args hcode⟩,
    fun s l p hp => ⟨fun hidle => ?_, fun r hr => ⟨fun hqueue hfifo => ?_, fun f rest u hqueue hu => ?_⟩⟩,
    fun p r hr => transmission_sent hr, fun p hidle => transmission_idle hidle⟩
  · rw [serveFrame_of_code]
    exact exec_served hidle r tag args
  · subst hp
    exact responseSent_idle hidle
  · subst hp
    exact responseSent_alone hr hqueue hfifo
  · subst hp
    have hexec := responseSent_queued hr hqueue
    obtain ⟨hsending, hfifo, hline⟩ := nextServed_keeps s l f rest
    have hserved : s.nextServed l f rest = u := hu.symm
    rw [hserved] at hexec hsending hfifo hline
    rw [← hfifo, ← hline]
    refine ⟨fun hempty => hexec.trans (by rw [drain_of_empty l 4 hempty]), fun hroom hopen _ =>
      ⟨fun hkept => hexec.trans (drain_kept_characters hopen hsending hroom hkept), fun older c v w hwaiting hkept hlost hv =>
        ⟨fun hfull => hexec.trans (by rw [drain_last_waits hopen hsending hroom hwaiting hkept hv hfull]; rfl),
          fun hroomy hw => ?_⟩⟩⟩
    have hlast := drain_last_lost hopen hsending hroom hwaiting hkept hv hlost hroomy
    cases hw
    rw [hexec, hlast]
    exact ⟨fun a ha => by rw [placeLoss_of_assembly ha], fun hnone => by rw [placeLoss_of_none hnone]⟩

end Sys2Proof.Machine
end

section
/-! PROOFS. A link silenced, its DOWN report, and what it holds for as long as it is DOWN. -/

namespace Sys2Proof.Machine

open Sys2Proof

/-! ### A link taken DOWN (R210, R220, R223) -/

section
variable {s : State} {l : Link}

theorem silenced_ringSound (hs : s.ringSound) : (s.silenced l).ringSound := by
  obtain ⟨hlength, -, hreaders⟩ := hs
  refine freeEntries_ringSound hlength fun k => ?_
  by_cases hk : k = l
  · rw [hk, setReader_reader_self]
    exact ⟨Nat.zero_le _, (hreaders l).2.1⟩
  · rw [setReader_reader_ne _ _ hk]
    exact ⟨(hreaders k).1, (hreaders k).2.1⟩

/-- The DOWN report of a link, with the timeout its supervision was set with (R210, R222). -/
def downReport (l : Link) (timeout : Nat) : Told := .of .link none none 1 (linkCode l) (cap timeout) 0

theorem dropLink_tells {v : Supervision} (h : (s.port l).supervision = some v) :
    Tells (s.silenced l) (s.dropLink l) [downReport l v.timeout] := by
  have hdetail : detail 1 (linkCode l) v.timeout 0 = { d1 := 1, d2 := linkCode l, d3 := cap v.timeout, d4 := 0 } := by
    cases l <;> rfl
  rw [dropLink_eq h, State.linkReport, hdetail]
  exact append_tells ..

/-- The loss of a link changes its port and the Report Queue before anything else. -/
theorem dropLink_record (s : State) (l : Link) : s.dropLink l =
    { s with ports := s.ports.put l { s.port l with supervision := none }, reports := (s.dropLink l).reports } := append_eq ..

theorem dropLink_surroundings (s : State) (l : Link) :
    (s.dropLink l).surroundings = (s.setPort l { s.port l with supervision := none }).surroundings := by
  rw [dropLink_record]
  rfl

theorem supervisionDeadline_passes {v : Supervision} (h : (s.port l).supervision = some v)
    (hpast : reached s.timeBase v.deadline = true) : exec (.supervisionDeadline l) s = .next (s.goDown l) := by
  have hdue : s.supervisionDue l = true := by
    rw [State.supervisionDue, h]
    exact hpast
  exact congrArg Host.Outcome.next (if_pos hdue)

end

/-! ### A link that stays DOWN (R220, R223) -/

/-- A link is DOWN, with its line negated and no hold-off. -/
structure Deaf (s : State) (l : Link) : Prop where
  down : s.up l = false
  line : (s.reader l).line = false
  holdOff : (s.reader l).holdOff = none

section
variable {s t : State} {l : Link}

theorem evaluate_deaf {r : Reader} (h : r.line = false) (now : Time) (ring : List Report) : r.evaluate now false ring = r := by
  rw [Reader.evaluate, h, Reader.due_down]
  rfl

theorem Deaf.of_reports (h : Deaf s l) (hup : t.up l = s.up l) (hreports : t.reports = s.reports) : Deaf t l := by
  have hreader : t.reader l = s.reader l := by rw [State.reader, hreports, State.reader]
  exact ⟨hup.trans h.down, (congrArg (·.line) hreader).trans h.line, (congrArg (·.holdOff) hreader).trans h.holdOff⟩

theorem Deaf.tell (h : Deaf s l) (r : Told) : Deaf (s.tell r) l := by
  have hroom : (s.withRoom.reader l).line = false ∧ (s.withRoom.reader l).holdOff = none := by
    unfold State.withRoom
    split
    · exact ⟨h.line, h.holdOff⟩
    · rw [dropOldest_reader, readerAfterDrop_down h.down]
      exact ⟨h.line, h.holdOff⟩
  have hreader : (s.tell r).reader l =
      (s.withRoom.pushReport r.kind r.fault r.block r.boat r.details).heldForSome.reader l := by
    rw [State.tell, append_reader, h.down]
    refine evaluate_deaf ?_ ..
    rw [heldForSome_reader_keeps]
    exact hroom.1
  rw [heldForSome_reader_keeps] at hreader
  refine ⟨(tell_up s r l).trans h.down, ?_, ?_⟩ <;> rw [hreader]
  · exact hroom.1
  · exact hroom.2

theorem Deaf.tellAll {rs : List Told} : ∀ {s : State}, Deaf s l → Deaf (s.tellAll rs) l := by
  induction rs with
  | nil => exact id
  | cons r rs ih => exact fun h => ih (h.tell r)

theorem Deaf.of_tells {rs : List Told} (h : Deaf s l) (htells : Tells s t rs) : Deaf t l := by
  obtain ⟨-, hup, hreports⟩ := htells
  exact (h.tellAll (rs := rs)).of_reports ((hup l).trans ((tellAll_keeps s rs).2 l).symm) hreports

theorem silenced_deaf (s : State) (l : Link) : Deaf (s.silenced l) l :=
  ⟨setPort_up_self .., by cases l <;> rfl, by cases l <;> rfl⟩

end

/-! ### What follows the loss of a link is one event -/

theorem goDown_event (s : State) (l : Link) : Event (s.dropLink l) (s.goDown l) := by
  unfold State.goDown
  dsimp only
  split
  · exact (((discardSlotOf_event ..).trans (withdrawConsents_event ..)).trans (linkLost_event ..)).trans (finish_event _)
  · exact ((discardSlotOf_event ..).trans (cancelAll_event ..)).trans (finish_event _)

theorem goDown_reportsDown {s : State} {l : Link} {v : Supervision} (h : (s.port l).supervision = some v) :
    ∃ more, Tells (s.silenced l) (s.goDown l) (downReport l v.timeout :: more) := by
  obtain ⟨more, hmore⟩ := (goDown_event s l).tells
  exact ⟨more, (dropLink_tells h).trans hmore⟩

end Sys2Proof.Machine
end

section
/-! PROOFS. The loss of a ride-control link: its slot discarded, its consents taken back. -/

namespace Sys2Proof.Machine

open Sys2Proof

theorem foldl_onlyReports {α : Type} {f : State → α → State} (h : ∀ t a, f t a = { t with reports := (f t a).reports })
    (as : List α) : ∀ s : State, as.foldl f s = { s with reports := (as.foldl f s).reports } := by
  induction as with
  | nil => exact fun s => rfl
  | cons a as ih => exact fun s => onlyReports_trans (h s a) (ih (f s a))

/-! ### The slot of the lost link (R184) -/

/-- The slot that stays when a link is lost. -/
def State.slotWithout (s : State) (c : ControlLink) : Option PendingSlot := s.mc.slot.filter fun p => p.link != c

/-- The DISCARDED report of a slot that the lost link opened. -/
def State.lostSlotReports (s : State) (c : ControlLink) : List Told :=
  match s.mc.slot with
  | some p => if p.link = c then [.of .mode none none 4 p.request.req.code (linkCode c.link) 1] else []
  | none => []

section
variable (s : State) (c : ControlLink)

/-- The loss discards the slot of the lost link and no other. -/
theorem discardSlotOf_cases :
    (∃ p, s.mc.slot = some p ∧ p.link = c ∧ s.discardSlotOf c.link = s.discardSlot 1) ∨
      (∀ p, s.mc.slot = some p → p.link ≠ c) ∧ s.discardSlotOf c.link = s := by
  unfold State.discardSlotOf
  rw [controlLink_link]
  cases hslot : s.mc.slot with
  | none => exact .inr ⟨nofun, rfl⟩
  | some p =>
    by_cases h : p.link = c
    · exact .inl ⟨p, rfl, h, if_pos (congrArg some h).symm⟩
    · exact .inr ⟨fun q hq => by cases hq; exact h, if_neg fun heq => h (Option.some.inj heq).symm⟩

theorem discardSlot_record {p : PendingSlot} (h : s.mc.slot = some p) (cause : Nat) : s.discardSlot cause =
    { s with mc := { s.mc with slot := none }, reports := (s.discardSlot cause).reports } := by
  unfold State.discardSlot
  rw [h]
  exact append_eq ..

theorem discardSlotOf_record : s.discardSlotOf c.link =
    { s with mc := { s.mc with slot := s.slotWithout c }, reports := (s.discardSlotOf c.link).reports } := by
  obtain ⟨p, hslot, hlink, hdiscards⟩ | ⟨hother, hkept⟩ := discardSlotOf_cases s c
  · have hnone : s.slotWithout c = none := by
      rw [State.slotWithout, hslot, ← hlink]
      simp
    rw [hnone, hdiscards]
    exact discardSlot_record s hslot 1
  · have hsame : s.slotWithout c = s.mc.slot := by
      rw [State.slotWithout]
      cases hslot : s.mc.slot with
      | none => rfl
      | some p => exact if_pos (bne_iff_ne.mpr (hother p hslot))
    rw [hsame, hkept]

theorem discardSlotOf_tells : Tells s (s.discardSlotOf c.link) (s.lostSlotReports c) := by
  unfold State.lostSlotReports
  obtain ⟨p, hslot, hlink, hdiscards⟩ | ⟨hother, hkept⟩ := discardSlotOf_cases s c
  · have htells := discardSlot_tells s (cause := 1) (Nat.le_refl 1)
    rw [State.slotReports, hslot] at htells
    rw [hdiscards, hslot, ← hlink]
    dsimp only
    rw [if_pos rfl]
    exact htells
  · rw [hkept]
    cases hslot : s.mc.slot with
    | none => exact .refl s
    | some p =>
      dsimp only
      rw [if_neg (hother p hslot)]
      exact .refl s

/-! ### The consents of the lost link (R116) -/

/-- An entry at the loss of a ride-control link. -/
def State.bereft (e : DispatchEntry) : DispatchEntry := if e.given c then s.withdrawn c e else e

/-- The VOIDED reports of the entries that held the lost link's consent. -/
def State.lostConsentReports : List Told :=
  (s.dispatch.filter (·.given c)).map fun e => .of .dispatch (some e.bay) (some e.boat) 6 e.seq.toNat
    (match c with
     | .a => 2
     | .b => 3) (e.consentA.toNat + 2 * e.consentB.toNat)

theorem withdrawConsents_record : s.withdrawConsents c =
    { s with dispatch := s.dispatch.map (s.bereft c), reports := (s.withdrawConsents c).reports } :=
  foldl_onlyReports (f := fun t e => t.voidReport c.voidCause e) (fun _ _ => append_eq ..) _
    { s with dispatch := s.dispatch.map (s.bereft c) }

theorem withdrawConsents_tells : Tells s (s.withdrawConsents c) (s.lostConsentReports c) := by
  have hcode : c.voidCause.code = match c with
      | .a => 2
      | .b => 3 := by cases c <;> rfl
  have hfold := foldl_tells (fun t e => voidReport_tells t c.voidCause e) (s.dispatch.filter (·.given c))
    { s with dispatch := s.dispatch.map (s.bereft c) }
  rw [← List.map_eq_flatMap, hcode] at hfold
  exact hfold.after_quiet rfl (fun _ => rfl) rfl

end

/-! ### The ride that LINK_LOST finds (log entry 12) -/

/-- The ride once a link is DOWN, its slot discarded and its consents taken back. -/
def State.bereaved (s : State) (c : ControlLink) : State := ((s.dropLink c.link).discardSlotOf c.link).withdrawConsents c

theorem goDown_ride (s : State) (c : ControlLink) : s.goDown c.link = ((s.bereaved c).linkLost c.link).finish := by
  unfold State.goDown
  dsimp only
  rw [controlLink_link]
  rfl

section
variable (s : State) (c : ControlLink)

theorem bereaved_record : s.bereaved c =
    { s with ports := s.ports.put c.link { s.port c.link with supervision := none }
             mc := { s.mc with slot := s.slotWithout c }
             dispatch := s.dispatch.map (s.bereft c)
             reports := (s.bereaved c).reports } := by
  have hdrop := dropLink_record s c.link
  have hslot := discardSlotOf_record (s.dropLink c.link) c
  have hconsents := withdrawConsents_record ((s.dropLink c.link).discardSlotOf c.link) c
  generalize (s.dropLink c.link).reports = rs at hdrop
  rw [hdrop] at hslot
  rw [State.bereaved, hdrop]
  rw [hdrop] at hconsents
  generalize (State.discardSlotOf _ c.link).reports = rs' at hslot
  rw [hslot] at hconsents ⊢
  exact hconsents

theorem bereaved_tells {v : Supervision} (h : (s.port c.link).supervision = some v) : Tells (s.silenced c.link) (s.bereaved c)
    (downReport c.link v.timeout :: (s.lostSlotReports c ++ s.lostConsentReports c)) := by
  have hslot := discardSlotOf_tells (s.dropLink c.link) c
  have hconsents := withdrawConsents_tells ((s.dropLink c.link).discardSlotOf c.link) c
  have hmc : (s.dropLink c.link).lostSlotReports c = s.lostSlotReports c := by
    rw [dropLink_record]
    rfl
  have hdispatch : ((s.dropLink c.link).discardSlotOf c.link).lostConsentReports c = s.lostConsentReports c := by
    rw [discardSlotOf_record, dropLink_record]
    rfl
  rw [hmc] at hslot
  rw [hdispatch] at hconsents
  exact (dropLink_tells h).trans (hslot.trans hconsents)

end

end Sys2Proof.Machine
end

section
/-! PROOFS. LINK_LOST, and what the loss of a ride-control link leaves. -/

namespace Sys2Proof.Machine

open Sys2Proof

/-! ### What the bereaved ride shares with the ride before -/

section
variable (s : State) (c : ControlLink)

theorem bereaved_mc : (s.bereaved c).mc = { s.mc with slot := s.slotWithout c } := by
  rw [bereaved_record]

theorem bereaved_mode : (s.bereaved c).mode = s.mode := by
  rw [State.mode, bereaved_mc]
  rfl

theorem bereaved_dispatch : (s.bereaved c).dispatch = s.dispatch.map (s.bereft c) := by
  rw [bereaved_record]

theorem bereaved_board : (s.bereaved c).table = s.table ∧ (s.bereaved c).roster = s.roster ∧ (s.bereaved c).bays = s.bays := by
  rw [bereaved_record]
  exact ⟨rfl, rfl, rfl⟩

theorem bereaved_clock : (s.bereaved c).timeBase = s.timeBase ∧ (s.bereaved c).layout = s.layout ∧
    (s.bereaved c).nextDispatch = s.nextDispatch := by
  rw [bereaved_record]
  exact ⟨rfl, rfl, rfl⟩

theorem bereaved_surroundings : (s.bereaved c).surroundings =
    (s.setPort c.link { s.port c.link with supervision := none }).surroundings := by
  rw [bereaved_record]
  rfl

/-! ### LINK_LOST (R196, R197, R210) -/

theorem linkLost_of_permit (l : Link) (h : permitOf s.mode = true) : s.linkLost l = s.raise .linkLost none none (detail (linkCode l)) :=
  if_pos h

theorem linkLost_of_no_permit (l : Link) (h : permitOf s.mode = false) : s.linkLost l = s :=
  if_neg (Bool.eq_false_iff.mp h)

theorem linkLost_mode (l : Link) : (s.linkLost l).mode = modeAfterFault .hold s.mode := by
  cases hpermit : permitOf s.mode with
  | true => exact (congrArg State.mode (linkLost_of_permit s l hpermit)).trans (raise_mode ..)
  | false =>
    rw [linkLost_of_no_permit s l hpermit]
    cases hm : s.mode <;> rw [hm] at hpermit
    case configure | standby | halted => rfl
    all_goals nomatch hpermit

theorem linkLost_board (l : Link) : (s.linkLost l).table = s.table ∧ (s.linkLost l).roster = s.roster ∧
    (s.linkLost l).bays = s.bays ∧ (s.linkLost l).nextDispatch = s.nextDispatch ∧
    (s.linkLost l).surroundings = s.surroundings := by
  unfold State.linkLost
  split
  · exact ⟨raise_table_of_ne (by decide) .., raise_roster .., raise_bays .., raise_nextDispatch .., raise_surroundings ..⟩
  · exact ⟨rfl, rfl, rfl, rfl, rfl⟩

/-- Where the mode stays the slot stays; a change of mode leaves none. -/
theorem linkLost_slot (l : Link) :
    (s.linkLost l).mc.slot = if modeAfterFault .hold s.mode = s.mode then s.mc.slot else none := by
  cases hpermit : permitOf s.mode with
  | true =>
    rw [linkLost_of_permit s l hpermit, raise_mc, recordFault_keeps]
    show (if modeAfterFault .hold s.mode = s.mode then _ else _ : ModeController).slot = _
    split <;> rfl
  | false =>
    have hmode := linkLost_mode s l
    rw [linkLost_of_no_permit s l hpermit] at hmode ⊢
    exact (if_pos hmode.symm).symm

theorem linkLost_dispatch (l : Link) : (s.linkLost l).dispatch = if modeAfterFault .hold s.mode = s.mode then s.dispatch else
    s.dispatch.map fun e => e.voided s.timeBase s.layout.settings.consentWindow := by
  cases hpermit : permitOf s.mode with
  | true =>
    rw [linkLost_of_permit s l hpermit]
    exact raise_dispatch ..
  | false =>
    have hmode := linkLost_mode s l
    rw [linkLost_of_no_permit s l hpermit] at hmode ⊢
    exact (if_pos hmode.symm).symm

end

theorem modeAfterFault_hold_of_run {m : Mode} (h : m = .run ∨ m = .manual) : modeAfterFault .hold m = .holding := by
  rcases h with rfl | rfl <;> rfl

theorem modeAfterFault_hold_of_ne {m : Mode} (hrun : m ≠ .run) (hmanual : m ≠ .manual) : modeAfterFault .hold m = m := by
  cases m
  case run => exact absurd rfl hrun
  case manual => exact absurd rfl hmanual
  all_goals rfl

theorem modeAfterFault_hold_ne_run (m : Mode) : modeAfterFault .hold m ≠ .run := by cases m <;> nofun

/-! ### The ride after the loss, before the end of the event -/

/-- The ride once LINK_LOST, where it is a fault, is raised. -/
def State.forsaken (s : State) (c : ControlLink) : State := (s.bereaved c).linkLost c.link

section
variable (s : State) (c : ControlLink)

theorem forsaken_mode : (s.forsaken c).mode = modeAfterFault .hold s.mode := by
  rw [State.forsaken, linkLost_mode, bereaved_mode]

theorem forsaken_board : (s.forsaken c).table = s.table ∧ (s.forsaken c).roster = s.roster ∧ (s.forsaken c).bays = s.bays ∧
    (s.forsaken c).nextDispatch = s.nextDispatch ∧
    (s.forsaken c).surroundings = (s.setPort c.link { s.port c.link with supervision := none }).surroundings := by
  obtain ⟨htable, hroster, hbays, hnext, hsurroundings⟩ := linkLost_board (s.bereaved c) c.link
  obtain ⟨htable', hroster', hbays'⟩ := bereaved_board s c
  exact ⟨htable.trans htable', hroster.trans hroster', hbays.trans hbays', hnext.trans (bereaved_clock s c).2.2,
    hsurroundings.trans (bereaved_surroundings s c)⟩

theorem forsaken_slot : (s.forsaken c).mc.slot = if modeAfterFault .hold s.mode = s.mode then s.slotWithout c else none := by
  rw [State.forsaken, linkLost_slot, bereaved_mode, bereaved_mc]

theorem forsaken_dispatch_run (h : s.mode = .run ∨ s.mode = .manual) : (s.forsaken c).dispatch = s.dispatch.map fun e =>
    { e with
      consentA := false, consentB := false, timerStart := s.timeBase,
      timer := .suspended (s.layout.settings.consentWindow * 1000) } := by
  have hchanges : ¬modeAfterFault .hold s.mode = s.mode := by
    rw [modeAfterFault_hold_of_run h]
    rcases h with h | h <;> rw [h] <;> nofun
  obtain ⟨htime, hlayout, -⟩ := bereaved_clock s c
  rw [State.forsaken, linkLost_dispatch, bereaved_mode, if_neg hchanges, htime, hlayout, bereaved_dispatch, List.map_map]
  refine List.map_congr_left fun e _ => ?_
  show (s.bereft c e).voided s.timeBase s.layout.settings.consentWindow = _
  unfold State.bereft
  split
  · cases c <;> rfl
  · rfl

theorem forsaken_dispatch_still (hrun : s.mode ≠ .run) (hmanual : s.mode ≠ .manual) :
    (s.forsaken c).dispatch = s.dispatch.map (s.takenBack c) := by
  have hstill : isRunMode s.mode = false :=
    Bool.eq_false_iff.mpr fun h => ((isRunMode_iff _).mp h).elim hrun hmanual
  rw [State.forsaken, linkLost_dispatch, bereaved_mode, if_pos (modeAfterFault_hold_of_ne hrun hmanual), bereaved_dispatch]
  exact List.map_congr_left fun e _ => withdrawn_eq_takenBack c e hstill

theorem forsaken_faultTaken (h : permitOf s.mode = true) : FaultTaken s (s.forsaken c) .linkLost none none := by
  have htaken := raise_faultTaken (s.bereaved c) .linkLost none none (detail (linkCode c.link))
  rw [← bereaved_mode s c] at h
  rw [State.forsaken, linkLost_of_permit _ _ h]
  unfold FaultTaken at htaken ⊢
  rw [bereaved_mc, (bereaved_clock s c).1] at htaken
  exact htaken

theorem forsaken_mc_still (h : permitOf s.mode = false) : (s.forsaken c).mc = { s.mc with slot := s.slotWithout c } := by
  rw [← bereaved_mode s c] at h
  rw [State.forsaken, linkLost_of_no_permit _ _ h, bereaved_mc]

/-! ### What the loss reports -/

/-- The consents an entry is VOIDED with do not depend on its timer. -/
theorem bereaved_voidReports (voided : Nat) : (s.bereaved c).voidReports voided = (s.afterLoss c).voidReports voided := by
  unfold State.voidReports State.afterLoss
  rw [bereaved_dispatch]
  dsimp only
  rw [List.map_map, List.map_map]
  refine List.map_congr_left fun e _ => ?_
  show Told.of .dispatch (some (s.bereft c e).bay) _ _ _ _ _ = Told.of .dispatch (some (s.takenBack c e).bay) _ _ _ _ _
  unfold State.bereft State.takenBack
  split
  · cases c <;> rfl
  · rfl

theorem bereaved_faultReports (d1 d2 d3 d4 : Nat) :
    (s.bereaved c).faultReports .linkLost none none d1 d2 d3 d4 = (s.afterLoss c).faultReports .linkLost none none d1 d2 d3 d4 := by
  have hmode : (s.bereaved c).mode = (s.afterLoss c).mode := bereaved_mode s c
  have hslot : (s.bereaved c).slotReports 0 = (s.afterLoss c).slotReports 0 := by
    unfold State.slotReports
    rw [bereaved_mc]
    rfl
  unfold State.faultReports
  simp only [stopReports_eq, hmode, hslot, bereaved_voidReports]

theorem forsaken_tells {v : Supervision} (h : (s.port c.link).supervision = some v) :
    Tells (s.silenced c.link) (s.forsaken c) (s.lossReports c v.timeout) := by
  have hbereaved := bereaved_tells s c h
  unfold State.forsaken State.lossReports
  cases hpermit : permitOf s.mode with
  | true =>
    have htells := raise_tells (s.bereaved c) .linkLost none none (detail (linkCode c.link))
    rw [bereaved_faultReports] at htells
    have hdetail : detail (linkCode c.link) = { d1 := linkCode c.link, d2 := 0, d3 := 0, d4 := 0 } := by cases c <;> rfl
    rw [linkLost_of_permit _ _ ((congrArg permitOf (bereaved_mode s c)).trans hpermit)]
    rw [hdetail] at htells ⊢
    exact hbereaved.trans htells
  | false =>
    rw [linkLost_of_no_permit _ _ ((congrArg permitOf (bereaved_mode s c)).trans hpermit)]
    rw [if_neg Bool.false_ne_true, List.append_nil]
    exact hbereaved

end

end Sys2Proof.Machine
end

section
/-! PROOFS. The loss of a ride-control link at the end of its event. -/

namespace Sys2Proof.Machine

open Sys2Proof

/-- The end of an event leaves the fault record and the count of further faults. -/
theorem finish_record (s : State) : s.finish.mc.fault = s.mc.fault ∧ s.finish.mc.further = s.mc.further := by
  obtain hkept | ⟨-, hsettled⟩ := finish_mc s
  · rw [hkept]
    exact ⟨rfl, rfl⟩
  · rw [hsettled]
    exact ⟨rfl, rfl⟩

section
variable {s : State} {c : ControlLink}

theorem forsaken_ne_run (s : State) (c : ControlLink) : (s.forsaken c).mode ≠ .run := by
  rw [forsaken_mode]
  exact modeAfterFault_hold_ne_run s.mode

theorem forsaken_moving (s : State) (c : ControlLink) : (s.forsaken c).moving = s.moving :=
  moving_congr (forsaken_board s c).1

/-! ### The mode and the slot (R184, R189, R196) -/

/-- At the end of the event the Mode Controller stays, or HOLDING settles. -/
theorem forsaken_finish_mode (s : State) (c : ControlLink) :
    (s.forsaken c).finish.mode = (s.forsaken c).mode ∧ (s.forsaken c).finish.mc.slot = (s.forsaken c).mc.slot ∨
      (s.forsaken c).mode = .holding ∧ (s.forsaken c).finish.mode = .held ∧ (s.forsaken c).finish.mc.slot = none := by
  obtain hkept | ⟨hholding, hsettled⟩ := finish_mc (s.forsaken c)
  · exact .inl ⟨mode_of_mc hkept, congrArg (·.slot) hkept⟩
  · exact .inr ⟨hholding, by rw [State.mode, hsettled], by rw [hsettled]⟩

theorem forsaken_finish_slot_kept (h : (s.forsaken c).finish.mode = s.mode) :
    (s.forsaken c).finish.mc.slot = s.slotWithout c := by
  obtain ⟨hmode, hslot⟩ | ⟨hholding, hmode, -⟩ := forsaken_finish_mode s c
  · rw [hslot, forsaken_slot, if_pos ((forsaken_mode s c).symm.trans (hmode.symm.trans h))]
  · have hheld : s.mode = .held := h.symm.trans hmode
    rw [forsaken_mode, hheld] at hholding
    nomatch hholding

theorem forsaken_finish_slot_gone (h : (s.forsaken c).finish.mode ≠ s.mode) : (s.forsaken c).finish.mc.slot = none := by
  obtain ⟨hmode, hslot⟩ | ⟨-, -, hslot⟩ := forsaken_finish_mode s c
  · rw [hslot, forsaken_slot, if_neg fun hsame => h (hmode.trans ((forsaken_mode s c).trans hsame))]
  · exact hslot

theorem forsaken_finish_holding (h : s.mode = .run ∨ s.mode = .manual ∨ s.mode = .holding) :
    (s.forsaken c).finish.mode = .holding ∨ (s.forsaken c).finish.mode = .held := by
  have hholding : (s.forsaken c).mode = .holding := by
    rw [forsaken_mode]
    rcases h with h | h | h <;> rw [h] <;> rfl
  obtain ⟨hmode, -⟩ | ⟨-, hmode, -⟩ := forsaken_finish_mode s c
  · exact .inl (hmode.trans hholding)
  · exact .inr hmode

theorem forsaken_finish_still (hrun : s.mode ≠ .run) (hmanual : s.mode ≠ .manual) (hholding : s.mode ≠ .holding) :
    (s.forsaken c).finish.mode = s.mode := by
  have hsame := (forsaken_mode s c).trans (modeAfterFault_hold_of_ne hrun hmanual)
  obtain ⟨hmode, -⟩ | ⟨hheld, -, -⟩ := forsaken_finish_mode s c
  · exact hmode.trans hsame
  · exact absurd (hsame.symm.trans hheld) hholding

theorem forsaken_finish_faultTaken (h : permitOf s.mode = true) : FaultTaken s (s.forsaken c).finish .linkLost none none := by
  have htaken := forsaken_faultTaken s c h
  unfold FaultTaken at htaken ⊢
  rw [(finish_record _).1, (finish_record _).2]
  exact htaken

/-! ### The reports (R189, R210) -/

theorem forsaken_finish_quiet (h : (∃ b, (s.entry b).state = .reserved ∨ (s.entry b).state = .releasing) ∨
    s.mode ≠ .run ∧ s.mode ≠ .manual ∧ s.mode ≠ .holding) : Tells (s.forsaken c) (s.forsaken c).finish [] := by
  by_cases hholding : (s.forsaken c).mode = .holding
  · obtain hmoves | ⟨hrun, hmanual, hne⟩ := h
    · exact (finish_rederived_of_moving hholding ((forsaken_moving s c).trans ((moving_iff s).mpr hmoves))).tells
    · rw [forsaken_mode, modeAfterFault_hold_of_ne hrun hmanual] at hholding
      exact absurd hholding hne
  · exact (finish_rederived (forsaken_ne_run s c) hholding).tells

theorem forsaken_finish_settles (hstill : ∀ b, (s.entry b).state ≠ .reserved ∧ (s.entry b).state ≠ .releasing)
    (h : s.mode = .run ∨ s.mode = .manual) :
    Tells (s.forsaken c) (s.forsaken c).finish [.of .mode none none 1 4 5 4] := by
  have hholding := (forsaken_mode s c).trans (modeAfterFault_hold_of_run h)
  have hslot : (s.forsaken c).mc.slot = none := by
    rw [forsaken_slot, modeAfterFault_hold_of_run h]
    rcases h with h | h <;> rw [h] <;> rfl
  exact finish_settled_tells hholding ((forsaken_moving s c).trans (moving_false s hstill)) hslot

end

end Sys2Proof.Machine
end

section
/-! PROOFS. The loss of Link S empties the dispatch list. -/

namespace Sys2Proof.Machine

open Sys2Proof

/-! ### One entry canceled, its bay READY again (R111, R117) -/

/-- A bay at READY. -/
def Bay.readied (y : Bay) : Bay := { y with phase := .ready }

/-- An entry canceled by the loss of Link S. -/
def State.cancelAtLoss (s : State) (e : DispatchEntry) : State := (s.cancelEntry e .link 0).setPhase e.bay .ready

/-- The reports of an entry canceled by the loss of Link S. -/
def State.cancelAtLossReports (s : State) (e : DispatchEntry) : List Told :=
  .of .dispatch (some e.bay) (some e.boat) 5 e.seq.toNat 1 0 :: s.phaseReports e.bay .ready

theorem setPhase_record (s : State) (b : BlockId) (p : Phase) : s.setPhase b p =
    { s with bays := (s.setPhase b p).bays, reports := (s.setPhase b p).reports } := by
  unfold State.setPhase
  cases s.bay b with
  | none => rfl
  | some y =>
    dsimp only
    split
    · rfl
    · rw [append_eq]
      rfl

section
variable (s : State) (e : DispatchEntry)

theorem cancelEntry_record (cause : CancelCause) (link : Nat) : s.cancelEntry e cause link =
    { s with dispatch := s.dispatch.filter fun d => d.seq != e.seq, reports := (s.cancelEntry e cause link).reports } :=
  append_eq ..

theorem cancelAtLoss_record : s.cancelAtLoss e =
    { s with
      dispatch := s.dispatch.filter fun d => d.seq != e.seq
      bays := (s.cancelAtLoss e).bays
      reports := (s.cancelAtLoss e).reports } := by
  have hphase := setPhase_record (s.cancelEntry e .link 0) e.bay .ready
  have hcancel := cancelEntry_record s e .link 0
  generalize (s.cancelEntry e .link 0).reports = rs at hcancel
  rw [hcancel] at hphase
  rw [State.cancelAtLoss, hcancel]
  exact hphase

theorem cancelAtLoss_bay (b : BlockId) :
    (s.cancelAtLoss e).bay b = if b = e.bay then (s.bay b).map Bay.readied else s.bay b := by
  have hbay (c : BlockId) : (s.cancelEntry e .link 0).bay c = s.bay c := by
    rw [cancelEntry_record]
    rfl
  rw [State.cancelAtLoss, setPhase_bay, hbay, hbay]
  split
  case isTrue h => rw [h]; rfl
  case isFalse => rfl

theorem cancelAtLoss_entry (b : BlockId) : (s.cancelAtLoss e).entry b = s.entry b := by
  rw [cancelAtLoss_record]
  rfl

theorem cancelAtLoss_tells : Tells s (s.cancelAtLoss e) (s.cancelAtLossReports e) := by
  have hcancel := cancelEntry_tells s e .link (Nat.zero_le 2)
  have hphase := setPhase_tells (s.cancelEntry e .link 0) e.bay .ready
  have hsame : (s.cancelEntry e .link 0).phaseReports e.bay .ready = s.phaseReports e.bay .ready := by
    rw [cancelEntry_record]
    rfl
  rw [hsame] at hphase
  exact hcancel.trans hphase

/-- An entry of another bay reports the same before and after. -/
theorem cancelAtLoss_others {d : DispatchEntry} (h : d.bay ≠ e.bay) :
    (s.cancelAtLoss e).cancelAtLossReports d = s.cancelAtLossReports d := by
  unfold State.cancelAtLossReports State.phaseReports
  rw [cancelAtLoss_bay, if_neg h, cancelAtLoss_entry]

end

/-! ### Every entry canceled (R117) -/

section
variable (es : List DispatchEntry)

/-- The dispatch list without the entries of a list. -/
def State.dispatchWithout (s : State) : List DispatchEntry := s.dispatch.filter fun d => es.all fun e => d.seq != e.seq

theorem cancelEach_record : ∀ s : State, es.foldl State.cancelAtLoss s =
    { s with
      dispatch := s.dispatchWithout es
      bays := (es.foldl State.cancelAtLoss s).bays
      reports := (es.foldl State.cancelAtLoss s).reports } := by
  induction es with
  | nil =>
    intro s
    have hall : s.dispatchWithout [] = s.dispatch := List.filter_eq_self.mpr fun _ _ => rfl
    rw [hall]
    rfl
  | cons e es ih =>
    intro s
    have hrest := ih (s.cancelAtLoss e)
    have hall : (s.cancelAtLoss e).dispatchWithout es = s.dispatchWithout (e :: es) := by
      have hdispatch : (s.cancelAtLoss e).dispatch = s.dispatch.filter fun d => d.seq != e.seq := by rw [cancelAtLoss_record]
      unfold State.dispatchWithout
      rw [hdispatch, List.filter_filter]
      exact List.filter_congr fun d _ => Bool.and_comm ..
    rw [hall] at hrest
    have hfirst := cancelAtLoss_record s e
    rw [List.foldl_cons]
    generalize es.foldl State.cancelAtLoss (s.cancelAtLoss e) = u at hrest ⊢
    rw [hfirst] at hrest
    exact hrest

theorem cancelEach_bay (b : BlockId) : ∀ s : State, (es.foldl State.cancelAtLoss s).bay b =
    if b ∈ es.map (·.bay) then (s.bay b).map Bay.readied else s.bay b := by
  induction es with
  | nil => exact fun s => rfl
  | cons e es ih =>
    intro s
    rw [List.foldl_cons, ih, cancelAtLoss_bay]
    have htwice : ((s.bay b).map Bay.readied).map Bay.readied = (s.bay b).map Bay.readied := by
      cases s.bay b <;> rfl
    by_cases hb : b = e.bay
    · have hmem : b ∈ (e :: es).map (·.bay) := hb ▸ List.mem_cons_self
      rw [if_pos hb, if_pos hmem, htwice, ite_self]
    · have hmem : b ∈ (e :: es).map (·.bay) ↔ b ∈ es.map (·.bay) := by
        rw [List.map_cons, List.mem_cons]
        exact or_iff_right hb
      simp only [if_neg hb, hmem]

theorem cancelEach_tells : ∀ s : State, (es.map (·.bay)).Nodup →
    Tells s (es.foldl State.cancelAtLoss s) (es.flatMap s.cancelAtLossReports) := by
  induction es with
  | nil => exact fun s _ => .refl s
  | cons e es ih =>
    intro s hbays
    obtain ⟨hfirst, hrest⟩ := List.nodup_cons.mp hbays
    have hothers : es.flatMap (s.cancelAtLoss e).cancelAtLossReports = es.flatMap s.cancelAtLossReports :=
      flatMap_congr_on fun d hd => cancelAtLoss_others s e fun h => hfirst (List.mem_map.mpr ⟨d, hd, h⟩)
    have htells := ih (s.cancelAtLoss e) hrest
    rw [hothers] at htells
    exact (cancelAtLoss_tells s e).trans htells

end

/-! ### The station without its link -/

/-- The station once Link S is DOWN and every entry is canceled. -/
def State.unlinked (s : State) : State := (s.dropLink .s).cancelAll

theorem goDown_station (s : State) : s.goDown .s = s.unlinked.finish := by
  have hslot : (s.dropLink .s).discardSlotOf .s = s.dropLink .s := by
    unfold State.discardSlotOf
    cases (s.dropLink .s).mc.slot <;> rfl
  unfold State.goDown
  dsimp only
  rw [hslot]
  rfl

section
variable (s : State)

theorem unlinked_record : s.unlinked =
    { s with
      ports := s.ports.put .s { s.port .s with supervision := none }
      dispatch := []
      bays := s.unlinked.bays
      reports := s.unlinked.reports } := by
  have hempty : s.dispatchWithout s.dispatch = [] := by
    refine List.filter_eq_nil_iff.mpr fun d hd hall => ?_
    exact absurd (List.all_eq_true.mp hall d hd) (by simp)
  have hcancel := cancelEach_record s.dispatch (s.dropLink .s)
  have hdrop := dropLink_record s .s
  have hfold : s.unlinked = s.dispatch.foldl State.cancelAtLoss (s.dropLink .s) := by
    have hdispatch : (s.dropLink .s).dispatch = s.dispatch := by rw [hdrop]
    rw [State.unlinked, State.cancelAll, hdispatch]
    rfl
  have hnone : (s.dropLink .s).dispatchWithout s.dispatch = [] := by
    rw [hdrop]
    exact hempty
  rw [← hfold, hnone] at hcancel
  generalize s.unlinked = u at hcancel
  rw [hdrop] at hcancel
  exact hcancel

end

end Sys2Proof.Machine
end

section
/-! PROOFS. The loss of a link, handed on. -/

namespace Sys2Proof.Machine

open Sys2Proof

/-! ### What the loss of Link S leaves (R117) -/

section
variable (s : State)

theorem unlinked_eq_cancelEach : s.unlinked = s.dispatch.foldl State.cancelAtLoss (s.dropLink .s) := by
  have hdispatch : (s.dropLink .s).dispatch = s.dispatch := by rw [dropLink_record]
  rw [State.unlinked, State.cancelAll, hdispatch]
  rfl

theorem unlinked_bay (b : BlockId) :
    s.unlinked.bay b = if b ∈ s.dispatch.map (·.bay) then (s.bay b).map Bay.readied else s.bay b := by
  have hbay : (s.dropLink .s).bay b = s.bay b := by
    rw [dropLink_record]
    rfl
  rw [unlinked_eq_cancelEach, cancelEach_bay, hbay]

theorem unlinked_tells {v : Supervision} (h : (s.port .s).supervision = some v) (hs : s.dispatchSound) :
    Tells (s.silenced .s) s.unlinked (downReport .s v.timeout :: s.dispatch.flatMap s.cancelAtLossReports) := by
  obtain ⟨-, -, hbays, -⟩ := hs
  have hcancel := cancelEach_tells s.dispatch (s.dropLink .s) hbays
  have hsame : (s.dropLink .s).cancelAtLossReports = s.cancelAtLossReports := by
    rw [dropLink_record]
    rfl
  rw [hsame] at hcancel
  rw [unlinked_eq_cancelEach]
  exact (dropLink_tells h).trans hcancel

theorem unlinked_keeps : s.unlinked.surroundings = (s.setPort .s { s.port .s with supervision := none }).surroundings ∧
    s.unlinked.dispatch = [] ∧ s.unlinked.nextDispatch = s.nextDispatch ∧ s.unlinked.mc = s.mc ∧
    s.unlinked.table = s.table ∧ s.unlinked.roster = s.roster := by
  rw [unlinked_record]
  exact ⟨rfl, rfl, rfl, rfl, rfl, rfl⟩

/-- An event adds no dispatch entry. -/
theorem finish_dispatch_empty (h : s.dispatch = []) : s.finish.dispatch = [] := by
  have hkeys := (finish_event s).dispatch (h ▸ List.nodup_nil)
  rw [h] at hkeys
  exact List.map_eq_nil_iff.mp (List.sublist_nil.mp hkeys)

end

/-! ### The three statements of the loss of a link -/

theorem lostLink_deaf {s : State} {l : Link} {v : Supervision} (h : (s.port l).supervision = some v) : Deaf (s.goDown l) l := by
  obtain ⟨more, htells⟩ := goDown_reportsDown h
  exact (silenced_deaf s l).of_tells htells

/-- Settles O47: a lost link is silenced and reported, and its event is then the discarding of its slot, the taking back of
its consents and LINK_LOST, or for Link S the canceling of every entry. -/
theorem linkLossIsHandedOn : Obligations.LinkLossIsHandedOn := by
  unfold Obligations.LinkLossIsHandedOn
  refine ⟨fun s l v hv hpast => ⟨silenced_ringSound, ?_⟩, fun s c v hv hpast => ?_, fun s v hv hpast => ?_⟩
  · obtain ⟨more, htells⟩ := goDown_reportsDown hv
    exact ⟨s.goDown l, more, supervisionDeadline_passes hv hpast, htells.reportsAdded⟩
  · have hdeaf := lostLink_deaf hv
    have htells := forsaken_tells s c hv
    have hdown : s.goDown c.link = (s.forsaken c).finish := goDown_ride s c
    obtain ⟨htable, hroster, hbays, hnext, hsurroundings⟩ := forsaken_board s c
    obtain ⟨htable', hroster', hbays', -, -⟩ := finish_kept (s.forsaken c) (forsaken_ne_run s c)
    have hdispatch := finish_dispatch (forsaken_ne_run s c)
    rw [hdown] at hdeaf
    refine ⟨(s.forsaken c).finish, (supervisionDeadline_passes hv hpast).trans (congrArg _ hdown),
      (finish_surroundings _).trans hsurroundings, forsaken_finish_slot_kept, forsaken_finish_slot_gone,
      fun hrun => hdispatch.trans (forsaken_dispatch_run s c hrun),
      fun hrun hmanual => hdispatch.trans (forsaken_dispatch_still s c hrun hmanual), (finish_nextDispatch _).trans hnext,
      forsaken_finish_faultTaken, fun hpermit => ?_, forsaken_finish_holding, forsaken_finish_still,
      fun hquiet => (htells.trans_nothing (forsaken_finish_quiet hquiet)).reportsAdded,
      fun hstill hrun => (htells.trans (forsaken_finish_settles hstill hrun)).reportsAdded,
      hdeaf.line, hdeaf.holdOff, htable'.trans htable, hroster'.trans hroster, hbays'.trans hbays⟩
    rw [(finish_record _).1, (finish_record _).2, forsaken_mc_still s c hpermit]
    exact ⟨rfl, rfl⟩
  · have hdeaf := lostLink_deaf hv
    obtain ⟨hsurroundings, hdispatch, hnext, hmc, htable, hroster⟩ := unlinked_keeps s
    have hdown := goDown_station s
    rw [hdown] at hdeaf
    refine ⟨s.unlinked, (supervisionDeadline_passes hv hpast).trans (congrArg _ hdown), hsurroundings, hdispatch, hnext, hmc,
      htable, hroster, fun b hb => ?_, fun e he y hy => ?_, fun hs => (unlinked_tells s hv hs).reportsAdded,
      finish_surroundings _, finish_dispatch_empty _ hdispatch, (finish_nextDispatch _).trans hnext, ?_, ?_, fun hmode => ?_,
      hdeaf.line, hdeaf.holdOff⟩
    · rw [unlinked_bay, if_neg]
      intro hmem
      obtain ⟨e, he, hbay⟩ := List.mem_map.mp hmem
      exact hb e he hbay
    · rw [unlinked_bay, if_pos (List.mem_map_of_mem he), hy]
      rfl
    · rw [(finish_record _).1, hmc]
    · rw [(finish_record _).2, hmc]
    · have hne : s.unlinked.mode ≠ .holding := by
        rw [State.mode, hmc]
        exact hmode
      rw [State.mode, finish_mc_of_ne hne, hmc, State.mode]

end Sys2Proof.Machine
end
